-- ==== Sys2Proof/Word.lean ====
section
/-! DEFINITION. The words of the GH9696: bytes, 32-bit register words, and reading and replacing a bit field of a word. -/
namespace Sys2Proof

/-- A byte of a frame, an image or a memory. -/
abbrev Byte := BitVec 8

/-- A 32-bit register word (R12: all registers are 32 bits wide). -/
abbrev Word := BitVec 32

/-- A 48-bit stride count or time stamp (R15, R37). -/
abbrev Stamp := BitVec 48

end Sys2Proof
end

