-- ==== Sys2Proof/Syntax.lean ====
section
/-! DEFINITION. The commands of the GH9696: one constructor for each row of the table of operations and events, with the row's operands.
Operands say what the outside world brings: which object, what a pin or a bus carried, what a write held. -/
namespace Sys2Proof

/-- Which of two sides or paths: ring A or ring B, the hop at input A or B. -/
inductive Ring where
  | a | b
  deriving DecidableEq, Repr
/-- 0 for A, 1 for B. -/
def Ring.toNat : Ring → Nat
  | .a => 0
  | .b => 1

/-- The requestors of the main fabric and the host, in the order of their codes 0 to 7 (R401). -/
inductive Requestor where
  | ac0 | ac1 | ac2 | ac3 | ne | se | ste | host
  deriving DecidableEq, Repr
/-- The source index of R401. -/
def Requestor.code : Requestor → Nat
  | .ac0 => 0
  | .ac1 => 1
  | .ac2 => 2
  | .ac3 => 3
  | .ne => 4
  | .se => 5
  | .ste => 6
  | .host => 7
/-- True of the four application cores. -/
def Requestor.isCore : Requestor → Bool
  | .ac0 | .ac1 | .ac2 | .ac3 => true
  | _ => false

/-- Team number (R7). -/
abbrev TeamNo := Fin 8
/-- Axis number (R8). -/
abbrev AxisNo := Fin 32
/-- Leg number (R6). -/
abbrev LegNo := Fin 96
/-- Sense channel number. -/
abbrev ChanNo := Fin 192
/-- Position interface number. -/
abbrev IfNo := Fin 16
/-- Cistern number. -/
abbrev CisNo := Fin 24
/-- Lockstep pair: 0 is AC0/AC1, 1 is AC2/AC3. -/
abbrev PairNo := Fin 2

/-- The header of an authenticated host request (R302 to R306): the port it came by (PORTB), whether it reached the device over a ring,
and its header fields and CMAC. -/
structure Req where
  port : Fin 2
  ring : Bool
  dev : BitVec 6
  auth : Bool
  tag : BitVec 16
  fresh : BitVec 48
  mac : BitVec 64
  deriving DecidableEq, Repr

/-- The monitored rails other than VSAFE and VKEEP, in the order of fault 0x060A's data (R223). -/
inductive Rail where
  | vcore | vsrd | vio33 | viop | vio18
  deriving DecidableEq, Repr
/-- The data of fault 0x060A. -/
def Rail.code : Rail → Nat
  | .vcore => 0
  | .vsrd => 1
  | .vio33 => 2
  | .viop => 3
  | .vio18 => 4

/-- What a voltage monitor reports (R407): its rail below or above its window for 2 µs, or within its limits again for 100 µs. -/
inductive RailEvent where
  | low | high | good
  deriving DecidableEq, Repr
/-- A report of a voltage monitor. -/
structure RailReport where
  rail : Rail
  ev : RailEvent
  deriving DecidableEq, Repr

/-- An ECC error met in a memory access: where, and whether it was correctable (R31). -/
structure EccEvent where
  offset : BitVec 24
  corrected : Bool
  deriving DecidableEq, Repr

/-- The bits of a filter window, oldest first, whether it holds a stepped period and whether it lies wholly after MCLK
started (R62, R65, R68). -/
structure Window where
  bits : List Bool
  stepped : Bool
  whole : Bool
  deriving DecidableEq, Repr

/-- How a selftest ended: the failing item (0 = none), its memory, and the time it took (R266, R267). -/
structure SelfTestResult where
  item : BitVec 3
  mem : BitVec 5
  dur : BitVec 16
  deriving DecidableEq, Repr
/-- What LOAD met outside the device (R343, R347): a valid SFDP signature on XSPI1, the modes that the SFDP table of XSPI0 declares
(bits 2 to 0 are 8S-8S-8S at 200, 100 and 50 MHz, bits 5 to 3 are 8D-8D-8D at the same), the copies (bank + 2 × port) whose read failed or timed out, and the time LOAD took in units of 10 µs. -/
structure LoadResult where
  p1 : Bool
  modes : BitVec 6
  readErr : List Nat
  dur : BitVec 16
  romErr : Option (BitVec 16)
  deriving DecidableEq, Repr
/-- How an NVM operation ended (R351): done, or failed with FCODE at unit `unit` of port `port` (64 KB blocks, or 4-byte words), which then
holds the bytes given. -/
inductive NvmEnd where
  | done
  | fail (fcode : BitVec 8) (unit : Nat) (port : Bool) (held : List Byte)
  deriving DecidableEq, Repr
/-- How a March slice went (R269, R270): a word with an ECC error met in the save step, a test read that differed, or a postponement. -/
inductive SliceResult where
  | pass
  | corrected (word : Fin 64)
  | uncorrectable (word : Fin 64)
  | fail
  | postponed
  deriving DecidableEq, Repr
/-- A sync frame (R51): its COUNT, source, STBY and CORR, its header FLAGS, whether its CRC is correct, and when its START arrived, in units of 78.125 ps
from this device's last mark. -/
structure SyncFrame where
  count : Stamp
  src : BitVec 6
  stby : Bool
  corr : Word
  flags : BitVec 5
  crcOk : Bool
  arrival : Int
  deriving DecidableEq, Repr
/-- An up frame of a spanned axis (R139, R141): payload, stride stamp, a good CRC, arrival after the deadline. -/
structure SpanUp where
  payload : List Byte
  stamp : BitVec 16
  crcOk : Bool
  late : Bool
  deriving DecidableEq, Repr
/-- A down frame of a spanned axis (R139, R141). -/
structure SpanDown where
  payload : List Byte
  stamp : BitVec 16
  crcOk : Bool
  late : Bool
  deriving DecidableEq, Repr
/-- The source of a group command: the rank whose member frame carried it and that frame's ARBITER flag, or the host (R240). -/
inductive CmdSource where
  | member (rank : Fin 3) (arbiter : Bool)
  | host
  deriving DecidableEq, Repr
/-- A command of a member frame or of the host group frame (Tables 9.1 and 9.2): CMDTERM, CMDRANK and where it came from. -/
structure GroupCmd where
  term : BitVec 16
  rank : Byte
  src : CmdSource
  deriving DecidableEq, Repr
/-- An abstract access-register command (R274): its register number and flags, and aarsize. -/
structure AbstractCmd where
  regno : BitVec 16
  transfer : Bool
  write : Bool
  postexec : Bool
  size : BitVec 3
  deriving DecidableEq, Repr
/-- How a CAN transmission ended (ISO 11898-1): acknowledged; arbitration lost; an acknowledgement error, with a dominant bit seen during
a passive error flag or not; a stuff error during arbitration that leaves TEC; another error. `more` is the number of further events that
each raise TEC by 8: bit errors in the error or overload flag and long dominant runs behind it. -/
inductive CanTxResult where
  | ok (more : Nat)
  | lostArbitration
  | ackError (dominant : Bool) (more : Nat)
  | arbStuff (more : Nat)
  | error (more : Nat)
  deriving DecidableEq, Repr
/-- A CAN frame: identifier, extended, FD, bit rate switch, error state, remote, DLC, data. -/
structure CanData where
  id : BitVec 29
  ide : Bool
  fdf : Bool
  brs : Bool
  esi : Bool
  rtr : Bool
  dlc : BitVec 4
  data : List Byte
  deriving DecidableEq, Repr
/-- A SENT frame as its falling edges give it, in units of 12.5 ns (R333): the calibration pulse, the nibble pulses, and whether a pause
pulse follows. -/
structure SentFrame where
  cal : Nat
  nibs : List Nat
  pause : Bool
  deriving DecidableEq, Repr
/-- An error met while a CAN channel receives (ISO 11898-1), up to the end of its error flag: whether it raises REC by 1 as it is detected, and the
number of events that each raise REC by 8. -/
structure CanRxError where
  detected : Bool
  eights : Nat
  deriving DecidableEq, Repr
/-- Why an Ethernet frame was discarded (R302): a bad FCS, VER, TYPE or LEN, with its TYPE byte, or its address and EtherType, one of
them another. -/
inductive RejectCause where
  | malformed (typ : Byte)
  | other (dst : BitVec 48) (etype : BitVec 16)
  deriving DecidableEq, Repr
/-- Why an UP hop is lost by its own input (R285): block lock lost on a lane, no valid block for 2 µs, four acknowledgement timeouts. -/
inductive LossCause where
  | blockLock | noBlock | timeouts
  deriving DecidableEq, Repr
/-- What POWERUP met (R385, Table 1.5): the retained words of bad parity, and an uncorrectable error of the OTP. -/
structure PowerupResult where
  parityBad : List (Fin 64)
  otpErr : Bool
  deriving DecidableEq, Repr
/-- A mode request as received (R306): its KIND, and the REQ of KIND 3. -/
structure ModeReq where
  kind : Byte
  req : Byte
  deriving DecidableEq, Repr
/-- The stride's idle window (R31, R268): how its slice went, and an ECC error that an access of the stride met, by memory identity. -/
structure IdleWork where
  slice : SliceResult
  ecc : Option (Fin 30 × EccEvent)
  deriving DecidableEq, Repr
/-- A result window with the bits in which the second copy of the result differs (R78). -/
structure DupWindow where
  win : Window
  dupFlip : BitVec 18
  deriving DecidableEq, Repr
/-- When a leg fault was asserted (R159, R160): its stride phase, and the age of the last turn-on at the pin. -/
structure FaultTime where
  ph : Nat
  since : Nat
  deriving DecidableEq, Repr
/-- The teams whose enable path fails (R204): the driven line reads back 0, or the withdrawn line still reads 1. -/
structure PathFail where
  low : Byte
  high : Byte
  deriving DecidableEq, Repr
/-- How a received ring frame ends: with TERM ABORT or not; and the stride phase at which it leaves, where it is passed on cut-through (R288,
R291). -/
structure RxEnd where
  abort : Bool
  ph : Nat
  deriving DecidableEq, Repr
/-- A start of a transmission on a hop (R291): its stride phase, and whether a word of the frame meets an uncorrectable error (R313). -/
structure LinkTx where
  ph : Nat
  ecc : Bool
  deriving DecidableEq, Repr
/-- A maintenance request as received (R306): its MOP and its operation data. -/
structure MaintReq where
  req : Req
  mop : Byte
  data : List Byte
  deriving DecidableEq, Repr
/-- The entries a LOG_READ asks for, and those of the reply that an uncorrectable error meets (R398, R399). -/
structure LogSpan where
  n : BitVec 16
  bad : List (Fin 64)
  deriving DecidableEq, Repr
/-- The words a register read asks for, and the offsets among them at which a log entry meets an uncorrectable error (R393, R398). -/
structure ReadSpan where
  n : BitVec 16
  bad : List (BitVec 24)
  deriving DecidableEq, Repr
/-- When the read of an identity record begins and ends, in microseconds after entry into IDENTIFY (R355). -/
structure ReadTime where
  startUs : Nat
  endUs : Nat
  deriving DecidableEq, Repr
/-- Which log a FLT_LOG_READ looks at, and whether the entry meets an uncorrectable error (R398). -/
structure LogLook where
  previous : Bool
  ecc : Bool
  deriving DecidableEq, Repr
/-- A transmit cistern of a host port, and whether a word of its frame meets an uncorrectable error (R313). -/
structure PortCis where
  k : Fin 5
  ecc : Bool
  deriving DecidableEq, Repr

/-- The commands. -/
inductive Instr where
  /-- POWERUP_COMPLETE (R34): When every supply monitor reports good, the PLL is locked and RESET_N is high, the device leaves POWERUP for SELFTEST. -/
  | powerupComplete (res : PowerupResult)
  /-- SELFTEST_COMPLETE (R266): The start-up March tests, comparator injection and ROM check finish, and the device passes to LOAD. -/
  | selftestComplete (r : SelfTestResult)
  /-- LOAD_COMPLETE (R348): The loader chooses, verifies and loads an image, or finds none, and the device passes to IDENTIFY or to ARMED. -/
  | loadComplete (r : LoadResult)
  /-- IDENTITY_READ (R355): A read of one identity record completes and the record is judged against its identity-table entry. -/
  | identityRead (k : Fin 64) (answer : Option (List Byte)) (t : ReadTime)
  /-- DSPI_TRANSACTION (R166): A gate-driver SPI transaction completes, and its read-back is compared, retried, or failed. -/
  | dspiTransaction (t : TeamNo) (readback : List Word)
  /-- IDENTIFY_COMPLETE (R69): At the end of IDENTIFY the device sets channel calibration and gains, and enters SYNC. -/
  | identifyComplete
  /-- SYNC_ALIGNED (R54): After 16 good sync frames, or as source, the device is aligned and passes from SYNC to ARMED. -/
  | syncAligned
  /-- SERVICE_REQUEST (R34): A host mode request of KIND 1 moves the device from ARMED to SERVICE when the SMC and pairs permit. -/
  | serviceRequest (r : Req)
  /-- AXES_MODE_REQUEST (R306): A host mode request of KIND 3 writes REQ to every axis in AXMASK. -/
  | axesModeRequest (r : Req) (m : ModeReq) (axmask : Word)
  /-- SLEEP_REQUEST (R386): A host mode request of KIND 2 asks for sleep, evaluated at the next mark. -/
  | sleepRequest (r : Req)
  /-- SLEEP_CMD (R386): An application core writes PWR_SLEEPCMD.SLEEP to request sleep at the next mark. -/
  | sleepCmd (who : Requestor)
  /-- WAKE_COMPARATOR (R384): A debounced edge on WKn in SLEEP wakes the device into POWERUP. -/
  | wakeComparator (n : Fin 6) (rising : Bool)
  /-- WAKE_TIMER (R384): The wake timer expires in SLEEP and wakes the device. -/
  | wakeTimer
  /-- SUPPLY_RETURN (R386): The removed rails return in SLEEP and the device starts from POWERUP. -/
  | supplyReturn
  /-- SUPPLY_SAG (R373): HOLDSNS below threshold for 4 µs sends the device to SAVE, applies sag policies, stops work and starts the record write. -/
  | supplySag
  /-- STATE_RECORD_WRITTEN (R379): A state record write and its readback complete, ending SAVE in PARKED or a restart in reset. -/
  | stateRecordWritten (mismatch : Option (Fin 4096 × Byte))
  /-- PERIODIC_RECORD (R379): Every further 10 s of stride time a periodic state record write begins. -/
  | periodicRecord
  /-- SAG_RECOVERY (R374): HOLDSNS above threshold plus hysteresis for 10 ms in PARKED restarts the device. -/
  | sagRecovery
  /-- RESET_N_ASSERT (R387): A filtered RESET_N assertion resets all but the wellhead and drives outputs low. -/
  | resetNAssert (lowNs : Nat)
  /-- RESET_N_RELEASE (R387): RESET_N release enters POWERUP and records the hold time. -/
  | resetNRelease (holdMs : Nat)
  /-- VSAFE_TRIP (R407): VSAFE below its monitor holds the island and main domain in reset and withdraws all enables. -/
  | vsafeTrip
  /-- VSAFE_GOOD (R407): VSAFE within limits for 100 µs after a trip re-enters POWERUP. -/
  | vsafeGood
  /-- VKEEP_POWER_ON (R369): VKEEP rising from below its threshold clears the wellhead. -/
  | vkeepPowerOn
  /-- SUPPLY_MONITOR (R220): A rail outside its window for 2 µs logs a class DV fault; VCORE also acts under R29. -/
  | supplyMonitor (rail : RailReport)
  /-- CLOCK_MONITOR_WINDOW (R27): Each 10 µs window the clock monitor classifies SCLK as in window, marginal or out of window. -/
  | clockMonitorWindow (dev : Int) (lost : Bool)
  /-- ISLAND_CLOCK_LOST (R220): Loss of the island clock withdraws the enables at the gate output cells. -/
  | islandClockLost
  /-- RTC_OSC_FAIL (R383): The 32.768 kHz crystal stopping for 1 ms clears XOSCOK and RTCVALID. -/
  | rtcOscFail
  /-- RTC_SET (R383): Writing PWR_RTCCMD.SET loads the RTC seconds at the next tick. -/
  | rtcSet (who : Requestor)
  /-- RTC_SUB_READ (R383): A read of PWR_RTC_SUB latches PWR_RTC_LO and HI. -/
  | rtcSubRead
  /-- STRIDE_MARK (R37): At each mark STR_COUNT increments and all mark-timed decisions, transitions and checks of the stride are made. -/
  | strideMark
  /-- SAMPLE_PHASE (R39): At S_t the team's snapshots are taken and the active set-points latched, checked and ramped. -/
  | samplePhase (t : TeamNo)
  /-- LOOP_ENGINE_RUN (R113): At S_t + D_t the loop engine runs its static schedule for all axes of the team. -/
  | loopEngineRun (t : TeamNo) (ecc : Option EccEvent)
  /-- COMMIT_PHASE (R42): At C_t the staged duties of the team move to the modulator shadow registers. -/
  | commitPhase (t : TeamNo)
  /-- UPDATE_PHASE (R43): At U_t the modulator takes the shadow duties. -/
  | updatePhase (t : TeamNo)
  /-- APPLICATION_COMMIT (R44): At phase A the pending set-points of committed tasks are copied to the active copies and overruns counted. -/
  | applicationCommit
  /-- IDLE_WINDOW (R45): At I the STE starts the stride's transparent March slice. -/
  | idleWindow (w : IdleWork)
  /-- ISLAND_SLICE (R268): After the SMC's stride work the island sequencer tests one slice of island SRAM. -/
  | islandSlice (res : SliceResult)
  /-- SLICE_SKIP_LONG (R271): SKIPRUN exceeding 20,480 logs a warning once. -/
  | sliceSkipLong
  /-- SLICE_POSTPONED (R270): Sixteen consecutive postponements of one cistern slice log a warning. -/
  | slicePostponed
  /-- TASK_COMMIT (R48): A write to STR_COMMIT commits a task for the next A; host writes are discarded and logged. -/
  | taskCommit (who : Requestor) (mask : Word) (recs : List (AxisNo × List Word))
  /-- STR_COUNT_LO_READ (R38): A read of STR_COUNT_LO latches the upper 16 bits into STR_COUNT_HI. -/
  | strCountLoRead
  /-- SYNC_FRAME (R54): A received sync frame aligns the device's mark by step or slew, or is forwarded with updated CORR. -/
  | syncFrame (ring : Ring) (f : SyncFrame)
  /-- SYNC_LOST (R56): Sixteen consecutive holdover strides log SYNC_LOST. -/
  | syncLost
  /-- SOURCE_TAKEOVER (R56): A standby in holdover for 8 strides starts sending sync frames. -/
  | sourceTakeover
  /-- D0_BECOMES_SOURCE (R56): D0 becomes the stride source after 64 strides without a sync frame or 20 ms without an UP hop. -/
  | d0BecomesSource
  /-- SYNC_RETRY (R56): A retraining attempt of a device that stays in SYNC is logged. -/
  | syncRetry (ring : Ring)
  /-- SENSE_RESULT (R66): A main-filter result is corrected, checked and delivered to the loop engine and duplicated registers. -/
  | senseResult (n : ChanNo) (w : Window) (dupFlip : BitVec 18)
  /-- RESOLVER_RESULT (R67): A free-running resolver channel delivers a result every M modulator periods. -/
  | resolverResult (n : ChanNo) (w : DupWindow) (exPh : Nat)
  /-- PLAUSIBILITY_CHECK (R75): At S_t + D_t + 16 the Kirchhoff and pair checks are evaluated. -/
  | plausibilityCheck (t : TeamNo)
  /-- FAST_TRIP (R73): The fast output beyond a threshold for 32 cycles forces the target legs Hi-Z and latches them faulted. -/
  | fastTrip (n : ChanNo) (bits : List Bool) (ph : Nat)
  /-- STREAM_STUCK (R81): An SD input unchanged for 256 modulator periods sets STUCK. -/
  | streamStuck (n : ChanNo) (level : Bool)
  /-- OFFSET_TRIM_COMPLETE (R70): After the waiting and averaging strides the new TRIM of every channel takes effect and precharge may begin. -/
  | offsetTrimComplete (a : AxisNo)
  /-- ENCODER_EDGE (R85): A filtered A or B edge changes Nr by quadrature, updating Np and compare units. -/
  | encoderEdge (n : IfNo) (aLvl bLvl : Bool) (ph : Nat)
  /-- INDEX_EDGE (R86): A qualified Z edge references the count or is compared against ZOFS. -/
  | indexEdge (n : IfNo) (ph : Nat)
  /-- HALL_CHANGE (R87): A change of the Hall code steps Nr or counts a sequence error. -/
  | hallChange (n : IfNo) (code : BitVec 3) (ph : Nat)
  /-- POS_HALL_ILLEGAL (R103): An illegal Hall code held for HALLQ qualifies a sensor fault. -/
  | posHallIllegal (n : IfNo)
  /-- SSI_REQUEST (R88): Every RPER µs the interface clocks out a synchronous-serial word request. -/
  | ssiRequest (n : IfNo) (lineLow : Bool)
  /-- SSI_WORD (R89): A complete word is checked for CRC and error bit and, if good, sets Nr. -/
  | ssiWord (n : IfNo) (word : BitVec 64) (age : Nat) (ph : Nat)
  /-- POS_TIMEOUT (R88): POSn_A not high within TOUT times out the word and may qualify a fault. -/
  | posTimeout (n : IfNo)
  /-- RESOLVER_HALF_PERIOD (R91): Each half excitation period the correlated integrals give an angle and amplitude. -/
  | resolverHalfPeriod (n : IfNo) (age : Nat) (ph : Nat)
  /-- OBSERVER_UPDATE (R94): Every 1 µs each tracking observer updates position, speed and acceleration. -/
  | observerUpdate (n : IfNo)
  /-- POS_ANG_READ (R101): A read of POS_IFn_ANG latches TURN, SPD, ACC, STAT and ERR of the same update. -/
  | posAngRead (n : IfNo)
  /-- POS_NP_READ (R101): A read of POS_IFn_NP latches the turn of Np into POS_IFn_NPT. -/
  | posNpRead (n : IfNo)
  /-- COMPARE_WRITE (R108): A write to POS_CMPc_POS commits P, arms the unit and may set PASSED. -/
  | compareWrite (c : Fin 32) (v : Word)
  /-- POS_RECOVERY (R105): Writing 1 to POS_IFn_FLT.FAILED recovers the interface when its axes permit. -/
  | posRecovery (n : IfNo)
  /-- SPAN_UP_FRAME (R139): The lead receives the partner's up frame with its measurements and faults. -/
  | spanUpFrame (a : AxisNo) (f : SpanUp)
  /-- SPAN_DOWN_FRAME (R139): The partner receives the down frame and places its duties into the shadow registers. -/
  | spanDownFrame (a : AxisNo) (f : SpanDown)
  /-- SPAN_FRAME_LOST (R141): A span frame missing at its deadline is counted lost and held data used. -/
  | spanFrameLost (a : AxisNo)
  /-- ACCESS_FAULT (R32): A fabric access to an unlisted or forbidden address returns an access fault and is logged. -/
  | accessFault (who : Requestor) (addr : Word) (write : Bool)
  /-- EDGE_PROCESSING (R153): For each carrier period of a leg the modulator processes ideal edges through compensation, refresh, minimum pulse, dead time and interlock. -/
  | edgeProcessing (n : LegNo) (j : Fin 4) (both : Option (Nat × Nat))
  /-- ILKCNT_WINDOW_CLEAR (R156): ILKCNT is cleared at every multiple of ILKWIN strides. -/
  | ilkcntWindowClear (t : TeamNo)
  /-- LEG_FAULT (R159): A filtered LFLT_N assertion outside blanking latches the leg faulted with its side and sets it Hi-Z. -/
  | legFault (n : LegNo) (t : FaultTime)
  /-- BLANK_WINDOW_END (R160): At the end of a blanking window a pending assertion latches a fault or counts an early fault. -/
  | blankWindowEnd (n : LegNo) (stillAsserted : Bool)
  /-- GSUV_LOCKOUT (R164): A filtered GSUV_N assertion latches GSUV, sets the team Hi-Z and sends its active axes to FREEWHEEL. -/
  | gsuvLockout (t : TeamNo)
  /-- GSUV_RELEASED (R165): GSUV_N released for 1 ms sets GSREL. -/
  | gsuvReleased (t : TeamNo)
  /-- GSUV_CLEAR (R165): Writing 1 to MOD_TEAMt_STAT.GSUV clears it only with GSREL set. -/
  | gsuvClear (t : TeamNo)
  /-- PRECHARGE_LEG_END (R158): A bootstrap leg's TPRE expires and the leg returns to Hi-Z. -/
  | prechargeLegEnd (n : LegNo)
  /-- LEG_FAULT_CLEAR (R163): Writing 1 to a MOD_LEGn_FLT latch clears it under the state and release conditions. -/
  | legFaultClear (n : LegNo) (v : Word) (released : Bool)
  /-- AXIS_MODE_REQUEST (R179): A write of LE_AXa_MODE.REQ makes one mode request acted on at the next mark. -/
  | axisModeRequest (a : AxisNo) (req : Byte)
  /-- CONTROLLED_STOP_COMPLETE (R182): Zero ramp, low speed and low current for 8 strides complete the controlled stop. -/
  | controlledStopComplete (a : AxisNo)
  /-- FIELD_STEP_COMPLETE (R184): Field current at least 0.9 IFNOM for 16 strides ends the field step. -/
  | fieldStepComplete (a : AxisNo)
  /-- CATCH_WINDOW_END (R186): At the end of the catch window the back-EMF fit decides the next start step. -/
  | catchWindowEnd (a : AxisNo)
  /-- ALIGN_COMPLETE (R185): The align step ends after TALIGN at a stride with REST set and the offset is taken. -/
  | alignComplete (a : AxisNo)
  /-- BRAKE_TIMEOUT (R187): A brake not ended within TBRKMAX sends the axis to its safe state. -/
  | brakeTimeout (a : AxisNo)
  /-- BLEND_COMPLETE (R188): After 16 blend strides the closed loop runs on the estimator. -/
  | blendComplete (a : AxisNo)
  /-- START_TIMEOUT (R189): A start not in closed loop within TSTMAX ends with a start fault. -/
  | startTimeout (a : AxisNo)
  /-- ESTIMATOR_LOST (R191): ESTCONV clear for 32 strides or low speed for 16 strides sends the axis to its safe state. -/
  | estimatorLost (a : AxisNo)
  /-- ASC_RELEASED (R177): Valid speed below ASCREL for 64 strides releases the short circuit to FREEWHEEL. -/
  | ascReleased (a : AxisNo)
  /-- DISCHARGE_START (R193): Writing LE_DCLg_DCMD.START triggers a host discharge if every axis of the group permits. -/
  | dischargeStart (g : Fin 4)
  /-- DISCHARGE_ABORT (R193): Writing LE_DCLg_DCMD.ABORT ends a host-triggered discharge at the next mark. -/
  | dischargeAbort (g : Fin 4)
  /-- DISCHARGE_COMPLETE (R194): Link voltage below VDCTGT for 16 strides completes the discharge. -/
  | dischargeComplete (g : Fin 4)
  /-- DISCH_TIMEOUT (R194): A discharge not complete within TDCHMAX stops and logs a timeout. -/
  | dischTimeout (g : Fin 4)
  /-- SMC_START_CHECKS (R202): The SMC completes its ROM, CRC, monitor and enable-path checks and sets SMCOK. -/
  | smcStartChecks (romOk crcOk monOk : Bool) (path : PathFail)
  /-- ENABLE_READBACK (R204): A readback disagreeing with the driven enable for 1 µs latches a team reaction. -/
  | enableReadback (t : TeamNo) (rb : Bool)
  /-- VARTAB_STALE (R205): A variant entry unwritten for 64 strides makes the Halter use the default variant. -/
  | vartabStale (a : AxisNo)
  /-- SMC_HEARTBEAT (R206): Two marks without a correct heartbeat start the device safe state. -/
  | smcHeartbeat
  /-- TORQUE_DISCREPANCY (R212): The discrepancy count reaching N requests the axis safe state and logs torque or angle faults. -/
  | torqueDiscrepancy (a : AxisNo)
  /-- FREEWHEEL_ESCALATION (R208): A leg still commanded on at the second mark after a safe-state request withdraws the team enable. -/
  | freewheelEscalation (n : LegNo)
  /-- AXIS_FAULT_CLEAR (R209): Writing 1 to SAF_AXa_FLT.AXF requests clearing of the axis fault at the next mark. -/
  | axisFaultClear (a : AxisNo)
  /-- TEAM_LATCH_CLEAR (R209): Writing 1 to SAF_TEAMFLT.TMLAT requests clearing of a team latch, evaluated at the next mark. -/
  | teamLatchClear (mask : Word)
  /-- SAFE_INPUT_CHANGE (R214): A filtered change of a safe-input channel updates the agreed state or starts the discrepancy timer. -/
  | safeInputChange (n : Fin 16) (aLvl bLvl : Bool)
  /-- SI_DISCREPANCY (R214): Disagreement beyond TDISC latches DFLT and requests the function. -/
  | siDiscrepancy (n : Fin 16)
  /-- SAFE_BRAKE_SLOT (R216): In its 2.5 µs slot a safe brake output takes the conditions of the latest mark. -/
  | safeBrakeSlot (n : Fin 8)
  /-- SB_READBACK (R217): A readback differing from its command for 1 ms sets RBFLT and de-energises the output. -/
  | sbReadback (n : Fin 8) (fbh fbl : Bool)
  /-- SB_TEST_PULSE (R218): At each TPER multiple the Halter drives one switch off for TPULSE. -/
  | sbTestPulse (n : Fin 8)
  /-- SB_TEST_PULSE_END (R218): At the end of an off-pulse the readback is judged and a failure sets TESTFLT. -/
  | sbTestPulseEnd (n : Fin 8) (fb : Bool)
  /-- SB_FAULT_CLEAR (R218): Writing 1 to TESTFLT or RBFLT clears it while the output is de-energised with both readbacks 0. -/
  | sbFaultClear (n : Fin 8) (v : Word) (fbh fbl : Bool)
  /-- GROUP_GO (R229): Writing GRP_Gg_CMD.GO commits the member's shares and feedback for the next A. -/
  | groupGo (g : Fin 4) (who : Requestor) (arbok : Bool)
  /-- GROUP_RELEASE (R238): Writing GRP_Gg_CMD.RELEASE makes the holder stop renewing. -/
  | groupRelease (g : Fin 4) (who : Requestor)
  /-- SAFE_FRAME_COPY (R233): A received safe-frame copy is validated and paired with the other path's copy for acceptance. -/
  | safeFrameCopy (c : Fin 32) (path : Ring) (bytes : List Byte)
  /-- SAFE_FRAME_SINGLE (R233): A copy without partner by the W-th mark is accepted singly. -/
  | safeFrameSingle (c : Fin 32)
  /-- SF_WATCHDOG (R234): WDT strides without an accepted frame set WDEXP and apply CREACT. -/
  | sfWatchdog (c : Fin 32)
  /-- CFAIL_CLEAR (R233): Writing 1 to GRP_CONNc_STAT.CFAIL restores reception with a new reference. -/
  | cfailClear (c : Fin 32)
  /-- REIN_REVOKED (R240): An accepted REVOKE command discards renewals of the revoked term. -/
  | reinRevoked (g : Fin 4) (c : GroupCmd)
  /-- REIN_GRANTED (R240): An accepted GRANT command of a newer term is adopted at the next mark. -/
  | reinGranted (g : Fin 4) (c : GroupCmd)
  /-- MEMBER_ADMITTED (R240): An accepted ADMIT command sets ADMITTED from the next mark. -/
  | memberAdmitted (g : Fin 4) (c : GroupCmd)
  /-- HOST_GROUP_FRAME (R230): A host group frame carries a command in a duplex group or an ENDORSE in a triplex group. -/
  | hostGroupFrame (g : Fin 4) (bytes : List Byte)
  /-- LEASE_EXPIRED (R236): AGE exceeding L expires the lease. -/
  | leaseExpired (g : Fin 4)
  /-- NO_REIN (R237): AGE reaching L + 3 starts the share ramp to zero. -/
  | noRein (g : Fin 4)
  /-- REIN_TAKEN (R242): A duplex standby with a silent host takes the rein at AGE = L + 3. -/
  | reinTaken (g : Fin 4)
  /-- QUORUM_LOST (R238): QAGE reaching L clears QUORUM and stops a holder. -/
  | quorumLost (g : Fin 4)
  /-- LISTEN_COMPLETE (R243): A listen count reaching 64 moves the member to READY. -/
  | listenComplete (g : Fin 4)
  /-- LOCKSTEP_MISMATCH (R258): A comparator difference or delay-register parity error holds the pair in reset and takes the device safe state. -/
  | lockstepMismatch (p : PairNo) (groups : Byte) (railA railB parity : Bool)
  /-- LOCKSTEP_ATTRIBUTION (R259): The STE injects test differences and attributes the mismatch to the core or the comparator. -/
  | lockstepAttribution (p : PairNo) (fails : BitVec 2)
  /-- MSIGD_WRITE (R253): A write to msigd passes a register value through comparison group G5. -/
  | msigdWrite (p : PairNo) (master checker : Word)
  /-- MSIGEND_WRITE (R260): A write to msigend ends a register-signature flush. -/
  | msigendWrite (p : PairNo)
  /-- SIG_WINDOW_END (R260): At the end of a checked 64-stride window without msigend the device logs a missed or lost signature. -/
  | sigWindowEnd (p : PairNo)
  /-- PAIR_SPLIT (R262): Writing BST_PAIRp_CMD.SPLIT requests a split, accepted or refused. -/
  | pairSplit (p : PairNo)
  /-- PAIR_JOIN (R264): Writing BST_PAIRp_CMD.JOIN requests a rejoin at the next mark. -/
  | pairJoin (p : PairNo)
  /-- REJOIN_TRANSFER_COMPLETE (R264): Both cores restart in step after the state transfer, and the rejoin takes effect at the next mark. -/
  | rejoinTransferComplete (p : PairNo) (cycles : Nat)
  /-- TAP_RESET (R273): TRST_N low holds the TAP in Test-Logic-Reset and selects IDCODE. -/
  | tapReset
  /-- IDCODE (R273): The IDCODE instruction selects the identification register. -/
  | idcode
  /-- SAMPLE_PRELOAD (R273): The SAMPLE/PRELOAD instruction captures and loads the boundary register. -/
  | samplePreload (v : List Bool)
  /-- EXTEST (R278): EXTEST drives the pins from the boundary register after zeroisation. -/
  | extest
  /-- CLAMP (R278): CLAMP holds the pins from the boundary register after zeroisation. -/
  | clamp
  /-- HIGHZ (R278): HIGHZ floats the pins after zeroisation. -/
  | highz
  /-- DTMCS (R273): The DTMCS instruction selects the RISC-V debug transport control register. -/
  | dtmcs
  /-- DMI (R274): The DMI instruction accesses the debug module when unlocked. -/
  | dmi (addr : BitVec 7) (write : Bool) (data : Word)
  /-- SCANEN (R278): SCANEN at level 2 places the device in internal scan after zeroisation. -/
  | scanen
  /-- BYPASS (R273): BYPASS, and every unlisted opcode, selects the bypass register. -/
  | bypass (opcode : BitVec 5)
  /-- AUTH_CAPTURE (R275): A capture in AUTH returns a fresh nonce, the part code and the serial. -/
  | authCapture
  /-- AUTH_UNLOCK (R275): A shifted-in key and signature are checked by the SE and unlock debug or count a failure. -/
  | authUnlock (level : BitVec 2) (key : List Byte) (sig : List Byte)
  /-- DEBUG_HALT (R274): A debug halt request stops the hart through the shared synchroniser. -/
  | debugHalt (h : Fin 4)
  /-- DEBUG_RESUME (R274): A debug resume request restarts a halted hart. -/
  | debugResume (h : Fin 4)
  /-- SINGLE_STEP (R274): The debug module executes one instruction of a halted hart. -/
  | singleStep (h : Fin 4)
  /-- ABSTRACT_COMMAND (R274): An abstract register access or program-buffer execution on a halted hart. -/
  | abstractCommand (h : Fin 4) (cmd : AbstractCmd)
  /-- HOP_UP (R285): Training of a hop completes and the hop goes UP. -/
  | hopUp (h : Ring)
  /-- LINK_LOST (R285): Loss of block lock, of valid blocks or acknowledgements on an UP hop returns it to DOWN. -/
  | linkLost (h : Ring) (cause : LossCause)
  /-- HOP_RETRAIN (R285): A hop refused for excess delay retrains after 100 ms. -/
  | hopRetrain (h : Ring)
  /-- IDLE (R293): An IDLE block carries the neighbour's hop credit. -/
  | idle (h : Ring) (credit : BitVec 16)
  /-- ALIGN (R284): An ALIGN block deskews the lanes and is removed. -/
  | align (h : Ring)
  /-- ACK (R292): An ACK block releases the acknowledged frames from their cisterns. -/
  | ack (h : Ring) (seq : BitVec 16)
  /-- NAK (R292): A NAK block rewinds the cistern to the expected frame and resends with RETX. -/
  | nak (h : Ring) (seq : BitVec 16)
  /-- RESYNC (R315): A RESYNC block makes the receiver adopt the next link sequence. -/
  | resync (h : Ring) (seq : BitVec 16)
  /-- LINK_FAULT (R285): A received LINK_FAULT block marks the hop lost. -/
  | linkFault (h : Ring) (cause : BitVec 4)
  /-- IDENT (R284): A TRAIN IDENT block exchanges device number and string identity. -/
  | ident (h : Ring) (data : BitVec 48)
  /-- DELAY_REQ (R52): A TRAIN DELAY_REQ block asks the neighbour for one timed exchange. -/
  | delayReq (h : Ring) (num : Byte)
  /-- DELAY_RESP (R52): A TRAIN DELAY_RESP block returns the turnaround; after 256 the hop delay is measured. -/
  | delayResp (h : Ring) (num : Byte) (roundTrip : Nat) (turnaround : BitVec 24)
  /-- ENUM (R286): A TRAIN ENUM block gives the device its position and is passed on incremented. -/
  | enum (h : Ring) (count : BitVec 6) (ring : Ring)
  /-- EQUALISE (R284): A TRAIN EQUALISE block requests a transmit preset and reports receiver adaptation. -/
  | equalise (h : Ring) (preset : Byte) (adapted : Bool)
  /-- UNWRAP_PROPOSE (R298): A TRAIN UNWRAP_PROPOSE block proposes the unwrap stride U. -/
  | unwrapPropose (h : Ring) (u : BitVec 48)
  /-- UNWRAP_CONFIRM (R298): A TRAIN UNWRAP_CONFIRM block agrees the unwrap stride. -/
  | unwrapConfirm (h : Ring) (u : BitVec 48)
  /-- SYNC_COPY0 (R298): A TRAIN SYNC_COPY0 block carries the COUNT of a forwarded sync frame. -/
  | syncCopy0 (h : Ring) (count : BitVec 48)
  /-- SYNC_COPY1 (R298): A TRAIN SYNC_COPY1 block completes the sync copy and the device aligns to it. -/
  | syncCopy1 (h : Ring) (f : SyncFrame)
  /-- RING_UNWRAP (R298): At the mark of stride U both devices stop looping and drain their wrap cisterns. -/
  | ringUnwrap (h : Ring)
  /-- RING_FRAME (R288): A received ring frame is checked, taken, forwarded or discarded. -/
  | ringFrame (ring : Ring) (bytes : List Byte) (e : RxEnd)
  /-- RESERVED_SLOT (R291): At a slot's phase the transmitter sends the reserved frame within its window. -/
  | reservedSlot (h : Ring) (slot : Fin 64) (t : LinkTx)
  /-- LINK_TRANSMIT (R293): A ready class 3 or 4 frame is started once credit and slot spacing allow. -/
  | linkTransmit (h : Ring) (t : LinkTx)
  /-- ACK_TIMEOUT (R292): No ACK for the oldest frame within 4 µs rewinds as for a NAK. -/
  | ackTimeout (h : Ring)
  /-- GRANT_FRAME (R295): A device takes its egress grant from the received grant frame. -/
  | grantFrame (ring : Ring) (payload : List Byte)
  /-- CREDIT_STALL (R294): Sixty-four strides with a zero pool log a credit stall. -/
  | creditStall
  /-- DEMAND_FRAME (R303): A host TYPE 1 frame carries a safe frame, inserted by D0 on its ring or taken. -/
  | demandFrame (port : Fin 2) (dev : BitVec 6) (bytes : List Byte)
  /-- HOST_REGISTER_READ (R393): A host TYPE 3 frame reads N consecutive words and replies. -/
  | hostRegisterRead (r : Req) (ofs : BitVec 24) (x : ReadSpan)
  /-- HOST_REGISTER_WRITE (R394): A host TYPE 4 frame applies a write list between two marks and replies. -/
  | hostRegisterWrite (r : Req) (list : List (BitVec 24 × Word))
  /-- NVM_ERASE (R351): Maintenance MOP 1 erases 64 KB blocks of the bank not in use. -/
  | nvmErase (r : Req) (bank : Byte) (ofs len : Word)
  /-- NVM_PROGRAM (R351): Maintenance MOP 2 programs and reads back data in the bank not in use. -/
  | nvmProgram (r : Req) (bank : Byte) (ofs : Word) (plen : BitVec 16) (data : List Byte)
  /-- NVM_HEADER_WRITE (R351): Maintenance MOP 3 programs the header and verifies the bank. -/
  | nvmHeaderWrite (r : Req) (bank : Byte) (data : List Byte)
  /-- NVM_READ (R351): Maintenance MOP 4 returns bytes read from a bank. -/
  | nvmRead (r : Req) (bank port : Byte) (ofs : Word) (n : BitVec 16)
  /-- RESTART (R353): Maintenance MOP 5 requests a restart at the next mark when conditions permit. -/
  | restart (m : MaintReq)
  /-- LOG_READ (R399): Maintenance MOP 6 returns entries of the present or previous fault log. -/
  | logRead (r : Req) (log : Byte) (first : Word) (n : LogSpan)
  /-- NVM_OP_COMPLETE (R351): A running NVM operation completes or fails and CFG_NVM reports the outcome. -/
  | nvmOpComplete (res : NvmEnd)
  /-- TELEMETRY_SAMPLE (R307): At TELPH of a due stride the NE reads a stream's signals and opens a sample frame. -/
  | telemetrySample (k : Fin 32)
  /-- PAUSE_FRAME (R300): A received PAUSE frame pauses transmission when PAUSEEN = 1. -/
  | pauseFrame (p : Fin 2) (quanta : BitVec 16)
  /-- ETH_LINK (R300): The 1 ms PHY poll finds a link change and a dropped port logs a fault. -/
  | ethLink (p : Fin 2) (up : Bool) (rate : BitVec 2)
  /-- PACKET_OPEN (R311): A producer opens a packet in a cistern by reserving its first word. -/
  | packetOpen (n : CisNo)
  /-- PACKET_CLOSE (R311): A producer closes a packet and advances the committed pointer. -/
  | packetClose (n : CisNo) (bytes : List Byte) (skidFull : Bool)
  /-- CIS_OPEN_TIMEOUT (R311): A packet open for one stride is abandoned. -/
  | cisOpenTimeout (n : CisNo)
  /-- CIS_PTR_MISMATCH (R315): A mismatch between pointer copies resets the cistern and sends RESYNC. -/
  | cisPtrMismatch (n : CisNo) (mask : Byte)
  /-- CAN_SLOT_BEGIN (R326): At a slot's start the committed slot mailbox frame is queued or the slot counts empty. -/
  | canSlotBegin (c : Fin 8) (sl : Fin 32) (busy : Bool)
  /-- CAN_SLOT_MISSED (R326): A slot frame not transmitted by the end of its slot expires. -/
  | canSlotMissed (c : Fin 8)
  /-- CAN_COMMIT (R328): Writing CTRL.COMMIT copies DLC and data into the transmit shadow and sets PEND for an event mailbox. -/
  | canCommit (who : Requestor) (c : Fin 8) (m : Fin 32) (dlc : BitVec 4) (busy : Bool)
  /-- CAN_CANCEL (R327): Writing CTRL.CANCEL clears PEND of an event frame. -/
  | canCancel (who : Requestor) (c : Fin 8) (m : Fin 32)
  /-- CAN_TRANSMISSION_END (R327): A transmission ends acknowledged or in error and the next frame is chosen. -/
  | canTransmissionEnd (c : Fin 8) (res : CanTxResult) (tdcv : BitVec 7)
  /-- CAN_BUS_OFF_RECOVERY (R332): The 128th recessive sequence ends bus-off and makes the channel error active. -/
  | canBusOffRecovery (c : Fin 8) (seqs : Fin 129)
  /-- CAN_FRAME_RECEIVED (R329): A received frame is filtered into the first matching receive mailbox. -/
  | canFrameReceived (c : Fin 8) (f : CanData)
  /-- RXNEW_CLEAR (R329): Writing 1 to RXNEW clears it and moves a pending frame to the visible copy. -/
  | rxnewClear (c : Fin 8) (m : Fin 32)
  /-- SENT_FRAME (R334): A received SENT frame is checked and written with its stamp, and serial messages assembled. -/
  | sentFrame (r : Fin 12) (f : SentFrame)
  /-- SENT_TIMEOUT (R335): No valid frame for TOUT ms sets TIMEOUT and FAILED. -/
  | sentTimeout (r : Fin 12)
  /-- SENT_FAST_READ (R334): A read of SENT_RXr_FAST latches SENT_RXr_STAMP. -/
  | sentFastRead (r : Fin 12)
  /-- LIN_ENTRY_START (R337): A schedule entry starts with break, sync and identifier, and a publish entry sends its data. -/
  | linEntryStart (l : Fin 4)
  /-- LIN_RESPONSE (R338): A subscribe response completes or fails with a framing, checksum or bit error. -/
  | linResponse (l : Fin 4) (bytes : List Byte) (framing bitErr : Bool)
  /-- LIN_NO_RESPONSE (R338): No start bit within the limit records NORESP, and NRLIM of them latch a fault. -/
  | linNoResponse (l : Fin 4)
  /-- LIN_DATA1_WRITE (R337): A write to DATA1 makes the held DATA0 and DATA1 take effect together. -/
  | linData1Write (who : Requestor) (l : Fin 4) (e : Fin 32) (v : Word)
  /-- FLT_LOG_READ (R402): A read of FLT_LOGs_W0 or FLT_PLOGs_W0 latches W1 to W3 of the slot. -/
  | fltLogRead (sl : Fin 1024) (l : LogLook)
  /-- REGISTER_WRITE (R13): A write to a register without its own row writes accepted fields and discards the rest. -/
  | registerWrite (who : Requestor) (off : BitVec 24) (v : Word)
  /-- XOSC_RESTART (R383): The 32.768 kHz oscillator runs again after a stop and XOSCOK is set again while RTCVALID stays clear. -/
  | xoscRestart
  /-- CAN_RECEIVE_ERROR (R330): An error detected while the channel receives raises REC and may make the channel error passive. -/
  | canReceiveError (c : Fin 8) (e : CanRxError)
  /-- PAUSE_EXPIRED (R300): The pause time of a received PAUSE frame runs out and the port's transmission resumes, clearing PAUSED. -/
  | pauseExpired (p : Fin 2)
  /-- HOST_PORT_TRANSMIT (R309): An Ethernet MAC sends a frame from one of its cisterns and releases its space when sent. -/
  | hostPortTransmit (p : Fin 2) (k : PortCis)
  /-- HOST_FRAME_REJECTED (R302): An Ethernet frame with a bad FCS, unknown VER or TYPE, wrong LEN or another EtherType is discarded and counted. -/
  | hostFrameRejected (p : Fin 2) (cause : RejectCause)
  /-- VKEEP_LOSS (R381): Every supply, VKEEP included, is lost without a sag being seen and the device stops without a record. -/
  | vkeepLoss
  /-- RAILS_REMOVED_IN_SLEEP (R386): The system removes the rails other than VKEEP while the device is in SLEEP and the outputs become undriven. -/
  | railsRemovedInSleep
  deriving DecidableEq, Repr

end Sys2Proof
end

