-- ==== Sys2Proof/Config.lean ====
section
/-! DEFINITION. What the spec leaves open, as constants without a body: free values, secrets held in the device, and layouts
that the spec names and does not give. No proof can see a value of one of them. -/
namespace Sys2Proof.Config

/-- A fresh free value of any width: the step applies it to a counter of State (assumption 7). -/
opaque freeBits : (w : Nat) → Nat → BitVec w

/-- The sine the table unit of R112 returns for a binary32 radian argument, before the bound of R112 is imposed (assumption 8). -/
opaque sinRaw : BitVec 32 → BitVec 32

/-- The cosine the table unit of R112 returns, before the bound of R112 is imposed (assumption 8). -/
opaque cosRaw : BitVec 32 → BitVec 32

/-- The four-quadrant arctangent of R175 and R186 in binary32 as the unit gives it, before the bound that the model imposes (assumption 9). -/
opaque atan2 : BitVec 32 → BitVec 32 → BitVec 32

/-- Sine and cosine of the SMC's own table for an angle in units of 2^-32 rev, in binary32; the spec gives no accuracy for it (R210;
assumption 32). -/
opaque smcSin : BitVec 32 → BitVec 32
opaque smcCos : BitVec 32 → BitVec 32

/-- The overmodulation gain of R152 for |u|: the device's table is not given (assumption 27). -/
opaque ovmGain : BitVec 32 → BitVec 32

/-- Scheduling variable 3 of an axis whose TEMPCH names a channel of another team, which its engine does not read, in a stride (R18,
R134; assumption 115). -/
opaque foreignTemp : Nat → Nat → BitVec 32

/-- The host key held in OTP (R304; assumption 10). -/
opaque hostKey : BitVec 128

/-- The public-key hash held in OTP (R347; assumption 10). -/
opaque otpKeyHash : BitVec 256

/-- The debug-key hash held in OTP (R275; assumption 10). -/
opaque otpDebugKeyHash : BitVec 256

/-- The version and vendor fields of the JTAG identification register, which the spec does not give (R273; assumption 36). -/
opaque jtagVersion : BitVec 4
opaque jtagVendor : BitVec 11

/-- The device serial bytes held in OTP (R395; assumption 13). -/
opaque serial : BitVec 128

/-- The boot ROM version (R395; assumption 13). -/
opaque romVerBoot : BitVec 16

/-- The SMC ROM version (R395; assumption 13). -/
opaque romVerSmc : BitVec 16

/-- What a device knows of the other half of a spanned axis, by the neighbour's device and axis number (R139, R140): its delay D_p, S_t,
CARMUL and U_t, its TYPE, and the device and axis it names. The image's form for it is not given (assumption 41). -/
structure SpanPeer where
  dly : Nat
  sphase : Nat
  carmul : Nat
  uphase : Nat
  typ : Nat
  dev : Nat
  axis : Nat
  deriving DecidableEq, Repr, Inhabited
opaque spanPeer : Nat → Nat → SpanPeer

/-- The word at a byte offset of the torque-monitor block of an axis in a safety section (R221; assumption 11). -/
opaque tmBlock : List (BitVec 8) → Nat → Nat → BitVec 32

/-- The sag policy of an axis in a safety section (R372; assumption 11). -/
opaque sagPol : List (BitVec 8) → Nat → BitVec 2

/-- An entry of a slot table (R291): PHASE and WIN in SCLK cycles, LEN in frame bytes, CLASS, and the source, an own cistern or, with none,
the cut-through path from the input. -/
structure Slot where
  phase : Nat
  win : Nat
  len : Nat
  cls : Nat
  src : Option Nat
  deriving DecidableEq, Repr
/-- The entries of a slot-table section, whose layout is not given (R291; assumption 11). -/
opaque slotTable : List (BitVec 8) → List Slot

/-- A gate-driver section is well formed (R166, R168; assumption 11). -/
opaque gdrvOk : List (BitVec 8) → Bool
/-- The number of its transactions. -/
opaque gdrvCount : List (BitVec 8) → Nat
/-- The read-back that a transaction expects, with its mask, word by chain position; none where it reads nothing back. -/
opaque gdrvRead : List (BitVec 8) → Nat → Option (List (BitVec 32) × List (BitVec 32))
/-- The team leg of a chain position. -/
opaque gdrvLeg : List (BitVec 8) → Nat → Nat

/-- The address of signal i of a telemetry stream in the image with a sequence (R307; assumption 11). -/
opaque telSignal : BitVec 32 → Nat → Nat → BitVec 32

/-- The byte at an offset of the SMC mailbox after a number of writes by the SMC (R22; assumption 79). -/
opaque mailbox : Nat → Nat → BitVec 8

/-- The locally administered MAC address that the SE derives from the serial (R301; assumption 13). -/
opaque defaultMac : BitVec 48

end Sys2Proof.Config
end

