-- ==== Sys2Proof/Machine/F32.lean ====
section
/-! DEFINITION. Binary32 arithmetic of the loop engines under R112: every operation correctly rounded to nearest, ties to even,
subnormal inputs and results replaced by a zero of the same sign, nothing traps; and the bounded sine and cosine. -/
namespace Sys2Proof.Machine
open Sys2Proof

/-- A binary32 word. -/
abbrev F32 := BitVec 32

namespace Flt

/-- The word with sign, biased exponent and fraction. -/
def pack (neg : Bool) (e m : Nat) : F32 := BitVec.ofNat 32 ((if neg then 2147483648 else 0) + e * 8388608 + m)

/-- The sign bit. -/
def sign (x : F32) : Bool := x.getLsbD 31
/-- The biased exponent. -/
def expo (x : F32) : Nat := x.toNat / 8388608 % 256
/-- The fraction field. -/
def frac (x : F32) : Nat := x.toNat % 8388608

/-- Positive or negative zero. -/
def zero (neg : Bool) : F32 := pack neg 0 0
/-- Positive or negative infinity. -/
def inf (neg : Bool) : F32 := pack neg 255 0
/-- The quiet not-a-number the model uses; the spec names none (assumption 14). -/
def nan : F32 := 0x7fc00000

/-- True of a not-a-number. -/
def isNan (x : F32) : Bool := expo x == 255 && frac x != 0
/-- True of an infinity. -/
def isInf (x : F32) : Bool := expo x == 255 && frac x == 0
/-- True of a finite number (R120, R138). -/
def finite (x : F32) : Bool := expo x != 255
/-- True of a zero or of a subnormal, which R112 reads as a zero. -/
def isZero (x : F32) : Bool := expo x == 0

/-- The integer significand of a finite number, signed, with subnormals read as zero: the number is `mant x * 2^(ex x)`. -/
def mant (x : F32) : Int :=
  if expo x = 0 then 0 else if sign x then -(Int.ofNat (frac x + 8388608)) else Int.ofNat (frac x + 8388608)
/-- The exponent that goes with `mant`. -/
def ex (x : F32) : Int := Int.ofNat (expo x) - 150

/-- Rounds `m * 2^e` (with more below it when `sticky`) to binary32, ties to even, flushing subnormal results (R112).
With `sticky` the caller gives at least 26 bits. -/
def round (neg : Bool) (m : Nat) (e : Int) (sticky : Bool) : F32 :=
  if m = 0 then zero neg else
  let n := m.log2 + 1
  let q := if n ≤ 24 then m * 2 ^ (24 - n) else
    let s := n - 24
    let r := m % 2 ^ s
    let h := 2 ^ (s - 1)
    let q := m / 2 ^ s
    if r > h ∨ (r = h ∧ (sticky ∨ q % 2 = 1)) then q + 1 else q
  let e' := e + Int.ofNat n - 24
  let q' := if q = 16777216 then 8388608 else q
  let b := (if q = 16777216 then e' + 1 else e') + 150
  if b ≥ 255 then inf neg else if b ≤ 0 then zero neg else pack neg b.toNat (q' - 8388608)

/-- `num * 2^e` rounded once. -/
def ofScaled (num : Int) (e : Int) : F32 := round (num < 0) num.natAbs e false
/-- The integer rounded once to binary32. -/
def ofInt (n : Int) : F32 := ofScaled n 0
/-- The natural number rounded once to binary32. -/
def ofNat (n : Nat) : F32 := ofInt n
/-- `num / den` rounded once to binary32. -/
def ofRat (num : Int) (den : Nat) : F32 :=
  if den = 0 then nan else
  let m := num.natAbs * 2 ^ 400
  round (num < 0) (m / den) (-400) (m % den != 0)

/-- The negation. -/
def neg (x : F32) : F32 := x ^^^ 0x80000000
/-- The magnitude. -/
def abs (x : F32) : F32 := x &&& 0x7fffffff

/-- The sum, rounded once. -/
def add (x y : F32) : F32 :=
  if isNan x || isNan y then nan
  else if isInf x then (if isInf y && sign x != sign y then nan else x)
  else if isInf y then y
  else
    let e := if ex x ≤ ex y then ex x else ex y
    let v := mant x * 2 ^ (ex x - e).toNat + mant y * 2 ^ (ex y - e).toNat
    if v = 0 then zero (sign x && sign y) else ofScaled v e
/-- The difference, rounded once. -/
def sub (x y : F32) : F32 := if isNan y then nan else add x (neg y)
/-- The product, rounded once. -/
def mul (x y : F32) : F32 :=
  let s := sign x != sign y
  if isNan x || isNan y then nan
  else if isInf x || isInf y then (if isZero x || isZero y then nan else inf s)
  else if isZero x || isZero y then zero s
  else round s ((mant x).natAbs * (mant y).natAbs) (ex x + ex y) false
/-- The quotient, rounded once. -/
def div (x y : F32) : F32 :=
  let s := sign x != sign y
  if isNan x || isNan y then nan
  else if isInf x then (if isInf y then nan else inf s)
  else if isInf y then zero s
  else if isZero y then (if isZero x then nan else inf s)
  else if isZero x then zero s
  else
    let m := (mant x).natAbs * 2 ^ 60
    let d := (mant y).natAbs
    round s (m / d) (ex x - ex y - 60) (m % d != 0)

/-- The integer square root of `n`, found bit by bit from bit `i - 1` down, `r` being the part already found. -/
def isqrtGo (n : Nat) : Nat → Nat → Nat
  | 0, r => r
  | i + 1, r => isqrtGo n i (if (r + 2 ^ i) * (r + 2 ^ i) ≤ n then r + 2 ^ i else r)
/-- The integer square root of a natural number. -/
def isqrt (n : Nat) : Nat := isqrtGo n (n.log2 / 2 + 1) 0

/-- The square root, rounded once. -/
def sqrt (x : F32) : F32 :=
  if isNan x then nan
  else if isZero x then zero (sign x)
  else if sign x then nan
  else if isInf x then x
  else
    let m := (mant x).natAbs * 2 ^ 40
    let e := ex x - 40
    let m' := if e % 2 = 0 then m else m * 2
    let e' := if e % 2 = 0 then e else e - 1
    let r := isqrt m'
    round false r (e' / 2) (r * r != m')

/-- The value times `2^300` as an integer, exact for every finite number; it orders finite numbers. -/
def key (x : F32) : Int := mant x * 2 ^ (ex x + 300).toNat
/-- The strict order; false with a not-a-number. -/
def lt (x y : F32) : Bool :=
  if isNan x || isNan y then false
  else if isInf x then sign x && !(isInf y && sign y)
  else if isInf y then !sign y
  else key x < key y
/-- The order; false with a not-a-number. -/
def le (x y : F32) : Bool := !isNan x && !isNan y && !lt y x
/-- Equality of values; false with a not-a-number. -/
def eq (x y : F32) : Bool := le x y && le y x
/-- The lesser of two, the other one where one is not a number. -/
def min (x y : F32) : F32 := if isNan x then y else if isNan y then x else if lt y x then y else x
/-- The greater of two, the other one where one is not a number. -/
def max (x y : F32) : F32 := if isNan x then y else if isNan y then x else if lt x y then y else x
/-- `clamp(x, lo, hi)` of the chapters' pseudocode. -/
def clamp (x lo hi : F32) : F32 := if lt x lo then lo else if lt hi x then hi else x
/-- The magnitude of `x` with the sign of `y`. -/
def copysign (x y : F32) : F32 := (x &&& 0x7fffffff) ||| (y &&& 0x80000000)

/-- `num / den` rounded to the nearest integer, exact halves away from zero (R68, R72). -/
def roundAway (num : Int) (den : Nat) : Int :=
  let q := (2 * num.natAbs + den) / (2 * den)
  if num < 0 then -(Int.ofNat q) else Int.ofNat q
/-- A finite number times `num / den`, rounded to the nearest integer, halves away from zero. -/
def roundScaled (x : F32) (num den : Nat) : Int :=
  let e := ex x
  if e ≥ 0 then roundAway (mant x * num * 2 ^ e.toNat) den
  else roundAway (mant x * num) (den * 2 ^ (-e).toNat)
/-- A finite number times `num / den`, saturated to the signed range of `w` bits (an infinity saturates by its sign, a
not-a-number gives 0). -/
def toSat (x : F32) (num den w : Nat) : Int :=
  let hi : Int := 2 ^ (w - 1) - 1
  let lo : Int := -(2 ^ (w - 1))
  if isNan x then 0 else if isInf x then (if sign x then lo else hi) else
  let v := roundScaled x num den
  if v > hi then hi else if v < lo then lo else v

/-- π to 126 fractional bits: the integer nearest below π × 2^126. -/
def piFix : Nat := 267257146016241686964920093290467695825
/-- The scale of `piFix`. -/
def piScale : Nat := 2 ^ 126
/-- π in binary32. -/
def pi : F32 := ofRat piFix piScale
/-- 2π in binary32. -/
def twoPi : F32 := ofRat (2 * piFix) piScale
/-- The angle conversion of R112: units of 2^-32 rev to radians, rounded once. -/
def rad (a : BitVec 32) : F32 := ofRat (2 * piFix * a.toNat) (piScale * 2 ^ 32)

/-- The value of a finite number in units of 2^-96, rounded down. -/
def fix (x : F32) : Int :=
  let e := ex x + 96
  if e ≥ 0 then mant x * 2 ^ e.toNat else mant x / 2 ^ (-e).toNat
/-- `x * y` on the 2^-96 grid. -/
def fmul (x y : Int) : Int := x * y / 2 ^ 96
/-- The sum of the Taylor terms from `t` on, the next term being `-t x² / ((k+1)(k+2))`, `fuel` terms. -/
def taylor (x2 : Int) : Nat → Nat → Int → Int
  | 0, _, _ => 0
  | n + 1, k, t => t + taylor x2 n (k + 2) (-(fmul t x2) / ((k + 1) * (k + 2) : Nat))
/-- 2π on the 2^-96 grid. -/
def twoPiFix : Int := 2 * piFix / 2 ^ 30
/-- The argument brought to (-π, π] on the 2^-96 grid. -/
def reduce (x : Int) : Int :=
  let r := x % twoPiFix
  if 2 * r > twoPiFix then r - twoPiFix else r
/-- The sine on the 2^-96 grid. -/
def sinFix (x : F32) : Int := let r := reduce (fix x); taylor (fmul r r) 24 1 r
/-- The cosine on the 2^-96 grid. -/
def cosFix (x : F32) : Int := let r := reduce (fix x); taylor (fmul r r) 24 0 (2 ^ 96)
/-- The unit's own result where it keeps the bound of R112, else the rounded exact value (assumption 8). -/
def bounded (raw : F32) (exact : Int) : F32 :=
  if finite raw && (fix raw - exact).natAbs ≤ 2 ^ 74 then raw else ofScaled exact (-96)
/-- The table unit's sine of R112: any value within 2^-22 of the exact sine. -/
def sin (x : F32) : F32 := if finite x then bounded (Config.sinRaw x) (sinFix x) else nan
/-- The table unit's cosine of R112: any value within 2^-22 of the exact cosine. -/
def cos (x : F32) : F32 := if finite x then bounded (Config.cosRaw x) (cosFix x) else nan
/-- `wrap` of R175 and R188: the angle brought to (-π, π]. -/
def wrap (x : F32) : F32 := if finite x then ofScaled (reduce (fix x)) (-96) else nan
/-- The square root of the sum of two squares. -/
def hypot (x y : F32) : F32 := sqrt (add (mul x x) (mul y y))
/-- Twice a number. -/
def dbl (x : F32) : F32 := mul 0x40000000 x
/-- One. -/
def one : F32 := 0x3f800000

end Flt

/-- The sine of a fraction `num / den` of a turn on the 2^-96 grid. -/
def sinTurn (num : Int) (den : Nat) : Int :=
  let r := Flt.reduce (Flt.twoPiFix * num / den)
  Flt.taylor (Flt.fmul r r) 24 1 r
/-- The cosine of a fraction of a turn on the 2^-96 grid. -/
def cosTurn (num : Int) (den : Nat) : Int :=
  let r := Flt.reduce (Flt.twoPiFix * num / den)
  Flt.taylor (Flt.fmul r r) 24 0 (2 ^ 96)
/-- The angle of (c, s) in units of 1 / 2^n turn, rounded down: bit by bit, the greatest whose direction does not pass it. -/
def angleGo (c s : Int) (n : Nat) : Nat → Nat → Nat
  | 0, k => k
  | i + 1, k =>
    let k' := k + 2 ^ i
    let cross := cosTurn k' (2 ^ n) * s - sinTurn k' (2 ^ n) * c
    angleGo c s n i (if cross ≥ 0 then k' else k)
/-- atan2(s, c) in units of 1 / 2^n turn, rounded down, 0 to 2^n − 1 (n ≥ 2). -/
def angleOf (n : Nat) (s c : Int) : Nat :=
  let q := if s ≥ 0 then (if c > 0 then 0 else 1) else (if c < 0 then 2 else 3)
  let (c', s') := if q = 0 then (c, s) else if q = 1 then (s, -c) else if q = 2 then (-c, -s) else (-s, c)
  q * 2 ^ (n - 2) + angleGo c' s' n (n - 2) 0
namespace Flt
/-- The arctangent of R175 and R186: the unit's own result where it lies within 2^-22 of the exact angle in (-π, π], else that angle rounded.
The angle of (0, 0) is free, and the unit's own with an infinity (assumption 9). -/
def atan2 (y x : F32) : F32 :=
  let r := Config.atan2 y x
  if isNan y || isNan x then nan
  else if !(finite y && finite x) then r
  else if isZero y && isZero x then (if finite r && 2 * (fix r).natAbs ≤ twoPiFix.natAbs then r else zero false)
  else bounded r (reduce (angleOf 40 (key y) (key x) * twoPiFix / 2 ^ 40))
end Flt
end Sys2Proof.Machine
end

