-- ==== Sys2Proof/Machine/Bits.lean ====
section
/-! DEFINITION. Byte order, sign extension, saturation, bit masks and the cyclic redundancy checks of the spec. -/
namespace Sys2Proof.Machine
open Sys2Proof

/-- The number that a list of bytes spells, lowest byte first (R12: little-endian). -/
def leNat : List Byte → Nat
  | [] => 0
  | b :: bs => b.toNat + 256 * leNat bs

/-- The `n` bytes of a number, lowest first. -/
def leBytes : Nat → Nat → List Byte
  | 0, _ => []
  | n + 1, v => BitVec.ofNat 8 v :: leBytes n (v / 256)

/-- The number at byte offset `o` of a frame, `n` bytes wide, lowest byte first; bytes past the end read as 0. -/
def field (bs : List Byte) (o n : Nat) : Nat := leNat ((bs.drop o).take n)

/-- The signed value of the low `w` bits. -/
def sext (w v : Nat) : Int :=
  let u := v % 2 ^ w
  if w ≠ 0 ∧ u ≥ 2 ^ (w - 1) then Int.ofNat u - 2 ^ w else u

/-- The low `w` bits of a signed value. -/
def trunc (w : Nat) (v : Int) : Nat := (v % 2 ^ w).toNat

/-- A signed value saturated to `w` bits. -/
def sat (w : Nat) (v : Int) : Int :=
  if v > 2 ^ (w - 1) - 1 then 2 ^ (w - 1) - 1 else if v < -(2 ^ (w - 1)) then -(2 ^ (w - 1)) else v

/-- Bit `i` of a number. -/
def bit (v i : Nat) : Bool := v / 2 ^ i % 2 = 1

/-- A Bool as a number. -/
def b2n (b : Bool) : Nat := if b then 1 else 0

/-- The bits of a number that are set, of the low `n`, in rising order. -/
def bitsOf (v : Nat) : Nat → List Nat
  | 0 => []
  | n + 1 => bitsOf v n ++ (if bit v n then [n] else [])

/-- The mask with the bits of a list set. -/
def maskOf : List Nat → Nat
  | [] => 0
  | i :: is => let m := maskOf is; if bit m i then m else m + 2 ^ i

/-- A counter that stops at `m`. -/
def satAdd (m v d : Nat) : Nat := if v + d > m then m else v + d

/-- One bit step of a reflected CRC with polynomial `p`. -/
def crcStep (p c : Nat) : Nat := if c % 2 = 1 then (c / 2) ^^^ p else c / 2
/-- `n` bit steps. -/
def crcSteps (p : Nat) : Nat → Nat → Nat
  | 0, c => c
  | n + 1, c => crcSteps p n (crcStep p c)
/-- A reflected CRC of bytes from the register value `c`. -/
def crcBytes (p : Nat) : List Byte → Nat → Nat
  | [], c => c
  | b :: bs, c => crcBytes p bs (crcSteps p 8 (c ^^^ b.toNat))
/-- CRC-32 of the image, the state record and the Ethernet frame: reflected 0xEDB88320, all-ones start and end. -/
def crc32 (bs : List Byte) : Nat := crcBytes 0xEDB88320 bs 0xFFFFFFFF ^^^ 0xFFFFFFFF
/-- CRC-32C of ring frames and safe frames: reflected 0x82F63B78, all-ones start and end. -/
def crc32c (bs : List Byte) : Nat := crcBytes 0x82F63B78 bs 0xFFFFFFFF ^^^ 0xFFFFFFFF
/-- One bit of a forward CRC of width `w` and polynomial `p`. -/
def crcFwdBit (w p : Nat) (c : Nat) (d : Bool) : Nat :=
  let t := bit c (w - 1) != d
  (c * 2 % 2 ^ w) ^^^ (if t then p else 0)
/-- A forward CRC over bits, first bit first. -/
def crcFwd (w p : Nat) : List Bool → Nat → Nat
  | [], c => c
  | d :: ds, c => crcFwd w p ds (crcFwdBit w p c d)
/-- The low `n` bits of a number, most significant first. -/
def msbBits (v : Nat) : Nat → List Bool
  | 0 => []
  | n + 1 => bit v n :: msbBits v n

end Sys2Proof.Machine
end

