-- ==== Sys2Proof/Machine/Tbl.lean ====
section
/-! DEFINITION. Sparse tables: what the machine holds by number (register words, memory bytes, per-object records), as a list of
key and value pairs with rising keys and no entry equal to what an unlisted key reads as. -/
namespace Sys2Proof.Machine

/-- A sparse table: keys and values. -/
abbrev Tbl (α : Type) := List (Nat × α)

/-- What key `k` reads as, `d` giving what an unlisted key reads as. -/
def tget {α : Type} (d : Nat → α) : Tbl α → Nat → α
  | [], k => d k
  | (j, v) :: t, k => if j = k then v else tget d t k

/-- The table without key `k`. -/
def tdrop {α : Type} (k : Nat) : Tbl α → Tbl α
  | [] => []
  | (j, v) :: t => if j = k then tdrop k t else (j, v) :: tdrop k t

/-- The table with an entry for `k` put in before the first greater key. -/
def tins {α : Type} (k : Nat) (v : α) : Tbl α → Tbl α
  | [] => [(k, v)]
  | (j, w) :: t => if k < j then (k, v) :: (j, w) :: t else (j, w) :: tins k v t

/-- The table in which `k` reads as `v`: no entry is kept for what an unlisted key reads as. -/
def tset {α : Type} [DecidableEq α] (d : Nat → α) (t : Tbl α) (k : Nat) (v : α) : Tbl α :=
  if v = d k then tdrop k t else tins k v (tdrop k t)

/-- The canonical form: keys strictly rising, all greater than `lo` where one is given, and no entry equal to the default. -/
def twf {α : Type} [DecidableEq α] (d : Nat → α) : Option Nat → Tbl α → Bool
  | _, [] => true
  | lo, (k, v) :: t => (match lo with | none => true | some l => l < k) && (decide (v ≠ d k) && twf d (some k) t)

/-- The bytes of `v` at `k`, `k + 1`, …: lowest byte first. -/
def tsetList {α : Type} [DecidableEq α] (d : Nat → α) (t : Tbl α) (k : Nat) : List α → Tbl α
  | [] => t
  | v :: vs => tsetList d (tset d t k v) (k + 1) vs

/-- The `n` values at `k`, `k + 1`, …. -/
def tgetList {α : Type} (d : Nat → α) (t : Tbl α) (k : Nat) : Nat → List α
  | 0 => []
  | n + 1 => tget d t k :: tgetList d t (k + 1) n

/-- `f` applied to 0, 1, …, `n - 1` in turn, threading a state. -/
def upto {σ : Type} (f : Nat → σ → σ) : Nat → σ → σ
  | 0, s => s
  | n + 1, s => f n (upto f n s)

/-- `f` applied to each of a list in turn, threading a state. -/
def each {α σ : Type} (f : α → σ → σ) : List α → σ → σ
  | [], s => s
  | x :: xs, s => each f xs (f x s)

end Sys2Proof.Machine
end

