-- ==== Sys2Proof/Machine/Crypto.lean ====
section
/-! DEFINITION. The algorithms of the security engine (R17, R275, R304, R347), each as its standard defines it: AES-128-CMAC (FIPS 197, SP
800-38B), SHA-256 (FIPS 180-4) and ECDSA verification on P-256 (FIPS 186-4). Assumption 10. -/
namespace Sys2Proof.Machine
open Sys2Proof

/-- The number that bytes spell, highest byte first. -/
def beNat (bs : List Byte) : Nat := leNat bs.reverse
/-- The n bytes of a number, highest first. -/
def beBytes (n v : Nat) : List Byte := (leBytes n v).reverse

/-! ### AES-128 and its CMAC -/

/-- Multiplication by x in the AES field. -/
def gfDouble (a : Nat) : Nat := if 128 ≤ a then (a * 2) ^^^ 0x11B else a * 2
/-- The product of two bytes in the AES field, over the low n bits of the second. -/
def gfMul (a : Nat) : Nat → Nat → Nat
  | 0, _ => 0
  | n + 1, b => (if b % 2 = 1 then a else 0) ^^^ gfDouble (gfMul a n (b / 2))
/-- The inverse of a byte in the AES field, its 254th power; 0 for 0. -/
def gfInv (a : Nat) : Nat := (each (fun (_ : Nat) (p : Nat × Nat) => let q := gfMul p.1 8 p.1; (q, gfMul p.2 8 q)) (List.range 7) (a, 1)).2
/-- The AES S-box: the inverse, then the affine map. -/
def aesSub (a : Nat) : Nat :=
  let b := gfInv a
  let rot := fun (k : Nat) => (b * 2 ^ k) % 256 + b / 2 ^ (8 - k)
  b ^^^ rot 1 ^^^ rot 2 ^^^ rot 3 ^^^ rot 4 ^^^ 0x63
/-- Two blocks combined byte by byte. -/
def xorBlock (a b : List Nat) : List Nat := List.zipWith (· ^^^ ·) a b
/-- ShiftRows: byte r of column c comes from column c + r. -/
def aesShift (b : List Nat) : List Nat := (List.range 16).map fun i => b.getD (i % 4 + 4 * ((i / 4 + i % 4) % 4)) 0
/-- MixColumns. -/
def aesMix (b : List Nat) : List Nat :=
  (List.range 16).map fun i =>
    let x := fun (k : Nat) => b.getD (i / 4 * 4 + (i + k) % 4) 0
    gfDouble (x 0) ^^^ gfDouble (x 1) ^^^ x 1 ^^^ x 2 ^^^ x 3
/-- The round key after another. -/
def aesNextKey (rcon : Nat) (k : List Nat) : List Nat :=
  let x := fun (i : Nat) => k.getD i 0
  let t := [aesSub (x 13) ^^^ rcon, aesSub (x 14), aesSub (x 15), aesSub (x 12)]
  let w0 := xorBlock (k.take 4) t
  let w1 := xorBlock ((k.drop 4).take 4) w0
  let w2 := xorBlock ((k.drop 8).take 4) w1
  w0 ++ w1 ++ w2 ++ xorBlock ((k.drop 12).take 4) w2
/-- One round: the block and the key before it. -/
def aesRound (mix : Bool) (rcon : Nat) (p : List Nat × List Nat) : List Nat × List Nat :=
  let k := aesNextKey rcon p.2
  let b := aesShift (p.1.map aesSub)
  (xorBlock (if mix then aesMix b else b) k, k)
/-- The AES-128 encryption of a block. -/
def aesBlock (key b : List Nat) : List Nat :=
  let p := each (aesRound true) [0x01, 0x02, 0x04, 0x08, 0x10, 0x20, 0x40, 0x80, 0x1B] (xorBlock b key, key)
  (aesRound false 0x36 p).1
/-- A number of 128 bits as a block, highest byte first. -/
def blockOf (v : Nat) : List Nat := (beBytes 16 v).map BitVec.toNat
/-- A block as a number. -/
def blockNat (b : List Nat) : Nat := beNat (b.map (BitVec.ofNat 8))
/-- Doubling in the field of the CMAC subkeys. -/
def cmacDouble (v : Nat) : Nat := if 2 ^ 127 ≤ v then (v * 2 % 2 ^ 128) ^^^ 0x87 else v * 2
/-- The chain of CMAC over the first n blocks of a message, and the rest of it. -/
def cmacChain (key : List Nat) : Nat → List Byte → List Nat → List Nat × List Byte
  | 0, m, c => (c, m)
  | n + 1, m, c => cmacChain key n (m.drop 16) (aesBlock key (xorBlock ((m.take 16).map BitVec.toNat) c))
/-- The AES-128-CMAC of a message. -/
def cmac (key : BitVec 128) (m : List Byte) : BitVec 128 :=
  let k := blockOf key.toNat
  let k1 := cmacDouble (blockNat (aesBlock k (blockOf 0)))
  let (c, l) := cmacChain k ((m.length - 1) / 16) m (blockOf 0)
  let last := if l.length = 16 then xorBlock (l.map BitVec.toNat) (blockOf k1)
    else xorBlock ((l ++ [0x80] ++ List.replicate (15 - l.length) 0).map BitVec.toNat) (blockOf (cmacDouble k1))
  BitVec.ofNat 128 (blockNat (aesBlock k (xorBlock last c)))
/-- T of R304: the first eight bytes of the CMAC. -/
def cmac64 (key : BitVec 128) (m : List Byte) : BitVec 64 := (cmac key m).extractLsb' 64 64

/-! ### SHA-256 -/

/-- The round constants of SHA-256. -/
def shaK : List Nat :=
  [0x428a2f98, 0x71374491, 0xb5c0fbcf, 0xe9b5dba5, 0x3956c25b, 0x59f111f1, 0x923f82a4, 0xab1c5ed5] ++
  [0xd807aa98, 0x12835b01, 0x243185be, 0x550c7dc3, 0x72be5d74, 0x80deb1fe, 0x9bdc06a7, 0xc19bf174] ++
  [0xe49b69c1, 0xefbe4786, 0x0fc19dc6, 0x240ca1cc, 0x2de92c6f, 0x4a7484aa, 0x5cb0a9dc, 0x76f988da] ++
  [0x983e5152, 0xa831c66d, 0xb00327c8, 0xbf597fc7, 0xc6e00bf3, 0xd5a79147, 0x06ca6351, 0x14292967] ++
  [0x27b70a85, 0x2e1b2138, 0x4d2c6dfc, 0x53380d13, 0x650a7354, 0x766a0abb, 0x81c2c92e, 0x92722c85] ++
  [0xa2bfe8a1, 0xa81a664b, 0xc24b8b70, 0xc76c51a3, 0xd192e819, 0xd6990624, 0xf40e3585, 0x106aa070] ++
  [0x19a4c116, 0x1e376c08, 0x2748774c, 0x34b0bcb5, 0x391c0cb3, 0x4ed8aa4a, 0x5b9cca4f, 0x682e6ff3] ++
  [0x748f82ee, 0x78a5636f, 0x84c87814, 0x8cc70208, 0x90befffa, 0xa4506ceb, 0xbef9a3f7, 0xc67178f2]
/-- The start value of SHA-256. -/
def shaInit : List Word :=
  [0x6a09e667, 0xbb67ae85, 0x3c6ef372, 0xa54ff53a, 0x510e527f, 0x9b05688c, 0x1f83d9ab, 0x5be0cd19]
/-- The next n words of the message schedule behind the last sixteen, newest last. -/
def shaSched : Nat → List Word → List Word
  | 0, _ => []
  | n + 1, w =>
    let x := fun (i : Nat) => w.getD i 0
    let s0 := (x 1).rotateRight 7 ^^^ (x 1).rotateRight 18 ^^^ (x 1 >>> 3)
    let s1 := (x 14).rotateRight 17 ^^^ (x 14).rotateRight 19 ^^^ (x 14 >>> 10)
    let v := x 0 + s0 + x 9 + s1
    v :: shaSched n (w.drop 1 ++ [v])
/-- One round with its constant and its word. -/
def shaRound (kw : Nat × Word) (h : List Word) : List Word :=
  let x := fun (i : Nat) => h.getD i 0
  let e := x 4
  let a := x 0
  let t1 := x 7 + (e.rotateRight 6 ^^^ e.rotateRight 11 ^^^ e.rotateRight 25) + ((e &&& x 5) ^^^ (~~~e &&& x 6)) + BitVec.ofNat 32 kw.1 + kw.2
  let t2 := (a.rotateRight 2 ^^^ a.rotateRight 13 ^^^ a.rotateRight 22) + ((a &&& x 1) ^^^ (a &&& x 2) ^^^ (x 1 &&& x 2))
  [t1 + t2, a, x 1, x 2, x 3 + t1, e, x 5, x 6]
/-- One block of 64 bytes. -/
def shaBlock (b : List Byte) (h : List Word) : List Word :=
  let w := (List.range 16).map fun i => BitVec.ofNat 32 (beNat ((b.drop (4 * i)).take 4))
  List.zipWith (· + ·) h (each shaRound (shaK.zip (w ++ shaSched 48 w)) h)
/-- The first n blocks of a padded message. -/
def shaBlocks : Nat → List Byte → List Word → List Word
  | 0, _, h => h
  | n + 1, m, h => shaBlocks n (m.drop 64) (shaBlock (m.take 64) h)
/-- The SHA-256 of a byte string, its first byte the most significant. -/
def sha256 (m : List Byte) : BitVec 256 :=
  let p := m ++ [0x80] ++ List.replicate ((119 - m.length % 64) % 64) 0 ++ beBytes 8 (8 * m.length)
  BitVec.ofNat 256 (beNat ((shaBlocks (p.length / 64) p shaInit).flatMap fun w => beBytes 4 w.toNat))

/-! ### ECDSA on P-256 -/

/-- The field prime, the group order, b and the base point of P-256. -/
def p256P : Nat := 0xffffffff00000001000000000000000000000000ffffffffffffffffffffffff
def p256N : Nat := 0xffffffff00000000ffffffffffffffffbce6faada7179e84f3b9cac2fc632551
def p256B : Nat := 0x5ac635d8aa3a93e7b3ebbd55769886bc651d06b0cc53b0f63bce3c3e27d2604b
def p256G : Option (Nat × Nat) :=
  some (0x6b17d1f2e12c4247f8bce6e563a440f277037d812deb33a0f4a13945d898c296,
    0x4fe342e2fe1a7f9b8ee7eb4a7c0f9e162bce33576b315ececbb6406837bf51f5)
/-- A power modulo m, over the low n hexadecimal digits of the exponent. -/
def powMod (m a : Nat) : Nat → Nat → Nat
  | 0, _ => 1 % m
  | n + 1, e => powMod m a n (e / 16) ^ 16 * a ^ (e % 16) % m
/-- The inverse modulo a prime of 256 bits. -/
def invMod (m a : Nat) : Nat := powMod m (a % m) 64 (m - 2)
/-- The point with a slope through P, at the x of Q; coordinates modulo the field prime. -/
def chordPoint (l x1 y1 x2 : Nat) : Option (Nat × Nat) :=
  let x := (l * l + 2 * p256P - x1 - x2) % p256P
  some (x, (l * (x1 + p256P - x) + p256P - y1) % p256P)
/-- The sum of two points; none is the point at infinity. -/
def ecAdd (a b : Option (Nat × Nat)) : Option (Nat × Nat) :=
  match a, b with
  | none, q => q
  | q, none => q
  | some (x1, y1), some (x2, y2) =>
    if x1 = x2 then
      if (y1 + y2) % p256P = 0 then none
      else chordPoint ((3 * (x1 * x1 + p256P - 1)) * invMod p256P (2 * y1) % p256P) x1 y1 x2
    else chordPoint ((y2 + p256P - y1) * invMod p256P (x2 + p256P - x1) % p256P) x1 y1 x2
/-- A multiple of a point, over the low n bits of the factor. -/
def ecMul (q : Option (Nat × Nat)) : Nat → Nat → Option (Nat × Nat)
  | 0, _ => none
  | n + 1, k => let r := ecMul (ecAdd q q) n (k / 2); if k % 2 = 1 then ecAdd q r else r
/-- A point of the curve, of a public key of 64 bytes: X, then Y, each highest byte first. -/
def ecKey (key : List Byte) : Option (Nat × Nat) :=
  let x := beNat (key.take 32)
  let y := beNat (key.drop 32)
  if key.length = 64 ∧ x < p256P ∧ y < p256P ∧ y * y % p256P = (x * x * x + (p256P - 3) * x + p256B) % p256P then some (x, y) else none
/-- An ECDSA signature of a digest verifies: r, then s, each of 32 bytes, highest first. -/
def ecdsaOk (key : List Byte) (digest : BitVec 256) (sig : List Byte) : Bool :=
  let r := beNat (sig.take 32)
  let t := beNat (sig.drop 32)
  match ecKey key with
  | none => false
  | some q =>
    if sig.length ≠ 64 ∨ r = 0 ∨ p256N ≤ r ∨ t = 0 ∨ p256N ≤ t then false
    else
      let w := invMod p256N t
      match ecAdd (ecMul p256G 256 (digest.toNat * w % p256N)) (ecMul (some q) 256 (r * w % p256N)) with
      | none => false
      | some (x, _) => x % p256N == r

end Sys2Proof.Machine
end

