-- ==== Sys2Proof/Machine/Operands.lean ====
section
/-! DEFINITION. The operand forms of the register space: every register of the block chapters by its offset, every named field by
register, lowest bit and width, and the access table of R12 and R13, all as the register tables of the spec give them (R58, R82,
R111, R145, R170, R199, R224, R250, R281, R320, R341, R367, R391, R395, R402). A register of axis a lies at
0x04_0100 + 0x1000 (a div 4) + 0x100 (a mod 4) (R145). -/
namespace Sys2Proof.Machine
open Sys2Proof

/-- A field of a register: the register's offset, its lowest bit, its width. -/
structure Fld where
  off : Nat
  lo : Nat
  w : Nat
  deriving DecidableEq, Repr

/-- Access codes of Table 0.4. -/
inductive Acc where
  | ro | img | rw | w1c | wo | rc
  deriving DecidableEq, Repr

/-- The offset of ID_PART (15). -/
def A.ID_PART : Nat := 0x000000
/-- ID_PART.PART (RO). -/
def F.ID_PART_PART : Fld := ⟨A.ID_PART, 0, 16⟩
/-- ID_PART.REV (RO). -/
def F.ID_PART_REV : Fld := ⟨A.ID_PART, 16, 8⟩
/-- The offset of ID_ROMVER (15). -/
def A.ID_ROMVER : Nat := 0x000004
/-- ID_ROMVER.BOOT (RO). -/
def F.ID_ROMVER_BOOT : Fld := ⟨A.ID_ROMVER, 0, 16⟩
/-- ID_ROMVER.SMC (RO). -/
def F.ID_ROMVER_SMC : Fld := ⟨A.ID_ROMVER, 16, 16⟩
/-- The offset of ID_SERIALi (15). -/
def A.ID_SERIAL (i : Nat) : Nat := 0x000008 + 4 * i
/-- ID_SERIALi.SERIAL (RO). -/
def F.ID_SERIAL_SERIAL (i : Nat) : Fld := ⟨A.ID_SERIAL i, 0, 32⟩
/-- The offset of ID_STATE (15). -/
def A.ID_STATE : Nat := 0x000018
/-- ID_STATE.DSTATE (RO). -/
def F.ID_STATE_DSTATE : Fld := ⟨A.ID_STATE, 0, 4⟩
/-- ID_STATE.DEVNUM (RO). -/
def F.ID_STATE_DEVNUM : Fld := ⟨A.ID_STATE, 4, 6⟩
/-- The offset of STR_PERIOD (02). -/
def A.STR_PERIOD : Nat := 0x010000
/-- STR_PERIOD.PERIOD (IMG). -/
def F.STR_PERIOD_PERIOD : Fld := ⟨A.STR_PERIOD, 0, 18⟩
/-- The offset of STR_COUNT_LO (02). -/
def A.STR_COUNT_LO : Nat := 0x010004
/-- STR_COUNT_LO.COUNT_LO (RO). -/
def F.STR_COUNT_LO_COUNT_LO : Fld := ⟨A.STR_COUNT_LO, 0, 32⟩
/-- The offset of STR_COUNT_HI (02). -/
def A.STR_COUNT_HI : Nat := 0x010008
/-- STR_COUNT_HI.COUNT_HI (RO). -/
def F.STR_COUNT_HI_COUNT_HI : Fld := ⟨A.STR_COUNT_HI, 0, 16⟩
/-- The offset of STR_PHASE (02). -/
def A.STR_PHASE : Nat := 0x01000C
/-- STR_PHASE.PHASE (RO). -/
def F.STR_PHASE_PHASE : Fld := ⟨A.STR_PHASE, 0, 18⟩
/-- The offset of STR_APHASE (02). -/
def A.STR_APHASE : Nat := 0x010010
/-- STR_APHASE.A (IMG). -/
def F.STR_APHASE_A : Fld := ⟨A.STR_APHASE, 0, 18⟩
/-- The offset of STR_IPHASE (02). -/
def A.STR_IPHASE : Nat := 0x010014
/-- STR_IPHASE.I (IMG). -/
def F.STR_IPHASE_I : Fld := ⟨A.STR_IPHASE, 0, 18⟩
/-- The offset of STR_OVERRUN (02). -/
def A.STR_OVERRUN : Nat := 0x010018
/-- STR_OVERRUN.COUNT (RO). -/
def F.STR_OVERRUN_COUNT : Fld := ⟨A.STR_OVERRUN, 0, 32⟩
/-- The offset of STR_COMMIT (02). -/
def A.STR_COMMIT : Nat := 0x01001C
/-- STR_COMMIT.COMMIT (WO). -/
def F.STR_COMMIT_COMMIT : Fld := ⟨A.STR_COMMIT, 0, 32⟩
/-- The offset of STR_TASKOVR (02). -/
def A.STR_TASKOVR : Nat := 0x010020
/-- STR_TASKOVR.OVR (W1C). -/
def F.STR_TASKOVR_OVR : Fld := ⟨A.STR_TASKOVR, 0, 32⟩
/-- The offset of STR_SYNCCFG (02). -/
def A.STR_SYNCCFG : Nat := 0x010030
/-- STR_SYNCCFG.RINGEN (IMG). -/
def F.STR_SYNCCFG_RINGEN : Fld := ⟨A.STR_SYNCCFG, 0, 1⟩
/-- STR_SYNCCFG.STBY_EN (IMG). -/
def F.STR_SYNCCFG_STBY_EN : Fld := ⟨A.STR_SYNCCFG, 1, 1⟩
/-- STR_SYNCCFG.STBY_DEV (IMG). -/
def F.STR_SYNCCFG_STBY_DEV : Fld := ⟨A.STR_SYNCCFG, 2, 6⟩
/-- The offset of STR_SYNCSTAT (02). -/
def A.STR_SYNCSTAT : Nat := 0x010034
/-- STR_SYNCSTAT.SYNCED (RO). -/
def F.STR_SYNCSTAT_SYNCED : Fld := ⟨A.STR_SYNCSTAT, 0, 1⟩
/-- STR_SYNCSTAT.SRC_B (RO). -/
def F.STR_SYNCSTAT_SRC_B : Fld := ⟨A.STR_SYNCSTAT, 1, 1⟩
/-- STR_SYNCSTAT.HOLDOVER (RO). -/
def F.STR_SYNCSTAT_HOLDOVER : Fld := ⟨A.STR_SYNCSTAT, 2, 1⟩
/-- STR_SYNCSTAT.SOURCE (RO). -/
def F.STR_SYNCSTAT_SOURCE : Fld := ⟨A.STR_SYNCSTAT, 3, 1⟩
/-- STR_SYNCSTAT.STEP_PEND (RO). -/
def F.STR_SYNCSTAT_STEP_PEND : Fld := ⟨A.STR_SYNCSTAT, 4, 1⟩
/-- STR_SYNCSTAT.HOLDCNT (RO). -/
def F.STR_SYNCSTAT_HOLDCNT : Fld := ⟨A.STR_SYNCSTAT, 8, 8⟩
/-- The offset of STR_HOPA (02). -/
def A.STR_HOPA : Nat := 0x010038
/-- STR_HOPA.HOP (RO). -/
def F.STR_HOPA_HOP : Fld := ⟨A.STR_HOPA, 0, 24⟩
/-- STR_HOPA.VALID (RO). -/
def F.STR_HOPA_VALID : Fld := ⟨A.STR_HOPA, 31, 1⟩
/-- The offset of STR_HOPB (02). -/
def A.STR_HOPB : Nat := 0x01003C
/-- STR_HOPB.HOP (RO). -/
def F.STR_HOPB_HOP : Fld := ⟨A.STR_HOPB, 0, 24⟩
/-- STR_HOPB.VALID (RO). -/
def F.STR_HOPB_VALID : Fld := ⟨A.STR_HOPB, 31, 1⟩
/-- The offset of STR_ALIGNERR (02). -/
def A.STR_ALIGNERR : Nat := 0x010040
/-- STR_ALIGNERR.ERR (RO). -/
def F.STR_ALIGNERR_ERR : Fld := ⟨A.STR_ALIGNERR, 0, 16⟩
/-- STR_ALIGNERR.MAXERR (RC). -/
def F.STR_ALIGNERR_MAXERR : Fld := ⟨A.STR_ALIGNERR, 16, 16⟩
/-- The offset of STR_PATHA (02). -/
def A.STR_PATHA : Nat := 0x010044
/-- STR_PATHA.PATH (RO). -/
def F.STR_PATHA_PATH : Fld := ⟨A.STR_PATHA, 0, 28⟩
/-- STR_PATHA.VALID (RO). -/
def F.STR_PATHA_VALID : Fld := ⟨A.STR_PATHA, 31, 1⟩
/-- The offset of STR_PATHB (02). -/
def A.STR_PATHB : Nat := 0x010048
/-- STR_PATHB.PATH (RO). -/
def F.STR_PATHB_PATH : Fld := ⟨A.STR_PATHB, 0, 28⟩
/-- STR_PATHB.VALID (RO). -/
def F.STR_PATHB_VALID : Fld := ⟨A.STR_PATHB, 31, 1⟩
/-- The offset of STR_TEAMt_CFG (02). -/
def A.STR_TEAM_CFG (t : Nat) : Nat := 0x010080 + 16 * t
/-- STR_TEAMt_CFG.SPHASE (IMG). -/
def F.STR_TEAM_CFG_SPHASE (t : Nat) : Fld := ⟨A.STR_TEAM_CFG t, 0, 18⟩
/-- STR_TEAMt_CFG.CARMUL (IMG). -/
def F.STR_TEAM_CFG_CARMUL (t : Nat) : Fld := ⟨A.STR_TEAM_CFG t, 18, 2⟩
/-- The offset of STR_TEAMt_CMT (02). -/
def A.STR_TEAM_CMT (t : Nat) : Nat := 0x010084 + 16 * t
/-- STR_TEAMt_CMT.CPHASE (RO). -/
def F.STR_TEAM_CMT_CPHASE (t : Nat) : Fld := ⟨A.STR_TEAM_CMT t, 0, 18⟩
/-- The offset of STR_TEAMt_UPD (02). -/
def A.STR_TEAM_UPD (t : Nat) : Nat := 0x010088 + 16 * t
/-- STR_TEAMt_UPD.UPHASE (RO). -/
def F.STR_TEAM_UPD_UPHASE (t : Nat) : Fld := ⟨A.STR_TEAM_UPD t, 0, 18⟩
/-- The offset of STR_TASKk_CFG (02). -/
def A.STR_TASK_CFG (k : Nat) : Nat := 0x010100 + 16 * k
/-- STR_TASKk_CFG.PERIOD (IMG). -/
def F.STR_TASK_CFG_PERIOD (k : Nat) : Fld := ⟨A.STR_TASK_CFG k, 0, 3⟩
/-- STR_TASKk_CFG.SAFETY (IMG). -/
def F.STR_TASK_CFG_SAFETY (k : Nat) : Fld := ⟨A.STR_TASK_CFG k, 3, 1⟩
/-- STR_TASKk_CFG.REACT (IMG). -/
def F.STR_TASK_CFG_REACT (k : Nat) : Fld := ⟨A.STR_TASK_CFG k, 4, 2⟩
/-- STR_TASKk_CFG.USED (IMG). -/
def F.STR_TASK_CFG_USED (k : Nat) : Fld := ⟨A.STR_TASK_CFG k, 31, 1⟩
/-- The offset of STR_TASKk_AXES (02). -/
def A.STR_TASK_AXES (k : Nat) : Nat := 0x010104 + 16 * k
/-- STR_TASKk_AXES.AXES (IMG). -/
def F.STR_TASK_AXES_AXES (k : Nat) : Fld := ⟨A.STR_TASK_AXES k, 0, 32⟩
/-- The offset of STR_TASKk_STAT (02). -/
def A.STR_TASK_STAT (k : Nat) : Nat := 0x010108 + 16 * k
/-- STR_TASKk_STAT.OVRCNT (RO). -/
def F.STR_TASK_STAT_OVRCNT (k : Nat) : Fld := ⟨A.STR_TASK_STAT k, 0, 16⟩
/-- STR_TASKk_STAT.CONSEC (RO). -/
def F.STR_TASK_STAT_CONSEC (k : Nat) : Fld := ⟨A.STR_TASK_STAT k, 16, 2⟩
/-- The offset of SNS_CHn_CFG (03). -/
def A.SNS_CH_CFG (n : Nat) : Nat := 0x020000 + 64 * n
/-- SNS_CHn_CFG.ROLE (IMG). -/
def F.SNS_CH_CFG_ROLE (n : Nat) : Fld := ⟨A.SNS_CH_CFG n, 0, 3⟩
/-- SNS_CHn_CFG.OBJ (IMG). -/
def F.SNS_CH_CFG_OBJ (n : Nat) : Fld := ⟨A.SNS_CH_CFG n, 3, 7⟩
/-- SNS_CHn_CFG.CAPDLY (IMG). -/
def F.SNS_CH_CFG_CAPDLY (n : Nat) : Fld := ⟨A.SNS_CH_CFG n, 10, 5⟩
/-- SNS_CHn_CFG.CALSRC (IMG). -/
def F.SNS_CH_CFG_CALSRC (n : Nat) : Fld := ⟨A.SNS_CH_CFG n, 15, 1⟩
/-- SNS_CHn_CFG.MOSR (IMG). -/
def F.SNS_CH_CFG_MOSR (n : Nat) : Fld := ⟨A.SNS_CH_CFG n, 16, 6⟩
/-- SNS_CHn_CFG.FOSR (IMG). -/
def F.SNS_CH_CFG_FOSR (n : Nat) : Fld := ⟨A.SNS_CH_CFG n, 22, 2⟩
/-- SNS_CHn_CFG.FTGT (IMG). -/
def F.SNS_CH_CFG_FTGT (n : Nat) : Fld := ⟨A.SNS_CH_CFG n, 24, 2⟩
/-- The offset of SNS_CHn_PAIR (03). -/
def A.SNS_CH_PAIR (n : Nat) : Nat := 0x020004 + 64 * n
/-- SNS_CHn_PAIR.PARTNER (IMG). -/
def F.SNS_CH_PAIR_PARTNER (n : Nat) : Fld := ⟨A.SNS_CH_PAIR n, 0, 8⟩
/-- SNS_CHn_PAIR.PAIREN (IMG). -/
def F.SNS_CH_PAIR_PAIREN (n : Nat) : Fld := ⟨A.SNS_CH_PAIR n, 8, 1⟩
/-- SNS_CHn_PAIR.PRIMARY (IMG). -/
def F.SNS_CH_PAIR_PRIMARY (n : Nat) : Fld := ⟨A.SNS_CH_PAIR n, 9, 1⟩
/-- SNS_CHn_PAIR.DREACT (IMG). -/
def F.SNS_CH_PAIR_DREACT (n : Nat) : Fld := ⟨A.SNS_CH_PAIR n, 10, 2⟩
/-- SNS_CHn_PAIR.DCNT (IMG). -/
def F.SNS_CH_PAIR_DCNT (n : Nat) : Fld := ⟨A.SNS_CH_PAIR n, 12, 4⟩
/-- SNS_CHn_PAIR.DLIM (IMG). -/
def F.SNS_CH_PAIR_DLIM (n : Nat) : Fld := ⟨A.SNS_CH_PAIR n, 16, 16⟩
/-- The offset of SNS_CHn_LSB (03). -/
def A.SNS_CH_LSB (n : Nat) : Nat := 0x020008 + 64 * n
/-- SNS_CHn_LSB.LSB (IMG). -/
def F.SNS_CH_LSB_LSB (n : Nat) : Fld := ⟨A.SNS_CH_LSB n, 0, 32⟩
/-- The offset of SNS_CHn_FS (03). -/
def A.SNS_CH_FS (n : Nat) : Nat := 0x02000C + 64 * n
/-- SNS_CHn_FS.FS (RO). -/
def F.SNS_CH_FS_FS (n : Nat) : Fld := ⟨A.SNS_CH_FS n, 0, 32⟩
/-- The offset of SNS_CHn_GAIN (03). -/
def A.SNS_CH_GAIN (n : Nat) : Nat := 0x020010 + 64 * n
/-- SNS_CHn_GAIN.G (RO). -/
def F.SNS_CH_GAIN_G (n : Nat) : Fld := ⟨A.SNS_CH_GAIN n, 0, 24⟩
/-- The offset of SNS_CHn_OFS (03). -/
def A.SNS_CH_OFS (n : Nat) : Nat := 0x020014 + 64 * n
/-- SNS_CHn_OFS.OFS_ID (RO). -/
def F.SNS_CH_OFS_OFS_ID (n : Nat) : Fld := ⟨A.SNS_CH_OFS n, 0, 18⟩
/-- The offset of SNS_CHn_TRIM (03). -/
def A.SNS_CH_TRIM (n : Nat) : Nat := 0x020018 + 64 * n
/-- SNS_CHn_TRIM.TRIM (RO). -/
def F.SNS_CH_TRIM_TRIM (n : Nat) : Fld := ⟨A.SNS_CH_TRIM n, 0, 18⟩
/-- SNS_CHn_TRIM.SKIP (RO). -/
def F.SNS_CH_TRIM_SKIP (n : Nat) : Fld := ⟨A.SNS_CH_TRIM n, 29, 1⟩
/-- SNS_CHn_TRIM.DONE (RO). -/
def F.SNS_CH_TRIM_DONE (n : Nat) : Fld := ⟨A.SNS_CH_TRIM n, 30, 1⟩
/-- The offset of SNS_CHn_FTHPH (03). -/
def A.SNS_CH_FTHPH (n : Nat) : Nat := 0x02001C + 64 * n
/-- SNS_CHn_FTHPH.FTHPH (IMG). -/
def F.SNS_CH_FTHPH_FTHPH (n : Nat) : Fld := ⟨A.SNS_CH_FTHPH n, 0, 32⟩
/-- The offset of SNS_CHn_FTHPL (03). -/
def A.SNS_CH_FTHPL (n : Nat) : Nat := 0x020020 + 64 * n
/-- SNS_CHn_FTHPL.FTHPL (IMG). -/
def F.SNS_CH_FTHPL_FTHPL (n : Nat) : Fld := ⟨A.SNS_CH_FTHPL n, 0, 32⟩
/-- The offset of SNS_CHn_FTHR (03). -/
def A.SNS_CH_FTHR (n : Nat) : Nat := 0x020024 + 64 * n
/-- SNS_CHn_FTHR.FTH_HI (RO). -/
def F.SNS_CH_FTHR_FTH_HI (n : Nat) : Fld := ⟨A.SNS_CH_FTHR n, 0, 16⟩
/-- SNS_CHn_FTHR.FTH_LO (RO). -/
def F.SNS_CH_FTHR_FTH_LO (n : Nat) : Fld := ⟨A.SNS_CH_FTHR n, 16, 16⟩
/-- The offset of SNS_CHn_LIM (03). -/
def A.SNS_CH_LIM (n : Nat) : Nat := 0x020028 + 64 * n
/-- SNS_CHn_LIM.OVRLIM (IMG). -/
def F.SNS_CH_LIM_OVRLIM (n : Nat) : Fld := ⟨A.SNS_CH_LIM n, 0, 16⟩
/-- SNS_CHn_LIM.TRIMLIM (IMG). -/
def F.SNS_CH_LIM_TRIMLIM (n : Nat) : Fld := ⟨A.SNS_CH_LIM n, 16, 16⟩
/-- The offset of SNS_CHn_RES (03). -/
def A.SNS_CH_RES (n : Nat) : Nat := 0x02002C + 64 * n
/-- SNS_CHn_RES.VALUE (RO). -/
def F.SNS_CH_RES_VALUE (n : Nat) : Fld := ⟨A.SNS_CH_RES n, 0, 18⟩
/-- SNS_CHn_RES.VALID (RO). -/
def F.SNS_CH_RES_VALID (n : Nat) : Fld := ⟨A.SNS_CH_RES n, 18, 1⟩
/-- SNS_CHn_RES.OVR (RO). -/
def F.SNS_CH_RES_OVR (n : Nat) : Fld := ⟨A.SNS_CH_RES n, 19, 1⟩
/-- SNS_CHn_RES.STEP (RO). -/
def F.SNS_CH_RES_STEP (n : Nat) : Fld := ⟨A.SNS_CH_RES n, 20, 1⟩
/-- SNS_CHn_RES.STAMP (RO). -/
def F.SNS_CH_RES_STAMP (n : Nat) : Fld := ⟨A.SNS_CH_RES n, 24, 8⟩
/-- The offset of SNS_CHn_RAW (03). -/
def A.SNS_CH_RAW (n : Nat) : Nat := 0x020030 + 64 * n
/-- SNS_CHn_RAW.RAW (RO). -/
def F.SNS_CH_RAW_RAW (n : Nat) : Fld := ⟨A.SNS_CH_RAW n, 0, 18⟩
/-- The offset of SNS_CHn_STAT (03). -/
def A.SNS_CH_STAT (n : Nat) : Nat := 0x020034 + 64 * n
/-- SNS_CHn_STAT.FTRIP_HI (W1C). -/
def F.SNS_CH_STAT_FTRIP_HI (n : Nat) : Fld := ⟨A.SNS_CH_STAT n, 0, 1⟩
/-- SNS_CHn_STAT.FTRIP_LO (W1C). -/
def F.SNS_CH_STAT_FTRIP_LO (n : Nat) : Fld := ⟨A.SNS_CH_STAT n, 1, 1⟩
/-- SNS_CHn_STAT.OVR (W1C). -/
def F.SNS_CH_STAT_OVR (n : Nat) : Fld := ⟨A.SNS_CH_STAT n, 2, 1⟩
/-- SNS_CHn_STAT.STUCK (W1C). -/
def F.SNS_CH_STAT_STUCK (n : Nat) : Fld := ⟨A.SNS_CH_STAT n, 3, 1⟩
/-- SNS_CHn_STAT.PAIRFLT (W1C). -/
def F.SNS_CH_STAT_PAIRFLT (n : Nat) : Fld := ⟨A.SNS_CH_STAT n, 4, 1⟩
/-- SNS_CHn_STAT.TRIMFLT (W1C). -/
def F.SNS_CH_STAT_TRIMFLT (n : Nat) : Fld := ⟨A.SNS_CH_STAT n, 5, 1⟩
/-- SNS_CHn_STAT.DUPFLT (W1C). -/
def F.SNS_CH_STAT_DUPFLT (n : Nat) : Fld := ⟨A.SNS_CH_STAT n, 6, 1⟩
/-- SNS_CHn_STAT.FTRIPCNT (RO). -/
def F.SNS_CH_STAT_FTRIPCNT (n : Nat) : Fld := ⟨A.SNS_CH_STAT n, 16, 16⟩
/-- The offset of SNS_MCLKk_CFG (03). -/
def A.SNS_MCLK_CFG (k : Nat) : Nat := 0x023000 + 4 * k
/-- SNS_MCLKk_CFG.DIV (IMG). -/
def F.SNS_MCLK_CFG_DIV (k : Nat) : Fld := ⟨A.SNS_MCLK_CFG k, 0, 8⟩
/-- The offset of SNS_DCLg_CFG (03). -/
def A.SNS_DCL_CFG (g : Nat) : Nat := 0x023080 + 8 * g
/-- SNS_DCLg_CFG.VDLIM (IMG). -/
def F.SNS_DCL_CFG_VDLIM (g : Nat) : Fld := ⟨A.SNS_DCL_CFG g, 0, 16⟩
/-- SNS_DCLg_CFG.VDCNT (IMG). -/
def F.SNS_DCL_CFG_VDCNT (g : Nat) : Fld := ⟨A.SNS_DCL_CFG g, 16, 4⟩
/-- SNS_DCLg_CFG.VDREACT (IMG). -/
def F.SNS_DCL_CFG_VDREACT (g : Nat) : Fld := ⟨A.SNS_DCL_CFG g, 20, 2⟩
/-- SNS_DCLg_CFG.EN (IMG). -/
def F.SNS_DCL_CFG_EN (g : Nat) : Fld := ⟨A.SNS_DCL_CFG g, 31, 1⟩
/-- The offset of SNS_DCLg_STAT (03). -/
def A.SNS_DCL_STAT (g : Nat) : Nat := 0x023084 + 8 * g
/-- SNS_DCLg_STAT.VDFLT (W1C). -/
def F.SNS_DCL_STAT_VDFLT (g : Nat) : Fld := ⟨A.SNS_DCL_STAT g, 0, 1⟩
/-- SNS_DCLg_STAT.NCH (RO). -/
def F.SNS_DCL_STAT_NCH (g : Nat) : Fld := ⟨A.SNS_DCL_STAT g, 8, 8⟩
/-- SNS_DCLg_STAT.SPREAD (RO). -/
def F.SNS_DCL_STAT_SPREAD (g : Nat) : Fld := ⟨A.SNS_DCL_STAT g, 16, 16⟩
/-- The offset of SNS_KSETs_CFG (03). -/
def A.SNS_KSET_CFG (s : Nat) : Nat := 0x023100 + 8 * s
/-- SNS_KSETs_CFG.CHA (IMG). -/
def F.SNS_KSET_CFG_CHA (s : Nat) : Fld := ⟨A.SNS_KSET_CFG s, 0, 8⟩
/-- SNS_KSETs_CFG.CHB (IMG). -/
def F.SNS_KSET_CFG_CHB (s : Nat) : Fld := ⟨A.SNS_KSET_CFG s, 8, 8⟩
/-- SNS_KSETs_CFG.CHC (IMG). -/
def F.SNS_KSET_CFG_CHC (s : Nat) : Fld := ⟨A.SNS_KSET_CFG s, 16, 8⟩
/-- SNS_KSETs_CFG.KCNT (IMG). -/
def F.SNS_KSET_CFG_KCNT (s : Nat) : Fld := ⟨A.SNS_KSET_CFG s, 24, 4⟩
/-- SNS_KSETs_CFG.KREACT (IMG). -/
def F.SNS_KSET_CFG_KREACT (s : Nat) : Fld := ⟨A.SNS_KSET_CFG s, 28, 2⟩
/-- SNS_KSETs_CFG.EN (IMG). -/
def F.SNS_KSET_CFG_EN (s : Nat) : Fld := ⟨A.SNS_KSET_CFG s, 31, 1⟩
/-- The offset of SNS_KSETs_LIM (03). -/
def A.SNS_KSET_LIM (s : Nat) : Nat := 0x023104 + 8 * s
/-- SNS_KSETs_LIM.KLIM (IMG). -/
def F.SNS_KSET_LIM_KLIM (s : Nat) : Fld := ⟨A.SNS_KSET_LIM s, 0, 18⟩
/-- SNS_KSETs_LIM.KFLT (W1C). -/
def F.SNS_KSET_LIM_KFLT (s : Nat) : Fld := ⟨A.SNS_KSET_LIM s, 31, 1⟩
/-- The offset of POS_IFn_CFG (04). -/
def A.POS_IF_CFG (n : Nat) : Nat := 0x030000 + 256 * n
/-- POS_IFn_CFG.MODE (IMG). -/
def F.POS_IF_CFG_MODE (n : Nat) : Fld := ⟨A.POS_IF_CFG n, 0, 3⟩
/-- POS_IFn_CFG.INV (IMG). -/
def F.POS_IF_CFG_INV (n : Nat) : Fld := ⟨A.POS_IF_CFG n, 3, 1⟩
/-- POS_IFn_CFG.REPEN (IMG). -/
def F.POS_IF_CFG_REPEN (n : Nat) : Fld := ⟨A.POS_IF_CFG n, 4, 1⟩
/-- POS_IFn_CFG.ZMODE (IMG). -/
def F.POS_IF_CFG_ZMODE (n : Nat) : Fld := ⟨A.POS_IF_CFG n, 5, 2⟩
/-- POS_IFn_CFG.FILT (IMG). -/
def F.POS_IF_CFG_FILT (n : Nat) : Fld := ⟨A.POS_IF_CFG n, 7, 4⟩
/-- The offset of POS_IFn_CPR (04). -/
def A.POS_IF_CPR (n : Nat) : Nat := 0x030004 + 256 * n
/-- POS_IFn_CPR.CPR (IMG). -/
def F.POS_IF_CPR_CPR (n : Nat) : Fld := ⟨A.POS_IF_CPR n, 0, 25⟩
/-- The offset of POS_IFn_OBS (04). -/
def A.POS_IF_OBS (n : Nat) : Nat := 0x030008 + 256 * n
/-- POS_IFn_OBS.BW (IMG). -/
def F.POS_IF_OBS_BW (n : Nat) : Fld := ⟨A.POS_IF_OBS n, 0, 12⟩
/-- POS_IFn_OBS.REST (IMG). -/
def F.POS_IF_OBS_REST (n : Nat) : Fld := ⟨A.POS_IF_OBS n, 12, 8⟩
/-- The offset of POS_IFn_ELIM (04). -/
def A.POS_IF_ELIM (n : Nat) : Nat := 0x03000C + 256 * n
/-- POS_IFn_ELIM.ELIM (IMG). -/
def F.POS_IF_ELIM_ELIM (n : Nat) : Fld := ⟨A.POS_IF_ELIM n, 0, 24⟩
/-- The offset of POS_IFn_FLTCFG (04). -/
def A.POS_IF_FLTCFG (n : Nat) : Nat := 0x030010 + 256 * n
/-- POS_IFn_FLTCFG.BADLIM (IMG). -/
def F.POS_IF_FLTCFG_BADLIM (n : Nat) : Fld := ⟨A.POS_IF_FLTCFG n, 0, 4⟩
/-- POS_IFn_FLTCFG.SEQLIM (IMG). -/
def F.POS_IF_FLTCFG_SEQLIM (n : Nat) : Fld := ⟨A.POS_IF_FLTCFG n, 4, 4⟩
/-- POS_IFn_FLTCFG.HALLQ (IMG). -/
def F.POS_IF_FLTCFG_HALLQ (n : Nat) : Fld := ⟨A.POS_IF_FLTCFG n, 8, 8⟩
/-- POS_IFn_FLTCFG.AMPQ (IMG). -/
def F.POS_IF_FLTCFG_AMPQ (n : Nat) : Fld := ⟨A.POS_IF_FLTCFG n, 16, 4⟩
/-- POS_IFn_FLTCFG.OBSQ (IMG). -/
def F.POS_IF_FLTCFG_OBSQ (n : Nat) : Fld := ⟨A.POS_IF_FLTCFG n, 20, 4⟩
/-- POS_IFn_FLTCFG.ZTOL (IMG). -/
def F.POS_IF_FLTCFG_ZTOL (n : Nat) : Fld := ⟨A.POS_IF_FLTCFG n, 24, 8⟩
/-- The offset of POS_IFn_ZOFS (04). -/
def A.POS_IF_ZOFS (n : Nat) : Nat := 0x030014 + 256 * n
/-- POS_IFn_ZOFS.ZOFS (IMG). -/
def F.POS_IF_ZOFS_ZOFS (n : Nat) : Fld := ⟨A.POS_IF_ZOFS n, 0, 24⟩
/-- The offset of POS_IFn_SSI0 (04). -/
def A.POS_IF_SSI0 (n : Nat) : Nat := 0x030018 + 256 * n
/-- POS_IFn_SSI0.CLKDIV (IMG). -/
def F.POS_IF_SSI0_CLKDIV (n : Nat) : Fld := ⟨A.POS_IF_SSI0 n, 0, 8⟩
/-- POS_IFn_SSI0.SDLY (IMG). -/
def F.POS_IF_SSI0_SDLY (n : Nat) : Fld := ⟨A.POS_IF_SSI0 n, 8, 8⟩
/-- POS_IFn_SSI0.SKIP (IMG). -/
def F.POS_IF_SSI0_SKIP (n : Nat) : Fld := ⟨A.POS_IF_SSI0 n, 16, 4⟩
/-- POS_IFn_SSI0.WLEN (IMG). -/
def F.POS_IF_SSI0_WLEN (n : Nat) : Fld := ⟨A.POS_IF_SSI0 n, 20, 6⟩
/-- POS_IFn_SSI0.GRAY (IMG). -/
def F.POS_IF_SSI0_GRAY (n : Nat) : Fld := ⟨A.POS_IF_SSI0 n, 26, 1⟩
/-- POS_IFn_SSI0.ERREN (IMG). -/
def F.POS_IF_SSI0_ERREN (n : Nat) : Fld := ⟨A.POS_IF_SSI0 n, 27, 1⟩
/-- POS_IFn_SSI0.ERRPOL (IMG). -/
def F.POS_IF_SSI0_ERRPOL (n : Nat) : Fld := ⟨A.POS_IF_SSI0 n, 28, 1⟩
/-- POS_IFn_SSI0.CRCINV (IMG). -/
def F.POS_IF_SSI0_CRCINV (n : Nat) : Fld := ⟨A.POS_IF_SSI0 n, 29, 1⟩
/-- The offset of POS_IFn_SSI1 (04). -/
def A.POS_IF_SSI1 (n : Nat) : Nat := 0x03001C + 256 * n
/-- POS_IFn_SSI1.MTBITS (IMG). -/
def F.POS_IF_SSI1_MTBITS (n : Nat) : Fld := ⟨A.POS_IF_SSI1 n, 0, 5⟩
/-- POS_IFn_SSI1.STBITS (IMG). -/
def F.POS_IF_SSI1_STBITS (n : Nat) : Fld := ⟨A.POS_IF_SSI1 n, 5, 6⟩
/-- POS_IFn_SSI1.ERRPOS (IMG). -/
def F.POS_IF_SSI1_ERRPOS (n : Nat) : Fld := ⟨A.POS_IF_SSI1 n, 11, 6⟩
/-- POS_IFn_SSI1.CRCLEN (IMG). -/
def F.POS_IF_SSI1_CRCLEN (n : Nat) : Fld := ⟨A.POS_IF_SSI1 n, 17, 5⟩
/-- POS_IFn_SSI1.TOUT (IMG). -/
def F.POS_IF_SSI1_TOUT (n : Nat) : Fld := ⟨A.POS_IF_SSI1 n, 22, 6⟩
/-- The offset of POS_IFn_SSI2 (04). -/
def A.POS_IF_SSI2 (n : Nat) : Nat := 0x030020 + 256 * n
/-- POS_IFn_SSI2.POLY (IMG). -/
def F.POS_IF_SSI2_POLY (n : Nat) : Fld := ⟨A.POS_IF_SSI2 n, 0, 16⟩
/-- POS_IFn_SSI2.INIT (IMG). -/
def F.POS_IF_SSI2_INIT (n : Nat) : Fld := ⟨A.POS_IF_SSI2 n, 16, 16⟩
/-- The offset of POS_IFn_SSI3 (04). -/
def A.POS_IF_SSI3 (n : Nat) : Nat := 0x030024 + 256 * n
/-- POS_IFn_SSI3.RPER (IMG). -/
def F.POS_IF_SSI3_RPER (n : Nat) : Fld := ⟨A.POS_IF_SSI3 n, 0, 8⟩
/-- POS_IFn_SSI3.LAT (IMG). -/
def F.POS_IF_SSI3_LAT (n : Nat) : Fld := ⟨A.POS_IF_SSI3 n, 8, 8⟩
/-- The offset of POS_IFn_RES0 (04). -/
def A.POS_IF_RES0 (n : Nat) : Nat := 0x030028 + 256 * n
/-- POS_IFn_RES0.EXCDIV (IMG). -/
def F.POS_IF_RES0_EXCDIV (n : Nat) : Fld := ⟨A.POS_IF_RES0 n, 0, 13⟩
/-- POS_IFn_RES0.EXCAMP (IMG). -/
def F.POS_IF_RES0_EXCAMP (n : Nat) : Fld := ⟨A.POS_IF_RES0 n, 16, 8⟩
/-- POS_IFn_RES0.PHASE (IMG). -/
def F.POS_IF_RES0_PHASE (n : Nat) : Fld := ⟨A.POS_IF_RES0 n, 24, 8⟩
/-- The offset of POS_IFn_RES1 (04). -/
def A.POS_IF_RES1 (n : Nat) : Nat := 0x03002C + 256 * n
/-- POS_IFn_RES1.RPOLE (IMG). -/
def F.POS_IF_RES1_RPOLE (n : Nat) : Fld := ⟨A.POS_IF_RES1 n, 0, 4⟩
/-- POS_IFn_RES1.RESBITS (IMG). -/
def F.POS_IF_RES1_RESBITS (n : Nat) : Fld := ⟨A.POS_IF_RES1 n, 4, 5⟩
/-- POS_IFn_RES1.AMPLO (IMG). -/
def F.POS_IF_RES1_AMPLO (n : Nat) : Fld := ⟨A.POS_IF_RES1 n, 16, 8⟩
/-- POS_IFn_RES1.AMPHI (IMG). -/
def F.POS_IF_RES1_AMPHI (n : Nat) : Fld := ⟨A.POS_IF_RES1 n, 24, 8⟩
/-- The offset of POS_IFn_NP (04). -/
def A.POS_IF_NP (n : Nat) : Nat := 0x030040 + 256 * n
/-- POS_IFn_NP.CNT (RO). -/
def F.POS_IF_NP_CNT (n : Nat) : Fld := ⟨A.POS_IF_NP n, 0, 24⟩
/-- The offset of POS_IFn_NPT (04). -/
def A.POS_IF_NPT (n : Nat) : Nat := 0x030044 + 256 * n
/-- POS_IFn_NPT.TURN (RO). -/
def F.POS_IF_NPT_TURN (n : Nat) : Fld := ⟨A.POS_IF_NPT n, 0, 16⟩
/-- The offset of POS_IFn_ANG (04). -/
def A.POS_IF_ANG (n : Nat) : Nat := 0x030048 + 256 * n
/-- POS_IFn_ANG.ANG (RO). -/
def F.POS_IF_ANG_ANG (n : Nat) : Fld := ⟨A.POS_IF_ANG n, 0, 32⟩
/-- The offset of POS_IFn_TURN (04). -/
def A.POS_IF_TURN (n : Nat) : Nat := 0x03004C + 256 * n
/-- POS_IFn_TURN.TURN (RO). -/
def F.POS_IF_TURN_TURN (n : Nat) : Fld := ⟨A.POS_IF_TURN n, 0, 16⟩
/-- The offset of POS_IFn_SPD (04). -/
def A.POS_IF_SPD (n : Nat) : Nat := 0x030050 + 256 * n
/-- POS_IFn_SPD.SPD (RO). -/
def F.POS_IF_SPD_SPD (n : Nat) : Fld := ⟨A.POS_IF_SPD n, 0, 32⟩
/-- The offset of POS_IFn_ACC (04). -/
def A.POS_IF_ACC (n : Nat) : Nat := 0x030054 + 256 * n
/-- POS_IFn_ACC.ACC (RO). -/
def F.POS_IF_ACC_ACC (n : Nat) : Fld := ⟨A.POS_IF_ACC n, 0, 32⟩
/-- The offset of POS_IFn_STAT (04). -/
def A.POS_IF_STAT (n : Nat) : Nat := 0x030058 + 256 * n
/-- POS_IFn_STAT.POSVALID (RO). -/
def F.POS_IF_STAT_POSVALID (n : Nat) : Fld := ⟨A.POS_IF_STAT n, 0, 1⟩
/-- POS_IFn_STAT.SPDVALID (RO). -/
def F.POS_IF_STAT_SPDVALID (n : Nat) : Fld := ⟨A.POS_IF_STAT n, 1, 1⟩
/-- POS_IFn_STAT.REST (RO). -/
def F.POS_IF_STAT_REST (n : Nat) : Fld := ⟨A.POS_IF_STAT n, 2, 1⟩
/-- POS_IFn_STAT.REV (RO). -/
def F.POS_IF_STAT_REV (n : Nat) : Fld := ⟨A.POS_IF_STAT n, 3, 1⟩
/-- POS_IFn_STAT.DIR (RO). -/
def F.POS_IF_STAT_DIR (n : Nat) : Fld := ⟨A.POS_IF_STAT n, 4, 2⟩
/-- POS_IFn_STAT.REFVALID (RO). -/
def F.POS_IF_STAT_REFVALID (n : Nat) : Fld := ⟨A.POS_IF_STAT n, 6, 1⟩
/-- POS_IFn_STAT.FAILED (RO). -/
def F.POS_IF_STAT_FAILED (n : Nat) : Fld := ⟨A.POS_IF_STAT n, 7, 1⟩
/-- POS_IFn_STAT.TURNREST (RO). -/
def F.POS_IF_STAT_TURNREST (n : Nat) : Fld := ⟨A.POS_IF_STAT n, 8, 1⟩
/-- The offset of POS_IFn_ERR (04). -/
def A.POS_IF_ERR (n : Nat) : Nat := 0x03005C + 256 * n
/-- POS_IFn_ERR.E (RO). -/
def F.POS_IF_ERR_E (n : Nat) : Fld := ⟨A.POS_IF_ERR n, 0, 32⟩
/-- The offset of POS_IFn_AMP (04). -/
def A.POS_IF_AMP (n : Nat) : Nat := 0x030060 + 256 * n
/-- POS_IFn_AMP.AMP (RO). -/
def F.POS_IF_AMP_AMP (n : Nat) : Fld := ⟨A.POS_IF_AMP n, 0, 16⟩
/-- The offset of POS_IFn_FLT (04). -/
def A.POS_IF_FLT (n : Nat) : Nat := 0x030064 + 256 * n
/-- POS_IFn_FLT.CRC (W1C). -/
def F.POS_IF_FLT_CRC (n : Nat) : Fld := ⟨A.POS_IF_FLT n, 0, 1⟩
/-- POS_IFn_FLT.ERRBIT (W1C). -/
def F.POS_IF_FLT_ERRBIT (n : Nat) : Fld := ⟨A.POS_IF_FLT n, 1, 1⟩
/-- POS_IFn_FLT.TIMEOUT (W1C). -/
def F.POS_IF_FLT_TIMEOUT (n : Nat) : Fld := ⟨A.POS_IF_FLT n, 2, 1⟩
/-- POS_IFn_FLT.SEQ (W1C). -/
def F.POS_IF_FLT_SEQ (n : Nat) : Fld := ⟨A.POS_IF_FLT n, 3, 1⟩
/-- POS_IFn_FLT.HALL (W1C). -/
def F.POS_IF_FLT_HALL (n : Nat) : Fld := ⟨A.POS_IF_FLT n, 4, 1⟩
/-- POS_IFn_FLT.AMPL (W1C). -/
def F.POS_IF_FLT_AMPL (n : Nat) : Fld := ⟨A.POS_IF_FLT n, 5, 1⟩
/-- POS_IFn_FLT.OBS (W1C). -/
def F.POS_IF_FLT_OBS (n : Nat) : Fld := ⟨A.POS_IF_FLT n, 6, 1⟩
/-- POS_IFn_FLT.ZMIS (W1C). -/
def F.POS_IF_FLT_ZMIS (n : Nat) : Fld := ⟨A.POS_IF_FLT n, 7, 1⟩
/-- POS_IFn_FLT.FAILED (W1C). -/
def F.POS_IF_FLT_FAILED (n : Nat) : Fld := ⟨A.POS_IF_FLT n, 8, 1⟩
/-- The offset of POS_IFn_EVCNT (04). -/
def A.POS_IF_EVCNT (n : Nat) : Nat := 0x030068 + 256 * n
/-- POS_IFn_EVCNT.BADCNT (RO). -/
def F.POS_IF_EVCNT_BADCNT (n : Nat) : Fld := ⟨A.POS_IF_EVCNT n, 0, 8⟩
/-- POS_IFn_EVCNT.SEQCNT (W1C). -/
def F.POS_IF_EVCNT_SEQCNT (n : Nat) : Fld := ⟨A.POS_IF_EVCNT n, 8, 8⟩
/-- POS_IFn_EVCNT.HALLCNT (RO). -/
def F.POS_IF_EVCNT_HALLCNT (n : Nat) : Fld := ⟨A.POS_IF_EVCNT n, 16, 8⟩
/-- POS_IFn_EVCNT.AMPCNT (RO). -/
def F.POS_IF_EVCNT_AMPCNT (n : Nat) : Fld := ⟨A.POS_IF_EVCNT n, 24, 8⟩
/-- The offset of POS_CMPc_CFG (04). -/
def A.POS_CMP_CFG (c : Nat) : Nat := 0x031000 + 32 * c
/-- POS_CMPc_CFG.IF (IMG). -/
def F.POS_CMP_CFG_IF (c : Nat) : Fld := ⟨A.POS_CMP_CFG c, 0, 4⟩
/-- POS_CMPc_CFG.IRQEN (IMG). -/
def F.POS_CMP_CFG_IRQEN (c : Nat) : Fld := ⟨A.POS_CMP_CFG c, 4, 1⟩
/-- POS_CMPc_CFG.EN (IMG). -/
def F.POS_CMP_CFG_EN (c : Nat) : Fld := ⟨A.POS_CMP_CFG c, 31, 1⟩
/-- The offset of POS_CMPc_TURN (04). -/
def A.POS_CMP_TURN (c : Nat) : Nat := 0x031004 + 32 * c
/-- POS_CMPc_TURN.TURN (RW). -/
def F.POS_CMP_TURN_TURN (c : Nat) : Fld := ⟨A.POS_CMP_TURN c, 0, 16⟩
/-- The offset of POS_CMPc_POS (04). -/
def A.POS_CMP_POS (c : Nat) : Nat := 0x031008 + 32 * c
/-- POS_CMPc_POS.POS (RW). -/
def F.POS_CMP_POS_POS (c : Nat) : Fld := ⟨A.POS_CMP_POS c, 0, 24⟩
/-- The offset of POS_CMPc_STAT (04). -/
def A.POS_CMP_STAT (c : Nat) : Nat := 0x03100C + 32 * c
/-- POS_CMPc_STAT.FIRED (W1C). -/
def F.POS_CMP_STAT_FIRED (c : Nat) : Fld := ⟨A.POS_CMP_STAT c, 0, 1⟩
/-- POS_CMPc_STAT.PASSED (RO). -/
def F.POS_CMP_STAT_PASSED (c : Nat) : Fld := ⟨A.POS_CMP_STAT c, 1, 1⟩
/-- POS_CMPc_STAT.ARMED (RO). -/
def F.POS_CMP_STAT_ARMED (c : Nat) : Fld := ⟨A.POS_CMP_STAT c, 2, 1⟩
/-- POS_CMPc_STAT.FDIR (RO). -/
def F.POS_CMP_STAT_FDIR (c : Nat) : Fld := ⟨A.POS_CMP_STAT c, 3, 1⟩
/-- POS_CMPc_STAT.FIRECNT (RO). -/
def F.POS_CMP_STAT_FIRECNT (c : Nat) : Fld := ⟨A.POS_CMP_STAT c, 16, 16⟩
/-- The offset of POS_CMPc_STAMP (04). -/
def A.POS_CMP_STAMP (c : Nat) : Nat := 0x031010 + 32 * c
/-- POS_CMPc_STAMP.PHASE (RO). -/
def F.POS_CMP_STAMP_PHASE (c : Nat) : Fld := ⟨A.POS_CMP_STAMP c, 0, 18⟩
/-- POS_CMPc_STAMP.COUNT (RO). -/
def F.POS_CMP_STAMP_COUNT (c : Nat) : Fld := ⟨A.POS_CMP_STAMP c, 18, 14⟩
/-- The offset of LE_TEAMt_LAT (05). -/
def A.LE_TEAM_LAT (t : Nat) : Nat := 0x040000 + 4096 * t
/-- LE_TEAMt_LAT.LAT (RO). -/
def F.LE_TEAM_LAT_LAT (t : Nat) : Fld := ⟨A.LE_TEAM_LAT t, 0, 18⟩
/-- The offset of LE_TEAMt_DLY (05). -/
def A.LE_TEAM_DLY (t : Nat) : Nat := 0x040004 + 4096 * t
/-- LE_TEAMt_DLY.D (RO). -/
def F.LE_TEAM_DLY_D (t : Nat) : Fld := ⟨A.LE_TEAM_DLY t, 0, 18⟩
/-- The offset of LE_TEAMt_COST (05). -/
def A.LE_TEAM_COST (t : Nat) : Nat := 0x040008 + 4096 * t
/-- LE_TEAMt_COST.K (RO). -/
def F.LE_TEAM_COST_K (t : Nat) : Fld := ⟨A.LE_TEAM_COST t, 0, 12⟩
/-- The offset of LE_TEAMt_STAT (05). -/
def A.LE_TEAM_STAT (t : Nat) : Nat := 0x04000C + 4096 * t
/-- LE_TEAMt_STAT.ECCCNT (RO). -/
def F.LE_TEAM_STAT_ECCCNT (t : Nat) : Fld := ⟨A.LE_TEAM_STAT t, 0, 16⟩
/-- LE_TEAMt_STAT.UNCOR (W1C). -/
def F.LE_TEAM_STAT_UNCOR (t : Nat) : Fld := ⟨A.LE_TEAM_STAT t, 16, 1⟩
/-- The offset of LE_AXa_CFG (05). -/
def A.LE_AX_CFG (a : Nat) : Nat := 0x040100 + 0x1000 * (a / 4) + 0x100 * (a % 4)
/-- LE_AXa_CFG.TYPE (IMG). -/
def F.LE_AX_CFG_TYPE (a : Nat) : Fld := ⟨A.LE_AX_CFG a, 0, 4⟩
/-- LE_AXa_CFG.LAW (IMG). -/
def F.LE_AX_CFG_LAW (a : Nat) : Fld := ⟨A.LE_AX_CFG a, 4, 1⟩
/-- LE_AXa_CFG.MACH (IMG). -/
def F.LE_AX_CFG_MACH (a : Nat) : Fld := ⟨A.LE_AX_CFG a, 5, 2⟩
/-- LE_AXa_CFG.POSIF (IMG). -/
def F.LE_AX_CFG_POSIF (a : Nat) : Fld := ⟨A.LE_AX_CFG a, 7, 4⟩
/-- LE_AXa_CFG.POSEN (IMG). -/
def F.LE_AX_CFG_POSEN (a : Nat) : Fld := ⟨A.LE_AX_CFG a, 11, 1⟩
/-- LE_AXa_CFG.DCL (IMG). -/
def F.LE_AX_CFG_DCL (a : Nat) : Fld := ⟨A.LE_AX_CFG a, 12, 2⟩
/-- LE_AXa_CFG.SLEN (IMG). -/
def F.LE_AX_CFG_SLEN (a : Nat) : Fld := ⟨A.LE_AX_CFG a, 14, 1⟩
/-- LE_AXa_CFG.FWEN (IMG). -/
def F.LE_AX_CFG_FWEN (a : Nat) : Fld := ⟨A.LE_AX_CFG a, 15, 1⟩
/-- LE_AXa_CFG.GSEN (IMG). -/
def F.LE_AX_CFG_GSEN (a : Nat) : Fld := ⟨A.LE_AX_CFG a, 16, 1⟩
/-- LE_AXa_CFG.SPDEN (IMG). -/
def F.LE_AX_CFG_SPDEN (a : Nat) : Fld := ⟨A.LE_AX_CFG a, 17, 1⟩
/-- LE_AXa_CFG.PLEN (IMG). -/
def F.LE_AX_CFG_PLEN (a : Nat) : Fld := ⟨A.LE_AX_CFG a, 18, 1⟩
/-- LE_AXa_CFG.SPDDIV (IMG). -/
def F.LE_AX_CFG_SPDDIV (a : Nat) : Fld := ⟨A.LE_AX_CFG a, 19, 2⟩
/-- LE_AXa_CFG.PLDIV (IMG). -/
def F.LE_AX_CFG_PLDIV (a : Nat) : Fld := ⟨A.LE_AX_CFG a, 21, 2⟩
/-- LE_AXa_CFG.SHIFT (IMG). -/
def F.LE_AX_CFG_SHIFT (a : Nat) : Fld := ⟨A.LE_AX_CFG a, 23, 1⟩
/-- LE_AXa_CFG.LINK (IMG). -/
def F.LE_AX_CFG_LINK (a : Nat) : Fld := ⟨A.LE_AX_CFG a, 24, 5⟩
/-- The offset of LE_AXa_LEGS (05). -/
def A.LE_AX_LEGS (a : Nat) : Nat := 0x040104 + 0x1000 * (a / 4) + 0x100 * (a % 4)
/-- LE_AXa_LEGS.LEG0–LEG5 (IMG). -/
def F.LE_AX_LEGS_LEG0_LEG5 (a : Nat) : Fld := ⟨A.LE_AX_LEGS a, 0, 24⟩
/-- LE_AXa_LEGS.NLEG (IMG). -/
def F.LE_AX_LEGS_NLEG (a : Nat) : Fld := ⟨A.LE_AX_LEGS a, 24, 3⟩
/-- The offset of LE_AXa_MOTOR (05). -/
def A.LE_AX_MOTOR (a : Nat) : Nat := 0x040108 + 0x1000 * (a / 4) + 0x100 * (a % 4)
/-- LE_AXa_MOTOR.POLEP (IMG). -/
def F.LE_AX_MOTOR_POLEP (a : Nat) : Fld := ⟨A.LE_AX_MOTOR a, 0, 7⟩
/-- LE_AXa_MOTOR.TEMPCH (IMG). -/
def F.LE_AX_MOTOR_TEMPCH (a : Nat) : Fld := ⟨A.LE_AX_MOTOR a, 8, 8⟩
/-- LE_AXa_MOTOR.TEMPEN (IMG). -/
def F.LE_AX_MOTOR_TEMPEN (a : Nat) : Fld := ⟨A.LE_AX_MOTOR a, 16, 1⟩
/-- The offset of LE_AXa_GS (05). -/
def A.LE_AX_GS (a : Nat) : Nat := 0x04010C + 0x1000 * (a / 4) + 0x100 * (a % 4)
/-- LE_AXa_GS.VARX (IMG). -/
def F.LE_AX_GS_VARX (a : Nat) : Fld := ⟨A.LE_AX_GS a, 0, 2⟩
/-- LE_AXa_GS.VARY (IMG). -/
def F.LE_AX_GS_VARY (a : Nat) : Fld := ⟨A.LE_AX_GS a, 2, 2⟩
/-- LE_AXa_GS.NX (IMG). -/
def F.LE_AX_GS_NX (a : Nat) : Fld := ⟨A.LE_AX_GS a, 4, 4⟩
/-- LE_AXa_GS.NY (IMG). -/
def F.LE_AX_GS_NY (a : Nat) : Fld := ⟨A.LE_AX_GS a, 8, 4⟩
/-- The offset of LE_AXa_SPAN (05). -/
def A.LE_AX_SPAN (a : Nat) : Nat := 0x040110 + 0x1000 * (a / 4) + 0x100 * (a % 4)
/-- LE_AXa_SPAN.PDEV (IMG). -/
def F.LE_AX_SPAN_PDEV (a : Nat) : Fld := ⟨A.LE_AX_SPAN a, 0, 6⟩
/-- LE_AXa_SPAN.PAXIS (IMG). -/
def F.LE_AX_SPAN_PAXIS (a : Nat) : Fld := ⟨A.LE_AX_SPAN a, 6, 5⟩
/-- The offset of LE_AXa_STAT (05). -/
def A.LE_AX_STAT (a : Nat) : Nat := 0x040120 + 0x1000 * (a / 4) + 0x100 * (a % 4)
/-- LE_AXa_STAT.VLIM (RO). -/
def F.LE_AX_STAT_VLIM (a : Nat) : Fld := ⟨A.LE_AX_STAT a, 0, 1⟩
/-- LE_AXa_STAT.ILIM (RO). -/
def F.LE_AX_STAT_ILIM (a : Nat) : Fld := ⟨A.LE_AX_STAT a, 1, 1⟩
/-- LE_AXa_STAT.TLIM (RO). -/
def F.LE_AX_STAT_TLIM (a : Nat) : Fld := ⟨A.LE_AX_STAT a, 2, 1⟩
/-- LE_AXa_STAT.SATD (RO). -/
def F.LE_AX_STAT_SATD (a : Nat) : Fld := ⟨A.LE_AX_STAT a, 3, 1⟩
/-- LE_AXa_STAT.SATQ (RO). -/
def F.LE_AX_STAT_SATQ (a : Nat) : Fld := ⟨A.LE_AX_STAT a, 4, 1⟩
/-- LE_AXa_STAT.FWACT (RO). -/
def F.LE_AX_STAT_FWACT (a : Nat) : Fld := ⟨A.LE_AX_STAT a, 5, 1⟩
/-- LE_AXa_STAT.GSOUT (RO). -/
def F.LE_AX_STAT_GSOUT (a : Nat) : Fld := ⟨A.LE_AX_STAT a, 6, 1⟩
/-- LE_AXa_STAT.RAMPACT (RO). -/
def F.LE_AX_STAT_RAMPACT (a : Nat) : Fld := ⟨A.LE_AX_STAT a, 7, 1⟩
/-- LE_AXa_STAT.DWELL (RO). -/
def F.LE_AX_STAT_DWELL (a : Nat) : Fld := ⟨A.LE_AX_STAT a, 8, 1⟩
/-- LE_AXa_STAT.SPANHOLD (RO). -/
def F.LE_AX_STAT_SPANHOLD (a : Nat) : Fld := ⟨A.LE_AX_STAT a, 9, 1⟩
/-- LE_AXa_STAT.CELLX (RO). -/
def F.LE_AX_STAT_CELLX (a : Nat) : Fld := ⟨A.LE_AX_STAT a, 12, 3⟩
/-- LE_AXa_STAT.CELLY (RO). -/
def F.LE_AX_STAT_CELLY (a : Nat) : Fld := ⟨A.LE_AX_STAT a, 16, 3⟩
/-- The offset of LE_AXa_FLT (05). -/
def A.LE_AX_FLT (a : Nat) : Nat := 0x040124 + 0x1000 * (a / 4) + 0x100 * (a % 4)
/-- LE_AXa_FLT.NONFIN (W1C). -/
def F.LE_AX_FLT_NONFIN (a : Nat) : Fld := ⟨A.LE_AX_FLT a, 0, 1⟩
/-- LE_AXa_FLT.SPINVAL (W1C). -/
def F.LE_AX_FLT_SPINVAL (a : Nat) : Fld := ⟨A.LE_AX_FLT a, 1, 1⟩
/-- LE_AXa_FLT.SPANLOST (W1C). -/
def F.LE_AX_FLT_SPANLOST (a : Nat) : Fld := ⟨A.LE_AX_FLT a, 2, 1⟩
/-- LE_AXa_FLT.SPANHOP (W1C). -/
def F.LE_AX_FLT_SPANHOP (a : Nat) : Fld := ⟨A.LE_AX_FLT a, 3, 1⟩
/-- The offset of LE_AXa_SPANSTAT (05). -/
def A.LE_AX_SPANSTAT (a : Nat) : Nat := 0x040128 + 0x1000 * (a / 4) + 0x100 * (a % 4)
/-- LE_AXa_SPANSTAT.LOSTCNT (RO). -/
def F.LE_AX_SPANSTAT_LOSTCNT (a : Nat) : Fld := ⟨A.LE_AX_SPANSTAT a, 0, 16⟩
/-- LE_AXa_SPANSTAT.CONSEC (RO). -/
def F.LE_AX_SPANSTAT_CONSEC (a : Nat) : Fld := ⟨A.LE_AX_SPANSTAT a, 16, 2⟩
/-- The offset of LE_AXa_MODE (07). -/
def A.LE_AX_MODE (a : Nat) : Nat := 0x040130 + 0x1000 * (a / 4) + 0x100 * (a % 4)
/-- LE_AXa_MODE.REQ (RW). -/
def F.LE_AX_MODE_REQ (a : Nat) : Fld := ⟨A.LE_AX_MODE a, 0, 3⟩
/-- The offset of LE_AXa_STATE (07). -/
def A.LE_AX_STATE (a : Nat) : Nat := 0x040134 + 0x1000 * (a / 4) + 0x100 * (a % 4)
/-- LE_AXa_STATE.STATE (RO). -/
def F.LE_AX_STATE_STATE (a : Nat) : Fld := ⟨A.LE_AX_STATE a, 0, 4⟩
/-- LE_AXa_STATE.SAFEVAR (RO). -/
def F.LE_AX_STATE_SAFEVAR (a : Nat) : Fld := ⟨A.LE_AX_STATE a, 4, 2⟩
/-- LE_AXa_STATE.SCAUSE (RO). -/
def F.LE_AX_STATE_SCAUSE (a : Nat) : Fld := ⟨A.LE_AX_STATE a, 6, 4⟩
/-- LE_AXa_STATE.STEP (RO). -/
def F.LE_AX_STATE_STEP (a : Nat) : Fld := ⟨A.LE_AX_STATE a, 10, 3⟩
/-- LE_AXa_STATE.ANGSRC (RO). -/
def F.LE_AX_STATE_ANGSRC (a : Nat) : Fld := ⟨A.LE_AX_STATE a, 13, 2⟩
/-- LE_AXa_STATE.ESTCONV (RO). -/
def F.LE_AX_STATE_ESTCONV (a : Nat) : Fld := ⟨A.LE_AX_STATE a, 15, 1⟩
/-- LE_AXa_STATE.STOPPING (RO). -/
def F.LE_AX_STATE_STOPPING (a : Nat) : Fld := ⟨A.LE_AX_STATE a, 16, 1⟩
/-- LE_AXa_STATE.FALLBACK (RO). -/
def F.LE_AX_STATE_FALLBACK (a : Nat) : Fld := ⟨A.LE_AX_STATE a, 17, 1⟩
/-- LE_AXa_STATE.OFSVALID (RO). -/
def F.LE_AX_STATE_OFSVALID (a : Nat) : Fld := ⟨A.LE_AX_STATE a, 18, 1⟩
/-- LE_AXa_STATE.CAUGHT (RO). -/
def F.LE_AX_STATE_CAUGHT (a : Nat) : Fld := ⟨A.LE_AX_STATE a, 19, 1⟩
/-- LE_AXa_STATE.LOCKRSN (RO). -/
def F.LE_AX_STATE_LOCKRSN (a : Nat) : Fld := ⟨A.LE_AX_STATE a, 20, 3⟩
/-- The offset of LE_AXa_COMM (07). -/
def A.LE_AX_COMM (a : Nat) : Nat := 0x040138 + 0x1000 * (a / 4) + 0x100 * (a % 4)
/-- LE_AXa_COMM.OFS (RO). -/
def F.LE_AX_COMM_OFS (a : Nat) : Fld := ⟨A.LE_AX_COMM a, 0, 32⟩
/-- The offset of LE_AXa_SFLT (07). -/
def A.LE_AX_SFLT (a : Nat) : Nat := 0x04013C + 0x1000 * (a / 4) + 0x100 * (a % 4)
/-- LE_AXa_SFLT.STARTFLT (W1C). -/
def F.LE_AX_SFLT_STARTFLT (a : Nat) : Fld := ⟨A.LE_AX_SFLT a, 0, 1⟩
/-- LE_AXa_SFLT.BRKFLT (W1C). -/
def F.LE_AX_SFLT_BRKFLT (a : Nat) : Fld := ⟨A.LE_AX_SFLT a, 1, 1⟩
/-- LE_AXa_SFLT.ESTLOST (W1C). -/
def F.LE_AX_SFLT_ESTLOST (a : Nat) : Fld := ⟨A.LE_AX_SFLT a, 2, 1⟩
/-- LE_AXa_SFLT.SENSFB (W1C). -/
def F.LE_AX_SFLT_SENSFB (a : Nat) : Fld := ⟨A.LE_AX_SFLT a, 3, 1⟩
/-- The offset of LE_DCLg_DCFG (07). -/
def A.LE_DCL_DCFG (g : Nat) : Nat := 0x048000 + 16 * g
/-- LE_DCLg_DCFG.PATH (IMG). -/
def F.LE_DCL_DCFG_PATH (g : Nat) : Fld := ⟨A.LE_DCL_DCFG g, 0, 2⟩
/-- LE_DCLg_DCFG.DAX (IMG). -/
def F.LE_DCL_DCFG_DAX (g : Nat) : Fld := ⟨A.LE_DCL_DCFG g, 2, 5⟩
/-- LE_DCLg_DCFG.TRGHOST (IMG). -/
def F.LE_DCL_DCFG_TRGHOST (g : Nat) : Fld := ⟨A.LE_DCL_DCFG g, 7, 1⟩
/-- LE_DCLg_DCFG.TRGCRASH (IMG). -/
def F.LE_DCL_DCFG_TRGCRASH (g : Nat) : Fld := ⟨A.LE_DCL_DCFG g, 8, 1⟩
/-- LE_DCLg_DCFG.TRGSAG (IMG). -/
def F.LE_DCL_DCFG_TRGSAG (g : Nat) : Fld := ⟨A.LE_DCL_DCFG g, 9, 1⟩
/-- LE_DCLg_DCFG.TRGDV (IMG). -/
def F.LE_DCL_DCFG_TRGDV (g : Nat) : Fld := ⟨A.LE_DCL_DCFG g, 10, 1⟩
/-- LE_DCLg_DCFG.TDCHMAX (IMG). -/
def F.LE_DCL_DCFG_TDCHMAX (g : Nat) : Fld := ⟨A.LE_DCL_DCFG g, 16, 14⟩
/-- LE_DCLg_DCFG.EN (IMG). -/
def F.LE_DCL_DCFG_EN (g : Nat) : Fld := ⟨A.LE_DCL_DCFG g, 31, 1⟩
/-- The offset of LE_DCLg_DTGT (07). -/
def A.LE_DCL_DTGT (g : Nat) : Nat := 0x048004 + 16 * g
/-- LE_DCLg_DTGT.VDCTGT (IMG). -/
def F.LE_DCL_DTGT_VDCTGT (g : Nat) : Fld := ⟨A.LE_DCL_DTGT g, 0, 32⟩
/-- The offset of LE_DCLg_DCMD (07). -/
def A.LE_DCL_DCMD (g : Nat) : Nat := 0x048008 + 16 * g
/-- LE_DCLg_DCMD.START (WO). -/
def F.LE_DCL_DCMD_START (g : Nat) : Fld := ⟨A.LE_DCL_DCMD g, 0, 1⟩
/-- LE_DCLg_DCMD.ABORT (WO). -/
def F.LE_DCL_DCMD_ABORT (g : Nat) : Fld := ⟨A.LE_DCL_DCMD g, 1, 1⟩
/-- The offset of LE_DCLg_DSTAT (07). -/
def A.LE_DCL_DSTAT (g : Nat) : Nat := 0x04800C + 16 * g
/-- LE_DCLg_DSTAT.ACTIVE (RO). -/
def F.LE_DCL_DSTAT_ACTIVE (g : Nat) : Fld := ⟨A.LE_DCL_DSTAT g, 0, 1⟩
/-- LE_DCLg_DSTAT.DONE (W1C). -/
def F.LE_DCL_DSTAT_DONE (g : Nat) : Fld := ⟨A.LE_DCL_DSTAT g, 1, 1⟩
/-- LE_DCLg_DSTAT.TIMEOUT (W1C). -/
def F.LE_DCL_DSTAT_TIMEOUT (g : Nat) : Fld := ⟨A.LE_DCL_DSTAT g, 2, 1⟩
/-- LE_DCLg_DSTAT.WIND (RO). -/
def F.LE_DCL_DSTAT_WIND (g : Nat) : Fld := ⟨A.LE_DCL_DSTAT g, 3, 1⟩
/-- LE_DCLg_DSTAT.RES (RO). -/
def F.LE_DCL_DSTAT_RES (g : Nat) : Fld := ⟨A.LE_DCL_DSTAT g, 4, 1⟩
/-- LE_DCLg_DSTAT.CRASHLOCK (RO). -/
def F.LE_DCL_DSTAT_CRASHLOCK (g : Nat) : Fld := ⟨A.LE_DCL_DSTAT g, 5, 1⟩
/-- LE_DCLg_DSTAT.SRC (RO). -/
def F.LE_DCL_DSTAT_SRC (g : Nat) : Fld := ⟨A.LE_DCL_DSTAT g, 8, 3⟩
/-- LE_DCLg_DSTAT.ELAPSED (RO). -/
def F.LE_DCL_DSTAT_ELAPSED (g : Nat) : Fld := ⟨A.LE_DCL_DSTAT g, 16, 16⟩
/-- The offset of MOD_LEGn_CFG (06). -/
def A.MOD_LEG_CFG (n : Nat) : Nat := 0x050000 + 32 * n
/-- MOD_LEGn_CFG.DT (IMG). -/
def F.MOD_LEG_CFG_DT (n : Nat) : Fld := ⟨A.MOD_LEG_CFG n, 0, 16⟩
/-- MOD_LEGn_CFG.BOOT (IMG). -/
def F.MOD_LEG_CFG_BOOT (n : Nat) : Fld := ⟨A.MOD_LEG_CFG n, 16, 1⟩
/-- MOD_LEGn_CFG.DTCEN (IMG). -/
def F.MOD_LEG_CFG_DTCEN (n : Nat) : Fld := ⟨A.MOD_LEG_CFG n, 17, 1⟩
/-- MOD_LEGn_CFG.BLANK (IMG). -/
def F.MOD_LEG_CFG_BLANK (n : Nat) : Fld := ⟨A.MOD_LEG_CFG n, 18, 12⟩
/-- The offset of MOD_LEGn_TIM (06). -/
def A.MOD_LEG_TIM (n : Nat) : Nat := 0x050004 + 32 * n
/-- MOD_LEGn_TIM.MINPW (IMG). -/
def F.MOD_LEG_TIM_MINPW (n : Nat) : Fld := ⟨A.MOD_LEG_TIM n, 0, 16⟩
/-- MOD_LEGn_TIM.DTCI (IMG). -/
def F.MOD_LEG_TIM_DTCI (n : Nat) : Fld := ⟨A.MOD_LEG_TIM n, 16, 16⟩
/-- The offset of MOD_LEGn_REF (06). -/
def A.MOD_LEG_REF (n : Nat) : Nat := 0x050008 + 32 * n
/-- MOD_LEGn_REF.TREF (IMG). -/
def F.MOD_LEG_REF_TREF (n : Nat) : Fld := ⟨A.MOD_LEG_REF n, 0, 13⟩
/-- MOD_LEGn_REF.NREF (IMG). -/
def F.MOD_LEG_REF_NREF (n : Nat) : Fld := ⟨A.MOD_LEG_REF n, 13, 6⟩
/-- MOD_LEGn_REF.TPRE (IMG). -/
def F.MOD_LEG_REF_TPRE (n : Nat) : Fld := ⟨A.MOD_LEG_REF n, 19, 13⟩
/-- The offset of MOD_LEGn_FLT (06). -/
def A.MOD_LEG_FLT (n : Nat) : Nat := 0x05000C + 32 * n
/-- MOD_LEGn_FLT.LFLT (W1C). -/
def F.MOD_LEG_FLT_LFLT (n : Nat) : Fld := ⟨A.MOD_LEG_FLT n, 0, 1⟩
/-- MOD_LEGn_FLT.FAST (W1C). -/
def F.MOD_LEG_FLT_FAST (n : Nat) : Fld := ⟨A.MOD_LEG_FLT n, 1, 1⟩
/-- MOD_LEGn_FLT.ILK (W1C). -/
def F.MOD_LEG_FLT_ILK (n : Nat) : Fld := ⟨A.MOD_LEG_FLT n, 2, 1⟩
/-- MOD_LEGn_FLT.SIDE (RO). -/
def F.MOD_LEG_FLT_SIDE (n : Nat) : Fld := ⟨A.MOD_LEG_FLT n, 4, 2⟩
/-- MOD_LEGn_FLT.PEND (RO). -/
def F.MOD_LEG_FLT_PEND (n : Nat) : Fld := ⟨A.MOD_LEG_FLT n, 6, 1⟩
/-- MOD_LEGn_FLT.LIVE (RO). -/
def F.MOD_LEG_FLT_LIVE (n : Nat) : Fld := ⟨A.MOD_LEG_FLT n, 7, 1⟩
/-- MOD_LEGn_FLT.FAULTED (RO). -/
def F.MOD_LEG_FLT_FAULTED (n : Nat) : Fld := ⟨A.MOD_LEG_FLT n, 8, 1⟩
/-- The offset of MOD_LEGn_CNT (06). -/
def A.MOD_LEG_CNT (n : Nat) : Nat := 0x050010 + 32 * n
/-- MOD_LEGn_CNT.ILKCNT (RO). -/
def F.MOD_LEG_CNT_ILKCNT (n : Nat) : Fld := ⟨A.MOD_LEG_CNT n, 0, 8⟩
/-- MOD_LEGn_CNT.EARLYCNT (RO). -/
def F.MOD_LEG_CNT_EARLYCNT (n : Nat) : Fld := ⟨A.MOD_LEG_CNT n, 8, 8⟩
/-- MOD_LEGn_CNT.REFCLIP (RO). -/
def F.MOD_LEG_CNT_REFCLIP (n : Nat) : Fld := ⟨A.MOD_LEG_CNT n, 16, 16⟩
/-- The offset of MOD_LEGn_DUTY (06). -/
def A.MOD_LEG_DUTY (n : Nat) : Nat := 0x050014 + 32 * n
/-- MOD_LEGn_DUTY.DUTY (RO). -/
def F.MOD_LEG_DUTY_DUTY (n : Nat) : Fld := ⟨A.MOD_LEG_DUTY n, 0, 16⟩
/-- MOD_LEGn_DUTY.STAMP (RO). -/
def F.MOD_LEG_DUTY_STAMP (n : Nat) : Fld := ⟨A.MOD_LEG_DUTY n, 16, 8⟩
/-- The offset of MOD_TEAMt_CFG (06). -/
def A.MOD_TEAM_CFG (t : Nat) : Nat := 0x051000 + 16 * t
/-- MOD_TEAMt_CFG.ILKLIM (IMG). -/
def F.MOD_TEAM_CFG_ILKLIM (t : Nat) : Fld := ⟨A.MOD_TEAM_CFG t, 0, 8⟩
/-- MOD_TEAMt_CFG.ILKWIN (IMG). -/
def F.MOD_TEAM_CFG_ILKWIN (t : Nat) : Fld := ⟨A.MOD_TEAM_CFG t, 8, 16⟩
/-- The offset of MOD_TEAMt_STAT (06). -/
def A.MOD_TEAM_STAT (t : Nat) : Nat := 0x051004 + 16 * t
/-- MOD_TEAMt_STAT.GSUV (W1C). -/
def F.MOD_TEAM_STAT_GSUV (t : Nat) : Fld := ⟨A.MOD_TEAM_STAT t, 0, 1⟩
/-- MOD_TEAMt_STAT.GSLIVE (RO). -/
def F.MOD_TEAM_STAT_GSLIVE (t : Nat) : Fld := ⟨A.MOD_TEAM_STAT t, 1, 1⟩
/-- MOD_TEAMt_STAT.GSREL (RO). -/
def F.MOD_TEAM_STAT_GSREL (t : Nat) : Fld := ⟨A.MOD_TEAM_STAT t, 2, 1⟩
/-- MOD_TEAMt_STAT.GSCNT (RO). -/
def F.MOD_TEAM_STAT_GSCNT (t : Nat) : Fld := ⟨A.MOD_TEAM_STAT t, 16, 16⟩
/-- The offset of MOD_TEAMt_MINP (06). -/
def A.MOD_TEAM_MINP (t : Nat) : Nat := 0x051008 + 16 * t
/-- MOD_TEAMt_MINP.COUNT (RO). -/
def F.MOD_TEAM_MINP_COUNT (t : Nat) : Fld := ⟨A.MOD_TEAM_MINP t, 0, 32⟩
/-- The offset of MOD_AXa_CFG (06). -/
def A.MOD_AX_CFG (a : Nat) : Nat := 0x051100 + 8 * a
/-- MOD_AXa_CFG.OVM (IMG). -/
def F.MOD_AX_CFG_OVM (a : Nat) : Fld := ⟨A.MOD_AX_CFG a, 0, 1⟩
/-- MOD_AXa_CFG.LFPOL (IMG). -/
def F.MOD_AX_CFG_LFPOL (a : Nat) : Fld := ⟨A.MOD_AX_CFG a, 1, 3⟩
/-- MOD_AXa_CFG.MMAX (IMG). -/
def F.MOD_AX_CFG_MMAX (a : Nat) : Fld := ⟨A.MOD_AX_CFG a, 16, 16⟩
/-- The offset of MOD_AXa_STAT (06). -/
def A.MOD_AX_STAT (a : Nat) : Nat := 0x051104 + 8 * a
/-- MOD_AXa_STAT.SAFEVAR (RO). -/
def F.MOD_AX_STAT_SAFEVAR (a : Nat) : Fld := ⟨A.MOD_AX_STAT a, 0, 2⟩
/-- MOD_AXa_STAT.DEG (RO). -/
def F.MOD_AX_STAT_DEG (a : Nat) : Fld := ⟨A.MOD_AX_STAT a, 2, 1⟩
/-- MOD_AXa_STAT.OVMACT (RO). -/
def F.MOD_AX_STAT_OVMACT (a : Nat) : Fld := ⟨A.MOD_AX_STAT a, 3, 1⟩
/-- MOD_AXa_STAT.CAUSE (RO). -/
def F.MOD_AX_STAT_CAUSE (a : Nat) : Fld := ⟨A.MOD_AX_STAT a, 4, 4⟩
/-- MOD_AXa_STAT.FLEGS (RO). -/
def F.MOD_AX_STAT_FLEGS (a : Nat) : Fld := ⟨A.MOD_AX_STAT a, 8, 12⟩
/-- The offset of MOD_DSPIt_CFG (06). -/
def A.MOD_DSPI_CFG (t : Nat) : Nat := 0x051200 + 8 * t
/-- MOD_DSPIt_CFG.DIV (IMG). -/
def F.MOD_DSPI_CFG_DIV (t : Nat) : Fld := ⟨A.MOD_DSPI_CFG t, 0, 8⟩
/-- MOD_DSPIt_CFG.MODE (IMG). -/
def F.MOD_DSPI_CFG_MODE (t : Nat) : Fld := ⟨A.MOD_DSPI_CFG t, 8, 2⟩
/-- MOD_DSPIt_CFG.WBITS (IMG). -/
def F.MOD_DSPI_CFG_WBITS (t : Nat) : Fld := ⟨A.MOD_DSPI_CFG t, 10, 5⟩
/-- MOD_DSPIt_CFG.CHAIN (IMG). -/
def F.MOD_DSPI_CFG_CHAIN (t : Nat) : Fld := ⟨A.MOD_DSPI_CFG t, 15, 5⟩
/-- MOD_DSPIt_CFG.EN (IMG). -/
def F.MOD_DSPI_CFG_EN (t : Nat) : Fld := ⟨A.MOD_DSPI_CFG t, 31, 1⟩
/-- The offset of MOD_DSPIt_STAT (06). -/
def A.MOD_DSPI_STAT (t : Nat) : Nat := 0x051204 + 8 * t
/-- MOD_DSPIt_STAT.DONE (RO). -/
def F.MOD_DSPI_STAT_DONE (t : Nat) : Fld := ⟨A.MOD_DSPI_STAT t, 0, 1⟩
/-- MOD_DSPIt_STAT.FAIL (RO). -/
def F.MOD_DSPI_STAT_FAIL (t : Nat) : Fld := ⟨A.MOD_DSPI_STAT t, 1, 1⟩
/-- MOD_DSPIt_STAT.FIDX (RO). -/
def F.MOD_DSPI_STAT_FIDX (t : Nat) : Fld := ⟨A.MOD_DSPI_STAT t, 8, 8⟩
/-- MOD_DSPIt_STAT.RETRY (RO). -/
def F.MOD_DSPI_STAT_RETRY (t : Nat) : Fld := ⟨A.MOD_DSPI_STAT t, 16, 8⟩
/-- The offset of SAF_STAT (08). -/
def A.SAF_STAT : Nat := 0x060000
/-- SAF_STAT.DVLAT (RO). -/
def F.SAF_STAT_DVLAT : Fld := ⟨A.SAF_STAT, 0, 1⟩
/-- SAF_STAT.SMCOK (RO). -/
def F.SAF_STAT_SMCOK : Fld := ⟨A.SAF_STAT, 1, 1⟩
/-- SAF_STAT.DIVERSE (RO). -/
def F.SAF_STAT_DIVERSE : Fld := ⟨A.SAF_STAT, 2, 1⟩
/-- SAF_STAT.SPLIT0 (RO). -/
def F.SAF_STAT_SPLIT0 : Fld := ⟨A.SAF_STAT, 3, 1⟩
/-- SAF_STAT.SPLIT1 (RO). -/
def F.SAF_STAT_SPLIT1 : Fld := ⟨A.SAF_STAT, 4, 1⟩
/-- SAF_STAT.FAULTN (RO). -/
def F.SAF_STAT_FAULTN : Fld := ⟨A.SAF_STAT, 5, 1⟩
/-- SAF_STAT.DVCODE (RO). -/
def F.SAF_STAT_DVCODE : Fld := ⟨A.SAF_STAT, 16, 16⟩
/-- The offset of SAF_TEAMEN (08). -/
def A.SAF_TEAMEN : Nat := 0x060004
/-- SAF_TEAMEN.EN (RO). -/
def F.SAF_TEAMEN_EN : Fld := ⟨A.SAF_TEAMEN, 0, 8⟩
/-- SAF_TEAMEN.REQ (RO). -/
def F.SAF_TEAMEN_REQ : Fld := ⟨A.SAF_TEAMEN, 8, 8⟩
/-- SAF_TEAMEN.RB (RO). -/
def F.SAF_TEAMEN_RB : Fld := ⟨A.SAF_TEAMEN, 16, 8⟩
/-- The offset of SAF_TEAMFLT (08). -/
def A.SAF_TEAMFLT : Nat := 0x060008
/-- SAF_TEAMFLT.TMLAT (W1C). -/
def F.SAF_TEAMFLT_TMLAT : Fld := ⟨A.SAF_TEAMFLT, 0, 8⟩
/-- The offset of SAF_CLK (08). -/
def A.SAF_CLK : Nat := 0x06000C
/-- SAF_CLK.DEV (RO). -/
def F.SAF_CLK_DEV : Fld := ⟨A.SAF_CLK, 0, 16⟩
/-- SAF_CLK.CLASS (RO). -/
def F.SAF_CLK_CLASS : Fld := ⟨A.SAF_CLK, 16, 2⟩
/-- SAF_CLK.MARGCNT (RO). -/
def F.SAF_CLK_MARGCNT : Fld := ⟨A.SAF_CLK, 24, 8⟩
/-- The offset of SAF_SMCBUD (08). -/
def A.SAF_SMCBUD : Nat := 0x060010
/-- SAF_SMCBUD.COST (RO). -/
def F.SAF_SMCBUD_COST : Fld := ⟨A.SAF_SMCBUD, 0, 16⟩
/-- SAF_SMCBUD.MAXUSED (RO). -/
def F.SAF_SMCBUD_MAXUSED : Fld := ⟨A.SAF_SMCBUD, 16, 16⟩
/-- The offset of SAF_SIn_CFG (08). -/
def A.SAF_SI_CFG (n : Nat) : Nat := 0x060100 + 8 * n
/-- SAF_SIn_CFG.EN (IMG). -/
def F.SAF_SI_CFG_EN (n : Nat) : Fld := ⟨A.SAF_SI_CFG n, 0, 1⟩
/-- SAF_SIn_CFG.ANTI (IMG). -/
def F.SAF_SI_CFG_ANTI (n : Nat) : Fld := ⟨A.SAF_SI_CFG n, 1, 1⟩
/-- SAF_SIn_CFG.FILT (IMG). -/
def F.SAF_SI_CFG_FILT (n : Nat) : Fld := ⟨A.SAF_SI_CFG n, 2, 5⟩
/-- SAF_SIn_CFG.TDISC (IMG). -/
def F.SAF_SI_CFG_TDISC (n : Nat) : Fld := ⟨A.SAF_SI_CFG n, 7, 9⟩
/-- SAF_SIn_CFG.FUNC (IMG). -/
def F.SAF_SI_CFG_FUNC (n : Nat) : Fld := ⟨A.SAF_SI_CFG n, 16, 3⟩
/-- SAF_SIn_CFG.MASK (IMG). -/
def F.SAF_SI_CFG_MASK (n : Nat) : Fld := ⟨A.SAF_SI_CFG n, 24, 8⟩
/-- The offset of SAF_SIn_STAT (08). -/
def A.SAF_SI_STAT (n : Nat) : Nat := 0x060104 + 8 * n
/-- SAF_SIn_STAT.ACTA (RO). -/
def F.SAF_SI_STAT_ACTA (n : Nat) : Fld := ⟨A.SAF_SI_STAT n, 0, 1⟩
/-- SAF_SIn_STAT.ACTB (RO). -/
def F.SAF_SI_STAT_ACTB (n : Nat) : Fld := ⟨A.SAF_SI_STAT n, 1, 1⟩
/-- SAF_SIn_STAT.PERMIT (RO). -/
def F.SAF_SI_STAT_PERMIT (n : Nat) : Fld := ⟨A.SAF_SI_STAT n, 2, 1⟩
/-- SAF_SIn_STAT.DISC (RO). -/
def F.SAF_SI_STAT_DISC (n : Nat) : Fld := ⟨A.SAF_SI_STAT n, 3, 1⟩
/-- SAF_SIn_STAT.DFLT (RO). -/
def F.SAF_SI_STAT_DFLT (n : Nat) : Fld := ⟨A.SAF_SI_STAT n, 4, 1⟩
/-- SAF_SIn_STAT.REQ (RO). -/
def F.SAF_SI_STAT_REQ (n : Nat) : Fld := ⟨A.SAF_SI_STAT n, 5, 1⟩
/-- SAF_SIn_STAT.DSEEN (W1C). -/
def F.SAF_SI_STAT_DSEEN (n : Nat) : Fld := ⟨A.SAF_SI_STAT n, 6, 1⟩
/-- SAF_SIn_STAT.DISCCNT (RO). -/
def F.SAF_SI_STAT_DISCCNT (n : Nat) : Fld := ⟨A.SAF_SI_STAT n, 16, 16⟩
/-- The offset of SAF_SBn_CFG (08). -/
def A.SAF_SB_CFG (n : Nat) : Nat := 0x060200 + 16 * n
/-- SAF_SBn_CFG.EN (IMG). -/
def F.SAF_SB_CFG_EN (n : Nat) : Fld := ⟨A.SAF_SB_CFG n, 0, 1⟩
/-- SAF_SBn_CFG.AXLINK (IMG). -/
def F.SAF_SB_CFG_AXLINK (n : Nat) : Fld := ⟨A.SAF_SB_CFG n, 1, 5⟩
/-- SAF_SBn_CFG.AXEN (IMG). -/
def F.SAF_SB_CFG_AXEN (n : Nat) : Fld := ⟨A.SAF_SB_CFG n, 6, 1⟩
/-- SAF_SBn_CFG.ONSAFE (IMG). -/
def F.SAF_SB_CFG_ONSAFE (n : Nat) : Fld := ⟨A.SAF_SB_CFG n, 7, 1⟩
/-- SAF_SBn_CFG.TPER (IMG). -/
def F.SAF_SB_CFG_TPER (n : Nat) : Fld := ⟨A.SAF_SB_CFG n, 8, 6⟩
/-- SAF_SBn_CFG.TPULSE (IMG). -/
def F.SAF_SB_CFG_TPULSE (n : Nat) : Fld := ⟨A.SAF_SB_CFG n, 14, 10⟩
/-- The offset of SAF_SBn_CMD (08). -/
def A.SAF_SB_CMD (n : Nat) : Nat := 0x060204 + 16 * n
/-- SAF_SBn_CMD.REL (RW). -/
def F.SAF_SB_CMD_REL (n : Nat) : Fld := ⟨A.SAF_SB_CMD n, 0, 1⟩
/-- The offset of SAF_SBn_STAT (08). -/
def A.SAF_SB_STAT (n : Nat) : Nat := 0x060208 + 16 * n
/-- SAF_SBn_STAT.CMDH (RO). -/
def F.SAF_SB_STAT_CMDH (n : Nat) : Fld := ⟨A.SAF_SB_STAT n, 0, 1⟩
/-- SAF_SBn_STAT.CMDL (RO). -/
def F.SAF_SB_STAT_CMDL (n : Nat) : Fld := ⟨A.SAF_SB_STAT n, 1, 1⟩
/-- SAF_SBn_STAT.FBH (RO). -/
def F.SAF_SB_STAT_FBH (n : Nat) : Fld := ⟨A.SAF_SB_STAT n, 2, 1⟩
/-- SAF_SBn_STAT.FBL (RO). -/
def F.SAF_SB_STAT_FBL (n : Nat) : Fld := ⟨A.SAF_SB_STAT n, 3, 1⟩
/-- SAF_SBn_STAT.RELEASED (RO). -/
def F.SAF_SB_STAT_RELEASED (n : Nat) : Fld := ⟨A.SAF_SB_STAT n, 4, 1⟩
/-- SAF_SBn_STAT.TESTFLT (W1C). -/
def F.SAF_SB_STAT_TESTFLT (n : Nat) : Fld := ⟨A.SAF_SB_STAT n, 5, 1⟩
/-- SAF_SBn_STAT.RBFLT (W1C). -/
def F.SAF_SB_STAT_RBFLT (n : Nat) : Fld := ⟨A.SAF_SB_STAT n, 6, 1⟩
/-- SAF_SBn_STAT.TESTING (RO). -/
def F.SAF_SB_STAT_TESTING (n : Nat) : Fld := ⟨A.SAF_SB_STAT n, 7, 1⟩
/-- SAF_SBn_STAT.TESTCNT (RO). -/
def F.SAF_SB_STAT_TESTCNT (n : Nat) : Fld := ⟨A.SAF_SB_STAT n, 16, 16⟩
/-- The offset of SAF_AXa_TMCFG (08). -/
def A.SAF_AX_TMCFG (a : Nat) : Nat := 0x060400 + 16 * a
/-- SAF_AXa_TMCFG.MODE (IMG). -/
def F.SAF_AX_TMCFG_MODE (a : Nat) : Fld := ⟨A.SAF_AX_TMCFG a, 0, 2⟩
/-- SAF_AXa_TMCFG.TMDT (IMG). -/
def F.SAF_AX_TMCFG_TMDT (a : Nat) : Fld := ⟨A.SAF_AX_TMCFG a, 2, 6⟩
/-- SAF_AXa_TMCFG.TMWIN (IMG). -/
def F.SAF_AX_TMCFG_TMWIN (a : Nat) : Fld := ⟨A.SAF_AX_TMCFG a, 8, 8⟩
/-- SAF_AXa_TMCFG.CONN (IMG). -/
def F.SAF_AX_TMCFG_CONN (a : Nat) : Fld := ⟨A.SAF_AX_TMCFG a, 16, 8⟩
/-- The offset of SAF_AXa_TMSTAT (08). -/
def A.SAF_AX_TMSTAT (a : Nat) : Nat := 0x060404 + 16 * a
/-- SAF_AXa_TMSTAT.CNT (RO). -/
def F.SAF_AX_TMSTAT_CNT (a : Nat) : Fld := ⟨A.SAF_AX_TMSTAT a, 0, 16⟩
/-- SAF_AXa_TMSTAT.ACTIVE (RO). -/
def F.SAF_AX_TMSTAT_ACTIVE (a : Nat) : Fld := ⟨A.SAF_AX_TMSTAT a, 16, 1⟩
/-- SAF_AXa_TMSTAT.MAGMODE (RO). -/
def F.SAF_AX_TMSTAT_MAGMODE (a : Nat) : Fld := ⟨A.SAF_AX_TMSTAT a, 17, 1⟩
/-- SAF_AXa_TMSTAT.FAILING (RO). -/
def F.SAF_AX_TMSTAT_FAILING (a : Nat) : Fld := ⟨A.SAF_AX_TMSTAT a, 18, 1⟩
/-- SAF_AXa_TMSTAT.SPLITLIM (RO). -/
def F.SAF_AX_TMSTAT_SPLITLIM (a : Nat) : Fld := ⟨A.SAF_AX_TMSTAT a, 19, 1⟩
/-- SAF_AXa_TMSTAT.VAR (RO). -/
def F.SAF_AX_TMSTAT_VAR (a : Nat) : Fld := ⟨A.SAF_AX_TMSTAT a, 20, 2⟩
/-- SAF_AXa_TMSTAT.STALE (RO). -/
def F.SAF_AX_TMSTAT_STALE (a : Nat) : Fld := ⟨A.SAF_AX_TMSTAT a, 22, 1⟩
/-- The offset of SAF_AXa_TMVAL (08). -/
def A.SAF_AX_TMVAL (a : Nat) : Nat := 0x060408 + 16 * a
/-- SAF_AXa_TMVAL.TMON (RO). -/
def F.SAF_AX_TMVAL_TMON (a : Nat) : Fld := ⟨A.SAF_AX_TMVAL a, 0, 32⟩
/-- The offset of SAF_AXa_FLT (08). -/
def A.SAF_AX_FLT (a : Nat) : Nat := 0x06040C + 16 * a
/-- SAF_AXa_FLT.AXF (W1C). -/
def F.SAF_AX_FLT_AXF (a : Nat) : Fld := ⟨A.SAF_AX_FLT a, 0, 1⟩
/-- SAF_AXa_FLT.TORQUE (RO). -/
def F.SAF_AX_FLT_TORQUE (a : Nat) : Fld := ⟨A.SAF_AX_FLT a, 1, 1⟩
/-- SAF_AXa_FLT.ANGLE (RO). -/
def F.SAF_AX_FLT_ANGLE (a : Nat) : Fld := ⟨A.SAF_AX_FLT a, 2, 1⟩
/-- SAF_AXa_FLT.SAFEIN (RO). -/
def F.SAF_AX_FLT_SAFEIN (a : Nat) : Fld := ⟨A.SAF_AX_FLT a, 3, 1⟩
/-- SAF_AXa_FLT.TEAM (RO). -/
def F.SAF_AX_FLT_TEAM (a : Nat) : Fld := ⟨A.SAF_AX_FLT a, 4, 1⟩
/-- SAF_AXa_FLT.DEVICE (RO). -/
def F.SAF_AX_FLT_DEVICE (a : Nat) : Fld := ⟨A.SAF_AX_FLT a, 5, 1⟩
/-- SAF_AXa_FLT.BLOCK (RO). -/
def F.SAF_AX_FLT_BLOCK (a : Nat) : Fld := ⟨A.SAF_AX_FLT a, 6, 1⟩
/-- SAF_AXa_FLT.REFUSED (RO). -/
def F.SAF_AX_FLT_REFUSED (a : Nat) : Fld := ⟨A.SAF_AX_FLT a, 7, 1⟩
/-- The offset of GRP_Gg_CFG (09). -/
def A.GRP_G_CFG (g : Nat) : Nat := 0x070000 + 256 * g
/-- GRP_Gg_CFG.EN (IMG). -/
def F.GRP_G_CFG_EN (g : Nat) : Fld := ⟨A.GRP_G_CFG g, 0, 1⟩
/-- GRP_Gg_CFG.TRIPLEX (IMG). -/
def F.GRP_G_CFG_TRIPLEX (g : Nat) : Fld := ⟨A.GRP_G_CFG g, 1, 1⟩
/-- GRP_Gg_CFG.RANK (IMG). -/
def F.GRP_G_CFG_RANK (g : Nat) : Fld := ⟨A.GRP_G_CFG g, 2, 2⟩
/-- GRP_Gg_CFG.LEASE (IMG). -/
def F.GRP_G_CFG_LEASE (g : Nat) : Fld := ⟨A.GRP_G_CFG g, 4, 4⟩
/-- GRP_Gg_CFG.GID (IMG). -/
def F.GRP_G_CFG_GID (g : Nat) : Fld := ⟨A.GRP_G_CFG g, 8, 8⟩
/-- GRP_Gg_CFG.GLAT (IMG). -/
def F.GRP_G_CFG_GLAT (g : Nat) : Fld := ⟨A.GRP_G_CFG g, 16, 16⟩
/-- The offset of GRP_Gg_MEM (09). -/
def A.GRP_G_MEM (g : Nat) : Nat := 0x070004 + 256 * g
/-- GRP_Gg_MEM.DEV0 (IMG). -/
def F.GRP_G_MEM_DEV0 (g : Nat) : Fld := ⟨A.GRP_G_MEM g, 0, 6⟩
/-- GRP_Gg_MEM.DEV1 (IMG). -/
def F.GRP_G_MEM_DEV1 (g : Nat) : Fld := ⟨A.GRP_G_MEM g, 6, 6⟩
/-- GRP_Gg_MEM.DEV2 (IMG). -/
def F.GRP_G_MEM_DEV2 (g : Nat) : Fld := ⟨A.GRP_G_MEM g, 12, 6⟩
/-- The offset of GRP_Gg_CONN (09). -/
def A.GRP_G_CONN (g : Nat) : Nat := 0x070008 + 256 * g
/-- GRP_Gg_CONN.MC0 (IMG). -/
def F.GRP_G_CONN_MC0 (g : Nat) : Fld := ⟨A.GRP_G_CONN g, 0, 5⟩
/-- GRP_Gg_CONN.MC1 (IMG). -/
def F.GRP_G_CONN_MC1 (g : Nat) : Fld := ⟨A.GRP_G_CONN g, 5, 5⟩
/-- GRP_Gg_CONN.MC2 (IMG). -/
def F.GRP_G_CONN_MC2 (g : Nat) : Fld := ⟨A.GRP_G_CONN g, 10, 5⟩
/-- GRP_Gg_CONN.HC (IMG). -/
def F.GRP_G_CONN_HC (g : Nat) : Fld := ⟨A.GRP_G_CONN g, 15, 5⟩
/-- GRP_Gg_CONN.HEN (IMG). -/
def F.GRP_G_CONN_HEN (g : Nat) : Fld := ⟨A.GRP_G_CONN g, 20, 1⟩
/-- The offset of GRP_Gg_AX (09). -/
def A.GRP_G_AX (g : Nat) : Nat := 0x07000C + 256 * g
/-- GRP_Gg_AX.AX0 (IMG). -/
def F.GRP_G_AX_AX0 (g : Nat) : Fld := ⟨A.GRP_G_AX g, 0, 5⟩
/-- GRP_Gg_AX.AX0EN (IMG). -/
def F.GRP_G_AX_AX0EN (g : Nat) : Fld := ⟨A.GRP_G_AX g, 5, 1⟩
/-- GRP_Gg_AX.AX1 (IMG). -/
def F.GRP_G_AX_AX1 (g : Nat) : Fld := ⟨A.GRP_G_AX g, 6, 5⟩
/-- GRP_Gg_AX.AX1EN (IMG). -/
def F.GRP_G_AX_AX1EN (g : Nat) : Fld := ⟨A.GRP_G_AX g, 11, 1⟩
/-- The offset of GRP_Gg_TIM (09). -/
def A.GRP_G_TIM (g : Nat) : Nat := 0x070010 + 256 * g
/-- GRP_Gg_TIM.TRAMP (IMG). -/
def F.GRP_G_TIM_TRAMP (g : Nat) : Fld := ⟨A.GRP_G_TIM g, 0, 14⟩
/-- GRP_Gg_TIM.SHCNT (IMG). -/
def F.GRP_G_TIM_SHCNT (g : Nat) : Fld := ⟨A.GRP_G_TIM g, 14, 8⟩
/-- The offset of GRP_Gg_SHTOL (09). -/
def A.GRP_G_SHTOL (g : Nat) : Nat := 0x070014 + 256 * g
/-- GRP_Gg_SHTOL.SHTOL (IMG). -/
def F.GRP_G_SHTOL_SHTOL (g : Nat) : Fld := ⟨A.GRP_G_SHTOL g, 0, 32⟩
/-- The offset of GRP_Gg_REDTQ (09). -/
def A.GRP_G_REDTQ (g : Nat) : Nat := 0x070018 + 256 * g
/-- GRP_Gg_REDTQ.REDTQ (IMG). -/
def F.GRP_G_REDTQ_REDTQ (g : Nat) : Fld := ⟨A.GRP_G_REDTQ g, 0, 32⟩
/-- The offset of GRP_Gg_REDRATE (09). -/
def A.GRP_G_REDRATE (g : Nat) : Nat := 0x07001C + 256 * g
/-- GRP_Gg_REDRATE.REDRATE (IMG). -/
def F.GRP_G_REDRATE_REDRATE (g : Nat) : Fld := ⟨A.GRP_G_REDRATE g, 0, 32⟩
/-- The offset of GRP_Gg_CMD (09). -/
def A.GRP_G_CMD (g : Nat) : Nat := 0x070020 + 256 * g
/-- GRP_Gg_CMD.GO (WO). -/
def F.GRP_G_CMD_GO (g : Nat) : Fld := ⟨A.GRP_G_CMD g, 0, 1⟩
/-- GRP_Gg_CMD.RELEASE (WO). -/
def F.GRP_G_CMD_RELEASE (g : Nat) : Fld := ⟨A.GRP_G_CMD g, 1, 1⟩
/-- GRP_Gg_CMD.ARBOK (WO). -/
def F.GRP_G_CMD_ARBOK (g : Nat) : Fld := ⟨A.GRP_G_CMD g, 2, 1⟩
/-- The offset of GRP_Gg_STAT (09). -/
def A.GRP_G_STAT (g : Nat) : Nat := 0x070024 + 256 * g
/-- GRP_Gg_STAT.STATE (RO). -/
def F.GRP_G_STAT_STATE (g : Nat) : Fld := ⟨A.GRP_G_STAT g, 0, 2⟩
/-- GRP_Gg_STAT.HEALTHY (RO). -/
def F.GRP_G_STAT_HEALTHY (g : Nat) : Fld := ⟨A.GRP_G_STAT g, 2, 1⟩
/-- GRP_Gg_STAT.HOLDER (RO). -/
def F.GRP_G_STAT_HOLDER (g : Nat) : Fld := ⟨A.GRP_G_STAT g, 3, 1⟩
/-- GRP_Gg_STAT.ARBITER (RO). -/
def F.GRP_G_STAT_ARBITER (g : Nat) : Fld := ⟨A.GRP_G_STAT g, 4, 1⟩
/-- GRP_Gg_STAT.STOPPED (RO). -/
def F.GRP_G_STAT_STOPPED (g : Nat) : Fld := ⟨A.GRP_G_STAT g, 5, 1⟩
/-- GRP_Gg_STAT.NOREIN (RO). -/
def F.GRP_G_STAT_NOREIN (g : Nat) : Fld := ⟨A.GRP_G_STAT g, 6, 1⟩
/-- GRP_Gg_STAT.REDUCED (RO). -/
def F.GRP_G_STAT_REDUCED (g : Nat) : Fld := ⟨A.GRP_G_STAT g, 7, 1⟩
/-- GRP_Gg_STAT.STOPREQ (RO). -/
def F.GRP_G_STAT_STOPREQ (g : Nat) : Fld := ⟨A.GRP_G_STAT g, 8, 1⟩
/-- GRP_Gg_STAT.QUORUM (RO). -/
def F.GRP_G_STAT_QUORUM (g : Nat) : Fld := ⟨A.GRP_G_STAT g, 9, 1⟩
/-- GRP_Gg_STAT.HOSTSIL (RO). -/
def F.GRP_G_STAT_HOSTSIL (g : Nat) : Fld := ⟨A.GRP_G_STAT g, 10, 1⟩
/-- GRP_Gg_STAT.TERM (RO). -/
def F.GRP_G_STAT_TERM (g : Nat) : Fld := ⟨A.GRP_G_STAT g, 16, 16⟩
/-- The offset of GRP_Gg_LEASE (09). -/
def A.GRP_G_LEASE (g : Nat) : Nat := 0x070028 + 256 * g
/-- GRP_Gg_LEASE.AGE (RO). -/
def F.GRP_G_LEASE_AGE (g : Nat) : Fld := ⟨A.GRP_G_LEASE g, 0, 8⟩
/-- GRP_Gg_LEASE.HRANK (RO). -/
def F.GRP_G_LEASE_HRANK (g : Nat) : Fld := ⟨A.GRP_G_LEASE g, 8, 2⟩
/-- GRP_Gg_LEASE.LISTEN (RO). -/
def F.GRP_G_LEASE_LISTEN (g : Nat) : Fld := ⟨A.GRP_G_LEASE g, 16, 8⟩
/-- GRP_Gg_LEASE.QAGE (RO). -/
def F.GRP_G_LEASE_QAGE (g : Nat) : Fld := ⟨A.GRP_G_LEASE g, 24, 8⟩
/-- The offset of GRP_Gg_FLT (09). -/
def A.GRP_G_FLT (g : Nat) : Nat := 0x07002C + 256 * g
/-- GRP_Gg_FLT.EXPIRED (W1C). -/
def F.GRP_G_FLT_EXPIRED (g : Nat) : Fld := ⟨A.GRP_G_FLT g, 0, 1⟩
/-- GRP_Gg_FLT.NOREIN (W1C). -/
def F.GRP_G_FLT_NOREIN (g : Nat) : Fld := ⟨A.GRP_G_FLT g, 1, 1⟩
/-- GRP_Gg_FLT.STOPREQ (W1C). -/
def F.GRP_G_FLT_STOPREQ (g : Nat) : Fld := ⟨A.GRP_G_FLT g, 2, 1⟩
/-- GRP_Gg_FLT.SHADOW (W1C). -/
def F.GRP_G_FLT_SHADOW (g : Nat) : Fld := ⟨A.GRP_G_FLT g, 3, 1⟩
/-- GRP_Gg_FLT.REVOKED (W1C). -/
def F.GRP_G_FLT_REVOKED (g : Nat) : Fld := ⟨A.GRP_G_FLT g, 4, 1⟩
/-- GRP_Gg_FLT.POSITION (W1C). -/
def F.GRP_G_FLT_POSITION (g : Nat) : Fld := ⟨A.GRP_G_FLT g, 5, 1⟩
/-- GRP_Gg_FLT.BADSHARE (W1C). -/
def F.GRP_G_FLT_BADSHARE (g : Nat) : Fld := ⟨A.GRP_G_FLT g, 6, 1⟩
/-- The offset of GRP_Gg_CNT (09). -/
def A.GRP_G_CNT (g : Nat) : Nat := 0x070030 + 256 * g
/-- GRP_Gg_CNT.GRANTS (RO). -/
def F.GRP_G_CNT_GRANTS (g : Nat) : Fld := ⟨A.GRP_G_CNT g, 0, 8⟩
/-- GRP_Gg_CNT.REVOKES (RO). -/
def F.GRP_G_CNT_REVOKES (g : Nat) : Fld := ⟨A.GRP_G_CNT g, 8, 8⟩
/-- GRP_Gg_CNT.GAPS (RO). -/
def F.GRP_G_CNT_GAPS (g : Nat) : Fld := ⟨A.GRP_G_CNT g, 16, 8⟩
/-- The offset of GRP_Gg_TXSHi (09). -/
def A.GRP_G_TXSH (g i : Nat) : Nat := 0x070040 + 256 * g + 4 * i
/-- GRP_Gg_TXSHi.SHARE (RW). -/
def F.GRP_G_TXSH_SHARE (g i : Nat) : Fld := ⟨A.GRP_G_TXSH g i, 0, 32⟩
/-- The offset of GRP_Gg_SHADi (09). -/
def A.GRP_G_SHAD (g i : Nat) : Nat := 0x070060 + 256 * g + 4 * i
/-- GRP_Gg_SHADi.SHADOW (RW). -/
def F.GRP_G_SHAD_SHADOW (g i : Nat) : Fld := ⟨A.GRP_G_SHAD g i, 0, 32⟩
/-- The offset of GRP_Gg_TXFBk (09). -/
def A.GRP_G_TXFB (g k : Nat) : Nat := 0x070080 + 256 * g + 4 * k
/-- GRP_Gg_TXFBk.FB (RW). -/
def F.GRP_G_TXFB_FB (g k : Nat) : Fld := ⟨A.GRP_G_TXFB g k, 0, 32⟩
/-- The offset of GRP_Gg_SHAREs (09). -/
def A.GRP_G_SHARE (g s : Nat) : Nat := 0x0700A0 + 256 * g + 4 * s
/-- GRP_Gg_SHAREs.SHARE (RO). -/
def F.GRP_G_SHARE_SHARE (g s : Nat) : Fld := ⟨A.GRP_G_SHARE g s, 0, 32⟩
/-- The offset of GRP_CONNc_CFG (09). -/
def A.GRP_CONN_CFG (c : Nat) : Nat := 0x071000 + 32 * c
/-- GRP_CONNc_CFG.EN (IMG). -/
def F.GRP_CONN_CFG_EN (c : Nat) : Fld := ⟨A.GRP_CONN_CFG c, 0, 1⟩
/-- GRP_CONNc_CFG.PATH (IMG). -/
def F.GRP_CONN_CFG_PATH (c : Nat) : Fld := ⟨A.GRP_CONN_CFG c, 1, 1⟩
/-- GRP_CONNc_CFG.TX (IMG). -/
def F.GRP_CONN_CFG_TX (c : Nat) : Fld := ⟨A.GRP_CONN_CFG c, 2, 1⟩
/-- GRP_CONNc_CFG.W (IMG). -/
def F.GRP_CONN_CFG_W (c : Nat) : Fld := ⟨A.GRP_CONN_CFG c, 3, 2⟩
/-- GRP_CONNc_CFG.SPLIM (IMG). -/
def F.GRP_CONN_CFG_SPLIM (c : Nat) : Fld := ⟨A.GRP_CONN_CFG c, 5, 8⟩
/-- GRP_CONNc_CFG.WDT (IMG). -/
def F.GRP_CONN_CFG_WDT (c : Nat) : Fld := ⟨A.GRP_CONN_CFG c, 13, 8⟩
/-- GRP_CONNc_CFG.CREACT (IMG). -/
def F.GRP_CONN_CFG_CREACT (c : Nat) : Fld := ⟨A.GRP_CONN_CFG c, 21, 2⟩
/-- GRP_CONNc_CFG.PROD (IMG). -/
def F.GRP_CONN_CFG_PROD (c : Nat) : Fld := ⟨A.GRP_CONN_CFG c, 23, 6⟩
/-- The offset of GRP_CONNc_ID (09). -/
def A.GRP_CONN_ID (c : Nat) : Nat := 0x071004 + 32 * c
/-- GRP_CONNc_ID.CID (IMG). -/
def F.GRP_CONN_ID_CID (c : Nat) : Fld := ⟨A.GRP_CONN_ID c, 0, 32⟩
/-- The offset of GRP_CONNc_TOL (09). -/
def A.GRP_CONN_TOL (c : Nat) : Nat := 0x071008 + 32 * c
/-- GRP_CONNc_TOL.STOL (IMG). -/
def F.GRP_CONN_TOL_STOL (c : Nat) : Fld := ⟨A.GRP_CONN_TOL c, 0, 8⟩
/-- GRP_CONNc_TOL.CONS (IMG). -/
def F.GRP_CONN_TOL_CONS (c : Nat) : Fld := ⟨A.GRP_CONN_TOL c, 8, 8⟩
/-- GRP_CONNc_TOL.LEN (IMG). -/
def F.GRP_CONN_TOL_LEN (c : Nat) : Fld := ⟨A.GRP_CONN_TOL c, 16, 7⟩
/-- The offset of GRP_CONNc_SEQ (09). -/
def A.GRP_CONN_SEQ (c : Nat) : Nat := 0x07100C + 32 * c
/-- GRP_CONNc_SEQ.SEQ (RO). -/
def F.GRP_CONN_SEQ_SEQ (c : Nat) : Fld := ⟨A.GRP_CONN_SEQ c, 0, 32⟩
/-- The offset of GRP_CONNc_STAT (09). -/
def A.GRP_CONN_STAT (c : Nat) : Nat := 0x071010 + 32 * c
/-- GRP_CONNc_STAT.SINGLE (RO). -/
def F.GRP_CONN_STAT_SINGLE (c : Nat) : Fld := ⟨A.GRP_CONN_STAT c, 0, 1⟩
/-- GRP_CONNc_STAT.PATHLOST (W1C). -/
def F.GRP_CONN_STAT_PATHLOST (c : Nat) : Fld := ⟨A.GRP_CONN_STAT c, 1, 1⟩
/-- GRP_CONNc_STAT.CFAIL (W1C). -/
def F.GRP_CONN_STAT_CFAIL (c : Nat) : Fld := ⟨A.GRP_CONN_STAT c, 2, 1⟩
/-- GRP_CONNc_STAT.WDEXP (RO). -/
def F.GRP_CONN_STAT_WDEXP (c : Nat) : Fld := ⟨A.GRP_CONN_STAT c, 3, 1⟩
/-- GRP_CONNc_STAT.REF (RO). -/
def F.GRP_CONN_STAT_REF (c : Nat) : Fld := ⟨A.GRP_CONN_STAT c, 4, 1⟩
/-- GRP_CONNc_STAT.SPRUN (RO). -/
def F.GRP_CONN_STAT_SPRUN (c : Nat) : Fld := ⟨A.GRP_CONN_STAT c, 8, 8⟩
/-- GRP_CONNc_STAT.MISCNT (RO). -/
def F.GRP_CONN_STAT_MISCNT (c : Nat) : Fld := ⟨A.GRP_CONN_STAT c, 16, 8⟩
/-- GRP_CONNc_STAT.BADCNT (RO). -/
def F.GRP_CONN_STAT_BADCNT (c : Nat) : Fld := ⟨A.GRP_CONN_STAT c, 24, 8⟩
/-- The offset of RNG_CFG (11). -/
def A.RNG_CFG : Nat := 0x080000
/-- RNG_CFG.HEAD (IMG). -/
def F.RNG_CFG_HEAD : Fld := ⟨A.RNG_CFG, 0, 1⟩
/-- RNG_CFG.DEVNUM (IMG). -/
def F.RNG_CFG_DEVNUM : Fld := ⟨A.RNG_CFG, 1, 6⟩
/-- RNG_CFG.NDEVM1 (IMG). -/
def F.RNG_CFG_NDEVM1 : Fld := ⟨A.RNG_CFG, 7, 6⟩
/-- RNG_CFG.MAXAGE (IMG). -/
def F.RNG_CFG_MAXAGE : Fld := ⟨A.RNG_CFG, 13, 8⟩
/-- RNG_CFG.ROUTE (IMG). -/
def F.RNG_CFG_ROUTE : Fld := ⟨A.RNG_CFG, 21, 2⟩
/-- The offset of RNG_ENUM (11). -/
def A.RNG_ENUM : Nat := 0x080004
/-- RNG_ENUM.POSA (RO). -/
def F.RNG_ENUM_POSA : Fld := ⟨A.RNG_ENUM, 0, 6⟩
/-- RNG_ENUM.VALIDA (RO). -/
def F.RNG_ENUM_VALIDA : Fld := ⟨A.RNG_ENUM, 6, 1⟩
/-- RNG_ENUM.POSB (RO). -/
def F.RNG_ENUM_POSB : Fld := ⟨A.RNG_ENUM, 7, 6⟩
/-- RNG_ENUM.VALIDB (RO). -/
def F.RNG_ENUM_VALIDB : Fld := ⟨A.RNG_ENUM, 13, 1⟩
/-- RNG_ENUM.MATCH (RO). -/
def F.RNG_ENUM_MATCH : Fld := ⟨A.RNG_ENUM, 14, 1⟩
/-- The offset of RNG_CRCFG (11). -/
def A.RNG_CRCFG : Nat := 0x080008
/-- RNG_CRCFG.EGRFRAC (IMG). -/
def F.RNG_CRCFG_EGRFRAC : Fld := ⟨A.RNG_CRCFG, 0, 8⟩
/-- The offset of RNG_GRANT (11). -/
def A.RNG_GRANT : Nat := 0x08000C
/-- RNG_GRANT.GRANT (RO). -/
def F.RNG_GRANT_GRANT : Fld := ⟨A.RNG_GRANT, 0, 16⟩
/-- RNG_GRANT.USED (RO). -/
def F.RNG_GRANT_USED : Fld := ⟨A.RNG_GRANT, 16, 16⟩
/-- The offset of RNG_POOL (11). -/
def A.RNG_POOL : Nat := 0x080010
/-- RNG_POOL.POOL (RO). -/
def F.RNG_POOL_POOL : Fld := ⟨A.RNG_POOL, 0, 16⟩
/-- RNG_POOL.BACK (RO). -/
def F.RNG_POOL_BACK : Fld := ⟨A.RNG_POOL, 16, 16⟩
/-- The offset of RNG_DROP (11). -/
def A.RNG_DROP : Nat := 0x080014
/-- RNG_DROP.AGED (RO). -/
def F.RNG_DROP_AGED : Fld := ⟨A.RNG_DROP, 0, 16⟩
/-- RNG_DROP.UNDELIV (RO). -/
def F.RNG_DROP_UNDELIV : Fld := ⟨A.RNG_DROP, 16, 16⟩
/-- The offset of RNG_SHAREi (11). -/
def A.RNG_SHARE (i : Nat) : Nat := 0x080020 + 4 * i
/-- RNG_SHAREi.SHARE (IMG). -/
def F.RNG_SHARE_SHARE (i : Nat) : Fld := ⟨A.RNG_SHARE i, 0, 32⟩
/-- The offset of RNG_HOPh_STAT (11). -/
def A.RNG_HOP_STAT (h : Nat) : Nat := 0x080080 + 16 * h
/-- RNG_HOPh_STAT.STATE (RO). -/
def F.RNG_HOP_STAT_STATE (h : Nat) : Fld := ⟨A.RNG_HOP_STAT h, 0, 2⟩
/-- RNG_HOPh_STAT.WRAPPED (RO). -/
def F.RNG_HOP_STAT_WRAPPED (h : Nat) : Fld := ⟨A.RNG_HOP_STAT h, 2, 1⟩
/-- RNG_HOPh_STAT.UNWPEND (RO). -/
def F.RNG_HOP_STAT_UNWPEND (h : Nat) : Fld := ⟨A.RNG_HOP_STAT h, 3, 1⟩
/-- RNG_HOPh_STAT.NEIGH (RO). -/
def F.RNG_HOP_STAT_NEIGH (h : Nat) : Fld := ⟨A.RNG_HOP_STAT h, 8, 6⟩
/-- RNG_HOPh_STAT.UNWAT (RO). -/
def F.RNG_HOP_STAT_UNWAT (h : Nat) : Fld := ⟨A.RNG_HOP_STAT h, 16, 16⟩
/-- The offset of RNG_HOPh_ERR (11). -/
def A.RNG_HOP_ERR (h : Nat) : Nat := 0x080084 + 16 * h
/-- RNG_HOPh_ERR.CRCERR (RO). -/
def F.RNG_HOP_ERR_CRCERR (h : Nat) : Fld := ⟨A.RNG_HOP_ERR h, 0, 16⟩
/-- RNG_HOPh_ERR.LOSTCNT (RO). -/
def F.RNG_HOP_ERR_LOSTCNT (h : Nat) : Fld := ⟨A.RNG_HOP_ERR h, 16, 16⟩
/-- The offset of RNG_HOPh_RETX (11). -/
def A.RNG_HOP_RETX (h : Nat) : Nat := 0x080088 + 16 * h
/-- RNG_HOPh_RETX.NAKCNT (RO). -/
def F.RNG_HOP_RETX_NAKCNT (h : Nat) : Fld := ⟨A.RNG_HOP_RETX h, 0, 16⟩
/-- RNG_HOPh_RETX.RETXCNT (RO). -/
def F.RNG_HOP_RETX_RETXCNT (h : Nat) : Fld := ⟨A.RNG_HOP_RETX h, 16, 16⟩
/-- The offset of ETH_Pp_CFG (11). -/
def A.ETH_P_CFG (p : Nat) : Nat := 0x081000 + 32 * p
/-- ETH_Pp_CFG.EN (IMG). -/
def F.ETH_P_CFG_EN (p : Nat) : Fld := ⟨A.ETH_P_CFG p, 0, 1⟩
/-- ETH_Pp_CFG.RATES (IMG). -/
def F.ETH_P_CFG_RATES (p : Nat) : Fld := ⟨A.ETH_P_CFG p, 1, 4⟩
/-- ETH_Pp_CFG.PAUSEEN (IMG). -/
def F.ETH_P_CFG_PAUSEEN (p : Nat) : Fld := ⟨A.ETH_P_CFG p, 5, 1⟩
/-- ETH_Pp_CFG.VLANEN (IMG). -/
def F.ETH_P_CFG_VLANEN (p : Nat) : Fld := ⟨A.ETH_P_CFG p, 6, 1⟩
/-- ETH_Pp_CFG.PCP (IMG). -/
def F.ETH_P_CFG_PCP (p : Nat) : Fld := ⟨A.ETH_P_CFG p, 7, 3⟩
/-- ETH_Pp_CFG.VID (IMG). -/
def F.ETH_P_CFG_VID (p : Nat) : Fld := ⟨A.ETH_P_CFG p, 10, 12⟩
/-- The offset of ETH_Pp_MACL (11). -/
def A.ETH_P_MACL (p : Nat) : Nat := 0x081004 + 32 * p
/-- ETH_Pp_MACL.MAC (IMG). -/
def F.ETH_P_MACL_MAC (p : Nat) : Fld := ⟨A.ETH_P_MACL p, 0, 32⟩
/-- The offset of ETH_Pp_MACH (11). -/
def A.ETH_P_MACH (p : Nat) : Nat := 0x081008 + 32 * p
/-- ETH_Pp_MACH.MAC (IMG). -/
def F.ETH_P_MACH_MAC (p : Nat) : Fld := ⟨A.ETH_P_MACH p, 0, 16⟩
/-- The offset of ETH_Pp_STAT (11). -/
def A.ETH_P_STAT (p : Nat) : Nat := 0x08100C + 32 * p
/-- ETH_Pp_STAT.LINK (RO). -/
def F.ETH_P_STAT_LINK (p : Nat) : Fld := ⟨A.ETH_P_STAT p, 0, 1⟩
/-- ETH_Pp_STAT.RATE (RO). -/
def F.ETH_P_STAT_RATE (p : Nat) : Fld := ⟨A.ETH_P_STAT p, 1, 2⟩
/-- ETH_Pp_STAT.PAUSED (RO). -/
def F.ETH_P_STAT_PAUSED (p : Nat) : Fld := ⟨A.ETH_P_STAT p, 3, 1⟩
/-- ETH_Pp_STAT.DOWNCNT (RO). -/
def F.ETH_P_STAT_DOWNCNT (p : Nat) : Fld := ⟨A.ETH_P_STAT p, 16, 16⟩
/-- The offset of ETH_Pp_CNT (11). -/
def A.ETH_P_CNT (p : Nat) : Nat := 0x081010 + 32 * p
/-- ETH_Pp_CNT.RXBAD (RO). -/
def F.ETH_P_CNT_RXBAD (p : Nat) : Fld := ⟨A.ETH_P_CNT p, 0, 16⟩
/-- ETH_Pp_CNT.RXOTHER (RO). -/
def F.ETH_P_CNT_RXOTHER (p : Nat) : Fld := ⟨A.ETH_P_CNT p, 16, 16⟩
/-- The offset of ETH_AUTH (11). -/
def A.ETH_AUTH : Nat := 0x081040
/-- ETH_AUTH.FWIN (IMG). -/
def F.ETH_AUTH_FWIN : Fld := ⟨A.ETH_AUTH, 0, 8⟩
/-- The offset of ETH_AUTHSTAT (11). -/
def A.ETH_AUTHSTAT : Nat := 0x081044
/-- ETH_AUTHSTAT.MACFAIL (RO). -/
def F.ETH_AUTHSTAT_MACFAIL : Fld := ⟨A.ETH_AUTHSTAT, 0, 16⟩
/-- ETH_AUTHSTAT.FRESHREJ (RO). -/
def F.ETH_AUTHSTAT_FRESHREJ : Fld := ⟨A.ETH_AUTHSTAT, 16, 16⟩
/-- The offset of ETH_TELPH (11). -/
def A.ETH_TELPH : Nat := 0x081048
/-- ETH_TELPH.TELPH (IMG). -/
def F.ETH_TELPH_TELPH : Fld := ⟨A.ETH_TELPH, 0, 18⟩
/-- The offset of ETH_TELk_CFG (11). -/
def A.ETH_TEL_CFG (k : Nat) : Nat := 0x081100 + 8 * k
/-- ETH_TELk_CFG.EN (IMG). -/
def F.ETH_TEL_CFG_EN (k : Nat) : Fld := ⟨A.ETH_TEL_CFG k, 0, 1⟩
/-- ETH_TELk_CFG.NSIGM1 (IMG). -/
def F.ETH_TEL_CFG_NSIGM1 (k : Nat) : Fld := ⟨A.ETH_TEL_CFG k, 1, 6⟩
/-- ETH_TELk_CFG.KM1 (IMG). -/
def F.ETH_TEL_CFG_KM1 (k : Nat) : Fld := ⟨A.ETH_TEL_CFG k, 7, 8⟩
/-- ETH_TELk_CFG.KOFS (IMG). -/
def F.ETH_TEL_CFG_KOFS (k : Nat) : Fld := ⟨A.ETH_TEL_CFG k, 15, 8⟩
/-- ETH_TELk_CFG.ROUTE (IMG). -/
def F.ETH_TEL_CFG_ROUTE (k : Nat) : Fld := ⟨A.ETH_TEL_CFG k, 23, 3⟩
/-- The offset of ETH_TELk_STAT (11). -/
def A.ETH_TEL_STAT (k : Nat) : Nat := 0x081104 + 8 * k
/-- ETH_TELk_STAT.SEQ (RO). -/
def F.ETH_TEL_STAT_SEQ (k : Nat) : Fld := ⟨A.ETH_TEL_STAT k, 0, 16⟩
/-- ETH_TELk_STAT.DROPS (RO). -/
def F.ETH_TEL_STAT_DROPS (k : Nat) : Fld := ⟨A.ETH_TEL_STAT k, 16, 16⟩
/-- The offset of CAN_CHc_CFG (12). -/
def A.CAN_CH_CFG (c : Nat) : Nat := 0x090000 + 1024 * c
/-- CAN_CHc_CFG.EN (IMG). -/
def F.CAN_CH_CFG_EN (c : Nat) : Fld := ⟨A.CAN_CH_CFG c, 0, 1⟩
/-- CAN_CHc_CFG.FDEN (IMG). -/
def F.CAN_CH_CFG_FDEN (c : Nat) : Fld := ⟨A.CAN_CH_CFG c, 1, 1⟩
/-- CAN_CHc_CFG.BRSEN (IMG). -/
def F.CAN_CH_CFG_BRSEN (c : Nat) : Fld := ⟨A.CAN_CH_CFG c, 2, 1⟩
/-- CAN_CHc_CFG.CYCLE (IMG). -/
def F.CAN_CH_CFG_CYCLE (c : Nat) : Fld := ⟨A.CAN_CH_CFG c, 3, 10⟩
/-- CAN_CHc_CFG.LONE_LIMIT (IMG). -/
def F.CAN_CH_CFG_LONE_LIMIT (c : Nat) : Fld := ⟨A.CAN_CH_CFG c, 13, 6⟩
/-- The offset of CAN_CHc_NBT (12). -/
def A.CAN_CH_NBT (c : Nat) : Nat := 0x090004 + 1024 * c
/-- CAN_CHc_NBT.BRP (IMG). -/
def F.CAN_CH_NBT_BRP (c : Nat) : Fld := ⟨A.CAN_CH_NBT c, 0, 5⟩
/-- CAN_CHc_NBT.TSEG1 (IMG). -/
def F.CAN_CH_NBT_TSEG1 (c : Nat) : Fld := ⟨A.CAN_CH_NBT c, 5, 8⟩
/-- CAN_CHc_NBT.TSEG2 (IMG). -/
def F.CAN_CH_NBT_TSEG2 (c : Nat) : Fld := ⟨A.CAN_CH_NBT c, 13, 7⟩
/-- CAN_CHc_NBT.SJW (IMG). -/
def F.CAN_CH_NBT_SJW (c : Nat) : Fld := ⟨A.CAN_CH_NBT c, 20, 7⟩
/-- The offset of CAN_CHc_DBT (12). -/
def A.CAN_CH_DBT (c : Nat) : Nat := 0x090008 + 1024 * c
/-- CAN_CHc_DBT.DBRP (IMG). -/
def F.CAN_CH_DBT_DBRP (c : Nat) : Fld := ⟨A.CAN_CH_DBT c, 0, 5⟩
/-- CAN_CHc_DBT.DTSEG1 (IMG). -/
def F.CAN_CH_DBT_DTSEG1 (c : Nat) : Fld := ⟨A.CAN_CH_DBT c, 5, 5⟩
/-- CAN_CHc_DBT.DTSEG2 (IMG). -/
def F.CAN_CH_DBT_DTSEG2 (c : Nat) : Fld := ⟨A.CAN_CH_DBT c, 10, 4⟩
/-- CAN_CHc_DBT.DSJW (IMG). -/
def F.CAN_CH_DBT_DSJW (c : Nat) : Fld := ⟨A.CAN_CH_DBT c, 14, 4⟩
/-- CAN_CHc_DBT.TDCEN (IMG). -/
def F.CAN_CH_DBT_TDCEN (c : Nat) : Fld := ⟨A.CAN_CH_DBT c, 18, 1⟩
/-- CAN_CHc_DBT.TDCO (IMG). -/
def F.CAN_CH_DBT_TDCO (c : Nat) : Fld := ⟨A.CAN_CH_DBT c, 19, 7⟩
/-- The offset of CAN_CHc_STAT (12). -/
def A.CAN_CH_STAT (c : Nat) : Nat := 0x09000C + 1024 * c
/-- CAN_CHc_STAT.TEC (RO). -/
def F.CAN_CH_STAT_TEC (c : Nat) : Fld := ⟨A.CAN_CH_STAT c, 0, 8⟩
/-- CAN_CHc_STAT.REC (RO). -/
def F.CAN_CH_STAT_REC (c : Nat) : Fld := ⟨A.CAN_CH_STAT c, 8, 8⟩
/-- CAN_CHc_STAT.ESTATE (RO). -/
def F.CAN_CH_STAT_ESTATE (c : Nat) : Fld := ⟨A.CAN_CH_STAT c, 16, 2⟩
/-- CAN_CHc_STAT.EWARN (RO). -/
def F.CAN_CH_STAT_EWARN (c : Nat) : Fld := ⟨A.CAN_CH_STAT c, 18, 1⟩
/-- CAN_CHc_STAT.NOPART (RO). -/
def F.CAN_CH_STAT_NOPART (c : Nat) : Fld := ⟨A.CAN_CH_STAT c, 19, 1⟩
/-- CAN_CHc_STAT.RECSEQ (RO). -/
def F.CAN_CH_STAT_RECSEQ (c : Nat) : Fld := ⟨A.CAN_CH_STAT c, 20, 8⟩
/-- The offset of CAN_CHc_FLT (12). -/
def A.CAN_CH_FLT (c : Nat) : Nat := 0x090010 + 1024 * c
/-- CAN_CHc_FLT.BUSOFF (W1C). -/
def F.CAN_CH_FLT_BUSOFF (c : Nat) : Fld := ⟨A.CAN_CH_FLT c, 0, 1⟩
/-- CAN_CHc_FLT.PASSIVE (W1C). -/
def F.CAN_CH_FLT_PASSIVE (c : Nat) : Fld := ⟨A.CAN_CH_FLT c, 1, 1⟩
/-- CAN_CHc_FLT.NOPARTNER (W1C). -/
def F.CAN_CH_FLT_NOPARTNER (c : Nat) : Fld := ⟨A.CAN_CH_FLT c, 2, 1⟩
/-- CAN_CHc_FLT.MISSED (W1C). -/
def F.CAN_CH_FLT_MISSED (c : Nat) : Fld := ⟨A.CAN_CH_FLT c, 3, 1⟩
/-- CAN_CHc_FLT.RXOVR (W1C). -/
def F.CAN_CH_FLT_RXOVR (c : Nat) : Fld := ⟨A.CAN_CH_FLT c, 4, 1⟩
/-- CAN_CHc_FLT.BOCNT (RO). -/
def F.CAN_CH_FLT_BOCNT (c : Nat) : Fld := ⟨A.CAN_CH_FLT c, 16, 16⟩
/-- The offset of CAN_CHc_CNT (12). -/
def A.CAN_CH_CNT (c : Nat) : Nat := 0x090014 + 1024 * c
/-- CAN_CHc_CNT.MISSCNT (RO). -/
def F.CAN_CH_CNT_MISSCNT (c : Nat) : Fld := ⟨A.CAN_CH_CNT c, 0, 16⟩
/-- CAN_CHc_CNT.EMPTYCNT (RO). -/
def F.CAN_CH_CNT_EMPTYCNT (c : Nat) : Fld := ⟨A.CAN_CH_CNT c, 16, 16⟩
/-- The offset of CAN_CHc_CNT2 (12). -/
def A.CAN_CH_CNT2 (c : Nat) : Nat := 0x090018 + 1024 * c
/-- CAN_CHc_CNT2.RXDISC (RO). -/
def F.CAN_CH_CNT2_RXDISC (c : Nat) : Fld := ⟨A.CAN_CH_CNT2 c, 0, 16⟩
/-- CAN_CHc_CNT2.TXOKCNT (RO). -/
def F.CAN_CH_CNT2_TXOKCNT (c : Nat) : Fld := ⟨A.CAN_CH_CNT2 c, 16, 16⟩
/-- The offset of CAN_CHc_TDCV (12). -/
def A.CAN_CH_TDCV (c : Nat) : Nat := 0x09001C + 1024 * c
/-- CAN_CHc_TDCV.TDCV (RO). -/
def F.CAN_CH_TDCV_TDCV (c : Nat) : Fld := ⟨A.CAN_CH_TDCV c, 0, 7⟩
/-- The offset of CAN_CHc_SLOTs (12). -/
def A.CAN_CH_SLOT (c s : Nat) : Nat := 0x090080 + 1024 * c + 4 * s
/-- CAN_CHc_SLOTs.OFS (IMG). -/
def F.CAN_CH_SLOT_OFS (c s : Nat) : Fld := ⟨A.CAN_CH_SLOT c s, 0, 18⟩
/-- CAN_CHc_SLOTs.EN (IMG). -/
def F.CAN_CH_SLOT_EN (c s : Nat) : Fld := ⟨A.CAN_CH_SLOT c s, 31, 1⟩
/-- The offset of CAN_CHc_CELLw (12). -/
def A.CAN_CH_CELL (c w : Nat) : Nat := 0x090200 + 1024 * c + 4 * w
/-- CAN_CHc_CELLw.MB of cell k (k = 0 to 3 within the word). -/
def F.CAN_CH_CELL_MB (c w k : Nat) : Fld := ⟨A.CAN_CH_CELL c w, 8 * k, 5⟩
/-- CAN_CHc_CELLw.EN of cell k. -/
def F.CAN_CH_CELL_EN (c w k : Nat) : Fld := ⟨A.CAN_CH_CELL c w, 8 * k + 7, 1⟩
/-- The offset of CAN_MBc_m_CFG (12). -/
def A.CAN_MB_CFG (c m : Nat) : Nat := 0x092000 + 3072 * c + 96 * m
/-- CAN_MBc_m_CFG.EN (IMG). -/
def F.CAN_MB_CFG_EN (c m : Nat) : Fld := ⟨A.CAN_MB_CFG c m, 0, 1⟩
/-- CAN_MBc_m_CFG.KIND (IMG). -/
def F.CAN_MB_CFG_KIND (c m : Nat) : Fld := ⟨A.CAN_MB_CFG c m, 1, 2⟩
/-- CAN_MBc_m_CFG.IDE (IMG). -/
def F.CAN_MB_CFG_IDE (c m : Nat) : Fld := ⟨A.CAN_MB_CFG c m, 3, 1⟩
/-- CAN_MBc_m_CFG.FDF (IMG). -/
def F.CAN_MB_CFG_FDF (c m : Nat) : Fld := ⟨A.CAN_MB_CFG c m, 4, 1⟩
/-- CAN_MBc_m_CFG.BRS (IMG). -/
def F.CAN_MB_CFG_BRS (c m : Nat) : Fld := ⟨A.CAN_MB_CFG c m, 5, 1⟩
/-- CAN_MBc_m_CFG.RTR (IMG). -/
def F.CAN_MB_CFG_RTR (c m : Nat) : Fld := ⟨A.CAN_MB_CFG c m, 6, 1⟩
/-- CAN_MBc_m_CFG.FRESHONLY (IMG). -/
def F.CAN_MB_CFG_FRESHONLY (c m : Nat) : Fld := ⟨A.CAN_MB_CFG c m, 7, 1⟩
/-- CAN_MBc_m_CFG.IRQEN (IMG). -/
def F.CAN_MB_CFG_IRQEN (c m : Nat) : Fld := ⟨A.CAN_MB_CFG c m, 8, 1⟩
/-- The offset of CAN_MBc_m_ID (12). -/
def A.CAN_MB_ID (c m : Nat) : Nat := 0x092004 + 3072 * c + 96 * m
/-- CAN_MBc_m_ID.ID (IMG). -/
def F.CAN_MB_ID_ID (c m : Nat) : Fld := ⟨A.CAN_MB_ID c m, 0, 29⟩
/-- The offset of CAN_MBc_m_MASK (12). -/
def A.CAN_MB_MASK (c m : Nat) : Nat := 0x092008 + 3072 * c + 96 * m
/-- CAN_MBc_m_MASK.MASK (IMG). -/
def F.CAN_MB_MASK_MASK (c m : Nat) : Fld := ⟨A.CAN_MB_MASK c m, 0, 29⟩
/-- The offset of CAN_MBc_m_CTRL (12). -/
def A.CAN_MB_CTRL (c m : Nat) : Nat := 0x09200C + 3072 * c + 96 * m
/-- CAN_MBc_m_CTRL.DLC (RW). -/
def F.CAN_MB_CTRL_DLC (c m : Nat) : Fld := ⟨A.CAN_MB_CTRL c m, 0, 4⟩
/-- CAN_MBc_m_CTRL.COMMIT (WO). -/
def F.CAN_MB_CTRL_COMMIT (c m : Nat) : Fld := ⟨A.CAN_MB_CTRL c m, 4, 1⟩
/-- CAN_MBc_m_CTRL.CANCEL (WO). -/
def F.CAN_MB_CTRL_CANCEL (c m : Nat) : Fld := ⟨A.CAN_MB_CTRL c m, 5, 1⟩
/-- The offset of CAN_MBc_m_STAT (12). -/
def A.CAN_MB_STAT (c m : Nat) : Nat := 0x092010 + 3072 * c + 96 * m
/-- CAN_MBc_m_STAT.PEND (RO). -/
def F.CAN_MB_STAT_PEND (c m : Nat) : Fld := ⟨A.CAN_MB_STAT c m, 0, 1⟩
/-- CAN_MBc_m_STAT.VALID (RO). -/
def F.CAN_MB_STAT_VALID (c m : Nat) : Fld := ⟨A.CAN_MB_STAT c m, 1, 1⟩
/-- CAN_MBc_m_STAT.TXOK (W1C). -/
def F.CAN_MB_STAT_TXOK (c m : Nat) : Fld := ⟨A.CAN_MB_STAT c m, 2, 1⟩
/-- CAN_MBc_m_STAT.RXNEW (W1C). -/
def F.CAN_MB_STAT_RXNEW (c m : Nat) : Fld := ⟨A.CAN_MB_STAT c m, 3, 1⟩
/-- CAN_MBc_m_STAT.OVR (W1C). -/
def F.CAN_MB_STAT_OVR (c m : Nat) : Fld := ⟨A.CAN_MB_STAT c m, 4, 1⟩
/-- CAN_MBc_m_STAT.EXPIRED (W1C). -/
def F.CAN_MB_STAT_EXPIRED (c m : Nat) : Fld := ⟨A.CAN_MB_STAT c m, 5, 1⟩
/-- CAN_MBc_m_STAT.RXDLC (RO). -/
def F.CAN_MB_STAT_RXDLC (c m : Nat) : Fld := ⟨A.CAN_MB_STAT c m, 8, 4⟩
/-- CAN_MBc_m_STAT.RXFDF (RO). -/
def F.CAN_MB_STAT_RXFDF (c m : Nat) : Fld := ⟨A.CAN_MB_STAT c m, 12, 1⟩
/-- CAN_MBc_m_STAT.RXBRS (RO). -/
def F.CAN_MB_STAT_RXBRS (c m : Nat) : Fld := ⟨A.CAN_MB_STAT c m, 13, 1⟩
/-- CAN_MBc_m_STAT.RXESI (RO). -/
def F.CAN_MB_STAT_RXESI (c m : Nat) : Fld := ⟨A.CAN_MB_STAT c m, 14, 1⟩
/-- CAN_MBc_m_STAT.RXRTR (RO). -/
def F.CAN_MB_STAT_RXRTR (c m : Nat) : Fld := ⟨A.CAN_MB_STAT c m, 15, 1⟩
/-- CAN_MBc_m_STAT.STAMP (RO). -/
def F.CAN_MB_STAT_STAMP (c m : Nat) : Fld := ⟨A.CAN_MB_STAT c m, 16, 16⟩
/-- The offset of CAN_MBc_m_RXID (12). -/
def A.CAN_MB_RXID (c m : Nat) : Nat := 0x092014 + 3072 * c + 96 * m
/-- CAN_MBc_m_RXID.ID (RO). -/
def F.CAN_MB_RXID_ID (c m : Nat) : Fld := ⟨A.CAN_MB_RXID c m, 0, 29⟩
/-- CAN_MBc_m_RXID.IDE (RO). -/
def F.CAN_MB_RXID_IDE (c m : Nat) : Fld := ⟨A.CAN_MB_RXID c m, 29, 1⟩
/-- The offset of CAN_MBc_m_DATAi (12). -/
def A.CAN_MB_DATA (c m i : Nat) : Nat := 0x092020 + 3072 * c + 96 * m + 4 * i
/-- CAN_MBc_m_DATAi.DATA (RW). -/
def F.CAN_MB_DATA_DATA (c m i : Nat) : Fld := ⟨A.CAN_MB_DATA c m i, 0, 32⟩
/-- The offset of SENT_RXr_CFG (12). -/
def A.SENT_RX_CFG (r : Nat) : Nat := 0x098000 + 32 * r
/-- SENT_RXr_CFG.EN (IMG). -/
def F.SENT_RX_CFG_EN (r : Nat) : Fld := ⟨A.SENT_RX_CFG r, 0, 1⟩
/-- SENT_RXr_CFG.TICK (IMG). -/
def F.SENT_RX_CFG_TICK (r : Nat) : Fld := ⟨A.SENT_RX_CFG r, 1, 10⟩
/-- SENT_RXr_CFG.NNIB (IMG). -/
def F.SENT_RX_CFG_NNIB (r : Nat) : Fld := ⟨A.SENT_RX_CFG r, 11, 3⟩
/-- SENT_RXr_CFG.PAUSE (IMG). -/
def F.SENT_RX_CFG_PAUSE (r : Nat) : Fld := ⟨A.SENT_RX_CFG r, 14, 1⟩
/-- SENT_RXr_CFG.CRCLEG (IMG). -/
def F.SENT_RX_CFG_CRCLEG (r : Nat) : Fld := ⟨A.SENT_RX_CFG r, 15, 1⟩
/-- SENT_RXr_CFG.SMODE (IMG). -/
def F.SENT_RX_CFG_SMODE (r : Nat) : Fld := ⟨A.SENT_RX_CFG r, 16, 2⟩
/-- SENT_RXr_CFG.ERRLIM (IMG). -/
def F.SENT_RX_CFG_ERRLIM (r : Nat) : Fld := ⟨A.SENT_RX_CFG r, 18, 4⟩
/-- SENT_RXr_CFG.TOUT (IMG). -/
def F.SENT_RX_CFG_TOUT (r : Nat) : Fld := ⟨A.SENT_RX_CFG r, 22, 8⟩
/-- SENT_RXr_CFG.IRQEN (IMG). -/
def F.SENT_RX_CFG_IRQEN (r : Nat) : Fld := ⟨A.SENT_RX_CFG r, 30, 1⟩
/-- The offset of SENT_RXr_FAST (12). -/
def A.SENT_RX_FAST (r : Nat) : Nat := 0x098004 + 32 * r
/-- SENT_RXr_FAST.DATA (RO). -/
def F.SENT_RX_FAST_DATA (r : Nat) : Fld := ⟨A.SENT_RX_FAST r, 0, 24⟩
/-- SENT_RXr_FAST.STATUS (RO). -/
def F.SENT_RX_FAST_STATUS (r : Nat) : Fld := ⟨A.SENT_RX_FAST r, 24, 4⟩
/-- SENT_RXr_FAST.VALID (RO). -/
def F.SENT_RX_FAST_VALID (r : Nat) : Fld := ⟨A.SENT_RX_FAST r, 28, 1⟩
/-- The offset of SENT_RXr_STAMP (12). -/
def A.SENT_RX_STAMP (r : Nat) : Nat := 0x098008 + 32 * r
/-- SENT_RXr_STAMP.STAMP (RO). -/
def F.SENT_RX_STAMP_STAMP (r : Nat) : Fld := ⟨A.SENT_RX_STAMP r, 0, 16⟩
/-- SENT_RXr_STAMP.TICKM (RO). -/
def F.SENT_RX_STAMP_TICKM (r : Nat) : Fld := ⟨A.SENT_RX_STAMP r, 16, 16⟩
/-- The offset of SENT_RXr_SMSG (12). -/
def A.SENT_RX_SMSG (r : Nat) : Nat := 0x09800C + 32 * r
/-- SENT_RXr_SMSG.DATA (RO). -/
def F.SENT_RX_SMSG_DATA (r : Nat) : Fld := ⟨A.SENT_RX_SMSG r, 0, 16⟩
/-- SENT_RXr_SMSG.ID (RO). -/
def F.SENT_RX_SMSG_ID (r : Nat) : Fld := ⟨A.SENT_RX_SMSG r, 16, 8⟩
/-- SENT_RXr_SMSG.TYPE (RO). -/
def F.SENT_RX_SMSG_TYPE (r : Nat) : Fld := ⟨A.SENT_RX_SMSG r, 24, 2⟩
/-- SENT_RXr_SMSG.SEQ (RO). -/
def F.SENT_RX_SMSG_SEQ (r : Nat) : Fld := ⟨A.SENT_RX_SMSG r, 26, 6⟩
/-- The offset of SENT_RXr_FLT (12). -/
def A.SENT_RX_FLT (r : Nat) : Nat := 0x098010 + 32 * r
/-- SENT_RXr_FLT.CRC (W1C). -/
def F.SENT_RX_FLT_CRC (r : Nat) : Fld := ⟨A.SENT_RX_FLT r, 0, 1⟩
/-- SENT_RXr_FLT.NIBBLE (W1C). -/
def F.SENT_RX_FLT_NIBBLE (r : Nat) : Fld := ⟨A.SENT_RX_FLT r, 1, 1⟩
/-- SENT_RXr_FLT.CAL (W1C). -/
def F.SENT_RX_FLT_CAL (r : Nat) : Fld := ⟨A.SENT_RX_FLT r, 2, 1⟩
/-- SENT_RXr_FLT.TIMEOUT (W1C). -/
def F.SENT_RX_FLT_TIMEOUT (r : Nat) : Fld := ⟨A.SENT_RX_FLT r, 3, 1⟩
/-- SENT_RXr_FLT.SCRC (W1C). -/
def F.SENT_RX_FLT_SCRC (r : Nat) : Fld := ⟨A.SENT_RX_FLT r, 4, 1⟩
/-- SENT_RXr_FLT.FAILED (W1C). -/
def F.SENT_RX_FLT_FAILED (r : Nat) : Fld := ⟨A.SENT_RX_FLT r, 5, 1⟩
/-- SENT_RXr_FLT.ERRCNT (RO). -/
def F.SENT_RX_FLT_ERRCNT (r : Nat) : Fld := ⟨A.SENT_RX_FLT r, 16, 16⟩
/-- The offset of LIN_CHl_CFG (12). -/
def A.LIN_CH_CFG (l : Nat) : Nat := 0x099000 + 1024 * l
/-- LIN_CHl_CFG.EN (IMG). -/
def F.LIN_CH_CFG_EN (l : Nat) : Fld := ⟨A.LIN_CH_CFG l, 0, 1⟩
/-- LIN_CHl_CFG.BITCYC (IMG). -/
def F.LIN_CH_CFG_BITCYC (l : Nat) : Fld := ⟨A.LIN_CH_CFG l, 1, 17⟩
/-- LIN_CHl_CFG.NENT (IMG). -/
def F.LIN_CH_CFG_NENT (l : Nat) : Fld := ⟨A.LIN_CH_CFG l, 18, 5⟩
/-- LIN_CHl_CFG.NRLIM (IMG). -/
def F.LIN_CH_CFG_NRLIM (l : Nat) : Fld := ⟨A.LIN_CH_CFG l, 23, 4⟩
/-- LIN_CHl_CFG.BRK (IMG). -/
def F.LIN_CH_CFG_BRK (l : Nat) : Fld := ⟨A.LIN_CH_CFG l, 27, 4⟩
/-- LIN_CHl_CFG.IRQEN (IMG). -/
def F.LIN_CH_CFG_IRQEN (l : Nat) : Fld := ⟨A.LIN_CH_CFG l, 31, 1⟩
/-- The offset of LIN_CHl_STAT (12). -/
def A.LIN_CH_STAT (l : Nat) : Nat := 0x099004 + 1024 * l
/-- LIN_CHl_STAT.ENTRY (RO). -/
def F.LIN_CH_STAT_ENTRY (l : Nat) : Fld := ⟨A.LIN_CH_STAT l, 0, 5⟩
/-- LIN_CHl_STAT.NRCNT (RO). -/
def F.LIN_CH_STAT_NRCNT (l : Nat) : Fld := ⟨A.LIN_CH_STAT l, 16, 16⟩
/-- The offset of LIN_CHl_FLT (12). -/
def A.LIN_CH_FLT (l : Nat) : Nat := 0x099008 + 1024 * l
/-- LIN_CHl_FLT.NORESP (W1C). -/
def F.LIN_CH_FLT_NORESP (l : Nat) : Fld := ⟨A.LIN_CH_FLT l, 0, 1⟩
/-- LIN_CHl_FLT.CHKSUM (W1C). -/
def F.LIN_CH_FLT_CHKSUM (l : Nat) : Fld := ⟨A.LIN_CH_FLT l, 1, 1⟩
/-- LIN_CHl_FLT.BITERR (W1C). -/
def F.LIN_CH_FLT_BITERR (l : Nat) : Fld := ⟨A.LIN_CH_FLT l, 2, 1⟩
/-- LIN_CHl_FLT.FRAMING (W1C). -/
def F.LIN_CH_FLT_FRAMING (l : Nat) : Fld := ⟨A.LIN_CH_FLT l, 3, 1⟩
/-- LIN_CHl_FLT.ERRCNT (RO). -/
def F.LIN_CH_FLT_ERRCNT (l : Nat) : Fld := ⟨A.LIN_CH_FLT l, 16, 16⟩
/-- The offset of LIN_CHl_ENTe (12). -/
def A.LIN_CH_ENT (l e : Nat) : Nat := 0x099020 + 1024 * l + 4 * e
/-- LIN_CHl_ENTe.FID (IMG). -/
def F.LIN_CH_ENT_FID (l e : Nat) : Fld := ⟨A.LIN_CH_ENT l e, 0, 6⟩
/-- LIN_CHl_ENTe.DIR (IMG). -/
def F.LIN_CH_ENT_DIR (l e : Nat) : Fld := ⟨A.LIN_CH_ENT l e, 6, 1⟩
/-- LIN_CHl_ENTe.LEN (IMG). -/
def F.LIN_CH_ENT_LEN (l e : Nat) : Fld := ⟨A.LIN_CH_ENT l e, 7, 3⟩
/-- LIN_CHl_ENTe.CHK (IMG). -/
def F.LIN_CH_ENT_CHK (l e : Nat) : Fld := ⟨A.LIN_CH_ENT l e, 10, 1⟩
/-- LIN_CHl_ENTe.DUR (IMG). -/
def F.LIN_CH_ENT_DUR (l e : Nat) : Fld := ⟨A.LIN_CH_ENT l e, 11, 8⟩
/-- The offset of LIN_CHl_MBe_DATA0 (12). -/
def A.LIN_CH_MB_DATA0 (l e : Nat) : Nat := 0x099100 + 1024 * l + 16 * e
/-- LIN_CHl_MBe_DATA0.DATA (RW). -/
def F.LIN_CH_MB_DATA0_DATA (l e : Nat) : Fld := ⟨A.LIN_CH_MB_DATA0 l e, 0, 32⟩
/-- The offset of LIN_CHl_MBe_DATA1 (12). -/
def A.LIN_CH_MB_DATA1 (l e : Nat) : Nat := 0x099104 + 1024 * l + 16 * e
/-- LIN_CHl_MBe_DATA1.DATA (RW). -/
def F.LIN_CH_MB_DATA1_DATA (l e : Nat) : Fld := ⟨A.LIN_CH_MB_DATA1 l e, 0, 32⟩
/-- The offset of LIN_CHl_MBe_MBSTAT (12). -/
def A.LIN_CH_MB_MBSTAT (l e : Nat) : Nat := 0x099108 + 1024 * l + 16 * e
/-- LIN_CHl_MBe_MBSTAT.NEW (W1C). -/
def F.LIN_CH_MB_MBSTAT_NEW (l e : Nat) : Fld := ⟨A.LIN_CH_MB_MBSTAT l e, 0, 1⟩
/-- LIN_CHl_MBe_MBSTAT.NORESP (RO). -/
def F.LIN_CH_MB_MBSTAT_NORESP (l e : Nat) : Fld := ⟨A.LIN_CH_MB_MBSTAT l e, 1, 1⟩
/-- LIN_CHl_MBe_MBSTAT.ERR (RO). -/
def F.LIN_CH_MB_MBSTAT_ERR (l e : Nat) : Fld := ⟨A.LIN_CH_MB_MBSTAT l e, 2, 1⟩
/-- LIN_CHl_MBe_MBSTAT.NRRUN (RO). -/
def F.LIN_CH_MB_MBSTAT_NRRUN (l e : Nat) : Fld := ⟨A.LIN_CH_MB_MBSTAT l e, 8, 8⟩
/-- LIN_CHl_MBe_MBSTAT.STAMP (RO). -/
def F.LIN_CH_MB_MBSTAT_STAMP (l e : Nat) : Fld := ⟨A.LIN_CH_MB_MBSTAT l e, 16, 16⟩
/-- The offset of CIS_n_CFG (11). -/
def A.CIS_CFG (n : Nat) : Nat := 0x0A0000 + 16 * n
/-- CIS_n_CFG.SIZE (RO). -/
def F.CIS_CFG_SIZE (n : Nat) : Fld := ⟨A.CIS_CFG n, 0, 9⟩
/-- The offset of CIS_n_CNT (11). -/
def A.CIS_CNT (n : Nat) : Nat := 0x0A0004 + 16 * n
/-- CIS_n_CNT.COUNT (RO). -/
def F.CIS_CNT_COUNT (n : Nat) : Fld := ⟨A.CIS_CNT n, 0, 20⟩
/-- The offset of CIS_n_DROP (11). -/
def A.CIS_DROP (n : Nat) : Nat := 0x0A0008 + 16 * n
/-- CIS_n_DROP.DROP (RO). -/
def F.CIS_DROP_DROP (n : Nat) : Fld := ⟨A.CIS_DROP n, 0, 32⟩
/-- The offset of CIS_n_STAT (11). -/
def A.CIS_STAT (n : Nat) : Nat := 0x0A000C + 16 * n
/-- CIS_n_STAT.PTRERR (W1C). -/
def F.CIS_STAT_PTRERR (n : Nat) : Fld := ⟨A.CIS_STAT n, 0, 1⟩
/-- CIS_n_STAT.ECCERR (W1C). -/
def F.CIS_STAT_ECCERR (n : Nat) : Fld := ⟨A.CIS_STAT n, 1, 1⟩
/-- CIS_n_STAT.GAPPEND (RO). -/
def F.CIS_STAT_GAPPEND (n : Nat) : Fld := ⟨A.CIS_STAT n, 2, 1⟩
/-- CIS_n_STAT.RESETCNT (RO). -/
def F.CIS_STAT_RESETCNT (n : Nat) : Fld := ⟨A.CIS_STAT n, 8, 8⟩
/-- CIS_n_STAT.REWINDS (RO). -/
def F.CIS_STAT_REWINDS (n : Nat) : Fld := ⟨A.CIS_STAT n, 16, 16⟩
/-- The offset of CFG_STAT (13). -/
def A.CFG_STAT : Nat := 0x0B0000
/-- CFG_STAT.LOADED (RO). -/
def F.CFG_STAT_LOADED : Fld := ⟨A.CFG_STAT, 0, 1⟩
/-- CFG_STAT.BANK (RO). -/
def F.CFG_STAT_BANK : Fld := ⟨A.CFG_STAT, 1, 1⟩
/-- CFG_STAT.PORT (RO). -/
def F.CFG_STAT_PORT : Fld := ⟨A.CFG_STAT, 2, 1⟩
/-- CFG_STAT.NOIMAGE (RO). -/
def F.CFG_STAT_NOIMAGE : Fld := ⟨A.CFG_STAT, 3, 1⟩
/-- CFG_STAT.LOADT (RO). -/
def F.CFG_STAT_LOADT : Fld := ⟨A.CFG_STAT, 16, 16⟩
/-- The offset of CFG_SEQ (13). -/
def A.CFG_SEQ : Nat := 0x0B0004
/-- CFG_SEQ.SEQ (RO). -/
def F.CFG_SEQ_SEQ : Fld := ⟨A.CFG_SEQ, 0, 32⟩
/-- The offset of CFG_LEN (13). -/
def A.CFG_LEN : Nat := 0x0B0008
/-- CFG_LEN.LEN (RO). -/
def F.CFG_LEN_LEN : Fld := ⟨A.CFG_LEN, 0, 23⟩
/-- The offset of CFG_XSPI (13). -/
def A.CFG_XSPI : Nat := 0x0B000C
/-- CFG_XSPI.PROTO (RO). -/
def F.CFG_XSPI_PROTO : Fld := ⟨A.CFG_XSPI, 0, 2⟩
/-- CFG_XSPI.CLK (RO). -/
def F.CFG_XSPI_CLK : Fld := ⟨A.CFG_XSPI, 2, 2⟩
/-- CFG_XSPI.P1PRES (RO). -/
def F.CFG_XSPI_P1PRES : Fld := ⟨A.CFG_XSPI, 4, 1⟩
/-- The offset of CFG_BANKA_RES (13). -/
def A.CFG_BANKA_RES : Nat := 0x0B0010
/-- CFG_BANKA_RES.REASON (RO). -/
def F.CFG_BANKA_RES_REASON : Fld := ⟨A.CFG_BANKA_RES, 0, 5⟩
/-- CFG_BANKA_RES.CHECK (RO). -/
def F.CFG_BANKA_RES_CHECK : Fld := ⟨A.CFG_BANKA_RES, 8, 8⟩
/-- CFG_BANKA_RES.INDEX (RO). -/
def F.CFG_BANKA_RES_INDEX : Fld := ⟨A.CFG_BANKA_RES, 16, 16⟩
/-- The offset of CFG_BANKB_RES (13). -/
def A.CFG_BANKB_RES : Nat := 0x0B0014
/-- CFG_BANKB_RES.REASON (RO). -/
def F.CFG_BANKB_RES_REASON : Fld := ⟨A.CFG_BANKB_RES, 0, 5⟩
/-- CFG_BANKB_RES.CHECK (RO). -/
def F.CFG_BANKB_RES_CHECK : Fld := ⟨A.CFG_BANKB_RES, 8, 8⟩
/-- CFG_BANKB_RES.INDEX (RO). -/
def F.CFG_BANKB_RES_INDEX : Fld := ⟨A.CFG_BANKB_RES, 16, 16⟩
/-- The offset of CFG_BANKA_SEQ (13). -/
def A.CFG_BANKA_SEQ : Nat := 0x0B0018
/-- CFG_BANKA_SEQ.SEQ (RO). -/
def F.CFG_BANKA_SEQ_SEQ : Fld := ⟨A.CFG_BANKA_SEQ, 0, 32⟩
/-- The offset of CFG_BANKB_SEQ (13). -/
def A.CFG_BANKB_SEQ : Nat := 0x0B001C
/-- CFG_BANKB_SEQ.SEQ (RO). -/
def F.CFG_BANKB_SEQ_SEQ : Fld := ⟨A.CFG_BANKB_SEQ, 0, 32⟩
/-- The offset of CFG_NVM (13). -/
def A.CFG_NVM : Nat := 0x0B0020
/-- CFG_NVM.MOP (RO). -/
def F.CFG_NVM_MOP : Fld := ⟨A.CFG_NVM, 0, 3⟩
/-- CFG_NVM.BUSY (RO). -/
def F.CFG_NVM_BUSY : Fld := ⟨A.CFG_NVM, 3, 1⟩
/-- CFG_NVM.DONE (RO). -/
def F.CFG_NVM_DONE : Fld := ⟨A.CFG_NVM, 4, 1⟩
/-- CFG_NVM.FAIL (RO). -/
def F.CFG_NVM_FAIL : Fld := ⟨A.CFG_NVM, 5, 1⟩
/-- CFG_NVM.VERIFIED (RO). -/
def F.CFG_NVM_VERIFIED : Fld := ⟨A.CFG_NVM, 6, 1⟩
/-- CFG_NVM.FCODE (RO). -/
def F.CFG_NVM_FCODE : Fld := ⟨A.CFG_NVM, 8, 8⟩
/-- CFG_NVM.REMAIN (RO). -/
def F.CFG_NVM_REMAIN : Fld := ⟨A.CFG_NVM, 16, 16⟩
/-- The offset of IDM_BUSb_CFG (13). -/
def A.IDM_BUS_CFG (b : Nat) : Nat := 0x0B1000 + 4 * b
/-- IDM_BUSb_CFG.EN (IMG). -/
def F.IDM_BUS_CFG_EN (b : Nat) : Fld := ⟨A.IDM_BUS_CFG b, 0, 1⟩
/-- IDM_BUSb_CFG.FAST (IMG). -/
def F.IDM_BUS_CFG_FAST (b : Nat) : Fld := ⟨A.IDM_BUS_CFG b, 1, 1⟩
/-- The offset of IDM_RECk_STAT (13). -/
def A.IDM_REC_STAT (k : Nat) : Nat := 0x0B1100 + 4 * k
/-- IDM_RECk_STAT.USED (RO). -/
def F.IDM_REC_STAT_USED (k : Nat) : Fld := ⟨A.IDM_REC_STAT k, 0, 1⟩
/-- IDM_RECk_STAT.RSN (RO). -/
def F.IDM_REC_STAT_RSN (k : Nat) : Fld := ⟨A.IDM_REC_STAT k, 1, 4⟩
/-- IDM_RECk_STAT.REREAD (RO). -/
def F.IDM_REC_STAT_REREAD (k : Nat) : Fld := ⟨A.IDM_REC_STAT k, 5, 1⟩
/-- IDM_RECk_STAT.CLASS (RO). -/
def F.IDM_REC_STAT_CLASS (k : Nat) : Fld := ⟨A.IDM_REC_STAT k, 16, 16⟩
/-- The offset of IDM_RECk_DATAi (13). -/
def A.IDM_REC_DATA (k i : Nat) : Nat := 0x0B4000 + 256 * k + 4 * i
/-- IDM_RECk_DATAi.DATA (RO). -/
def F.IDM_REC_DATA_DATA (k i : Nat) : Fld := ⟨A.IDM_REC_DATA k i, 0, 32⟩
/-- The offset of STS_STAT (14). -/
def A.STS_STAT : Nat := 0x0C0000
/-- STS_STAT.VALID0 (RO). -/
def F.STS_STAT_VALID0 : Fld := ⟨A.STS_STAT, 0, 1⟩
/-- STS_STAT.VALID1 (RO). -/
def F.STS_STAT_VALID1 : Fld := ⟨A.STS_STAT, 1, 1⟩
/-- STS_STAT.NEWEST (RO). -/
def F.STS_STAT_NEWEST : Fld := ⟨A.STS_STAT, 2, 1⟩
/-- STS_STAT.BUSY (RO). -/
def F.STS_STAT_BUSY : Fld := ⟨A.STS_STAT, 3, 1⟩
/-- STS_STAT.RESTORED (RO). -/
def F.STS_STAT_RESTORED : Fld := ⟨A.STS_STAT, 4, 1⟩
/-- STS_STAT.LASTCAUSE (RO). -/
def F.STS_STAT_LASTCAUSE : Fld := ⟨A.STS_STAT, 5, 3⟩
/-- The offset of STS_SEQ (14). -/
def A.STS_SEQ : Nat := 0x0C0004
/-- STS_SEQ.SEQ (RO). -/
def F.STS_SEQ_SEQ : Fld := ⟨A.STS_SEQ, 0, 32⟩
/-- The offset of STS_START (14). -/
def A.STS_START : Nat := 0x0C0008
/-- STS_START.SEQ (RO). -/
def F.STS_START_SEQ : Fld := ⟨A.STS_START, 0, 32⟩
/-- The offset of STS_CNT (14). -/
def A.STS_CNT : Nat := 0x0C000C
/-- STS_CNT.WRITES (RO). -/
def F.STS_CNT_WRITES : Fld := ⟨A.STS_CNT, 0, 16⟩
/-- STS_CNT.FAILS (RO). -/
def F.STS_CNT_FAILS : Fld := ⟨A.STS_CNT, 16, 8⟩
/-- STS_CNT.ABANDON (RO). -/
def F.STS_CNT_ABANDON : Fld := ⟨A.STS_CNT, 24, 8⟩
/-- The offset of PWR_STAT (14). -/
def A.PWR_STAT : Nat := 0x0D0000
/-- PWR_STAT.SAGLIVE (RO). -/
def F.PWR_STAT_SAGLIVE : Fld := ⟨A.PWR_STAT, 0, 1⟩
/-- PWR_STAT.RTCVALID (RO). -/
def F.PWR_STAT_RTCVALID : Fld := ⟨A.PWR_STAT, 1, 1⟩
/-- PWR_STAT.XOSCOK (RO). -/
def F.PWR_STAT_XOSCOK : Fld := ⟨A.PWR_STAT, 2, 1⟩
/-- The offset of PWR_SAGPOLi (14). -/
def A.PWR_SAGPOL (i : Nat) : Nat := 0x0D0004 + 4 * i
/-- PWR_SAGPOLi.POLk of axis a = 16i + k. -/
def F.PWR_SAGPOL_POL (a : Nat) : Fld := ⟨A.PWR_SAGPOL (a / 16), 2 * (a % 16), 2⟩
/-- The offset of PWR_SLEEPRSN (14). -/
def A.PWR_SLEEPRSN : Nat := 0x0D000C
/-- PWR_SLEEPRSN.RSN (RW). -/
def F.PWR_SLEEPRSN_RSN : Fld := ⟨A.PWR_SLEEPRSN, 0, 8⟩
/-- The offset of PWR_SLEEPCMD (14). -/
def A.PWR_SLEEPCMD : Nat := 0x0D0010
/-- PWR_SLEEPCMD.SLEEP (WO). -/
def F.PWR_SLEEPCMD_SLEEP : Fld := ⟨A.PWR_SLEEPCMD, 0, 1⟩
/-- The offset of PWR_STARTCAUSE (14). -/
def A.PWR_STARTCAUSE : Nat := 0x0D0014
/-- PWR_STARTCAUSE.CAUSE (RO). -/
def F.PWR_STARTCAUSE_CAUSE : Fld := ⟨A.PWR_STARTCAUSE, 0, 3⟩
/-- PWR_STARTCAUSE.WKMASK (RO). -/
def F.PWR_STARTCAUSE_WKMASK : Fld := ⟨A.PWR_STARTCAUSE, 3, 6⟩
/-- The offset of PWR_RTC_SUB (14). -/
def A.PWR_RTC_SUB : Nat := 0x0D0020
/-- PWR_RTC_SUB.SUB (RO). -/
def F.PWR_RTC_SUB_SUB : Fld := ⟨A.PWR_RTC_SUB, 0, 15⟩
/-- The offset of PWR_RTC_LO (14). -/
def A.PWR_RTC_LO : Nat := 0x0D0024
/-- PWR_RTC_LO.SEC (RO). -/
def F.PWR_RTC_LO_SEC : Fld := ⟨A.PWR_RTC_LO, 0, 32⟩
/-- The offset of PWR_RTC_HI (14). -/
def A.PWR_RTC_HI : Nat := 0x0D0028
/-- PWR_RTC_HI.SEC (RO). -/
def F.PWR_RTC_HI_SEC : Fld := ⟨A.PWR_RTC_HI, 0, 16⟩
/-- The offset of PWR_RTCSET_LO (14). -/
def A.PWR_RTCSET_LO : Nat := 0x0D002C
/-- PWR_RTCSET_LO.SEC (RW). -/
def F.PWR_RTCSET_LO_SEC : Fld := ⟨A.PWR_RTCSET_LO, 0, 32⟩
/-- The offset of PWR_RTCSET_HI (14). -/
def A.PWR_RTCSET_HI : Nat := 0x0D0030
/-- PWR_RTCSET_HI.SEC (RW). -/
def F.PWR_RTCSET_HI_SEC : Fld := ⟨A.PWR_RTCSET_HI, 0, 16⟩
/-- The offset of PWR_RTCCMD (14). -/
def A.PWR_RTCCMD : Nat := 0x0D0034
/-- PWR_RTCCMD.SET (WO). -/
def F.PWR_RTCCMD_SET : Fld := ⟨A.PWR_RTCCMD, 0, 1⟩
/-- The offset of PWR_WKn_CFG (14). -/
def A.PWR_WK_CFG (n : Nat) : Nat := 0x0D0100 + 4 * n
/-- PWR_WKn_CFG.THR (IMG). -/
def F.PWR_WK_CFG_THR (n : Nat) : Fld := ⟨A.PWR_WK_CFG n, 0, 8⟩
/-- PWR_WKn_CFG.EDGE (IMG). -/
def F.PWR_WK_CFG_EDGE (n : Nat) : Fld := ⟨A.PWR_WK_CFG n, 8, 2⟩
/-- PWR_WKn_CFG.DEB (IMG). -/
def F.PWR_WK_CFG_DEB (n : Nat) : Fld := ⟨A.PWR_WK_CFG n, 10, 8⟩
/-- PWR_WKn_CFG.LIVE (RO). -/
def F.PWR_WK_CFG_LIVE (n : Nat) : Fld := ⟨A.PWR_WK_CFG n, 31, 1⟩
/-- The offset of PWR_WAKESEC (14). -/
def A.PWR_WAKESEC : Nat := 0x0D0118
/-- PWR_WAKESEC.SEC (RW). -/
def F.PWR_WAKESEC_SEC : Fld := ⟨A.PWR_WAKESEC, 0, 24⟩
/-- The offset of PWR_SLEEPREC (14). -/
def A.PWR_SLEEPREC : Nat := 0x0D011C
/-- PWR_SLEEPREC.RSN (RO). -/
def F.PWR_SLEEPREC_RSN : Fld := ⟨A.PWR_SLEEPREC, 0, 8⟩
/-- The offset of PWR_RESETREC (14). -/
def A.PWR_RESETREC : Nat := 0x0D0120
/-- PWR_RESETREC.HOLD (RO). -/
def F.PWR_RESETREC_HOLD : Fld := ⟨A.PWR_RESETREC, 0, 16⟩
/-- PWR_RESETREC.STUCK (RO). -/
def F.PWR_RESETREC_STUCK : Fld := ⟨A.PWR_RESETREC, 16, 1⟩
/-- The offset of PWR_STFAILREC (14). -/
def A.PWR_STFAILREC : Nat := 0x0D0124
/-- PWR_STFAILREC.ITEM (RO). -/
def F.PWR_STFAILREC_ITEM : Fld := ⟨A.PWR_STFAILREC, 0, 3⟩
/-- PWR_STFAILREC.MEM (RO). -/
def F.PWR_STFAILREC_MEM : Fld := ⟨A.PWR_STFAILREC, 3, 5⟩
/-- The offset of PWR_SCRATCHi (14). -/
def A.PWR_SCRATCH (i : Nat) : Nat := 0x0D0140 + 4 * i
/-- PWR_SCRATCHi.DATA (RW). -/
def F.PWR_SCRATCH_DATA (i : Nat) : Fld := ⟨A.PWR_SCRATCH i, 0, 32⟩
/-- The offset of BST_STARTRES (10). -/
def A.BST_STARTRES : Nat := 0x0E0000
/-- BST_STARTRES.PASS (RO). -/
def F.BST_STARTRES_PASS : Fld := ⟨A.BST_STARTRES, 0, 5⟩
/-- BST_STARTRES.PREVFAIL (RO). -/
def F.BST_STARTRES_PREVFAIL : Fld := ⟨A.BST_STARTRES, 5, 3⟩
/-- BST_STARTRES.DUR (RO). -/
def F.BST_STARTRES_DUR : Fld := ⟨A.BST_STARTRES, 16, 16⟩
/-- The offset of BST_PAIRp_CFG (10). -/
def A.BST_PAIR_CFG (p : Nat) : Nat := 0x0E0010 + 16 * p
/-- BST_PAIRp_CFG.SPLITEN (IMG). -/
def F.BST_PAIR_CFG_SPLITEN (p : Nat) : Fld := ⟨A.BST_PAIR_CFG p, 0, 1⟩
/-- BST_PAIRp_CFG.SPLITINIT (IMG). -/
def F.BST_PAIR_CFG_SPLITINIT (p : Nat) : Fld := ⟨A.BST_PAIR_CFG p, 1, 1⟩
/-- The offset of BST_PAIRp_VEC (10). -/
def A.BST_PAIR_VEC (p : Nat) : Nat := 0x0E0014 + 16 * p
/-- BST_PAIRp_VEC.SPLITVEC (IMG). -/
def F.BST_PAIR_VEC_SPLITVEC (p : Nat) : Fld := ⟨A.BST_PAIR_VEC p, 0, 32⟩
/-- The offset of BST_PAIRp_CMD (10). -/
def A.BST_PAIR_CMD (p : Nat) : Nat := 0x0E0018 + 16 * p
/-- BST_PAIRp_CMD.SPLIT (WO). -/
def F.BST_PAIR_CMD_SPLIT (p : Nat) : Fld := ⟨A.BST_PAIR_CMD p, 0, 1⟩
/-- BST_PAIRp_CMD.JOIN (WO). -/
def F.BST_PAIR_CMD_JOIN (p : Nat) : Fld := ⟨A.BST_PAIR_CMD p, 1, 1⟩
/-- The offset of BST_PAIRp_STAT (10). -/
def A.BST_PAIR_STAT (p : Nat) : Nat := 0x0E001C + 16 * p
/-- BST_PAIRp_STAT.MODE (RO). -/
def F.BST_PAIR_STAT_MODE (p : Nat) : Fld := ⟨A.BST_PAIR_STAT p, 0, 2⟩
/-- BST_PAIRp_STAT.REFUSED (W1C). -/
def F.BST_PAIR_STAT_REFUSED (p : Nat) : Fld := ⟨A.BST_PAIR_STAT p, 2, 1⟩
/-- BST_PAIRp_STAT.XFERT (RO). -/
def F.BST_PAIR_STAT_XFERT (p : Nat) : Fld := ⟨A.BST_PAIR_STAT p, 16, 16⟩
/-- The offset of BST_PAIRp_SIG (10). -/
def A.BST_PAIR_SIG (p : Nat) : Nat := 0x0E0030 + 4 * p
/-- BST_PAIRp_SIG.FLUSHCNT (RO). -/
def F.BST_PAIR_SIG_FLUSHCNT (p : Nat) : Fld := ⟨A.BST_PAIR_SIG p, 0, 16⟩
/-- BST_PAIRp_SIG.MISSCNT (RO). -/
def F.BST_PAIR_SIG_MISSCNT (p : Nat) : Fld := ⟨A.BST_PAIR_SIG p, 16, 8⟩
/-- BST_PAIRp_SIG.MISS (W1C). -/
def F.BST_PAIR_SIG_MISS (p : Nat) : Fld := ⟨A.BST_PAIR_SIG p, 24, 1⟩
/-- The offset of BST_LSFLT (10). -/
def A.BST_LSFLT : Nat := 0x0E0040
/-- BST_LSFLT.MM (RO). -/
def F.BST_LSFLT_MM : Fld := ⟨A.BST_LSFLT, 0, 1⟩
/-- BST_LSFLT.RAILA (RO). -/
def F.BST_LSFLT_RAILA : Fld := ⟨A.BST_LSFLT, 1, 1⟩
/-- BST_LSFLT.RAILB (RO). -/
def F.BST_LSFLT_RAILB : Fld := ⟨A.BST_LSFLT, 2, 1⟩
/-- BST_LSFLT.PARITY (RO). -/
def F.BST_LSFLT_PARITY : Fld := ⟨A.BST_LSFLT, 3, 1⟩
/-- BST_LSFLT.PAIR (RO). -/
def F.BST_LSFLT_PAIR : Fld := ⟨A.BST_LSFLT, 4, 1⟩
/-- BST_LSFLT.GROUPS (RO). -/
def F.BST_LSFLT_GROUPS : Fld := ⟨A.BST_LSFLT, 5, 8⟩
/-- BST_LSFLT.ATTR (RO). -/
def F.BST_LSFLT_ATTR : Fld := ⟨A.BST_LSFLT, 13, 2⟩
/-- The offset of BST_SLICE (10). -/
def A.BST_SLICE : Nat := 0x0E0050
/-- BST_SLICE.NEXT (RO). -/
def F.BST_SLICE_NEXT : Fld := ⟨A.BST_SLICE, 0, 15⟩
/-- BST_SLICE.PASSCNT (RO). -/
def F.BST_SLICE_PASSCNT : Fld := ⟨A.BST_SLICE, 16, 16⟩
/-- The offset of BST_SLICECNT (10). -/
def A.BST_SLICECNT : Nat := 0x0E0054
/-- BST_SLICECNT.SKIPRUN (RO). -/
def F.BST_SLICECNT_SKIPRUN : Fld := ⟨A.BST_SLICECNT, 0, 16⟩
/-- BST_SLICECNT.SKIPCNT (RO). -/
def F.BST_SLICECNT_SKIPCNT : Fld := ⟨A.BST_SLICECNT, 16, 16⟩
/-- The offset of BST_SLICEFAIL (10). -/
def A.BST_SLICEFAIL : Nat := 0x0E0058
/-- BST_SLICEFAIL.MEM (RO). -/
def F.BST_SLICEFAIL_MEM : Fld := ⟨A.BST_SLICEFAIL, 0, 5⟩
/-- BST_SLICEFAIL.OFFSET (RO). -/
def F.BST_SLICEFAIL_OFFSET : Fld := ⟨A.BST_SLICEFAIL, 8, 20⟩
/-- BST_SLICEFAIL.VALID (RO). -/
def F.BST_SLICEFAIL_VALID : Fld := ⟨A.BST_SLICEFAIL, 31, 1⟩
/-- The offset of BST_ISLSLICE (10). -/
def A.BST_ISLSLICE : Nat := 0x0E0060
/-- BST_ISLSLICE.NEXT (RO). -/
def F.BST_ISLSLICE_NEXT : Fld := ⟨A.BST_ISLSLICE, 0, 9⟩
/-- BST_ISLSLICE.PASSCNT (RO). -/
def F.BST_ISLSLICE_PASSCNT : Fld := ⟨A.BST_ISLSLICE, 16, 16⟩
/-- The offset of BST_DBG_CFG (10). -/
def A.BST_DBG_CFG : Nat := 0x0E0070
/-- BST_DBG_CFG.DEBUGRUN (IMG). -/
def F.BST_DBG_CFG_DEBUGRUN : Fld := ⟨A.BST_DBG_CFG, 0, 1⟩
/-- The offset of BST_DBG_STAT (10). -/
def A.BST_DBG_STAT : Nat := 0x0E0074
/-- BST_DBG_STAT.LEVEL (RO). -/
def F.BST_DBG_STAT_LEVEL : Fld := ⟨A.BST_DBG_STAT, 0, 2⟩
/-- BST_DBG_STAT.ZEROISED (RO). -/
def F.BST_DBG_STAT_ZEROISED : Fld := ⟨A.BST_DBG_STAT, 2, 1⟩
/-- BST_DBG_STAT.FAILS (RO). -/
def F.BST_DBG_STAT_FAILS : Fld := ⟨A.BST_DBG_STAT, 3, 2⟩
/-- BST_DBG_STAT.LOCKOUT (RO). -/
def F.BST_DBG_STAT_LOCKOUT : Fld := ⟨A.BST_DBG_STAT, 5, 1⟩
/-- The offset of FLT_WIDX (15). -/
def A.FLT_WIDX : Nat := 0x0F0000
/-- FLT_WIDX.WIDX (RO). -/
def F.FLT_WIDX_WIDX : Fld := ⟨A.FLT_WIDX, 0, 32⟩
/-- The offset of FLT_STAT (15). -/
def A.FLT_STAT : Nat := 0x0F0004
/-- FLT_STAT.SEEN (W1C). -/
def F.FLT_STAT_SEEN : Fld := ⟨A.FLT_STAT, 0, 5⟩
/-- FLT_STAT.MAXCLS (RO). -/
def F.FLT_STAT_MAXCLS : Fld := ⟨A.FLT_STAT, 5, 3⟩
/-- FLT_STAT.PREVN (RO). -/
def F.FLT_STAT_PREVN : Fld := ⟨A.FLT_STAT, 8, 8⟩
/-- The offset of FLT_CNT0 (15). -/
def A.FLT_CNT0 : Nat := 0x0F0008
/-- FLT_CNT0.N (RO). -/
def F.FLT_CNT0_N : Fld := ⟨A.FLT_CNT0, 0, 16⟩
/-- FLT_CNT0.W (RO). -/
def F.FLT_CNT0_W : Fld := ⟨A.FLT_CNT0, 16, 16⟩
/-- The offset of FLT_CNT1 (15). -/
def A.FLT_CNT1 : Nat := 0x0F000C
/-- FLT_CNT1.AX (RO). -/
def F.FLT_CNT1_AX : Fld := ⟨A.FLT_CNT1, 0, 16⟩
/-- FLT_CNT1.TM (RO). -/
def F.FLT_CNT1_TM : Fld := ⟨A.FLT_CNT1, 16, 16⟩
/-- The offset of FLT_CNT2 (15). -/
def A.FLT_CNT2 : Nat := 0x0F0010
/-- FLT_CNT2.DV (RO). -/
def F.FLT_CNT2_DV : Fld := ⟨A.FLT_CNT2, 0, 16⟩
/-- The offset of FLT_AXSUM (15). -/
def A.FLT_AXSUM : Nat := 0x0F0014
/-- FLT_AXSUM.AXF (RO). -/
def F.FLT_AXSUM_AXF : Fld := ⟨A.FLT_AXSUM, 0, 32⟩
/-- The offset of FLT_AXSAFE (15). -/
def A.FLT_AXSAFE : Nat := 0x0F0018
/-- FLT_AXSAFE.SAFE (RO). -/
def F.FLT_AXSAFE_SAFE : Fld := ⟨A.FLT_AXSAFE, 0, 32⟩
/-- The offset of FLT_TEAMSUM (15). -/
def A.FLT_TEAMSUM : Nat := 0x0F001C
/-- FLT_TEAMSUM.TMLAT (RO). -/
def F.FLT_TEAMSUM_TMLAT : Fld := ⟨A.FLT_TEAMSUM, 0, 8⟩
/-- FLT_TEAMSUM.GSUV (RO). -/
def F.FLT_TEAMSUM_GSUV : Fld := ⟨A.FLT_TEAMSUM, 8, 8⟩
/-- FLT_TEAMSUM.EN (RO). -/
def F.FLT_TEAMSUM_EN : Fld := ⟨A.FLT_TEAMSUM, 16, 8⟩
/-- The offset of FLT_DEVSUM (15). -/
def A.FLT_DEVSUM : Nat := 0x0F0020
/-- FLT_DEVSUM.DSTATE (RO). -/
def F.FLT_DEVSUM_DSTATE : Fld := ⟨A.FLT_DEVSUM, 0, 4⟩
/-- FLT_DEVSUM.DVLAT (RO). -/
def F.FLT_DEVSUM_DVLAT : Fld := ⟨A.FLT_DEVSUM, 4, 1⟩
/-- FLT_DEVSUM.SYNCED (RO). -/
def F.FLT_DEVSUM_SYNCED : Fld := ⟨A.FLT_DEVSUM, 5, 1⟩
/-- FLT_DEVSUM.WRAPPED (RO). -/
def F.FLT_DEVSUM_WRAPPED : Fld := ⟨A.FLT_DEVSUM, 6, 1⟩
/-- FLT_DEVSUM.STOPREQ (RO). -/
def F.FLT_DEVSUM_STOPREQ : Fld := ⟨A.FLT_DEVSUM, 7, 1⟩
/-- FLT_DEVSUM.NOREIN (RO). -/
def F.FLT_DEVSUM_NOREIN : Fld := ⟨A.FLT_DEVSUM, 8, 1⟩
/-- FLT_DEVSUM.NOIMAGE (RO). -/
def F.FLT_DEVSUM_NOIMAGE : Fld := ⟨A.FLT_DEVSUM, 9, 1⟩
/-- FLT_DEVSUM.DVCODE (RO). -/
def F.FLT_DEVSUM_DVCODE : Fld := ⟨A.FLT_DEVSUM, 16, 16⟩
/-- The offset of FLT_LOGs_W0 (15). -/
def A.FLT_LOG_W0 (s : Nat) : Nat := 0x0F4000 + 16 * s
/-- FLT_LOGs_W0.STAMP (RO). -/
def F.FLT_LOG_W0_STAMP (s : Nat) : Fld := ⟨A.FLT_LOG_W0 s, 0, 32⟩
/-- The offset of FLT_PLOGs_W0 (15). -/
def A.FLT_PLOG_W0 (s : Nat) : Nat := 0x0F8000 + 16 * s
/-- FLT_PLOGs_W0.STAMP (RO). -/
def F.FLT_PLOG_W0_STAMP (s : Nat) : Fld := ⟨A.FLT_PLOG_W0 s, 0, 32⟩
/-- The offset of FLT_LOGs_W1 (15). -/
def A.FLT_LOG_W1 (s : Nat) : Nat := 0x0F4004 + 16 * s
/-- FLT_LOGs_W1.STAMP (RO). -/
def F.FLT_LOG_W1_STAMP (s : Nat) : Fld := ⟨A.FLT_LOG_W1 s, 0, 16⟩
/-- FLT_LOGs_W1.CODE (RO). -/
def F.FLT_LOG_W1_CODE (s : Nat) : Fld := ⟨A.FLT_LOG_W1 s, 16, 16⟩
/-- The offset of FLT_PLOGs_W1 (15). -/
def A.FLT_PLOG_W1 (s : Nat) : Nat := 0x0F8004 + 16 * s
/-- FLT_PLOGs_W1.STAMP (RO). -/
def F.FLT_PLOG_W1_STAMP (s : Nat) : Fld := ⟨A.FLT_PLOG_W1 s, 0, 16⟩
/-- FLT_PLOGs_W1.CODE (RO). -/
def F.FLT_PLOG_W1_CODE (s : Nat) : Fld := ⟨A.FLT_PLOG_W1 s, 16, 16⟩
/-- The offset of FLT_LOGs_W2 (15). -/
def A.FLT_LOG_W2 (s : Nat) : Nat := 0x0F4008 + 16 * s
/-- FLT_LOGs_W2.SRC (RO). -/
def F.FLT_LOG_W2_SRC (s : Nat) : Fld := ⟨A.FLT_LOG_W2 s, 0, 16⟩
/-- FLT_LOGs_W2.CLASS (RO). -/
def F.FLT_LOG_W2_CLASS (s : Nat) : Fld := ⟨A.FLT_LOG_W2 s, 16, 8⟩
/-- FLT_LOGs_W2.FLAGS (RO). -/
def F.FLT_LOG_W2_FLAGS (s : Nat) : Fld := ⟨A.FLT_LOG_W2 s, 24, 8⟩
/-- The offset of FLT_PLOGs_W2 (15). -/
def A.FLT_PLOG_W2 (s : Nat) : Nat := 0x0F8008 + 16 * s
/-- FLT_PLOGs_W2.SRC (RO). -/
def F.FLT_PLOG_W2_SRC (s : Nat) : Fld := ⟨A.FLT_PLOG_W2 s, 0, 16⟩
/-- FLT_PLOGs_W2.CLASS (RO). -/
def F.FLT_PLOG_W2_CLASS (s : Nat) : Fld := ⟨A.FLT_PLOG_W2 s, 16, 8⟩
/-- FLT_PLOGs_W2.FLAGS (RO). -/
def F.FLT_PLOG_W2_FLAGS (s : Nat) : Fld := ⟨A.FLT_PLOG_W2 s, 24, 8⟩
/-- The offset of FLT_LOGs_W3 (15). -/
def A.FLT_LOG_W3 (s : Nat) : Nat := 0x0F400C + 16 * s
/-- FLT_LOGs_W3.DATA (RO). -/
def F.FLT_LOG_W3_DATA (s : Nat) : Fld := ⟨A.FLT_LOG_W3 s, 0, 32⟩
/-- The offset of FLT_PLOGs_W3 (15). -/
def A.FLT_PLOG_W3 (s : Nat) : Nat := 0x0F800C + 16 * s
/-- FLT_PLOGs_W3.DATA (RO). -/
def F.FLT_PLOG_W3_DATA (s : Nat) : Fld := ⟨A.FLT_PLOG_W3 s, 0, 32⟩

/-- The registers of the part, by the names of the block chapters. -/
inductive RegId where
  | ID_PART | ID_ROMVER | ID_SERIAL | ID_STATE | STR_PERIOD | STR_COUNT_LO
  | STR_COUNT_HI | STR_PHASE | STR_APHASE | STR_IPHASE | STR_OVERRUN | STR_COMMIT
  | STR_TASKOVR | STR_SYNCCFG | STR_SYNCSTAT | STR_HOPA | STR_HOPB | STR_ALIGNERR
  | STR_PATHA | STR_PATHB | STR_TEAM_CFG | STR_TEAM_CMT | STR_TEAM_UPD | STR_TASK_CFG
  | STR_TASK_AXES | STR_TASK_STAT | SNS_CH_CFG | SNS_CH_PAIR | SNS_CH_LSB | SNS_CH_FS
  | SNS_CH_GAIN | SNS_CH_OFS | SNS_CH_TRIM | SNS_CH_FTHPH | SNS_CH_FTHPL | SNS_CH_FTHR
  | SNS_CH_LIM | SNS_CH_RES | SNS_CH_RAW | SNS_CH_STAT | SNS_MCLK_CFG | SNS_DCL_CFG
  | SNS_DCL_STAT | SNS_KSET_CFG | SNS_KSET_LIM | POS_IF_CFG | POS_IF_CPR | POS_IF_OBS
  | POS_IF_ELIM | POS_IF_FLTCFG | POS_IF_ZOFS | POS_IF_SSI0 | POS_IF_SSI1 | POS_IF_SSI2
  | POS_IF_SSI3 | POS_IF_RES0 | POS_IF_RES1 | POS_IF_NP | POS_IF_NPT | POS_IF_ANG
  | POS_IF_TURN | POS_IF_SPD | POS_IF_ACC | POS_IF_STAT | POS_IF_ERR | POS_IF_AMP
  | POS_IF_FLT | POS_IF_EVCNT | POS_CMP_CFG | POS_CMP_TURN | POS_CMP_POS | POS_CMP_STAT
  | POS_CMP_STAMP | LE_TEAM_LAT | LE_TEAM_DLY | LE_TEAM_COST | LE_TEAM_STAT | LE_AX_CFG
  | LE_AX_LEGS | LE_AX_MOTOR | LE_AX_GS | LE_AX_SPAN | LE_AX_STAT | LE_AX_FLT
  | LE_AX_SPANSTAT | LE_AX_MODE | LE_AX_STATE | LE_AX_COMM | LE_AX_SFLT | LE_DCL_DCFG
  | LE_DCL_DTGT | LE_DCL_DCMD | LE_DCL_DSTAT | MOD_LEG_CFG | MOD_LEG_TIM | MOD_LEG_REF
  | MOD_LEG_FLT | MOD_LEG_CNT | MOD_LEG_DUTY | MOD_TEAM_CFG | MOD_TEAM_STAT | MOD_TEAM_MINP
  | MOD_AX_CFG | MOD_AX_STAT | MOD_DSPI_CFG | MOD_DSPI_STAT | SAF_STAT | SAF_TEAMEN
  | SAF_TEAMFLT | SAF_CLK | SAF_SMCBUD | SAF_SI_CFG | SAF_SI_STAT | SAF_SB_CFG
  | SAF_SB_CMD | SAF_SB_STAT | SAF_AX_TMCFG | SAF_AX_TMSTAT | SAF_AX_TMVAL | SAF_AX_FLT
  | GRP_G_CFG | GRP_G_MEM | GRP_G_CONN | GRP_G_AX | GRP_G_TIM | GRP_G_SHTOL
  | GRP_G_REDTQ | GRP_G_REDRATE | GRP_G_CMD | GRP_G_STAT | GRP_G_LEASE | GRP_G_FLT
  | GRP_G_CNT | GRP_G_TXSH | GRP_G_SHAD | GRP_G_TXFB | GRP_G_SHARE | GRP_CONN_CFG
  | GRP_CONN_ID | GRP_CONN_TOL | GRP_CONN_SEQ | GRP_CONN_STAT | RNG_CFG | RNG_ENUM
  | RNG_CRCFG | RNG_GRANT | RNG_POOL | RNG_DROP | RNG_SHARE | RNG_HOP_STAT
  | RNG_HOP_ERR | RNG_HOP_RETX | ETH_P_CFG | ETH_P_MACL | ETH_P_MACH | ETH_P_STAT
  | ETH_P_CNT | ETH_AUTH | ETH_AUTHSTAT | ETH_TELPH | ETH_TEL_CFG | ETH_TEL_STAT
  | CAN_CH_CFG | CAN_CH_NBT | CAN_CH_DBT | CAN_CH_STAT | CAN_CH_FLT | CAN_CH_CNT
  | CAN_CH_CNT2 | CAN_CH_TDCV | CAN_CH_SLOT | CAN_CH_CELL | CAN_MB_CFG | CAN_MB_ID
  | CAN_MB_MASK | CAN_MB_CTRL | CAN_MB_STAT | CAN_MB_RXID | CAN_MB_DATA | SENT_RX_CFG
  | SENT_RX_FAST | SENT_RX_STAMP | SENT_RX_SMSG | SENT_RX_FLT | LIN_CH_CFG | LIN_CH_STAT
  | LIN_CH_FLT | LIN_CH_ENT | LIN_CH_MB_DATA0 | LIN_CH_MB_DATA1 | LIN_CH_MB_MBSTAT | CIS_CFG
  | CIS_CNT | CIS_DROP | CIS_STAT | CFG_STAT | CFG_SEQ | CFG_LEN
  | CFG_XSPI | CFG_BANKA_RES | CFG_BANKB_RES | CFG_BANKA_SEQ | CFG_BANKB_SEQ | CFG_NVM
  | IDM_BUS_CFG | IDM_REC_STAT | IDM_REC_DATA | STS_STAT | STS_SEQ | STS_START
  | STS_CNT | PWR_STAT | PWR_SAGPOL | PWR_SLEEPRSN | PWR_SLEEPCMD | PWR_STARTCAUSE
  | PWR_RTC_SUB | PWR_RTC_LO | PWR_RTC_HI | PWR_RTCSET_LO | PWR_RTCSET_HI | PWR_RTCCMD
  | PWR_WK_CFG | PWR_WAKESEC | PWR_SLEEPREC | PWR_RESETREC | PWR_STFAILREC | PWR_SCRATCH
  | BST_STARTRES | BST_PAIR_CFG | BST_PAIR_VEC | BST_PAIR_CMD | BST_PAIR_STAT | BST_PAIR_SIG
  | BST_LSFLT | BST_SLICE | BST_SLICECNT | BST_SLICEFAIL | BST_ISLSLICE | BST_DBG_CFG
  | BST_DBG_STAT | FLT_WIDX | FLT_STAT | FLT_CNT0 | FLT_CNT1 | FLT_CNT2
  | FLT_AXSUM | FLT_AXSAFE | FLT_TEAMSUM | FLT_DEVSUM | FLT_LOG_W0 | FLT_PLOG_W0
  | FLT_LOG_W1 | FLT_PLOG_W1 | FLT_LOG_W2 | FLT_PLOG_W2 | FLT_LOG_W3 | FLT_PLOG_W3
  deriving DecidableEq, Repr

/-- One row of the register map: the register, its base offset, its index dimensions (stride, count) from the outermost, and its
named fields (lowest bit, width, access). -/
structure RegRow where
  id : RegId
  base : Nat
  dims : List (Nat × Nat)
  flds : List (Nat × Nat × Acc)
  deriving DecidableEq, Repr

/-- Rows 0 to 29 of the register map. -/
def regRows0 : List RegRow := [
  ⟨.ID_PART, 0x000000, [], [(0, 16, .ro), (16, 8, .ro)]⟩,
  ⟨.ID_ROMVER, 0x000004, [], [(0, 16, .ro), (16, 16, .ro)]⟩,
  ⟨.ID_SERIAL, 0x000008, [(4, 4)], [(0, 32, .ro)]⟩,
  ⟨.ID_STATE, 0x000018, [], [(0, 4, .ro), (4, 6, .ro)]⟩,
  ⟨.STR_PERIOD, 0x010000, [], [(0, 18, .img)]⟩,
  ⟨.STR_COUNT_LO, 0x010004, [], [(0, 32, .ro)]⟩,
  ⟨.STR_COUNT_HI, 0x010008, [], [(0, 16, .ro)]⟩,
  ⟨.STR_PHASE, 0x01000C, [], [(0, 18, .ro)]⟩,
  ⟨.STR_APHASE, 0x010010, [], [(0, 18, .img)]⟩,
  ⟨.STR_IPHASE, 0x010014, [], [(0, 18, .img)]⟩,
  ⟨.STR_OVERRUN, 0x010018, [], [(0, 32, .ro)]⟩,
  ⟨.STR_COMMIT, 0x01001C, [], [(0, 32, .wo)]⟩,
  ⟨.STR_TASKOVR, 0x010020, [], [(0, 32, .w1c)]⟩,
  ⟨.STR_SYNCCFG, 0x010030, [], [(0, 1, .img), (1, 1, .img), (2, 6, .img)]⟩,
  ⟨.STR_SYNCSTAT, 0x010034, [], [(0, 1, .ro), (1, 1, .ro), (2, 1, .ro), (3, 1, .ro), (4, 1, .ro), (8, 8, .ro)]⟩,
  ⟨.STR_HOPA, 0x010038, [], [(0, 24, .ro), (31, 1, .ro)]⟩,
  ⟨.STR_HOPB, 0x01003C, [], [(0, 24, .ro), (31, 1, .ro)]⟩,
  ⟨.STR_ALIGNERR, 0x010040, [], [(0, 16, .ro), (16, 16, .rc)]⟩,
  ⟨.STR_PATHA, 0x010044, [], [(0, 28, .ro), (31, 1, .ro)]⟩,
  ⟨.STR_PATHB, 0x010048, [], [(0, 28, .ro), (31, 1, .ro)]⟩,
  ⟨.STR_TEAM_CFG, 0x010080, [(16, 8)], [(0, 18, .img), (18, 2, .img)]⟩,
  ⟨.STR_TEAM_CMT, 0x010084, [(16, 8)], [(0, 18, .ro)]⟩,
  ⟨.STR_TEAM_UPD, 0x010088, [(16, 8)], [(0, 18, .ro)]⟩,
  ⟨.STR_TASK_CFG, 0x010100, [(16, 32)], [(0, 3, .img), (3, 1, .img), (4, 2, .img), (31, 1, .img)]⟩,
  ⟨.STR_TASK_AXES, 0x010104, [(16, 32)], [(0, 32, .img)]⟩,
  ⟨.STR_TASK_STAT, 0x010108, [(16, 32)], [(0, 16, .ro), (16, 2, .ro)]⟩,
  ⟨.SNS_CH_CFG, 0x020000, [(64, 192)], [(0, 3, .img), (3, 7, .img), (10, 5, .img), (15, 1, .img), (16, 6, .img), (22, 2, .img), (24, 2, .img)]⟩,
  ⟨.SNS_CH_PAIR, 0x020004, [(64, 192)], [(0, 8, .img), (8, 1, .img), (9, 1, .img), (10, 2, .img), (12, 4, .img), (16, 16, .img)]⟩,
  ⟨.SNS_CH_LSB, 0x020008, [(64, 192)], [(0, 32, .img)]⟩,
  ⟨.SNS_CH_FS, 0x02000C, [(64, 192)], [(0, 32, .ro)]⟩]

/-- Rows 30 to 59 of the register map. -/
def regRows1 : List RegRow := [
  ⟨.SNS_CH_GAIN, 0x020010, [(64, 192)], [(0, 24, .ro)]⟩,
  ⟨.SNS_CH_OFS, 0x020014, [(64, 192)], [(0, 18, .ro)]⟩,
  ⟨.SNS_CH_TRIM, 0x020018, [(64, 192)], [(0, 18, .ro), (29, 1, .ro), (30, 1, .ro)]⟩,
  ⟨.SNS_CH_FTHPH, 0x02001C, [(64, 192)], [(0, 32, .img)]⟩,
  ⟨.SNS_CH_FTHPL, 0x020020, [(64, 192)], [(0, 32, .img)]⟩,
  ⟨.SNS_CH_FTHR, 0x020024, [(64, 192)], [(0, 16, .ro), (16, 16, .ro)]⟩,
  ⟨.SNS_CH_LIM, 0x020028, [(64, 192)], [(0, 16, .img), (16, 16, .img)]⟩,
  ⟨.SNS_CH_RES, 0x02002C, [(64, 192)], [(0, 18, .ro), (18, 1, .ro), (19, 1, .ro), (20, 1, .ro), (24, 8, .ro)]⟩,
  ⟨.SNS_CH_RAW, 0x020030, [(64, 192)], [(0, 18, .ro)]⟩,
  ⟨.SNS_CH_STAT, 0x020034, [(64, 192)], [(0, 1, .w1c), (1, 1, .w1c), (2, 1, .w1c), (3, 1, .w1c), (4, 1, .w1c), (5, 1, .w1c), (6, 1, .w1c), (16, 16, .ro)]⟩,
  ⟨.SNS_MCLK_CFG, 0x023000, [(4, 24)], [(0, 8, .img)]⟩,
  ⟨.SNS_DCL_CFG, 0x023080, [(8, 4)], [(0, 16, .img), (16, 4, .img), (20, 2, .img), (31, 1, .img)]⟩,
  ⟨.SNS_DCL_STAT, 0x023084, [(8, 4)], [(0, 1, .w1c), (8, 8, .ro), (16, 16, .ro)]⟩,
  ⟨.SNS_KSET_CFG, 0x023100, [(8, 32)], [(0, 8, .img), (8, 8, .img), (16, 8, .img), (24, 4, .img), (28, 2, .img), (31, 1, .img)]⟩,
  ⟨.SNS_KSET_LIM, 0x023104, [(8, 32)], [(0, 18, .img), (31, 1, .w1c)]⟩,
  ⟨.POS_IF_CFG, 0x030000, [(256, 16)], [(0, 3, .img), (3, 1, .img), (4, 1, .img), (5, 2, .img), (7, 4, .img)]⟩,
  ⟨.POS_IF_CPR, 0x030004, [(256, 16)], [(0, 25, .img)]⟩,
  ⟨.POS_IF_OBS, 0x030008, [(256, 16)], [(0, 12, .img), (12, 8, .img)]⟩,
  ⟨.POS_IF_ELIM, 0x03000C, [(256, 16)], [(0, 24, .img)]⟩,
  ⟨.POS_IF_FLTCFG, 0x030010, [(256, 16)], [(0, 4, .img), (4, 4, .img), (8, 8, .img), (16, 4, .img), (20, 4, .img), (24, 8, .img)]⟩,
  ⟨.POS_IF_ZOFS, 0x030014, [(256, 16)], [(0, 24, .img)]⟩,
  ⟨.POS_IF_SSI0, 0x030018, [(256, 16)], [(0, 8, .img), (8, 8, .img), (16, 4, .img), (20, 6, .img), (26, 1, .img), (27, 1, .img), (28, 1, .img), (29, 1, .img)]⟩,
  ⟨.POS_IF_SSI1, 0x03001C, [(256, 16)], [(0, 5, .img), (5, 6, .img), (11, 6, .img), (17, 5, .img), (22, 6, .img)]⟩,
  ⟨.POS_IF_SSI2, 0x030020, [(256, 16)], [(0, 16, .img), (16, 16, .img)]⟩,
  ⟨.POS_IF_SSI3, 0x030024, [(256, 16)], [(0, 8, .img), (8, 8, .img)]⟩,
  ⟨.POS_IF_RES0, 0x030028, [(256, 16)], [(0, 13, .img), (16, 8, .img), (24, 8, .img)]⟩,
  ⟨.POS_IF_RES1, 0x03002C, [(256, 16)], [(0, 4, .img), (4, 5, .img), (16, 8, .img), (24, 8, .img)]⟩,
  ⟨.POS_IF_NP, 0x030040, [(256, 16)], [(0, 24, .ro)]⟩,
  ⟨.POS_IF_NPT, 0x030044, [(256, 16)], [(0, 16, .ro)]⟩,
  ⟨.POS_IF_ANG, 0x030048, [(256, 16)], [(0, 32, .ro)]⟩]

/-- Rows 60 to 89 of the register map. -/
def regRows2 : List RegRow := [
  ⟨.POS_IF_TURN, 0x03004C, [(256, 16)], [(0, 16, .ro)]⟩,
  ⟨.POS_IF_SPD, 0x030050, [(256, 16)], [(0, 32, .ro)]⟩,
  ⟨.POS_IF_ACC, 0x030054, [(256, 16)], [(0, 32, .ro)]⟩,
  ⟨.POS_IF_STAT, 0x030058, [(256, 16)], [(0, 1, .ro), (1, 1, .ro), (2, 1, .ro), (3, 1, .ro), (4, 2, .ro), (6, 1, .ro), (7, 1, .ro), (8, 1, .ro)]⟩,
  ⟨.POS_IF_ERR, 0x03005C, [(256, 16)], [(0, 32, .ro)]⟩,
  ⟨.POS_IF_AMP, 0x030060, [(256, 16)], [(0, 16, .ro)]⟩,
  ⟨.POS_IF_FLT, 0x030064, [(256, 16)], [(0, 1, .w1c), (1, 1, .w1c), (2, 1, .w1c), (3, 1, .w1c), (4, 1, .w1c), (5, 1, .w1c), (6, 1, .w1c), (7, 1, .w1c), (8, 1, .w1c)]⟩,
  ⟨.POS_IF_EVCNT, 0x030068, [(256, 16)], [(0, 8, .ro), (8, 8, .w1c), (16, 8, .ro), (24, 8, .ro)]⟩,
  ⟨.POS_CMP_CFG, 0x031000, [(32, 32)], [(0, 4, .img), (4, 1, .img), (31, 1, .img)]⟩,
  ⟨.POS_CMP_TURN, 0x031004, [(32, 32)], [(0, 16, .rw)]⟩,
  ⟨.POS_CMP_POS, 0x031008, [(32, 32)], [(0, 24, .rw)]⟩,
  ⟨.POS_CMP_STAT, 0x03100C, [(32, 32)], [(0, 1, .w1c), (1, 1, .ro), (2, 1, .ro), (3, 1, .ro), (16, 16, .ro)]⟩,
  ⟨.POS_CMP_STAMP, 0x031010, [(32, 32)], [(0, 18, .ro), (18, 14, .ro)]⟩,
  ⟨.LE_TEAM_LAT, 0x040000, [(4096, 8)], [(0, 18, .ro)]⟩,
  ⟨.LE_TEAM_DLY, 0x040004, [(4096, 8)], [(0, 18, .ro)]⟩,
  ⟨.LE_TEAM_COST, 0x040008, [(4096, 8)], [(0, 12, .ro)]⟩,
  ⟨.LE_TEAM_STAT, 0x04000C, [(4096, 8)], [(0, 16, .ro), (16, 1, .w1c)]⟩,
  ⟨.LE_AX_CFG, 0x040100, [(4096, 8), (256, 4)], [(0, 4, .img), (4, 1, .img), (5, 2, .img), (7, 4, .img), (11, 1, .img), (12, 2, .img), (14, 1, .img), (15, 1, .img), (16, 1, .img), (17, 1, .img), (18, 1, .img), (19, 2, .img), (21, 2, .img), (23, 1, .img), (24, 5, .img)]⟩,
  ⟨.LE_AX_LEGS, 0x040104, [(4096, 8), (256, 4)], [(0, 24, .img), (24, 3, .img)]⟩,
  ⟨.LE_AX_MOTOR, 0x040108, [(4096, 8), (256, 4)], [(0, 7, .img), (8, 8, .img), (16, 1, .img)]⟩,
  ⟨.LE_AX_GS, 0x04010C, [(4096, 8), (256, 4)], [(0, 2, .img), (2, 2, .img), (4, 4, .img), (8, 4, .img)]⟩,
  ⟨.LE_AX_SPAN, 0x040110, [(4096, 8), (256, 4)], [(0, 6, .img), (6, 5, .img)]⟩,
  ⟨.LE_AX_STAT, 0x040120, [(4096, 8), (256, 4)], [(0, 1, .ro), (1, 1, .ro), (2, 1, .ro), (3, 1, .ro), (4, 1, .ro), (5, 1, .ro), (6, 1, .ro), (7, 1, .ro), (8, 1, .ro), (9, 1, .ro), (12, 3, .ro), (16, 3, .ro)]⟩,
  ⟨.LE_AX_FLT, 0x040124, [(4096, 8), (256, 4)], [(0, 1, .w1c), (1, 1, .w1c), (2, 1, .w1c), (3, 1, .w1c)]⟩,
  ⟨.LE_AX_SPANSTAT, 0x040128, [(4096, 8), (256, 4)], [(0, 16, .ro), (16, 2, .ro)]⟩,
  ⟨.LE_AX_MODE, 0x040130, [(4096, 8), (256, 4)], [(0, 3, .rw)]⟩,
  ⟨.LE_AX_STATE, 0x040134, [(4096, 8), (256, 4)], [(0, 4, .ro), (4, 2, .ro), (6, 4, .ro), (10, 3, .ro), (13, 2, .ro), (15, 1, .ro), (16, 1, .ro), (17, 1, .ro), (18, 1, .ro), (19, 1, .ro), (20, 3, .ro)]⟩,
  ⟨.LE_AX_COMM, 0x040138, [(4096, 8), (256, 4)], [(0, 32, .ro)]⟩,
  ⟨.LE_AX_SFLT, 0x04013C, [(4096, 8), (256, 4)], [(0, 1, .w1c), (1, 1, .w1c), (2, 1, .w1c), (3, 1, .w1c)]⟩,
  ⟨.LE_DCL_DCFG, 0x048000, [(16, 4)], [(0, 2, .img), (2, 5, .img), (7, 1, .img), (8, 1, .img), (9, 1, .img), (10, 1, .img), (16, 14, .img), (31, 1, .img)]⟩]

/-- Rows 90 to 119 of the register map. -/
def regRows3 : List RegRow := [
  ⟨.LE_DCL_DTGT, 0x048004, [(16, 4)], [(0, 32, .img)]⟩,
  ⟨.LE_DCL_DCMD, 0x048008, [(16, 4)], [(0, 1, .wo), (1, 1, .wo)]⟩,
  ⟨.LE_DCL_DSTAT, 0x04800C, [(16, 4)], [(0, 1, .ro), (1, 1, .w1c), (2, 1, .w1c), (3, 1, .ro), (4, 1, .ro), (5, 1, .ro), (8, 3, .ro), (16, 16, .ro)]⟩,
  ⟨.MOD_LEG_CFG, 0x050000, [(32, 96)], [(0, 16, .img), (16, 1, .img), (17, 1, .img), (18, 12, .img)]⟩,
  ⟨.MOD_LEG_TIM, 0x050004, [(32, 96)], [(0, 16, .img), (16, 16, .img)]⟩,
  ⟨.MOD_LEG_REF, 0x050008, [(32, 96)], [(0, 13, .img), (13, 6, .img), (19, 13, .img)]⟩,
  ⟨.MOD_LEG_FLT, 0x05000C, [(32, 96)], [(0, 1, .w1c), (1, 1, .w1c), (2, 1, .w1c), (4, 2, .ro), (6, 1, .ro), (7, 1, .ro), (8, 1, .ro)]⟩,
  ⟨.MOD_LEG_CNT, 0x050010, [(32, 96)], [(0, 8, .ro), (8, 8, .ro), (16, 16, .ro)]⟩,
  ⟨.MOD_LEG_DUTY, 0x050014, [(32, 96)], [(0, 16, .ro), (16, 8, .ro)]⟩,
  ⟨.MOD_TEAM_CFG, 0x051000, [(16, 8)], [(0, 8, .img), (8, 16, .img)]⟩,
  ⟨.MOD_TEAM_STAT, 0x051004, [(16, 8)], [(0, 1, .w1c), (1, 1, .ro), (2, 1, .ro), (16, 16, .ro)]⟩,
  ⟨.MOD_TEAM_MINP, 0x051008, [(16, 8)], [(0, 32, .ro)]⟩,
  ⟨.MOD_AX_CFG, 0x051100, [(8, 32)], [(0, 1, .img), (1, 3, .img), (16, 16, .img)]⟩,
  ⟨.MOD_AX_STAT, 0x051104, [(8, 32)], [(0, 2, .ro), (2, 1, .ro), (3, 1, .ro), (4, 4, .ro), (8, 12, .ro)]⟩,
  ⟨.MOD_DSPI_CFG, 0x051200, [(8, 8)], [(0, 8, .img), (8, 2, .img), (10, 5, .img), (15, 5, .img), (31, 1, .img)]⟩,
  ⟨.MOD_DSPI_STAT, 0x051204, [(8, 8)], [(0, 1, .ro), (1, 1, .ro), (8, 8, .ro), (16, 8, .ro)]⟩,
  ⟨.SAF_STAT, 0x060000, [], [(0, 1, .ro), (1, 1, .ro), (2, 1, .ro), (3, 1, .ro), (4, 1, .ro), (5, 1, .ro), (16, 16, .ro)]⟩,
  ⟨.SAF_TEAMEN, 0x060004, [], [(0, 8, .ro), (8, 8, .ro), (16, 8, .ro)]⟩,
  ⟨.SAF_TEAMFLT, 0x060008, [], [(0, 8, .w1c)]⟩,
  ⟨.SAF_CLK, 0x06000C, [], [(0, 16, .ro), (16, 2, .ro), (24, 8, .ro)]⟩,
  ⟨.SAF_SMCBUD, 0x060010, [], [(0, 16, .ro), (16, 16, .ro)]⟩,
  ⟨.SAF_SI_CFG, 0x060100, [(8, 16)], [(0, 1, .img), (1, 1, .img), (2, 5, .img), (7, 9, .img), (16, 3, .img), (24, 8, .img)]⟩,
  ⟨.SAF_SI_STAT, 0x060104, [(8, 16)], [(0, 1, .ro), (1, 1, .ro), (2, 1, .ro), (3, 1, .ro), (4, 1, .ro), (5, 1, .ro), (6, 1, .w1c), (16, 16, .ro)]⟩,
  ⟨.SAF_SB_CFG, 0x060200, [(16, 8)], [(0, 1, .img), (1, 5, .img), (6, 1, .img), (7, 1, .img), (8, 6, .img), (14, 10, .img)]⟩,
  ⟨.SAF_SB_CMD, 0x060204, [(16, 8)], [(0, 1, .rw)]⟩,
  ⟨.SAF_SB_STAT, 0x060208, [(16, 8)], [(0, 1, .ro), (1, 1, .ro), (2, 1, .ro), (3, 1, .ro), (4, 1, .ro), (5, 1, .w1c), (6, 1, .w1c), (7, 1, .ro), (16, 16, .ro)]⟩,
  ⟨.SAF_AX_TMCFG, 0x060400, [(16, 32)], [(0, 2, .img), (2, 6, .img), (8, 8, .img), (16, 8, .img)]⟩,
  ⟨.SAF_AX_TMSTAT, 0x060404, [(16, 32)], [(0, 16, .ro), (16, 1, .ro), (17, 1, .ro), (18, 1, .ro), (19, 1, .ro), (20, 2, .ro), (22, 1, .ro)]⟩,
  ⟨.SAF_AX_TMVAL, 0x060408, [(16, 32)], [(0, 32, .ro)]⟩,
  ⟨.SAF_AX_FLT, 0x06040C, [(16, 32)], [(0, 1, .w1c), (1, 1, .ro), (2, 1, .ro), (3, 1, .ro), (4, 1, .ro), (5, 1, .ro), (6, 1, .ro), (7, 1, .ro)]⟩]

/-- Rows 120 to 149 of the register map. -/
def regRows4 : List RegRow := [
  ⟨.GRP_G_CFG, 0x070000, [(256, 4)], [(0, 1, .img), (1, 1, .img), (2, 2, .img), (4, 4, .img), (8, 8, .img), (16, 16, .img)]⟩,
  ⟨.GRP_G_MEM, 0x070004, [(256, 4)], [(0, 6, .img), (6, 6, .img), (12, 6, .img)]⟩,
  ⟨.GRP_G_CONN, 0x070008, [(256, 4)], [(0, 5, .img), (5, 5, .img), (10, 5, .img), (15, 5, .img), (20, 1, .img)]⟩,
  ⟨.GRP_G_AX, 0x07000C, [(256, 4)], [(0, 5, .img), (5, 1, .img), (6, 5, .img), (11, 1, .img)]⟩,
  ⟨.GRP_G_TIM, 0x070010, [(256, 4)], [(0, 14, .img), (14, 8, .img)]⟩,
  ⟨.GRP_G_SHTOL, 0x070014, [(256, 4)], [(0, 32, .img)]⟩,
  ⟨.GRP_G_REDTQ, 0x070018, [(256, 4)], [(0, 32, .img)]⟩,
  ⟨.GRP_G_REDRATE, 0x07001C, [(256, 4)], [(0, 32, .img)]⟩,
  ⟨.GRP_G_CMD, 0x070020, [(256, 4)], [(0, 1, .wo), (1, 1, .wo), (2, 1, .wo)]⟩,
  ⟨.GRP_G_STAT, 0x070024, [(256, 4)], [(0, 2, .ro), (2, 1, .ro), (3, 1, .ro), (4, 1, .ro), (5, 1, .ro), (6, 1, .ro), (7, 1, .ro), (8, 1, .ro), (9, 1, .ro), (10, 1, .ro), (16, 16, .ro)]⟩,
  ⟨.GRP_G_LEASE, 0x070028, [(256, 4)], [(0, 8, .ro), (8, 2, .ro), (16, 8, .ro), (24, 8, .ro)]⟩,
  ⟨.GRP_G_FLT, 0x07002C, [(256, 4)], [(0, 1, .w1c), (1, 1, .w1c), (2, 1, .w1c), (3, 1, .w1c), (4, 1, .w1c), (5, 1, .w1c), (6, 1, .w1c)]⟩,
  ⟨.GRP_G_CNT, 0x070030, [(256, 4)], [(0, 8, .ro), (8, 8, .ro), (16, 8, .ro)]⟩,
  ⟨.GRP_G_TXSH, 0x070040, [(256, 4), (4, 6)], [(0, 32, .rw)]⟩,
  ⟨.GRP_G_SHAD, 0x070060, [(256, 4), (4, 6)], [(0, 32, .rw)]⟩,
  ⟨.GRP_G_TXFB, 0x070080, [(256, 4), (4, 7)], [(0, 32, .rw)]⟩,
  ⟨.GRP_G_SHARE, 0x0700A0, [(256, 4), (4, 2)], [(0, 32, .ro)]⟩,
  ⟨.GRP_CONN_CFG, 0x071000, [(32, 32)], [(0, 1, .img), (1, 1, .img), (2, 1, .img), (3, 2, .img), (5, 8, .img), (13, 8, .img), (21, 2, .img), (23, 6, .img)]⟩,
  ⟨.GRP_CONN_ID, 0x071004, [(32, 32)], [(0, 32, .img)]⟩,
  ⟨.GRP_CONN_TOL, 0x071008, [(32, 32)], [(0, 8, .img), (8, 8, .img), (16, 7, .img)]⟩,
  ⟨.GRP_CONN_SEQ, 0x07100C, [(32, 32)], [(0, 32, .ro)]⟩,
  ⟨.GRP_CONN_STAT, 0x071010, [(32, 32)], [(0, 1, .ro), (1, 1, .w1c), (2, 1, .w1c), (3, 1, .ro), (4, 1, .ro), (8, 8, .ro), (16, 8, .ro), (24, 8, .ro)]⟩,
  ⟨.RNG_CFG, 0x080000, [], [(0, 1, .img), (1, 6, .img), (7, 6, .img), (13, 8, .img), (21, 2, .img)]⟩,
  ⟨.RNG_ENUM, 0x080004, [], [(0, 6, .ro), (6, 1, .ro), (7, 6, .ro), (13, 1, .ro), (14, 1, .ro)]⟩,
  ⟨.RNG_CRCFG, 0x080008, [], [(0, 8, .img)]⟩,
  ⟨.RNG_GRANT, 0x08000C, [], [(0, 16, .ro), (16, 16, .ro)]⟩,
  ⟨.RNG_POOL, 0x080010, [], [(0, 16, .ro), (16, 16, .ro)]⟩,
  ⟨.RNG_DROP, 0x080014, [], [(0, 16, .ro), (16, 16, .ro)]⟩,
  ⟨.RNG_SHARE, 0x080020, [(4, 16)], [(0, 32, .img)]⟩,
  ⟨.RNG_HOP_STAT, 0x080080, [(16, 2)], [(0, 2, .ro), (2, 1, .ro), (3, 1, .ro), (8, 6, .ro), (16, 16, .ro)]⟩]

/-- Rows 150 to 179 of the register map. -/
def regRows5 : List RegRow := [
  ⟨.RNG_HOP_ERR, 0x080084, [(16, 2)], [(0, 16, .ro), (16, 16, .ro)]⟩,
  ⟨.RNG_HOP_RETX, 0x080088, [(16, 2)], [(0, 16, .ro), (16, 16, .ro)]⟩,
  ⟨.ETH_P_CFG, 0x081000, [(32, 2)], [(0, 1, .img), (1, 4, .img), (5, 1, .img), (6, 1, .img), (7, 3, .img), (10, 12, .img)]⟩,
  ⟨.ETH_P_MACL, 0x081004, [(32, 2)], [(0, 32, .img)]⟩,
  ⟨.ETH_P_MACH, 0x081008, [(32, 2)], [(0, 16, .img)]⟩,
  ⟨.ETH_P_STAT, 0x08100C, [(32, 2)], [(0, 1, .ro), (1, 2, .ro), (3, 1, .ro), (16, 16, .ro)]⟩,
  ⟨.ETH_P_CNT, 0x081010, [(32, 2)], [(0, 16, .ro), (16, 16, .ro)]⟩,
  ⟨.ETH_AUTH, 0x081040, [], [(0, 8, .img)]⟩,
  ⟨.ETH_AUTHSTAT, 0x081044, [], [(0, 16, .ro), (16, 16, .ro)]⟩,
  ⟨.ETH_TELPH, 0x081048, [], [(0, 18, .img)]⟩,
  ⟨.ETH_TEL_CFG, 0x081100, [(8, 32)], [(0, 1, .img), (1, 6, .img), (7, 8, .img), (15, 8, .img), (23, 3, .img)]⟩,
  ⟨.ETH_TEL_STAT, 0x081104, [(8, 32)], [(0, 16, .ro), (16, 16, .ro)]⟩,
  ⟨.CAN_CH_CFG, 0x090000, [(1024, 8)], [(0, 1, .img), (1, 1, .img), (2, 1, .img), (3, 10, .img), (13, 6, .img)]⟩,
  ⟨.CAN_CH_NBT, 0x090004, [(1024, 8)], [(0, 5, .img), (5, 8, .img), (13, 7, .img), (20, 7, .img)]⟩,
  ⟨.CAN_CH_DBT, 0x090008, [(1024, 8)], [(0, 5, .img), (5, 5, .img), (10, 4, .img), (14, 4, .img), (18, 1, .img), (19, 7, .img)]⟩,
  ⟨.CAN_CH_STAT, 0x09000C, [(1024, 8)], [(0, 8, .ro), (8, 8, .ro), (16, 2, .ro), (18, 1, .ro), (19, 1, .ro), (20, 8, .ro)]⟩,
  ⟨.CAN_CH_FLT, 0x090010, [(1024, 8)], [(0, 1, .w1c), (1, 1, .w1c), (2, 1, .w1c), (3, 1, .w1c), (4, 1, .w1c), (16, 16, .ro)]⟩,
  ⟨.CAN_CH_CNT, 0x090014, [(1024, 8)], [(0, 16, .ro), (16, 16, .ro)]⟩,
  ⟨.CAN_CH_CNT2, 0x090018, [(1024, 8)], [(0, 16, .ro), (16, 16, .ro)]⟩,
  ⟨.CAN_CH_TDCV, 0x09001C, [(1024, 8)], [(0, 7, .ro)]⟩,
  ⟨.CAN_CH_SLOT, 0x090080, [(1024, 8), (4, 32)], [(0, 18, .img), (31, 1, .img)]⟩,
  ⟨.CAN_CH_CELL, 0x090200, [(1024, 8), (4, 128)], [(0, 5, .img), (7, 1, .img), (8, 5, .img), (15, 1, .img), (16, 5, .img), (23, 1, .img), (24, 5, .img), (31, 1, .img)]⟩,
  ⟨.CAN_MB_CFG, 0x092000, [(3072, 8), (96, 32)], [(0, 1, .img), (1, 2, .img), (3, 1, .img), (4, 1, .img), (5, 1, .img), (6, 1, .img), (7, 1, .img), (8, 1, .img)]⟩,
  ⟨.CAN_MB_ID, 0x092004, [(3072, 8), (96, 32)], [(0, 29, .img)]⟩,
  ⟨.CAN_MB_MASK, 0x092008, [(3072, 8), (96, 32)], [(0, 29, .img)]⟩,
  ⟨.CAN_MB_CTRL, 0x09200C, [(3072, 8), (96, 32)], [(0, 4, .rw), (4, 1, .wo), (5, 1, .wo)]⟩,
  ⟨.CAN_MB_STAT, 0x092010, [(3072, 8), (96, 32)], [(0, 1, .ro), (1, 1, .ro), (2, 1, .w1c), (3, 1, .w1c), (4, 1, .w1c), (5, 1, .w1c), (8, 4, .ro), (12, 1, .ro), (13, 1, .ro), (14, 1, .ro), (15, 1, .ro), (16, 16, .ro)]⟩,
  ⟨.CAN_MB_RXID, 0x092014, [(3072, 8), (96, 32)], [(0, 29, .ro), (29, 1, .ro)]⟩,
  ⟨.CAN_MB_DATA, 0x092020, [(3072, 8), (96, 32), (4, 16)], [(0, 32, .rw)]⟩,
  ⟨.SENT_RX_CFG, 0x098000, [(32, 12)], [(0, 1, .img), (1, 10, .img), (11, 3, .img), (14, 1, .img), (15, 1, .img), (16, 2, .img), (18, 4, .img), (22, 8, .img), (30, 1, .img)]⟩]

/-- Rows 180 to 209 of the register map. -/
def regRows6 : List RegRow := [
  ⟨.SENT_RX_FAST, 0x098004, [(32, 12)], [(0, 24, .ro), (24, 4, .ro), (28, 1, .ro)]⟩,
  ⟨.SENT_RX_STAMP, 0x098008, [(32, 12)], [(0, 16, .ro), (16, 16, .ro)]⟩,
  ⟨.SENT_RX_SMSG, 0x09800C, [(32, 12)], [(0, 16, .ro), (16, 8, .ro), (24, 2, .ro), (26, 6, .ro)]⟩,
  ⟨.SENT_RX_FLT, 0x098010, [(32, 12)], [(0, 1, .w1c), (1, 1, .w1c), (2, 1, .w1c), (3, 1, .w1c), (4, 1, .w1c), (5, 1, .w1c), (16, 16, .ro)]⟩,
  ⟨.LIN_CH_CFG, 0x099000, [(1024, 4)], [(0, 1, .img), (1, 17, .img), (18, 5, .img), (23, 4, .img), (27, 4, .img), (31, 1, .img)]⟩,
  ⟨.LIN_CH_STAT, 0x099004, [(1024, 4)], [(0, 5, .ro), (16, 16, .ro)]⟩,
  ⟨.LIN_CH_FLT, 0x099008, [(1024, 4)], [(0, 1, .w1c), (1, 1, .w1c), (2, 1, .w1c), (3, 1, .w1c), (16, 16, .ro)]⟩,
  ⟨.LIN_CH_ENT, 0x099020, [(1024, 4), (4, 32)], [(0, 6, .img), (6, 1, .img), (7, 3, .img), (10, 1, .img), (11, 8, .img)]⟩,
  ⟨.LIN_CH_MB_DATA0, 0x099100, [(1024, 4), (16, 32)], [(0, 32, .rw)]⟩,
  ⟨.LIN_CH_MB_DATA1, 0x099104, [(1024, 4), (16, 32)], [(0, 32, .rw)]⟩,
  ⟨.LIN_CH_MB_MBSTAT, 0x099108, [(1024, 4), (16, 32)], [(0, 1, .w1c), (1, 1, .ro), (2, 1, .ro), (8, 8, .ro), (16, 16, .ro)]⟩,
  ⟨.CIS_CFG, 0x0A0000, [(16, 24)], [(0, 9, .ro)]⟩,
  ⟨.CIS_CNT, 0x0A0004, [(16, 24)], [(0, 20, .ro)]⟩,
  ⟨.CIS_DROP, 0x0A0008, [(16, 24)], [(0, 32, .ro)]⟩,
  ⟨.CIS_STAT, 0x0A000C, [(16, 24)], [(0, 1, .w1c), (1, 1, .w1c), (2, 1, .ro), (8, 8, .ro), (16, 16, .ro)]⟩,
  ⟨.CFG_STAT, 0x0B0000, [], [(0, 1, .ro), (1, 1, .ro), (2, 1, .ro), (3, 1, .ro), (16, 16, .ro)]⟩,
  ⟨.CFG_SEQ, 0x0B0004, [], [(0, 32, .ro)]⟩,
  ⟨.CFG_LEN, 0x0B0008, [], [(0, 23, .ro)]⟩,
  ⟨.CFG_XSPI, 0x0B000C, [], [(0, 2, .ro), (2, 2, .ro), (4, 1, .ro)]⟩,
  ⟨.CFG_BANKA_RES, 0x0B0010, [], [(0, 5, .ro), (8, 8, .ro), (16, 16, .ro)]⟩,
  ⟨.CFG_BANKB_RES, 0x0B0014, [], [(0, 5, .ro), (8, 8, .ro), (16, 16, .ro)]⟩,
  ⟨.CFG_BANKA_SEQ, 0x0B0018, [], [(0, 32, .ro)]⟩,
  ⟨.CFG_BANKB_SEQ, 0x0B001C, [], [(0, 32, .ro)]⟩,
  ⟨.CFG_NVM, 0x0B0020, [], [(0, 3, .ro), (3, 1, .ro), (4, 1, .ro), (5, 1, .ro), (6, 1, .ro), (8, 8, .ro), (16, 16, .ro)]⟩,
  ⟨.IDM_BUS_CFG, 0x0B1000, [(4, 8)], [(0, 1, .img), (1, 1, .img)]⟩,
  ⟨.IDM_REC_STAT, 0x0B1100, [(4, 64)], [(0, 1, .ro), (1, 4, .ro), (5, 1, .ro), (16, 16, .ro)]⟩,
  ⟨.IDM_REC_DATA, 0x0B4000, [(256, 64), (4, 64)], [(0, 32, .ro)]⟩,
  ⟨.STS_STAT, 0x0C0000, [], [(0, 1, .ro), (1, 1, .ro), (2, 1, .ro), (3, 1, .ro), (4, 1, .ro), (5, 3, .ro)]⟩,
  ⟨.STS_SEQ, 0x0C0004, [], [(0, 32, .ro)]⟩,
  ⟨.STS_START, 0x0C0008, [], [(0, 32, .ro)]⟩]

/-- Rows 210 to 239 of the register map. -/
def regRows7 : List RegRow := [
  ⟨.STS_CNT, 0x0C000C, [], [(0, 16, .ro), (16, 8, .ro), (24, 8, .ro)]⟩,
  ⟨.PWR_STAT, 0x0D0000, [], [(0, 1, .ro), (1, 1, .ro), (2, 1, .ro)]⟩,
  ⟨.PWR_SAGPOL, 0x0D0004, [(4, 2)], [(0, 2, .img), (2, 2, .img), (4, 2, .img), (6, 2, .img), (8, 2, .img), (10, 2, .img), (12, 2, .img), (14, 2, .img), (16, 2, .img), (18, 2, .img), (20, 2, .img), (22, 2, .img), (24, 2, .img), (26, 2, .img), (28, 2, .img), (30, 2, .img)]⟩,
  ⟨.PWR_SLEEPRSN, 0x0D000C, [], [(0, 8, .rw)]⟩,
  ⟨.PWR_SLEEPCMD, 0x0D0010, [], [(0, 1, .wo)]⟩,
  ⟨.PWR_STARTCAUSE, 0x0D0014, [], [(0, 3, .ro), (3, 6, .ro)]⟩,
  ⟨.PWR_RTC_SUB, 0x0D0020, [], [(0, 15, .ro)]⟩,
  ⟨.PWR_RTC_LO, 0x0D0024, [], [(0, 32, .ro)]⟩,
  ⟨.PWR_RTC_HI, 0x0D0028, [], [(0, 16, .ro)]⟩,
  ⟨.PWR_RTCSET_LO, 0x0D002C, [], [(0, 32, .rw)]⟩,
  ⟨.PWR_RTCSET_HI, 0x0D0030, [], [(0, 16, .rw)]⟩,
  ⟨.PWR_RTCCMD, 0x0D0034, [], [(0, 1, .wo)]⟩,
  ⟨.PWR_WK_CFG, 0x0D0100, [(4, 6)], [(0, 8, .img), (8, 2, .img), (10, 8, .img), (31, 1, .ro)]⟩,
  ⟨.PWR_WAKESEC, 0x0D0118, [], [(0, 24, .rw)]⟩,
  ⟨.PWR_SLEEPREC, 0x0D011C, [], [(0, 8, .ro)]⟩,
  ⟨.PWR_RESETREC, 0x0D0120, [], [(0, 16, .ro), (16, 1, .ro)]⟩,
  ⟨.PWR_STFAILREC, 0x0D0124, [], [(0, 3, .ro), (3, 5, .ro)]⟩,
  ⟨.PWR_SCRATCH, 0x0D0140, [(4, 48)], [(0, 32, .rw)]⟩,
  ⟨.BST_STARTRES, 0x0E0000, [], [(0, 5, .ro), (5, 3, .ro), (16, 16, .ro)]⟩,
  ⟨.BST_PAIR_CFG, 0x0E0010, [(16, 2)], [(0, 1, .img), (1, 1, .img)]⟩,
  ⟨.BST_PAIR_VEC, 0x0E0014, [(16, 2)], [(0, 32, .img)]⟩,
  ⟨.BST_PAIR_CMD, 0x0E0018, [(16, 2)], [(0, 1, .wo), (1, 1, .wo)]⟩,
  ⟨.BST_PAIR_STAT, 0x0E001C, [(16, 2)], [(0, 2, .ro), (2, 1, .w1c), (16, 16, .ro)]⟩,
  ⟨.BST_PAIR_SIG, 0x0E0030, [(4, 2)], [(0, 16, .ro), (16, 8, .ro), (24, 1, .w1c)]⟩,
  ⟨.BST_LSFLT, 0x0E0040, [], [(0, 1, .ro), (1, 1, .ro), (2, 1, .ro), (3, 1, .ro), (4, 1, .ro), (5, 8, .ro), (13, 2, .ro)]⟩,
  ⟨.BST_SLICE, 0x0E0050, [], [(0, 15, .ro), (16, 16, .ro)]⟩,
  ⟨.BST_SLICECNT, 0x0E0054, [], [(0, 16, .ro), (16, 16, .ro)]⟩,
  ⟨.BST_SLICEFAIL, 0x0E0058, [], [(0, 5, .ro), (8, 20, .ro), (31, 1, .ro)]⟩,
  ⟨.BST_ISLSLICE, 0x0E0060, [], [(0, 9, .ro), (16, 16, .ro)]⟩,
  ⟨.BST_DBG_CFG, 0x0E0070, [], [(0, 1, .img)]⟩]

/-- Rows 240 to 257 of the register map. -/
def regRows8 : List RegRow := [
  ⟨.BST_DBG_STAT, 0x0E0074, [], [(0, 2, .ro), (2, 1, .ro), (3, 2, .ro), (5, 1, .ro)]⟩,
  ⟨.FLT_WIDX, 0x0F0000, [], [(0, 32, .ro)]⟩,
  ⟨.FLT_STAT, 0x0F0004, [], [(0, 5, .w1c), (5, 3, .ro), (8, 8, .ro)]⟩,
  ⟨.FLT_CNT0, 0x0F0008, [], [(0, 16, .ro), (16, 16, .ro)]⟩,
  ⟨.FLT_CNT1, 0x0F000C, [], [(0, 16, .ro), (16, 16, .ro)]⟩,
  ⟨.FLT_CNT2, 0x0F0010, [], [(0, 16, .ro)]⟩,
  ⟨.FLT_AXSUM, 0x0F0014, [], [(0, 32, .ro)]⟩,
  ⟨.FLT_AXSAFE, 0x0F0018, [], [(0, 32, .ro)]⟩,
  ⟨.FLT_TEAMSUM, 0x0F001C, [], [(0, 8, .ro), (8, 8, .ro), (16, 8, .ro)]⟩,
  ⟨.FLT_DEVSUM, 0x0F0020, [], [(0, 4, .ro), (4, 1, .ro), (5, 1, .ro), (6, 1, .ro), (7, 1, .ro), (8, 1, .ro), (9, 1, .ro), (16, 16, .ro)]⟩,
  ⟨.FLT_LOG_W0, 0x0F4000, [(16, 1024)], [(0, 32, .ro)]⟩,
  ⟨.FLT_PLOG_W0, 0x0F8000, [(16, 216)], [(0, 32, .ro)]⟩,
  ⟨.FLT_LOG_W1, 0x0F4004, [(16, 1024)], [(0, 16, .ro), (16, 16, .ro)]⟩,
  ⟨.FLT_PLOG_W1, 0x0F8004, [(16, 216)], [(0, 16, .ro), (16, 16, .ro)]⟩,
  ⟨.FLT_LOG_W2, 0x0F4008, [(16, 1024)], [(0, 16, .ro), (16, 8, .ro), (24, 8, .ro)]⟩,
  ⟨.FLT_PLOG_W2, 0x0F8008, [(16, 216)], [(0, 16, .ro), (16, 8, .ro), (24, 8, .ro)]⟩,
  ⟨.FLT_LOG_W3, 0x0F400C, [(16, 1024)], [(0, 32, .ro)]⟩,
  ⟨.FLT_PLOG_W3, 0x0F800C, [(16, 216)], [(0, 32, .ro)]⟩]

/-- The register map of Table 15.1 and the block chapters. -/
def regRows : List RegRow :=
  regRows0 ++ regRows1 ++ regRows2 ++ regRows3 ++ regRows4 ++ regRows5 ++ regRows6 ++ regRows7 ++ regRows8

/-- The indices of offset `o` in a row with base `b` and the given dimensions, where it lies in it. -/
def inDims (o : Nat) : Nat → List (Nat × Nat) → Option (List Nat)
  | b, [] => if o = b then some [] else none
  | b, (s, c) :: ds =>
    if o < b then none else
    let i := (o - b) / s
    if i < c then (inDims o (b + s * i) ds).map (i :: ·) else none

/-- The register at an offset, with its indices, among the given rows. -/
def findRow (o : Nat) : List RegRow → Option (RegRow × List Nat)
  | [] => none
  | r :: rs => match inDims o r.base r.dims with
    | some is => some (r, is)
    | none => findRow o rs

/-- The register at an offset, with its indices; none at a reserved offset (R392). -/
def findReg (o : Nat) : Option (RegRow × List Nat) := findRow o regRows

/-- The number held in a field of a register word. -/
def getFld (w : Word) (lo n : Nat) : Nat := (w.extractLsb' lo n).toNat

/-- The word with a field replaced by the low bits of a number. -/
def putFld (w : Word) (lo n v : Nat) : Word :=
  (w &&& ~~~(((1#32 <<< n) - 1#32) <<< lo)) ||| (((BitVec.ofNat 32 v) &&& ((1#32 <<< n) - 1#32)) <<< lo)

end Sys2Proof.Machine
end

