-- ==== Sys2Proof/Machine/State.lean ====
section
/-! DEFINITION. The state of the GH9696 as plain data, the faults and refusals a step can end in, and the state after reset.
Register-visible status has its one home in `State.regs`; the records below hold what the spec names and no register shows. -/
namespace Sys2Proof.Machine
open Sys2Proof

/-- The device states of Table 1.7. -/
inductive DState where
  | powerup | selftest | load | identify | sync | armed | service | recovery | save | parked | sleep
  deriving DecidableEq, Repr

/-- The three parts of Table 0.1. -/
inductive Part where
  | gh9696 | gh9648 | gh9624
  deriving DecidableEq, Repr

/-- A sync frame that arrived in the present stride: the error it implies in units of 78.125 ps, its count, its source and
whether a standby sent it (R51 to R54). -/
structure SyncSeen where
  err : Int
  count : Stamp
  src : Nat
  stby : Bool
  deriving DecidableEq, Repr

/-- What the OTP of a device holds, programmed once (Table 1.5, R275, R304, R347, R395): its values are the device's own (assumptions 10 and
13). -/
structure Otp where
  cmacKey : BitVec 128 := Config.hostKey
  keyHash : BitVec 256 := Config.otpKeyHash
  debugHash : BitVec 256 := Config.otpDebugKeyHash
  serial : BitVec 128 := Config.serial
  deriving DecidableEq, Repr

/-- The device as a whole: its state, what holds it, and its timebase (R33 to R37, R51 to R56). -/
structure Dev where
  /-- What OTP holds (Table 1.5). -/
  otp : Otp := {}
  /-- Table 1.7. -/
  st : DState := .powerup
  /-- Held in reset: RESET_N low (R34, R387). -/
  resetLow : Bool := false
  /-- Held in reset by a VSAFE trip (R407). -/
  vsafeLow : Bool := false
  /-- Held in reset by a failed self-test item (R267). -/
  testHold : Bool := false
  /-- Without any supply: VKEEP lost (R381). -/
  dead : Bool := false
  /-- The part (R2; assumption 12), and its silicon revision, A0 (R395, R424). -/
  part : Part := .gh9696
  rev : Byte := 0x10
  /-- STR_COUNT and whether the timebase has its first mark (R37). -/
  count : Stamp := 0
  running : Bool := false
  /-- The timebase has started and waits for its first mark (R37). -/
  started : Bool := false
  /-- The timebase is one without a SYNC behind it: no team or task uses it (R37). -/
  plain : Bool := false
  /-- SCLK cycles since the last mark (R37). -/
  phase : Nat := 0
  /-- The time from entry into ARMED to the last mark in interpolation steps of 78.125 ps, modulo the 12,800 of the observer grid (R54, R94,
  R100). -/
  grid : Nat := 0
  /-- What is under way happens at a stride mark: the model's own note of where in the carrier period a leg goes off (R43). -/
  atMark : Bool := false
  /-- ARMED has been entered since the last start, so that interfaces and excitation run (R83, R90). -/
  wasArmed : Bool := false
  /-- MCLK runs (R59). -/
  mclk : Bool := false
  /-- Marks since the last step of the timebase, which breaks a modulator period (R62; assumption 98). -/
  stepped : Option Nat := none
  /-- A class DV reaction asks for RECOVERY at the next mark (R207). -/
  recPend : Bool := false
  /-- A class DV reaction has come in this stride (R265). -/
  dvNow : Bool := false
  /-- Commits counted for the next A (R48). -/
  commits : Word := 0
  /-- Consecutive sync frames within ± 2 ns (R54). -/
  good : Nat := 0
  seenA : Option SyncSeen := none
  seenB : Option SyncSeen := none
  /-- The stride's frames have been used (R54). -/
  aligned : Bool := false
  /-- Frequency correction in force (R54, R56); its law is not given, so that it is a free value after each correction. -/
  freq : Word := 0
  /-- Mark offset still to be slewed, in units of 78.125 ps (R54). -/
  offset : Int := 0
  /-- Strides without a sync frame with a hop UP, strides in SYNC, and whether a hop has ever gone UP (R56). -/
  noSync : Nat := 0
  syncStrides : Nat := 0
  hopSeen : Bool := false
  /-- The next sync frame heard resumes after a holdover or a hand-over (R56). -/
  resume : Bool := false
  /-- SYNC_LOST has been logged in this holdover run (R56). -/
  lostLogged : Bool := false
  /-- D0 as the source has heard a standby and stops at the next mark (R56). -/
  handOver : Bool := false
  /-- Retraining attempts by ring (R57). -/
  retryA : Nat := 0
  retryB : Nat := 0
  /-- The pair whose core last committed a task: 1 is AC0/AC1, 2 is AC2/AC3 (R201; assumption 31). -/
  taskBy : Tbl Nat := []
  deriving DecidableEq, Repr

/-- An entry of the fault log (Table 15.4). -/
structure Entry where
  stamp : Stamp := 0
  code : BitVec 16 := 0
  src : BitVec 16 := 0
  cls : Byte := 0
  flags : Byte := 0
  data : Word := 0
  deriving DecidableEq, Repr

/-- The fault log (R397 to R402): the slots, the previous log, the latches of W1 to W3 by slot, and when each rate-limited
source last logged. `batch` holds the entries of the running command, put into the log in the order of R398 at its end. -/
structure FltLog where
  slots : Tbl Entry := []
  prev : Tbl Entry := []
  latch : Tbl Entry := []
  platch : Tbl Entry := []
  batch : List Entry := []
  rate : Tbl (Option Stamp) := []
  deriving DecidableEq, Repr

/-- A sense channel beyond its registers (R65 to R81): calibrated or not, the run of invalid results, the last valid VALUE, the
second result register with its own copies of O and G (R78), and the failing strides of its pair check. -/
structure Chan where
  uncal : Bool := false
  invRun : Nat := 0
  lastValid : Int := 0
  dupOfs : Int := 0
  dupGain : Nat := 0
  dupValue : Int := 0
  dupValid : Bool := false
  dupOvr : Bool := false
  dupStamp : Byte := 0
  dupLast : Int := 0
  pairCnt : Nat := 0
  deriving DecidableEq, Repr

/-- The sense block: channels, and the failing strides of each Kirchhoff set and DC-link group (R75 to R77). -/
structure Sense where
  chans : Tbl Chan := []
  kCnt : Tbl Nat := []
  dclCnt : Tbl Nat := []
  deriving DecidableEq, Repr

/-- A snapshot of an interface (R100). -/
structure Snap where
  ang : Word := 0
  turn : BitVec 16 := 0
  spd : Word := 0
  acc : Word := 0
  flags : Byte := 0
  deriving DecidableEq, Repr

/-- A position interface beyond its registers (R84 to R105). Counts are extended counts, observer values in units of 2^-24. -/
structure Ifc where
  /-- Filtered levels of A and B, and the last Hall code. -/
  aLvl : Bool := false
  bLvl : Bool := false
  hall : BitVec 3 := 0
  /-- An illegal code is held: 0 none, 1 not yet for HALLQ, 2 for HALLQ (R87, R103). -/
  illegal : Nat := 0
  /-- The sector of the last legal code (R87). -/
  sector : Nat := 0
  /-- Raw and reported count (R92, R93), and whether a first measurement has been made. -/
  nr : Int := 0
  np : Int := 0
  first : Bool := false
  /-- DIR, REST, POSVALID, SPDVALID, REFVALID, TURNREST of STAT as they stand (R101: the register shows a latched copy). -/
  dir : BitVec 2 := 0
  rest : Bool := false
  posValid : Bool := false
  spdValid : Bool := false
  refValid : Bool := false
  turnRest : Bool := false
  /-- Teams that have not yet seen the change of direction, and the flag of the 1 µs update after it (R98). -/
  revTeams : Byte := 0
  revNow : Bool := false
  revUpd : Bool := false
  /-- Updates since Np last changed (R97). -/
  still : Nat := 0
  th : Int := 0
  spd : Int := 0
  acc : Int := 0
  /-- The last updates, newest first (R95). -/
  hist : List (Int × Int × Int) := []
  /-- The last error, the run of small errors, the run of large ones (R96, R103). -/
  err : Int := 0
  acq : Nat := 0
  obsRun : Nat := 0
  /-- The observer acquires at the next measurement (R96). -/
  fresh : Bool := true
  /-- A measurement waiting for the next update: Nr and the age of its stamp in SCLK cycles at that update, negative where LAT puts the stamp
  behind it (R88, R95). -/
  meas : Option (Int × Int) := none
  /-- Np takes Nr at the next measurement after a recovery (R105). -/
  resync : Bool := false
  /-- Consecutive bad words (R103). -/
  badRun : Nat := 0
  /-- The SSI line timed out and is not yet high (R88). -/
  lineLow : Bool := false
  reqOut : Bool := false
  /-- Microseconds since entry into ARMED, and those at the last request (R88). -/
  us : Nat := 0
  reqAt : Option Nat := none
  /-- TURN, SPD, ACC, STAT and ERR of the last update, which a read of ANG latches (R101). -/
  lvTurn : BitVec 16 := 0
  lvSpd : Word := 0
  lvAcc : Word := 0
  lvStat : BitVec 9 := 0
  lvErr : Word := 0
  /-- Resolver: the run of bad amplitudes, and the results not yet judged in units of 2^-32 FS, each with the instant it
  represents in SCLK cycles from entry into ARMED (R91). -/
  ampRun : Nat := 0
  sinRes : List (Int × Nat) := []
  cosRes : List (Int × Nat) := []
  /-- Half periods of the excitation that have ended since entry into ARMED (R90, R91). -/
  halves : Nat := 0
  /-- Reference steps made since start (R173). -/
  refSteps : Nat := 0
  deriving DecidableEq, Repr

/-- A compare unit beyond its registers: the committed P as turn and in-turn count (R107, R108). -/
structure Cmp where
  turn : BitVec 16 := 0
  pos : Nat := 0
  deriving DecidableEq, Repr

/-- The position block. -/
structure PosBlk where
  ifs : Tbl Ifc := []
  cmps : Tbl Cmp := []
  deriving DecidableEq, Repr

/-- Loop-engine integrators and memory of one control frame: d, q (or scalar), x and y (R123 to R126). -/
structure Frame where
  d : F32 := 0
  q : F32 := 0
  x : F32 := 0
  y : F32 := 0
  /-- Limited dq voltage of the previous stride (R124). -/
  vd : F32 := 0
  vq : F32 := 0
  deriving DecidableEq, Repr

/-- A ramp of R135. -/
structure Ramp where
  y : F32 := 0
  dwell : Nat := 0
  deriving DecidableEq, Repr

/-- The engine state of an axis (R118: the engine-state area; R123 to R137, R175). -/
structure Eng where
  f1 : Frame := {}
  f2 : Frame := {}
  /-- id* of the previous stride (R127). -/
  idPrev : F32 := 0
  /-- idfw of R128 and λ of R129. -/
  idfw : F32 := 0
  lam : F32 := 0x3f800000
  vmagu : F32 := 0
  tlim : Bool := false
  /-- Speed integrator, held T*, held wref (R131, R132). -/
  iw : F32 := 0
  tstar : F32 := 0
  /-- T* of the last run of the speed loop was clamped (R130, R131). -/
  tclamp : Bool := false
  wref : F32 := 0
  /-- The reference an exciter takes from its stator (R129). -/
  iex : F32 := 0
  /-- αβ voltage of the previous stride and the estimator (R175). -/
  va : F32 := 0
  vb : F32 := 0
  psa : F32 := 0
  psb : F32 := 0
  eth : F32 := 0
  ew : F32 := 0
  ecnt : Nat := 0
  /-- Accumulated mechanical angle of the estimator in units of 2^-32 rev (R174), and the error e of R175. -/
  epos : BitVec 48 := 0
  eerr : F32 := 0
  /-- References of the last stride, for the readback record. -/
  iqPrev : F32 := 0
  deriving DecidableEq, Repr

/-- The set-point unit of an axis (R120, R135, R136): the accepted record, the ramps and the position profile. -/
structure SetP where
  kind : Nat := 0
  torque : F32 := 0
  idref : F32 := 0
  iqref : F32 := 0
  speed : Word := 0
  pang : Word := 0
  pturn : Word := 0
  tff : F32 := 0
  sff : Word := 0
  tlimp : F32 := 0
  tlimn : F32 := 0
  deriving DecidableEq, Repr

/-- The ramp state beside the record in use. -/
structure RampSt where
  /-- The ramp initialises at the next latch (R137). -/
  init : Bool := true
  /-- KIND that the ramp runs on. -/
  kind : Nat := 0
  r1 : Ramp := {}
  r2 : Ramp := {}
  /-- The acceleration of R135. -/
  aref : F32 := 0
  /-- Position profile of R136: y in units of 2^-32 rev modulo 2^48, speed and acceleration. -/
  py : BitVec 48 := 0
  pv : F32 := 0
  pa : F32 := 0
  /-- The target differs from the output. -/
  act : Bool := false
  /-- The target is zero. -/
  zeroTgt : Bool := false
  deriving DecidableEq, Repr

/-- A reaction waiting for its axis or taken in this stride: its rank under R426, its variant and its SCAUSE. -/
structure React where
  rank : Nat
  var : Nat
  scause : Nat
  deriving DecidableEq, Repr

/-- The offset trim of an axis (R70): strides left to wait, results taken, the channels of C and their sums. -/
structure Trim where
  wait : Nat
  taken : Nat
  chans : List Nat
  sums : List Int
  deriving DecidableEq, Repr

/-- The halves of a spanned axis as one side holds them (R139 to R141). -/
structure Span where
  /-- The frame of this stride has been taken or counted as lost (R141). -/
  got : Bool := false
  /-- Last valid partner values of the up frame, their valid mask, the partner's faulted legs and their sides. -/
  vals : List Int := []
  mask : Nat := 0
  flegs : Nat := 0
  sides : Nat := 0
  /-- SAFECH, axis state, variant and BLK mask of the last valid down frame. -/
  safech : Nat := 0
  axst : Nat := 0
  axvar : Nat := 0
  blk : Nat := 0
  /-- SAFE is set in outgoing frames. -/
  safe : Bool := false
  /-- The lead's duties for the partner's legs, of this stride (R139). -/
  duties : List F32 := []
  deriving DecidableEq, Repr

/-- An axis beyond its registers. -/
structure Axis where
  /-- The mode request waiting for the next mark (R179). -/
  req : Option Nat := none
  /-- A reaction has acted on the axis since the last mark: a request of the stride is discarded (R183). -/
  reacted : Bool := false
  /-- A reaction waiting for the next mark, and the one taken in this stride whose entry 0x040C is still to be logged (R426). -/
  react : Option React := none
  taken : Option React := none
  /-- The Halter's line of this axis: 0 none, 1 LOW, 2 HIGH (R147). -/
  asc : Nat := 0
  /-- A ZERO_RAMP reaction holds (R50). -/
  zeroRamp : Bool := false
  /-- A clearing request waits for the next mark (R209). -/
  clrReq : Bool := false
  trim : Option Trim := none
  /-- The trim is complete and the bootstrap precharge runs (R158). -/
  pre : Bool := false
  /-- START: path 0 to 3 of Table 7.2, strides in the step, strides counted for TSTMAX, strides of good field current. -/
  path : Nat := 0
  stepCnt : Nat := 0
  startCnt : Nat := 0
  fieldCnt : Nat := 0
  /-- The closed loop has begun, and it has run in a slot of START (R184). -/
  closed : Bool := false
  closedRan : Bool := false
  /-- Brake: the legs are Hi-Z for the stride before align (R187). -/
  brkEnd : Bool := false
  forward : Bool := true
  /-- The catch samples: unwrapped angle and amplitude, oldest first (R186). -/
  catches : List (F32 × F32) := []
  /-- Open-loop angle and speed, in electrical revolutions and revolutions per second, and the blend stride (R188). -/
  thol : F32 := 0
  wol : F32 := 0
  blend : Nat := 0
  /-- The offset in force comes from an align made after this many reference steps (R173). -/
  alignRef : Option Nat := none
  /-- The offset the image or the identity record configures (R173). -/
  cfgOfs : Option Word := none
  /-- Speed last valid and its age in strides (R176). -/
  lastSpd : Option (Int × Nat) := none
  /-- Strides: ESTCONV clear, estimator slow, speed below ASCREL, stop conditions held. -/
  estClr : Nat := 0
  estLow : Nat := 0
  relCnt : Nat := 0
  stopCnt : Nat := 0
  /-- What the controlled stop ends in: a request 0, 1 or 3 (R182). -/
  stopTo : Nat := 1
  /-- The set-point record copied at A has not been judged yet (R120). -/
  spNew : Bool := false
  sp : SetP := {}
  ramp : RampSt := {}
  eng : Eng := {}
  span : Span := {}
  /-- The safety copy of the snapshot (R100). -/
  dup : Snap := {}
  /-- The winding path switches this axis (R192), and its bootstrap legs are being precharged first. -/
  winding : Bool := false
  windPre : Bool := false
  /-- A leg fault has been latched since the last decision of the reaction unit (R161). -/
  legNew : Bool := false
  /-- The freewheel request of R208 was made this many marks ago. -/
  fwWatch : Option Nat := none
  deriving DecidableEq, Repr

/-- A leg beyond its registers (R147 to R160). -/
structure Leg where
  /-- Duty staged by the loop engine, in the shadow register, in force, and in force in the first half of the carrier period in
  progress, each with the phase-current VALUE the engine used (R150, R154). -/
  staged : Option (F32 × Int) := none
  shadow : Option (F32 × Int) := none
  duty : F32 × Int := (0, 0)
  prev : F32 × Int := (0, 0)
  /-- Hi-Z until the first U_t of START (R158). -/
  hiz : Bool := true
  blk : Bool := false
  ascMaskL : Bool := false
  ascMaskH : Bool := false
  /-- Bootstrap low side on in PRECHARGE (R158). -/
  preOn : Bool := false
  /-- The side that was on last since PRECHARGE: some true for high (R159). -/
  lastHi : Option Bool := none
  /-- Carrier periods without refresh, counted from the first switching after PRECHARGE (R157). -/
  refCnt : Nat := 0
  refRun : Bool := false
  /-- The side taken at a pending assertion (R160), and the stride in which 0x0503 was last logged. -/
  pendSide : Nat := 0
  earlyAt : Option Stamp := none
  /-- The edges of the carrier period in progress, counted from the peak that begins it in units of 78.125 ps, each with its kind:
  0 GHI off, 1 GLO on, 2 GLO off, 3 GHI on (R153); the latest edges of the periods before stand with negative positions. -/
  edges : List (Int × Nat) := []
  /-- The high interval around the peak that begins the period was widened and ends this far into it, or it was dropped (R155). -/
  carry : Option Int := none
  hiDrop : Bool := false
  /-- The leg leaves Hi-Z in this carrier period: some true at the peak that begins it, some false at its valley (R158). -/
  fresh : Option Bool := none
  deriving DecidableEq, Repr

/-- A team beyond its registers. -/
structure Team where
  /-- Codes of the class TM reactions latched for the team (R209), and a failed start test of its enable path (R204). -/
  tmSrc : List Nat := []
  pathFail : Bool := false
  /-- A write of 1 to its TMLAT waits for the mark (R209), and an accepted write holds the enable for one mark more. -/
  clrReq : Bool := false
  enWait : Bool := false
  /-- DSPI: transaction to come and tries made (R166), and axes a failed transaction disables. -/
  dspiIdx : Nat := 0
  dspiTry : Nat := 0
  deriving DecidableEq, Repr

/-- A discharge of a DC-link group (R192 to R194): strides since the trigger, strides below VDCTGT, a waiting abort. -/
structure Dcl where
  strides : Nat := 0
  low : Nat := 0
  abort : Bool := false
  /-- A leg of an axis of the group has not been Hi-Z in the present stride, and in the stride that ended at the last mark (R70). -/
  on : Bool := false
  wasOn : Bool := false
  deriving DecidableEq, Repr

/-- Axes, legs, teams and DC-link groups, and the axes that IDENTIFY or the gate drivers disabled with the reason (R166, R180, R360). -/
structure Drive where
  axes : Tbl Axis := []
  legs : Tbl Leg := []
  teams : Tbl Team := []
  dcls : Tbl Dcl := []
  lock : Tbl Nat := []
  deriving DecidableEq, Repr

/-- A torque monitor (R210 to R212): the demands of the last strides, newest first, the value held, OFSM, and the strides since
the SMC last wrote the variant entry (R205). -/
structure Mon where
  dem : List F32 := []
  held : F32 := 0
  ofsm : Word := 0
  /-- OFSM has been captured since the closed loop began. -/
  ofsOk : Bool := false
  on : Bool := false
  /-- The stride under way has been judged (R212). -/
  judged : Bool := false
  torqueBad : Bool := false
  angleBad : Bool := false
  /-- TMON less the nearer bound, and θm less THETAE, of the last stride. -/
  dTorque : F32 := 0
  dAngle : Word := 0
  /-- The last valid speed of the duplicated snapshot and its age in strides, the SMC's own (R205). -/
  spd : Option (Int × Nat) := none
  age : Nat := 0
  /-- The entry of the variant table stands for an ASC_HIGH that R149 replaced (R205). -/
  ascHigh : Bool := false
  deriving DecidableEq, Repr

/-- A safe input beyond its registers (R214): which channel changed first while the two disagree (1 = A, 2 = B). -/
structure SafeIn where
  firstCh : Nat := 0
  /-- The present disagreement has lasted longer than TDISC (R214). -/
  expired : Bool := false
  deriving DecidableEq, Repr

/-- A safe brake output beyond its registers (R216 to R218): the conditions of the latest mark and the switch under test. -/
structure SafeBrk where
  cond : Bool := false
  testHi : Bool := true
  deriving DecidableEq, Repr

/-- The safety island: monitors by axis, inputs, brakes, heartbeat (R206), and the torque-monitor blocks held in its SRAM, axis a
from byte 1,024 a on (R221). -/
structure Safety where
  mons : Tbl Mon := []
  ins : Tbl SafeIn := []
  brks : Tbl SafeBrk := []
  hbSeq : Nat := 0
  /-- The SMC has stopped (R206). -/
  smcDead : Bool := false
  blocks : Tbl Byte := []
  /-- The writes the SMC has made to its mailbox (R22, R253; assumption 79). -/
  mbox : Nat := 0
  islandClk : Bool := true
  deriving DecidableEq, Repr

/-! ### Redundant groups -/

/-- A valid safe-frame copy that waits for its partner (R233): its path, sequence and whole content, and the marks since it arrived. -/
structure Copy where
  path : Nat
  seq : Nat
  bytes : List Byte
  age : Nat
  deriving DecidableEq, Repr

/-- A safe-frame connection beyond its registers (R21, R233, R234). -/
structure Conn where
  waits : List Copy := []
  /-- The sequence reference: the last accepted SEQ, or one less than the first valid copy's. -/
  ref : Nat := 0
  /-- Sequences rejected for a mismatch, newest first. -/
  mism : List Nat := []
  /-- The watchdog counts, and the strides since it started or a frame was accepted. -/
  wdOn : Bool := false
  wd : Nat := 0
  /-- The last accepted frame as delivered to shared application SRAM, and as delivered to the receive buffer in safety-island SRAM (R21). -/
  last : List Byte := []
  isl : List Byte := []
  /-- A frame was accepted in this stride; and 0x0701 has been logged for the present run of single copies (R233, R234). -/
  got : Bool := false
  plLogged : Bool := false
  deriving DecidableEq, Repr

/-- What a member has heard from one rank (R236, R239, R240): strides since its last accepted frame, that frame's flags, the strides in a
row in which its frames showed READY and HEALTHY with ADMITTED clear, and whether it was heard in this stride. -/
structure Peer where
  since : Nat := 255
  flags : Nat := 0
  run : Nat := 0
  now : Bool := false
  /-- Strides since a frame of the rank that showed HEALTHY and ADMITTED, and whether one came in this stride (R244). -/
  okSince : Nat := 255
  okNow : Bool := false
  deriving DecidableEq, Repr

/-- A renewal accepted in this stride: its term, STAMP, shares and REDUCED (R236). -/
structure Renewal where
  term : Nat
  stamp : Word
  shares : List F32
  reduced : Bool
  deriving DecidableEq, Repr

/-- A newer term accepted in this stride: the term, its holder's rank, the rank that sent it (3: the host), and true from a GRANT (R235). -/
structure NewTerm where
  term : Nat
  holder : Nat
  sender : Nat
  grant : Bool
  deriving DecidableEq, Repr

/-- A redundant group beyond its registers (R225 to R247). -/
structure Group where
  /-- The group stays OFF (R225). -/
  off : Bool := false
  peers : Tbl Peer := []
  /-- STAMP of the newest renewal accepted, of any term. -/
  stamp : Option Word := none
  ren : Option Renewal := none
  /-- A renewal was accepted in the stride that ended at the last mark. -/
  renMark : Bool := false
  cand : Option NewTerm := none
  /-- The revoked term, 0 with none; why the arbiter revokes at the next A (R240), 0 with no reason; and the term whose REVOKE it sent. -/
  revoked : Nat := 0
  revWant : Nat := 0
  revSent : Nat := 0
  /-- Strides of the term in a row without an accepted renewal, and with a shadow disagreement, with the slot that disagreed. -/
  noRen : Nat := 0
  shRun : Nat := 0
  shSlot : Nat := 0
  /-- The run of differing shares has been reported (R240). -/
  shLog : Bool := false
  /-- The commit for the next A: its ARBOK and TXSH, SHAD and TXFB; and those of the last counted commit (R229). -/
  staged : Option (Bool × List Word) := none
  words : List Word := []
  /-- Quorum evidence, and a member frame of another member, accepted in this stride. -/
  qNow : Bool := false
  heard : Bool := false
  /-- An accepted ADMIT takes effect at the next mark. -/
  admits : Bool := false
  /-- Shares at the start of the ramp (R237). -/
  held : List F32 := []
  /-- LEASE_EXPIRED has been logged for this lease. -/
  expLogged : Bool := false
  deriving DecidableEq, Repr

/-- The group block: groups and connections. -/
structure Grp where
  groups : Tbl Group := []
  conns : Tbl Conn := []
  deriving DecidableEq, Repr

/-! ### Cores, lockstep, self-test and debug -/

/-- A hart as the debug module sees it (R274): halted, a halt request held during a rejoin (R265), started anew since the module last
acknowledged it, its pc, dcsr, and the registers read or written since it halted, by number; another register holds a value nothing has
shown. Trigger t of a hart has its tdata1 and tdata2 at 0x10000 + 16 t and the next number. -/
structure Hart where
  halted : Bool := false
  haltPend : Bool := false
  wasReset : Bool := true
  dpc : Word := 0
  dcsr : Word := 0x40000003
  regs : Tbl (Option Word) := []
  deriving DecidableEq, Repr

/-- A lockstep pair beyond its registers (R255 to R265). -/
structure Pair where
  /-- Held in reset after a mismatch, with its groups, rails and parity until attributed (R258, R259). -/
  held : Bool := false
  mmGroups : Nat := 0
  mmPar : Bool := false
  attrPend : Bool := false
  /-- The request of this stride: 1 split, 2 join (R265). -/
  req : Nat := 0
  /-- SPLITINIT has acted (R262). -/
  initDone : Bool := false
  /-- The pair runs application firmware from its entry point (R364). -/
  appOn : Bool := false
  /-- The rejoin transfer has ended (R264). -/
  xferDone : Bool := false
  /-- The register-signature window in progress is checked so far, and holds a msigend; the verdict of the window that ended at the last
  mark: 0 not checked, 1 flushed, 2 missed (R260). -/
  winOk : Bool := false
  winEnd : Bool := false
  verdict : Nat := 0
  deriving DecidableEq, Repr

/-- What the JTAG port does to the pins (R278). -/
inductive PinMode where
  | normal | extest | clamp | highz | scan
  deriving DecidableEq, Repr

/-- The test access port and the debug module (R273 to R278). -/
structure Dbg where
  /-- The instruction register; IDCODE after reset. The bytes captured in the selected data register. -/
  ir : BitVec 5 := 1
  dr : List Byte := []
  /-- The boundary register. -/
  bsr : List Bool := []
  pins : PinMode := .normal
  /-- The nonce in force (R275). -/
  nonce : Option (BitVec 256) := none
  /-- The reaction of R277 has been applied. -/
  reacted : Bool := false
  /-- Debug-module registers: dmactive, data0, the program buffer, cmderr, hartsel, and the word a DMI read returned. -/
  dmactive : Bool := false
  data0 : Word := 0
  progbuf : Tbl Word := []
  cmderr : Nat := 0
  hartsel : Nat := 0
  /-- The harts that acknowledged their last resume request. -/
  resumeAck : Tbl Bool := []
  dmiOut : Word := 0
  deriving DecidableEq, Repr

/-- The security engine's store (R17, R276): its key registers, the CMAC key and the image-verification copy of the key hash; and the OTP read
port is blocked. -/
structure SecEng where
  cmacKey : BitVec 128 := Config.hostKey
  keyHash : BitVec 256 := Config.otpKeyHash
  otpBlocked : Bool := false
  deriving DecidableEq, Repr

/-- Cores, self-test and debug. Core i: 0 to 3. -/
structure Cores where
  pairs : Tbl Pair := []
  harts : Tbl Hart := []
  /-- mevpend and mevten by core (R253). -/
  mevpend : Tbl Byte := []
  mevten : Tbl Byte := []
  /-- The start entries of the image (R364). -/
  entry0 : Word := 0
  entry1 : Word := 0
  /-- Postponements in a row of the slice to come, and their entry has been logged (R270); the long skip has been logged; the skipped
  island slices in a row and since start, and that their long skip has been logged (R271). -/
  postponed : Nat := 0
  postLogged : Bool := false
  skipLogged : Bool := false
  islSkip : Nat := 0
  islSkipCnt : Nat := 0
  islLogged : Bool := false
  dbg : Dbg := {}
  se : SecEng := {}
  deriving DecidableEq, Repr

/-! ### Rings, host ports and cisterns -/

/-- A packet of a cistern: the ring header fields of Table 11.2, or for an Ethernet cistern the host frame alone. -/
structure Pkt where
  dest : Nat := 0
  src : Nat := 0
  cls : Nat := 0
  flags : Nat := 0
  stamp : Nat := 0
  stream : Nat := 0
  body : List Byte := []
  /-- Sent and not yet released: on which hop, with which link sequence (R292). -/
  sent : Option (Nat × Nat) := none
  /-- The next sending carries RETX, with the same sequence on the same hop where one is given; a reread after an ECC error has been
  made (R313). -/
  retx : Bool := false
  again : Option (Nat × Nat) := none
  reread : Bool := false
  /-- A reserved frame that its stride has ended without (R291). -/
  late : Bool := false
  /-- Released, behind an older frame that is not: its space is freed with the mark (R312). -/
  freed : Bool := false
  deriving DecidableEq, Repr

/-- A cistern: its packets from the mark on, and the packet still open with the stride in which it was opened (R310 to R314). -/
structure Cis where
  pkts : List Pkt := []
  opened : Option Stamp := none
  deriving DecidableEq, Repr

/-- A hop beyond its registers: 0 is U (RAI, RBO), 1 is D (RAO, RBI). -/
structure HopSt where
  /-- Next sequence to send, sequence expected (R292). -/
  txSeq : Nat := 0
  rxSeq : Nat := 0
  /-- The receiver waits for the expected sequence after a NAK. -/
  nakked : Bool := false
  /-- The last CREDIT received, in bytes, and the bytes sent since (R293). -/
  credit : Nat := 0
  sentSince : Nat := 0
  /-- Consecutive acknowledgement timeouts (R285). -/
  timeouts : Nat := 0
  /-- Delay exchanges made, and their sum of round trip less turnaround (R52). -/
  exch : Nat := 0
  exchSum : Nat := 0
  /-- The neighbour's IDENT: string word of its TRAIN block. -/
  ident : Word := 0
  /-- Equaliser preset asked for, and the neighbour's receiver has adapted (R284). -/
  preset : Nat := 0
  adapted : Bool := false
  /-- The stride proposed for the unwrap, and the stride of the proposal (R298). -/
  prop : Option Stamp := none
  propAt : Stamp := 0
  /-- The agreed unwrap stride. -/
  unwrap : Option Stamp := none
  /-- COUNT of a SYNC_COPY0 that waits for its SYNC_COPY1; and the neighbour has sent copies, so that it is wrapped at this hop (R298). -/
  copy0 : Option Stamp := none
  copied : Bool := false
  /-- IDENT has been sent in this training (R285); and the time since the last ALIGN, in thousandths of an SCLK cycle (R284). -/
  identSent : Bool := false
  align : Nat := 0
  /-- A measured delay above 1 µs keeps the hop from going UP (R285). -/
  tooLong : Bool := false
  /-- The latest control blocks sent on the hop, oldest first: type byte and content (R284). -/
  ctl : List (Byte × BitVec 56) := []
  /-- By class, whether an own frame was sent last (R291). -/
  lastOwn : Byte := 0
  /-- The entries of the slot table used in this stride, with the bytes of each frame that took one (R291). -/
  slots : List (Nat × Nat) := []
  /-- The frame last sent on the hop's output, and whether it ended in TERM ABORT. -/
  wire : List Byte := []
  abort : Bool := false
  deriving DecidableEq, Repr

/-- A latch whose clearing the SMC judges at the next mark: TMLAT of a team, AXF of an axis (R209, R224). -/
inductive Clearing where
  | team (t : Nat) | axis (a : Nat)
  deriving DecidableEq, Repr
/-- A host write list that waits for its clearings to be judged (R209, R394): the request, the number of its pairs, those with a discard that
counts already, and the clearings, each with its pair. -/
structure ListWait where
  req : Req
  len : Nat
  bad : List Nat
  later : List (Nat × Clearing)
  deriving DecidableEq, Repr
/-- Rings, host ports and cisterns. -/
structure Net where
  cis : Tbl Cis := []
  hops : Tbl HopSt := []
  /-- A grant from ring A, from ring B, for this stride (R295). -/
  grantA : Option Nat := none
  grantB : Option Nat := none
  /-- The last accepted (FRESH, TAG), and the last 16 replies (R305). -/
  lastReq : Option (Nat × Nat) := none
  replies : List ((Nat × Nat) × List Byte) := []
  /-- Strides in a row with an empty pool, and the stall has been logged (R294). -/
  poolRun : Nat := 0
  poolLogged : Bool := false
  /-- The Ethernet frame that each port sent last, and whether it was cut off for an ECC error (R302, R313). -/
  wire : Tbl (List Byte) := []
  cut : Tbl Bool := []
  /-- The PHY initialisation list that MDIO has run on each port (R300). -/
  mdio : Tbl (List Byte) := []
  /-- Host sleep requests that wait for the mark, kept for their replies (R386). -/
  sleepReq : List Req := []
  /-- Host write lists whose STATUS waits for the mark (R209, R394). -/
  writeReq : List ListWait := []
  /-- The last stride in which each telemetry stream was sampled. -/
  telAt : Tbl (Option Stamp) := []
  deriving DecidableEq, Repr

/-! ### Field buses -/

/-- A mailbox beyond its registers (R328, R329): the transmit shadow, a commit that waits for the end of its transmission, whether it was
committed since its last success, a cancel that waits, and the pending received frame with its stamp. -/
structure Mbox where
  shadow : Option (BitVec 4 × List Byte) := none
  later : Option (BitVec 4 × List Byte) := none
  fresh : Bool := false
  cancel : Bool := false
  pend : Option (CanData × BitVec 16) := none
  /-- The event frame has been attempted in this stride while the channel has no partner (R331). -/
  tried : Bool := false
  deriving DecidableEq, Repr

/-- A slot frame (R326): its mailbox, slot and cycle, and the content that was committed when its slot began. -/
structure SlotFrame where
  mb : Nat
  slot : Nat
  cycle : Nat
  dlc : BitVec 4
  data : List Byte
  deriving DecidableEq, Repr

/-- A CAN channel beyond its registers (R325 to R332): the cycle that runs, the open slot, the slot frame queued in it, the
mailbox in transmission, whether it is the slot frame and whether its slot has ended, another node's frame on the bus,
consecutive acknowledgement errors, and the frame last put on the bus. -/
structure CanCh where
  cycle : Option Nat := none
  slot : Option Nat := none
  queued : Option SlotFrame := none
  /-- The slot frame of a slot that began while the frame of the slot before was still in transmission. -/
  next : Option SlotFrame := none
  tx : Option Nat := none
  txSlot : Bool := false
  slotOver : Bool := false
  busy : Bool := false
  ackRun : Nat := 0
  wire : Option CanData := none
  deriving DecidableEq, Repr

/-- A SENT receiver beyond its registers (R334, R335): the last valid calibration pulse, that the next frame is the first after start or after a
timeout, invalid frames in a row, the values that a read of
FAST latches, the serial bits 2 and 3 of the frames so far, oldest first, and whether the timeout has been reported. -/
structure SentRx where
  lastCal : Option Nat := none
  first : Bool := true
  errRun : Nat := 0
  liveStamp : Nat := 0
  liveTick : Nat := 0
  nibs : List (Bool × Bool) := []
  timedOut : Bool := false
  deriving DecidableEq, Repr

/-- A LIN channel beyond its registers (R337, R338): the schedule has started, the stride in which the entry in progress began, the
pair in force by entry, whether the entry's outcome is still open, and what was sent for it: the bits of the break and of its delimiter, then the
bytes. -/
structure LinCh where
  started : Bool := false
  at_ : Stamp := 0
  pairs : Tbl (Word × Word) := []
  openRsp : Bool := false
  brk : Nat := 0
  delim : Nat := 0
  sent : List Byte := []
  deriving DecidableEq, Repr

/-- The field-bus controllers. Mailbox m of channel c has number 32 c + m. -/
structure Bus where
  /-- The controllers have started (R321). -/
  on : Bool := false
  can : Tbl CanCh := []
  mb : Tbl Mbox := []
  sent : Tbl SentRx := []
  lin : Tbl LinCh := []
  deriving DecidableEq, Repr

/-! ### Configuration store and start-up -/

/-- An NVM operation that runs (R351). -/
structure NvmOp where
  mop : Nat
  bank : Nat
  ofs : Nat
  len : Nat
  data : List Byte
  deriving DecidableEq, Repr

/-- The configuration store: flash bytes of port p, bank b at 0x1000000 p + 0x800000 b, the sections of the image in use that the units
take later, the running NVM operation and an accepted restart. -/
structure Cfg where
  flash : Tbl Byte := []
  safety : List Byte := []
  cal : List Byte := []
  ident : List Byte := []
  gdrv : Tbl (List Byte) := []
  slots : Tbl (List Config.Slot) := []
  phy : Tbl (List Byte) := []
  /-- The signal addresses of each telemetry stream (R307). -/
  tel : Tbl (List Word) := []
  op : Option NvmOp := none
  restart : Bool := false
  /-- The time in IDENTIFY, in microseconds, at which an identity bus becomes free (R355). -/
  busEnd : Tbl Nat := []
  deriving DecidableEq, Repr

/-! ### Supplies, state store and wellhead -/

/-- The state store and the wellhead. -/
structure Pwr where
  /-- The record taken at this start (R380). -/
  record : List Byte := []
  /-- The counters of Table 14.2 as they stand. -/
  counters : List Nat := [0, 0, 0, 0, 0, 0, 0, 0]
  /-- The record has been taken, so that a new record carries the counters of this start. -/
  taken : Bool := false
  /-- Causes of the record being written and of those that wait behind it (R379). -/
  recs : List Nat := []
  /-- Banks with an uncorrectable ECC error, until their next write (R31, R380). -/
  bad : List Nat := []
  /-- Cycles in SERVICE short of a second; strides since entry into ARMED, and the periods of 10 s whose record has begun (R379). -/
  svc : Nat := 0
  since : Nat := 0
  periods : Nat := 0
  /-- Causes of the next start: bit by CAUSE of Table 14.9, and the comparators. -/
  causes : Nat := 1
  wkmask : Nat := 0
  /-- RTC seconds and subseconds, and a value that waits for the next tick (R383). -/
  rtcSec : Stamp := 0
  rtcSub : BitVec 15 := 0
  rtcSet : Option Stamp := none
  /-- A core's sleep request waits for the mark (R386). -/
  sleepCmd : Bool := false
  /-- The causes and comparators of a wake event that met the sleep entry (R382). -/
  wakeLatch : Nat := 0
  wakeMask : Nat := 0
  /-- RESET_N was held longer than 5 s and 0x0D03 is to be logged (R388). -/
  stuck : Bool := false
  /-- Rails other than VKEEP removed in SLEEP, VIOP among them (R386, R30). -/
  railsOff : Bool := false
  /-- VCORE has fallen below its window in this run (R29). -/
  vcoreBad : Bool := false
  /-- VCORE is outside its window now: from either trip until its monitor reports it good again (R271, R407). -/
  vcoreOut : Bool := false
  /-- The rails below their monitors, or absent: bit 0 VCORE, 1 VSRD, 2 VIO33, 3 VIOP, 4 VIO18, 5 VSAFE (R30, R368, R407, R410). At power-on
  none has reported good yet. -/
  lowRails : BitVec 6 := 63
  deriving DecidableEq, Repr

/-- The machine. -/
structure State where
  /-- Commands waiting, first in, first out. -/
  pending : List Instr := []
  /-- The model's own: the number of free values drawn so far (assumption 7). -/
  free : Nat := 0
  dev : Dev := {}
  /-- Register words by offset; an unlisted register holds `regReset` (assumption 6). -/
  regs : Tbl Word := []
  /-- Memory of the application-core map by byte address; an unlisted byte reads 0 (Table 1.6; assumption 5). -/
  mem : Tbl Byte := []
  flt : FltLog := {}
  sense : Sense := {}
  pos : PosBlk := {}
  drive : Drive := {}
  saf : Safety := {}
  grp : Grp := {}
  bst : Cores := {}
  net : Net := {}
  bus : Bus := {}
  cfg : Cfg := {}
  pwr : Pwr := {}
  deriving DecidableEq, Repr

/-- Size in KB of cistern n (Table 11.9). -/
def cisKB (n : Nat) : Nat :=
  match n with
  | 0 | 7 | 1 | 8 | 2 | 9 | 15 | 20 => 8
  | 3 | 10 | 14 | 19 => 32
  | 4 | 11 | 6 | 13 | 16 | 21 => 64
  | 5 | 12 => 96
  | _ => 192

/-- What a register holds at an offset nothing has written: its Reset value. -/
def regReset (off : Nat) : Word :=
  if off = A.CFG_BANKA_RES ∨ off = A.CFG_BANKB_RES then putFld 0 F.CFG_BANKA_RES_REASON.lo F.CFG_BANKA_RES_REASON.w 31
  else if off = A.GRP_G_LEASE 0 ∨ off = A.GRP_G_LEASE 1 ∨ off = A.GRP_G_LEASE 2 ∨ off = A.GRP_G_LEASE 3 then
    putFld (putFld (putFld 0 (F.GRP_G_LEASE_AGE 0).lo (F.GRP_G_LEASE_AGE 0).w 255)
      (F.GRP_G_LEASE_HRANK 0).lo (F.GRP_G_LEASE_HRANK 0).w 3)
      (F.GRP_G_LEASE_QAGE 0).lo (F.GRP_G_LEASE_QAGE 0).w 255
  else if 0x0A0000 ≤ off ∧ off < 0x0A0180 ∧ off % 16 = 0 then BitVec.ofNat 32 (cisKB ((off - 0x0A0000) / 16))
  else 0

/-- The reasons for which the machine stops with a fault. -/
inductive Fault where
  /-- Raised by a command whose event the spec places outside the ratings, where the device promises no behaviour (R16). Safe. -/
  | outsideRatings
  deriving DecidableEq, Repr

/-- The reasons for which a command has no meaning. -/
inductive Refusal where
  /-- Raised by the dispatch of a command not modelled yet. Safe. -/
  | notModelled (mnemonic : String)
  deriving DecidableEq, Repr

/-- The machine after reset: every field at its Reset value, the queue empty, in POWERUP. -/
def State.reset : State := {}

end Sys2Proof.Machine
end

