-- ==== Sys2Proof/Machine/Ops.lean ====
section
/-! DEFINITION. The shared operations: registers, memory, records, the fault log, the speed rule, and the reactions of class AX, TM and DV. -/
namespace Sys2Proof.Machine
open Sys2Proof

/-- The state with another `pending`. -/
def State.setPending (v : List Instr) (s : State) : State := { s with pending := v }
/-- The state with another `free`. -/
def State.setFree (v : Nat) (s : State) : State := { s with free := v }
/-- The state with another `dev`. -/
def State.setDev (v : Dev) (s : State) : State := { s with dev := v }
/-- The state with another `regs`. -/
def State.setRegs (v : Tbl Word) (s : State) : State := { s with regs := v }
/-- The state with another `mem`. -/
def State.setMem (v : Tbl Byte) (s : State) : State := { s with mem := v }
/-- The state with another `flt`. -/
def State.setFlt (v : FltLog) (s : State) : State := { s with flt := v }
/-- The state with another `sense`. -/
def State.setSense (v : Sense) (s : State) : State := { s with sense := v }
/-- The state with another `pos`. -/
def State.setPos (v : PosBlk) (s : State) : State := { s with pos := v }
/-- The state with another `drive`. -/
def State.setDrive (v : Drive) (s : State) : State := { s with drive := v }
/-- The state with another `saf`. -/
def State.setSaf (v : Safety) (s : State) : State := { s with saf := v }
/-- The state with another `grp`. -/
def State.setGrp (v : Grp) (s : State) : State := { s with grp := v }
/-- The state with another `bst`. -/
def State.setBst (v : Cores) (s : State) : State := { s with bst := v }
/-- The state with another `net`. -/
def State.setNet (v : Net) (s : State) : State := { s with net := v }
/-- The state with another `bus`. -/
def State.setBus (v : Bus) (s : State) : State := { s with bus := v }
/-- The state with another `cfg`. -/
def State.setCfg (v : Cfg) (s : State) : State := { s with cfg := v }
/-- The state with another `pwr`. -/
def State.setPwr (v : Pwr) (s : State) : State := { s with pwr := v }

/-! ### Registers -/

/-- The word a register holds. -/
def State.reg (s : State) (off : Nat) : Word := tget regReset s.regs off
/-- The state with another register word. -/
def State.setReg (off : Nat) (w : Word) (s : State) : State := s.setRegs (tset regReset s.regs off w)
/-- The number a field holds. -/
def rd (s : State) (f : Fld) : Nat := getFld (s.reg f.off) f.lo f.w
/-- The signed number a field holds. -/
def rdI (s : State) (f : Fld) : Int := sext f.w (rd s f)
/-- The word a 32-bit field holds. -/
def rdW (s : State) (f : Fld) : Word := BitVec.ofNat 32 (rd s f)
/-- True of a field that is not 0. -/
def isSet (s : State) (f : Fld) : Bool := rd s f != 0
/-- The state with a field written. -/
def wr (f : Fld) (v : Nat) (s : State) : State := s.setReg f.off (putFld (s.reg f.off) f.lo f.w v)
/-- The state with a field written with a signed number. -/
def wrI (f : Fld) (v : Int) (s : State) : State := wr f (trunc f.w v) s
/-- The state with a 32-bit field written. -/
def wrW (f : Fld) (v : Word) (s : State) : State := wr f v.toNat s
/-- The state with a one-bit field written. -/
def wrB (f : Fld) (b : Bool) (s : State) : State := wr f (b2n b) s
/-- A counter field raised by one, stopping at its greatest value. -/
def bumpSat (f : Fld) (s : State) : State := wr f (satAdd (2 ^ f.w - 1) (rd s f) 1) s
/-- A counter field raised by one, wrapping. -/
def bumpWrap (f : Fld) (s : State) : State := wr f (rd s f + 1) s
/-- One bit of a mask field. -/
def rdBit (s : State) (f : Fld) (i : Nat) : Bool := bit (rd s f) i
/-- A mask field with one bit written. -/
def wrBit (f : Fld) (i : Nat) (b : Bool) (s : State) : State :=
  let m := rd s f
  wr f (if bit m i then (if b then m else m - 2 ^ i) else (if b then m + 2 ^ i else m)) s

/-! ### Memory of the application-core map (Table 1.6) -/

/-- What a byte that nothing has written reads as (assumption 5). -/
def memReset (_ : Nat) : Byte := 0
/-- The byte at an address. -/
def rdB (s : State) (a : Nat) : Byte := tget memReset s.mem a
/-- The state with bytes written from an address on. -/
def wrBytes (a : Nat) (bs : List Byte) (s : State) : State := s.setMem (tsetList memReset s.mem a bs)
/-- The `n` bytes from an address on. -/
def rdBytes (s : State) (a n : Nat) : List Byte := tgetList memReset s.mem a n
/-- The 32-bit word at an address, lowest byte first. -/
def rd32 (s : State) (a : Nat) : Word := BitVec.ofNat 32 (leNat (rdBytes s a 4))
/-- The state with a 32-bit word written at an address. -/
def wr32 (a : Nat) (v : Word) (s : State) : State := wrBytes a (leBytes 4 v.toNat) s

/-- A byte of the SMC mailbox: what the SMC wrote last, of a content that no rule gives (R22; assumption 79). -/
def mailByte (s : State) (o : Nat) : Byte := if s.saf.mbox = 0 then memReset (0x60000000 + o) else Config.mailbox s.saf.mbox o

/-- Where the loop-engine memory of team t lies (R118). -/
def leBase (t : Nat) : Nat := 0x20000000 + t * 0x40000
/-- Where the parameter block of axis a lies (Table 5.3). -/
def prmBase (a : Nat) : Nat := leBase (a / 4) + 0x8000 + 0x1000 * (a % 4)
/-- Where the input area of axis a lies. -/
def inBase (a : Nat) : Nat := leBase (a / 4) + 0x3D000 + 16 * (a % 4)
/-- Where the pending set-point copy of axis a lies. -/
def pendBase (a : Nat) : Nat := leBase (a / 4) + 0x3E000 + 64 * (a % 4)
/-- Where the active set-point copy of axis a lies. -/
def actBase (a : Nat) : Nat := leBase (a / 4) + 0x3E400 + 64 * (a % 4)
/-- Where the readback record of axis a lies. -/
def rbBase (a : Nat) : Nat := leBase (a / 4) + 0x3F000 + 256 * (a % 4)
/-- A parameter of axis a (Tables 5.4 and 7.7). -/
def prm (s : State) (a ofs : Nat) : F32 := rd32 s (prmBase a + ofs)

/-! ### Records by object -/

/-- The record of axis a. -/
def State.ax (s : State) (a : Nat) : Axis := tget (fun _ => {}) s.drive.axes a
/-- The state with the record of axis a changed. -/
def modAx (a : Nat) (f : Axis → Axis) (s : State) : State :=
  s.setDrive { s.drive with axes := tset (fun _ => {}) s.drive.axes a (f (s.ax a)) }
/-- The record of leg n. -/
def State.leg (s : State) (n : Nat) : Leg := tget (fun _ => {}) s.drive.legs n
/-- The state with the record of leg n changed. -/
def modLeg (n : Nat) (f : Leg → Leg) (s : State) : State :=
  s.setDrive { s.drive with legs := tset (fun _ => {}) s.drive.legs n (f (s.leg n)) }
/-- The record of team t. -/
def State.team (s : State) (t : Nat) : Team := tget (fun _ => {}) s.drive.teams t
/-- The state with the record of team t changed. -/
def modTeam (t : Nat) (f : Team → Team) (s : State) : State :=
  s.setDrive { s.drive with teams := tset (fun _ => {}) s.drive.teams t (f (s.team t)) }
/-- The record of DC-link group g. -/
def State.dcl (s : State) (g : Nat) : Dcl := tget (fun _ => {}) s.drive.dcls g
/-- The state with the record of DC-link group g changed. -/
def modDcl (g : Nat) (f : Dcl → Dcl) (s : State) : State :=
  s.setDrive { s.drive with dcls := tset (fun _ => {}) s.drive.dcls g (f (s.dcl g)) }
/-- Why IDENTIFY disabled axis a: a LOCKRSN code, 0 for none. -/
def State.lock (s : State) (a : Nat) : Nat := tget (fun _ => 0) s.drive.lock a
/-- The state with axis a disabled for a reason; the first of the reasons in the order of their codes is kept (assumption 20). -/
def setLock (a r : Nat) (s : State) : State :=
  if s.lock a ≠ 0 ∧ s.lock a ≤ r then s else s.setDrive { s.drive with lock := tset (fun _ => 0) s.drive.lock a r }
/-- The record of channel n. -/
def State.chan (s : State) (n : Nat) : Chan := tget (fun _ => {}) s.sense.chans n
/-- The state with the record of channel n changed. -/
def modChan (n : Nat) (f : Chan → Chan) (s : State) : State :=
  s.setSense { s.sense with chans := tset (fun _ => {}) s.sense.chans n (f (s.chan n)) }
/-- The record of interface n. -/
def State.ifc (s : State) (n : Nat) : Ifc := tget (fun _ => {}) s.pos.ifs n
/-- The state with the record of interface n changed. -/
def modIfc (n : Nat) (f : Ifc → Ifc) (s : State) : State :=
  s.setPos { s.pos with ifs := tset (fun _ => {}) s.pos.ifs n (f (s.ifc n)) }
/-- The torque monitor of axis a. -/
def State.mon (s : State) (a : Nat) : Mon := tget (fun _ => {}) s.saf.mons a
/-- The state with the torque monitor of axis a changed. -/
def modMon (a : Nat) (f : Mon → Mon) (s : State) : State :=
  s.setSaf { s.saf with mons := tset (fun _ => {}) s.saf.mons a (f (s.mon a)) }
/-- The state with the device record changed. -/
def modDev (f : Dev → Dev) (s : State) : State := s.setDev (f s.dev)
/-- The word at offset `o` of the torque-monitor block of axis a (R221). -/
def tmPrm (s : State) (a o : Nat) : Word :=
  BitVec.ofNat 32 (leNat (tgetList (fun _ => 0) s.saf.blocks (1024 * a + o) 4))

/-- A fresh free value of width w, and the state with the counter advanced (assumption 7). -/
def draw (w : Nat) (s : State) : BitVec w × State := (Config.freeBits w s.free, s.setFree (s.free + 1))

/-! ### The part's resources and the drive's structure -/

/-- Teams the part reports (Table 0.1). -/
def Part.teams : Part → Nat
  | .gh9696 => 8
  | .gh9648 => 4
  | .gh9624 => 2
/-- The part code (Table 0.1). -/
def Part.code : Part → Nat
  | .gh9696 => 0x9696
  | .gh9648 => 0x9648
  | .gh9624 => 0x9624
/-- Teams of the device (R3: the lowest-numbered ones). -/
def State.nTeams (s : State) : Nat := s.dev.part.teams
/-- Axes of the device. -/
def State.nAxes (s : State) : Nat := 4 * s.nTeams
/-- The stride period in SCLK cycles (R36). -/
def State.per (s : State) : Nat := rd s F.STR_PERIOD_PERIOD
/-- Strides that cover a time given in microseconds, rounded up. -/
def State.strides (s : State) (us : Nat) : Nat := (us * 800 + s.per - 1) / s.per
/-- The stride period in seconds, rounded once to binary32. -/
def State.tSec (s : State) : F32 := Flt.ofRat s.per 800000000
/-- The type of axis a (Table 5.2). -/
def axType (s : State) (a : Nat) : Nat := rd s (F.LE_AX_CFG_TYPE a)
/-- The device legs of axis a in their order LEG0 to LEG5. -/
def axLegs (s : State) (a : Nat) : List Nat :=
  (List.range (rd s (F.LE_AX_LEGS_NLEG a))).map fun i => 12 * (a / 4) + rd s (F.LE_AX_LEGS_LEG0_LEG5 a) / 16 ^ i % 16
/-- The axes of a team that are in use. -/
def teamAxes (s : State) (t : Nat) : List Nat := (List.range 4).map (4 * t + ·) |>.filter fun a => axType s a ≠ 0
/-- The axes in use. -/
def axesUsed (s : State) : List Nat := (List.range s.nAxes).filter fun a => axType s a ≠ 0
/-- The axis a leg belongs to. -/
def legAxis (s : State) (n : Nat) : Option Nat := (teamAxes s (n / 12)).find? fun a => (axLegs s a).contains n
/-- The axes on a DC-link group. -/
def dclAxes (s : State) (g : Nat) : List Nat := (axesUsed s).filter fun a => rd s (F.LE_AX_CFG_DCL a) = g
/-- The axes that use an interface. -/
def ifAxes (s : State) (n : Nat) : List Nat :=
  (axesUsed s).filter fun a => isSet s (F.LE_AX_CFG_POSEN a) && rd s (F.LE_AX_CFG_POSIF a) == n
/-- A channel is the secondary of a pair (R76). -/
def isSecondary (s : State) (n : Nat) : Bool := isSet s (F.SNS_CH_PAIR_PAIREN n) && !isSet s (F.SNS_CH_PAIR_PRIMARY n)
/-- The axes of a sense channel's object, by its role (Table 3.2; assumption 21). -/
def objAxes (s : State) (n : Nat) : List Nat :=
  let obj := rd s (F.SNS_CH_CFG_OBJ n)
  match rd s (F.SNS_CH_CFG_ROLE n) with
  | 1 | 2 => (legAxis s obj).toList
  | 3 | 4 => (teamAxes s (n / 24)).filter fun a => rd s (F.LE_AX_CFG_DCL a) = obj
  | 5 | 6 => ifAxes s obj
  | 7 => (teamAxes s (n / 24)).filter fun a => isSet s (F.LE_AX_MOTOR_TEMPEN a) && rd s (F.LE_AX_MOTOR_TEMPCH a) == n
  | _ => []
/-- The axes that use a sense channel. A secondary on a phase current feeds its own checks alone (R117). -/
def chanAxes (s : State) (n : Nat) : List Nat := if rd s (F.SNS_CH_CFG_ROLE n) = 1 ∧ isSecondary s n then [] else objAxes s n
/-- The state code of axis a (LE_AXa_STATE.STATE). -/
def axState (s : State) (a : Nat) : Nat := rd s (F.LE_AX_STATE_STATE a)
/-- True of PRECHARGE, START, RUN and DEGRADED. -/
def axActive (s : State) (a : Nat) : Bool := let x := axState s a; x == 2 || x == 3 || x == 4 || x == 5
/-- True of DISABLED, READY, LOCKED and a SAFE variant (R56, R105, R163). -/
def axIdle (s : State) (a : Nat) : Bool := !axActive s a
/-- The exciter of a MACH 1 stator, if the axis is one (R129). -/
def exciterOf (s : State) (a : Nat) : Option Nat :=
  let ty := axType s a
  if (ty = 1 ∨ ty = 2 ∨ ty = 6) ∧ rd s (F.LE_AX_CFG_MACH a) = 1 then some (rd s (F.LE_AX_CFG_LINK a)) else none
/-- The stator an exciter is linked to. -/
def statorOf (s : State) (a : Nat) : Option Nat :=
  let ty := axType s a
  if ty = 4 ∨ ty = 5 then (teamAxes s (a / 4)).find? fun b => exciterOf s b = some a else none
/-- The axis has a bootstrap leg (R149). -/
def hasBoot (s : State) (a : Nat) : Bool := (axLegs s a).any fun n => isSet s (F.MOD_LEG_CFG_BOOT n)

/-- The device is held in reset, whatever state it shows: RESET_N low, VSAFE below its monitor, a failed self-test, no supply; or it is in
internal scan, outside its functions (R278). -/
def held (s : State) : Bool :=
  s.dev.resetLow || s.dev.vsafeLow || s.dev.testHold || s.dev.dead || s.bst.dbg.pins == .scan
/-- Pair p. -/
def State.pair (s : State) (p : Nat) : Pair := tget (fun _ => {}) s.bst.pairs p
/-- The state with pair p changed. -/
def modPair (p : Nat) (f : Pair → Pair) (s : State) : State :=
  s.setBst { s.bst with pairs := tset (fun _ => {}) s.bst.pairs p (f (s.pair p)) }
/-- The cores run: from SELFTEST to RECOVERY, outside reset (R33, R373). -/
def coresRun (s : State) : Bool :=
  !held s &&
  (match s.dev.st with
    | .powerup | .save | .parked | .sleep => false
    | _ => true)
/-- The device watches its voltages, its island clock and its read-backs (R27, R209, R218, R220): outside reset, and outside POWERUP, PARKED and
SLEEP, in which its main domain does not run and PARKED watches HOLDSNS only (Table 1.7, R373, R374). -/
def monitored (s : State) : Bool :=
  !held s &&
  (match s.dev.st with
    | .powerup | .parked | .sleep => false
    | _ => true)
/-- The requests of a requestor reach the fabric: while the cores run and the ports serve the host (R33, R286, R301, R373); of a core, with its
pair not held (R258), a checker's only while its pair is split (R255). -/
def mayIssue (s : State) (who : Requestor) : Bool :=
  coresRun s && match who with
  | .ac0 => !(s.pair 0).held
  | .ac1 => !(s.pair 0).held && rd s (F.BST_PAIR_STAT_MODE 0) == 2
  | .ac2 => !(s.pair 1).held
  | .ac3 => !(s.pair 1).held && rd s (F.BST_PAIR_STAT_MODE 1) == 2
  | _ => true
/-- A request of an application core that reaches the fabric. -/
def fromCore (s : State) (who : Requestor) : Bool := who.isCore && mayIssue s who

/-! ### The fault log (R397 to R402) -/

/-- FLT_CNT of a class raised by one. -/
def countCls (cls : Nat) (s : State) : State :=
  match cls with
  | 0 => bumpSat F.FLT_CNT0_N s
  | 1 => bumpSat F.FLT_CNT0_W s
  | 2 => bumpSat F.FLT_CNT1_AX s
  | 3 => bumpSat F.FLT_CNT1_TM s
  | _ => bumpSat F.FLT_CNT2_DV s
/-- The log runs from entry into SELFTEST, and not while the device or its main domain is held in reset (R373, R397). -/
def logging (s : State) : Bool :=
  s.dev.st != .powerup && s.dev.st != .parked && s.dev.st != .sleep && !s.dev.resetLow && !s.dev.vsafeLow && !s.dev.dead
/-- An entry put into the running command's batch, with SEEN and MAXCLS (Table 15.7). The faults of the safety block carry ISLAND
(Table 15.4; assumption 30). -/
def putEntry (code src cls data : Nat) (s : State) : State :=
  let stamp := if s.dev.running then s.dev.count else BitVec.allOnes 48
  let e : Entry := ⟨stamp, BitVec.ofNat 16 code, BitVec.ofNat 16 src, BitVec.ofNat 8 cls, if code / 256 = 6 then 1 else 0, BitVec.ofNat 32 data⟩
  let s := s.setFlt { s.flt with batch := s.flt.batch ++ [e] }
  let s := wrBit F.FLT_STAT_SEEN cls true s
  wr F.FLT_STAT_MAXCLS (Nat.max (rd s F.FLT_STAT_MAXCLS) cls) s
/-- A fault counted and logged with the class applied. -/
def logFault (code src cls data : Nat) (s : State) : State :=
  if logging s then putEntry code src cls data (countCls cls s) else s
/-- A fault counted, and logged at most once per 1,024 strides per source (R401 and the chapters that say so). -/
def logRated (code src cls data : Nat) (s : State) : State :=
  if logging s then
    let s := countCls cls s
    let k := code * 65536 + src
    let due := match tget (fun _ => none) s.flt.rate k with
      | none => true
      | some c => (s.dev.count - c).toNat ≥ 1024
    if due then
      putEntry code src cls data (s.setFlt { s.flt with rate := tset (fun _ => none) s.flt.rate k (some s.dev.count) })
    else s
  else s
/-- An entry put into a sorted batch: by CODE, then by SRC, behind its equals (R398). -/
def insEntry (e : Entry) : List Entry → List Entry
  | [] => [e]
  | x :: xs => if e.code < x.code ∨ (e.code = x.code ∧ e.src < x.src) then e :: x :: xs else x :: insEntry e xs
/-- A batch in the order of R398. -/
def sortEntries (l : List Entry) : List Entry := each insEntry l []
/-- One entry written to its slot (R397). -/
def storeEntry (e : Entry) (s : State) : State :=
  let k := rd s F.FLT_WIDX_WIDX
  wr F.FLT_WIDX_WIDX (k + 1) (s.setFlt { s.flt with slots := tset (fun _ => {}) s.flt.slots (k % 1024) e })
/-- An event raised to the application cores: bit b of mevpend (R253). -/
def coreEvent (b : Nat) (s : State) : State :=
  each (fun c s => s.setBst { s.bst with mevpend := tset (fun _ => 0) s.bst.mevpend c (tget (fun _ => 0) s.bst.mevpend c ||| (1#8 <<< b)) })
    [0, 1, 2, 3] s

/-- The batch of the command written to the log; an entry of class AX or higher raises event 6 (R253). -/
def flushLog (s : State) : State :=
  match s.flt.batch with
  | [] => s
  | b =>
    let s := if b.any fun (e : Entry) => decide (2 ≤ e.cls.toNat) then coreEvent 6 s else s
    each storeEntry (sortEntries b) (s.setFlt { s.flt with batch := [] })
/-- The end of a command: its log entries are written, and the machine goes on. -/
def done (s : State) : Host.Outcome State Fault Refusal := .next (flushLog s)

/-! ### Speed and the safe-state choice (R176, R205) -/

/-- Flags word of the snapshot in the input area of axis a (R118). -/
def inFlags (s : State) (a : Nat) : Nat := (rd32 s (inBase a + 4)).toNat / 65536
/-- POSVALID, SPDVALID, REST, REV and FAILED of the snapshot. -/
def inPosValid (s : State) (a : Nat) : Bool := bit (inFlags s a) 0
def inSpdValid (s : State) (a : Nat) : Bool := bit (inFlags s a) 1
def inRest (s : State) (a : Nat) : Bool := bit (inFlags s a) 2
def inFailed (s : State) (a : Nat) : Bool := bit (inFlags s a) 7
/-- The snapshot speed, in units of 2^-16 rev/s. -/
def inSpd (s : State) (a : Nat) : Int := (rd32 s (inBase a + 8)).toInt
/-- The estimator's mechanical speed w / (2π POLEP) in rev/s (R175). -/
def estSpd (s : State) (a : Nat) : F32 :=
  Flt.div (s.ax a).eng.ew (Flt.mul Flt.twoPi (Flt.ofNat (rd s (F.LE_AX_MOTOR_POLEP a))))
/-- The speed of R176 where it is known, in rev/s on the scale of `Flt.key`. -/
def speedKey (s : State) (a : Nat) : Option Int :=
  if isSet s (F.LE_AX_CFG_POSEN a) && inSpdValid s a && !inFailed s a then some (inSpd s a * 2 ^ 284)
  else if isSet s (F.LE_AX_STATE_ESTCONV a) then some (Flt.key (estSpd s a))
  else match (s.ax a).lastSpd with
    | some (v, age) => if age ≤ 64 then some (v * 2 ^ 284) else none
    | none => none
/-- The magnitude of the speed is known and below a limit given in rev/s. -/
def slowerThan (s : State) (a : Nat) (lim : F32) : Bool :=
  match speedKey s a with
  | some k => k.natAbs < Flt.key lim
  | none => false
/-- The variant of ASCSIDE: 1 ASC_LOW, 2 ASC_HIGH. -/
def ascVar (s : State) (a : Nat) : Nat := if (prm s a 0x8E8).toNat = 1 then 2 else 1
/-- The speed rule of R176: 1 ASC_LOW, 2 ASC_HIGH, 3 FREEWHEEL. A spanned partner takes SAFECH. -/
def speedRule (s : State) (a : Nat) : Nat :=
  let ty := axType s a
  if ty = 7 then (s.ax a).span.safech
  else if ty = 4 ∨ ty = 5 then 3
  else if ty = 3 ∧ !isSet s (F.LE_AX_CFG_POSEN a) then 3
  else match speedKey s a with
    | none => ascVar s a
    | some k => if Flt.key (prm s a 0x8E0) ≤ k.natAbs then ascVar s a else 3
/-- The variant the Halter takes from the table (R205): the entry, or once it is 64 strides old the default variant of the
torque-monitor block, or without a block the last entry. An entry that R149 replaced is its ASC_HIGH, which `axVar` replaces again. -/
def tableVar (s : State) (a : Nat) : Nat :=
  if isSet s (F.SAF_AX_TMSTAT_STALE a) ∧ rd s (F.SAF_AX_TMCFG_MODE a) ≠ 0 then (tmPrm s a 0x264).toNat % 4
  else
    let v := rd s (F.SAF_AX_TMSTAT_VAR a)
    if v = 3 ∧ (s.mon a).ascHigh ∧ hasBoot s a then 2 else v

/-! ### Reactions (R207, R426) -/

/-- The rank of R426 of a class AX reaction by its SCAUSE. -/
def axRank (scause : Nat) : Nat :=
  100000 + match scause with
    | 1 => 0
    | 4 => 1
    | 2 => 2
    | 3 => 3
    | 10 => 4
    | 6 => 5
    | 5 => 6
    | 7 => 7
    | _ => 8
/-- The rank of a class TM reaction by its fault code: a gate-supply lock-out first. -/
def tmRank (code : Nat) : Nat := if code = 0x0504 then 1 else 2 + code
/-- SCAUSE of a class TM reaction by its fault code (R426). -/
def tmScause (code : Nat) : Nat :=
  if code = 0x0504 then 9 else if code = 0x0405 then 10
  else if code = 0x0202 ∨ code = 0x0203 ∨ code = 0x0204 ∨ code = 0x0209 then 6 else 7

/-- The variant an axis takes: R149 turns ASC_HIGH on an axis with a bootstrap leg into FREEWHEEL. -/
def axVar (s : State) (a v : Nat) : Nat := if v = 2 ∧ hasBoot s a then 3 else v

/-- The masks of R147 frozen from the fault sides of the legs. -/
def freezeMasks (a : Nat) (s : State) : State :=
  each (fun n s =>
    let side := if isSet s (F.MOD_LEG_FLT_FAULTED n) then rd s (F.MOD_LEG_FLT_SIDE n) else 0
    modLeg n (fun l => { l with ascMaskH := side = 1 ∨ side = 3, ascMaskL := side = 2 ∨ side = 3 }) s) (axLegs s a) s
/-- BLK set or cleared on the legs of an axis. -/
def setBlk (a : Nat) (b : Bool) (s : State) : State := each (fun n => modLeg n fun l => { l with blk := b }) (axLegs s a) s
/-- The side that was on last on a leg (R159): its last turn-on, 1 GLO or 3 GHI. -/
def lastOn (l : Leg) : Option Bool :=
  each (fun (e : Int × Nat) acc => if e.2 = 1 then some false else if e.2 = 3 then some true else acc) l.edges l.lastHi
/-- The side that is on, or was on last, at a position of the carrier period: the last turn-on placed at or before it. -/
def sideAt (l : Leg) (p : Int) : Option Bool := lastOn { l with edges := l.edges.filter fun e => decide (e.1 ≤ p) }
/-- Half a carrier period of team t in units of 78.125 ps: H = 8 × STR_PERIOD / n (R150). -/
def halfCar (s : State) (t : Nat) : Nat := 8 * s.per / 2 ^ rd s (F.STR_TEAM_CFG_CARMUL t)
/-- Where in its carrier period team t stands: at a mark in the valley (R43), between marks at a free place (assumption 164). -/
def carNow (t : Nat) (s : State) : Nat × State :=
  if s.dev.atMark then (halfCar s t, s) else let (v, s) := draw 22 s; (v.toNat % (2 * halfCar s t), s)
/-- A leg off at a position of its carrier period: the edges ahead are not placed, and the side that was on last is that of the edges past
(R159, R160). -/
def Leg.off (p : Nat) (l : Leg) : Leg := { l with staged := none, shadow := none, lastHi := sideAt l p, edges := [] }
/-- The legs of an axis Hi-Z at the modulator, no duty staged or in force (R158). -/
def legsHiz (a : Nat) (s : State) : State :=
  let (p, s) := carNow (a / 4) s
  each (fun n => modLeg n fun l =>
    { l.off p with hiz := true, preOn := false, refRun := false, refCnt := 0, carry := none, hiDrop := false, fresh := none })
    (axLegs s a) s
/-- A leg of axis a has left Hi-Z in this stride (R70). -/
def noteOn (a : Nat) (s : State) : State := modDcl (rd s (F.LE_AX_CFG_DCL a)) (fun d => { d with on := true }) s
/-- The Halter's line and the block bits for a SAFE variant (R147, R149, R208). -/
def driveVar (a v : Nat) (s : State) : State :=
  if v = 1 ∨ v = 2 then
    let s := if (s.ax a).asc = 0 then freezeMasks a s else s
    let s := each (fun n => modLeg n fun l =>
      if (if v = 1 then l.ascMaskL else l.ascMaskH) then l else { l with lastHi := some (v = 2), edges := [] }) (axLegs s a) s
    noteOn a (modAx a (fun x => { x with asc := v }) s)
  else setBlk a true (modAx a (fun x => { x with asc := 0 }) s)
/-- Entry of axis a into SAFE with a reaction: the state register, the variant, the drive of the legs; 0x040C is logged at the
mark, with the reaction that ranks first in the stride (R426). -/
def enterSafe (a : Nat) (r : React) (s : State) : State :=
  let v := axVar s a r.var
  let s := if v ≠ r.var then wr (F.MOD_AX_STAT_CAUSE a) 5 s else s
  let s := legsHiz a s
  let s := wr (F.LE_AX_STATE_STATE a) 6 s |> wr (F.LE_AX_STATE_SAFEVAR a) v |> wr (F.MOD_AX_STAT_SAFEVAR a) v
    |> wr (F.LE_AX_STATE_SCAUSE a) r.scause |> wr (F.LE_AX_STATE_STEP a) 0 |> wr (F.LE_AX_STATE_STOPPING a) 0
  driveVar a v (modAx a (fun x => { x with
    taken := some { r with var := v }, trim := none, pre := false, req := none, closed := false, relCnt := 0 }) s)
/-- SAF_AXa_FLT.AXF and a cause bit set (R207). -/
def flagAx (a : Nat) (bitf : Nat → Fld) (s : State) : State := wr (F.SAF_AX_FLT_AXF a) 1 (wr (bitf a) 1 s)
/-- An axis fault flagged on an axis whose state it leaves: a reaction of this stride all the same, which discards the stride's mode request
(R183). -/
def flagReact (a : Nat) (bitf : Nat → Fld) (s : State) : State := flagAx a bitf (modAx a (fun x => { x with reacted := true }) s)
/-- A reaction on one axis. `now` takes it at once, else it waits for the mark; of the reactions of one stride the one that
ranks first decides (R426). An axis that is not active keeps its state (R180). -/
def reactOne (now : Bool) (a : Nat) (r : React) (bitf : Nat → Fld) (s : State) : State :=
  let s := flagReact a bitf s
  let x := s.ax a
  if axActive s a then
    if now then
      match x.react with
      | some q => enterSafe a (if q.rank ≤ r.rank then q else r) (modAx a (fun x => { x with react := none }) s)
      | none => enterSafe a r s
    else
      match x.react with
      | some q => if q.rank ≤ r.rank then s else modAx a (fun x => { x with react := some r }) s
      | none => modAx a (fun x => { x with react := some r }) s
  else
    match x.taken with
    | some q => if r.rank < q.rank then enterSafe a r s else s
    | none => s
/-- A reaction on an axis and, for a wound-rotor stator or an exciter, on its pair: the stator takes its safe state, the exciter
FREEWHEEL (R178). `var` names the variant; without one the speed rule chooses (R176). -/
def axisReact (now : Bool) (a rank : Nat) (var : Option Nat) (scause : Nat) (bitf : Nat → Fld) (s : State) : State :=
  let pick := fun (b : Nat) => match var with
    | some v => v
    | none => speedRule s b
  match exciterOf s a, statorOf s a with
  | some e, _ => reactOne now e ⟨rank, 3, scause⟩ bitf (reactOne now a ⟨rank, pick a, scause⟩ bitf s)
  | none, some st => reactOne now a ⟨rank, 3, scause⟩ bitf (reactOne now st ⟨rank, speedRule s st, scause⟩ bitf s)
  | none, none => reactOne now a ⟨rank, pick a, scause⟩ bitf s
/-- A class AX reaction of another block: BLOCK set, the axis to its safe state (R207). -/
def blockReact (now : Bool) (a scause : Nat) (s : State) : State :=
  axisReact now a (axRank scause) none scause F.SAF_AX_FLT_BLOCK s

/-- FAULT_N is low before the start checks and while DVLAT is set (R207). -/
def faultN (s : State) : State := wrB F.SAF_STAT_FAULTN (isSet s F.SAF_STAT_SMCOK && !isSet s F.SAF_STAT_DVLAT) s

/-- A class TM reaction of team t with its fault code: the Halter withdraws the enable and latches, and each axis reacts with
its table entry, a lock-out with FREEWHEEL (R207, R164). -/
def teamReact (code t : Nat) (s : State) : State :=
  let s := wrBit F.SAF_TEAMEN_EN t false (wrBit F.SAF_TEAMEN_RB t false (wrBit F.SAF_TEAMFLT_TMLAT t true s))
  let s := modTeam t (fun x => { x with tmSrc := if x.tmSrc.contains code then x.tmSrc else x.tmSrc ++ [code] }) s
  each (fun a s =>
    let v := if code = 0x0504 then 3 else tableVar s a
    axisReact true a (tmRank code) (some v) (tmScause code) F.SAF_AX_FLT_TEAM s) (teamAxes s t) s

/-- A discharge of group g begins or is recorded (R193): 1 host, 2 crash, 3 sag, 4 DV. -/
def dischTrigger (g src : Nat) (s : State) : State :=
  let s := if src = 2 then wr (F.LE_DCL_DSTAT_CRASHLOCK g) 1 s else s
  if isSet s (F.LE_DCL_DSTAT_ACTIVE g) then
    if src = 1 then s else wr (F.LE_DCL_DSTAT_SRC g) src (modDcl g (fun d => { d with abort := false }) s)
  else
    let s := wr (F.LE_DCL_DSTAT_ACTIVE g) 1 s |> wr (F.LE_DCL_DSTAT_SRC g) src |> wr (F.LE_DCL_DSTAT_ELAPSED g) 0
    let s := modDcl g (fun d => { d with strides := 0, low := 0, abort := false }) s
    let s := if bit (rd s (F.LE_DCL_DCFG_PATH g)) 0 then wr (F.LE_DCL_DSTAT_RES g) 1 s else s
    each (fun a s => if axActive s a then axisReact true a (axRank 8) none 8 F.SAF_AX_FLT_BLOCK s else s) (dclAxes s g) s

/-- Every safe brake output de-energised at once (R207, R373). -/
def brakesOff (s : State) : State :=
  upto (fun n s => wr (F.SAF_SB_STAT_CMDH n) 0 s |> wr (F.SAF_SB_STAT_CMDL n) 0 |> wr (F.SAF_SB_STAT_RELEASED n) 0
    |> wr (F.SAF_SB_STAT_TESTING n) 0) 8 s

/-- The timebase of a device without a SYNC behind it: 16,000 cycles, count 0 at its first mark, never aligned (R37). -/
def plainTimebase (s : State) : State :=
  wr F.STR_PERIOD_PERIOD 16000 (modDev (fun d => { d with started := true, running := false, plain := true, count := 0, phase := 0 }) s)

/-- The device state changed, with its mirrors (R34). -/
def setSt (st : DState) (s : State) : State := modDev (fun d => { d with st := st }) s

/-- A counter of the state record raised by one (Table 14.2). -/
def bumpCounter (i : Nat) (s : State) : State :=
  s.setPwr { s.pwr with counters := s.pwr.counters.set i (satAdd 0xFFFFFFFF (s.pwr.counters.getD i 0) 1) }
/-- A state record asked for behind those waiting (R379). -/
def recAsk (cause : Nat) (s : State) : State := s.setPwr { s.pwr with recs := s.pwr.recs ++ [cause] }

/-- The discharges that a class DV reaction triggers, in whatever state it comes (R193, Table 7.4). -/
def dvDischarge (s : State) : State :=
  upto (fun g s => if isSet s (F.LE_DCL_DCFG_EN g) ∧ isSet s (F.LE_DCL_DCFG_TRGDV g) then dischTrigger g 4 s else s) 4 s
/-- A class DV reaction with its fault code (R207): in ARMED and SERVICE the enables fall, short circuits by the table, brakes off,
discharges, RECOVERY at the next mark, `pick` giving each axis's variant; in LOAD, IDENTIFY and SYNC, RECOVERY at once; in SELFTEST held in reset. A device already in RECOVERY,
or in SAVE on its way to PARKED with every output off, latches it and begins the discharges (Table 7.4). -/
def deviceReact (pick : State → Nat → Nat) (code : Nat) (s : State) : State :=
  let s := modDev (fun d => { d with dvNow := true }) s
  let latch := fun (s : State) =>
    faultN (if isSet s F.SAF_STAT_DVLAT then s else wr F.SAF_STAT_DVLAT 1 (wr F.SAF_STAT_DVCODE code s))
  match s.dev.st with
  | .selftest => modDev (fun d => { d with testHold := true }) (wr F.PWR_STFAILREC_ITEM 6 (wr F.PWR_STFAILREC_MEM 31 s))
  | .load | .identify =>
    recAsk 5 (setSt .recovery (plainTimebase (dvDischarge (brakesOff (wr F.SAF_TEAMEN_EN 0 (wr F.SAF_TEAMEN_RB 0 (latch (bumpCounter 2 s))))))))
  | .sync => recAsk 5 (setSt .recovery (dvDischarge (brakesOff (wr F.SAF_TEAMEN_EN 0 (wr F.SAF_TEAMEN_RB 0 (latch (bumpCounter 2 s)))))))
  | .armed | .service =>
    let s := bumpCounter 2 s
    let s := brakesOff (wr F.SAF_TEAMEN_EN 0 (wr F.SAF_TEAMEN_RB 0 (latch s)))
    let s := each (fun a s => axisReact true a 0 (some (pick s a)) 7 F.SAF_AX_FLT_DEVICE s) (axesUsed s) s
    modDev (fun d => { d with recPend := true }) (dvDischarge s)
  | .recovery | .save => dvDischarge (latch (bumpCounter 2 s))
  | _ => s
/-- A class DV fault: logged, then its reaction. -/
def dvFault (code src data : Nat) (s : State) : State := deviceReact tableVar code (logFault code src 4 data s)
/-- A class TM fault of a team: logged, then its reaction. -/
def tmFault (code src data t : Nat) (s : State) : State := teamReact code t (logFault code src 3 data s)
/-- A fault of class AX on the axes given, whatever their number: logged once, then the reactions. -/
def axFaultAll (now : Bool) (code src data scause : Nat) (as : List Nat) (s : State) : State :=
  each (fun a => blockReact now a scause) as (logFault code src 2 data s)
/-- A fault of class AX on the axes given, of class W with none (R68, R77, R81): logged once, then the reactions. -/
def axFault (now : Bool) (code src data scause : Nat) (as : List Nat) (s : State) : State :=
  let s := logFault code src (if as.isEmpty then 1 else 2) data s
  each (fun a => blockReact now a scause) as s

/-- The outcome of a command whose condition does not hold: the state as it is (assumption 2). -/
def unmet (s : State) : Host.Outcome State Fault Refusal := .next s

end Sys2Proof.Machine
end

