-- ==== Sys2Proof/Machine/Flags.lean ====
section
/-! DEFINITION. Latches and flag computations shared by the families: the leg-fault latch with its side, counted checks, and the
classes 0 = W, 1 = AX, 2 = TM, 3 = DV of a configured reaction. -/
namespace Sys2Proof.Machine
open Sys2Proof

/-- The position of a stride phase in its carrier period, counted from the peak before it (R43: peaks at odd multiples of H). -/
def carPos (s : State) (t ph : Nat) : Nat := let h := halfCar s t; (16 * ph + h) % (2 * h)

/-- The modulator's commands (hi, lo) of a leg at a position of the carrier period, after the interlock (R153, R158). -/
def cmdAt (l : Leg) (p : Int) : Bool × Bool :=
  if l.preOn then (false, true) else if l.hiz then (false, false) else
  match (l.edges.filter fun e => decide (e.1 ≤ p)).getLast? with
  | some (_, 1) => (false, true)
  | some (_, 3) => (true, false)
  | some _ => (false, false)
  | none => match l.lastHi with
    | some h => (h, !h)
    | none => (false, false)
/-- The gate output cell of leg n (R147): the pins (GHI, GLO) for the modulator's commands. -/
def gateCell (s : State) (n : Nat) (cmd : Bool × Bool) : Bool × Bool :=
  let t := n / 12
  let l := s.leg n
  match legAxis s n with
  | none => (false, false)
  | some a =>
    if isSet s (F.MOD_TEAM_STAT_GSUV t) then (false, false)
    else if (s.ax a).asc = 1 then (false, !l.ascMaskL)
    else if (s.ax a).asc = 2 then (!l.ascMaskH, false)
    else if rdBit s F.SAF_TEAMEN_EN t && !l.blk && !isSet s (F.MOD_LEG_FLT_FAULTED n) then cmd
    else (false, false)
/-- The pins of leg n at a stride phase. -/
def gatePins (s : State) (n ph : Nat) : Bool × Bool := gateCell s n (cmdAt (s.leg n) (carPos s (n / 12) ph))

/-- The SIDE of R159: HIGH if GHI was on when the raw assertion began, LOW if GLO was, otherwise the side that was on last, BOTH if
neither has been on since PRECHARGE. -/
def faultSide (s : State) (n ph : Nat) : Nat :=
  match gatePins s n ph with
  | (true, _) => 1
  | (false, true) => 2
  | (false, false) =>
    match sideAt (s.leg n) (carPos s (n / 12) ph) with
    | some true => 1
    | some false => 2
    | none => 3

/-- A leg latched faulted with a cause: FAULTED and SIDE from the first latch (R159). The axis's reaction is decided at the next
mark (R161); an axis that is not active has its fault flagged and keeps its reaction (R162, R180). -/
def latchLeg (n : Nat) (cause : Nat → Fld) (side : Nat) (s : State) : State :=
  let s := if isSet s (F.MOD_LEG_FLT_FAULTED n) then s else wr (F.MOD_LEG_FLT_SIDE n) side
    (modLeg n (fun l => { l with edges := [], lastHi := if side = 3 then l.lastHi else some (side = 1) }) s)
  let s := wr (F.MOD_LEG_FLT_FAULTED n) 1 (wr (cause n) 1 s)
  match legAxis s n with
  | none => s
  | some a =>
    if axActive s a then modAx a (fun x => { x with legNew := true }) s else flagReact a F.SAF_AX_FLT_BLOCK s

/-- A reaction of a configured class: 0 = W, 1 = AX on the axes given, 2 = TM on the teams given, 3 = DV; logged once with the class
applied. `falls` tells whether it falls to W without an axis (R77). -/
def configReact (falls : Bool) (react code src data scause : Nat) (as ts : List Nat) (s : State) : State :=
  if falls && as.isEmpty then logFault code src 1 data s else
  match react with
  | 0 => logFault code src 1 data s
  | 1 => axFaultAll false code src data scause as s
  | 2 => if ts.isEmpty then logFault code src 1 data s
         else each (fun t => teamReact code t) ts (logFault code src 3 data s)
  | _ => dvFault code src data s

/-- Keeps each number of a list once. -/
def nub : List Nat → List Nat
  | [] => []
  | x :: xs => let r := nub xs; if r.contains x then r else x :: r

/-- True in the states in which the stride, the sense and the position block run under a valid image (Table 1.7: ARMED on). -/
def armedOn (s : State) : Bool :=
  !s.dev.plain && s.bst.dbg.pins != .scan && (s.dev.st == .armed || s.dev.st == .service || s.dev.st == .recovery)

end Sys2Proof.Machine
end

