-- ==== Sys2Proof/Machine/Frames.lean ====
section
/-! DEFINITION. Cisterns and the frames put into them (R287, R309 to R316). -/
namespace Sys2Proof.Machine
open Sys2Proof

/-- Cistern n. -/
def State.cis (s : State) (n : Nat) : Cis := tget (fun _ => {}) s.net.cis n
/-- The record of hop h. -/
def State.hop (s : State) (h : Nat) : HopSt := tget (fun _ => {}) s.net.hops h
/-- The state with hop h changed. -/
def modHop (h : Nat) (f : HopSt → HopSt) (s : State) : State :=
  s.setNet { s.net with hops := tset (fun _ => {}) s.net.hops h (f (s.hop h)) }
/-- True of the cisterns of the Ethernet outputs. -/
def cisEth (n : Nat) : Bool := 14 ≤ n
/-- The bytes of a packet in its cistern: the header of a ring frame, whose SEQ, CREDIT and HCRC the transmitter fills in, and the payload; no
CRC is stored (R287, R310). -/
def Pkt.stored (eth : Bool) (p : Pkt) : List Byte :=
  if eth then p.body
  else
    leBytes 4 (p.dest % 64 + 64 * (p.src % 64) + 4096 * (p.cls % 8) + 32768 * (p.flags % 32) + 1048576 * (p.body.length % 4096)) ++ [0, 0] ++
      leBytes 2 p.stamp ++ leBytes 2 p.stream ++ [0, 0, 0, 0, 0, 0] ++ p.body
/-- The n read words of bytes: 128 bits, the last one padded with zeros, each with its side tag, EOP in bit 4 and the count of valid bytes
less 1 in bits 3 to 0 (R310). -/
def packWords : Nat → List Byte → List (BitVec 128 × BitVec 5)
  | 0, _ => []
  | n + 1, bs =>
    (BitVec.ofNat 128 (leNat (bs.take 16)), BitVec.ofNat 5 ((if n = 0 then 16 else 0) + ((bs.take 16).length - 1))) :: packWords n (bs.drop 16)
/-- The read words of a packet. -/
def Pkt.words (eth : Bool) (p : Pkt) : List (BitVec 128 × BitVec 5) := let b := p.stored eth; packWords ((b.length + 15) / 16) b
/-- The bytes that read words carry. -/
def wordBytes16 (ws : List (BitVec 128 × BitVec 5)) : List Byte := ws.flatMap fun (w : BitVec 128 × BitVec 5) => leBytes (w.2.toNat % 16 + 1) w.1.toNat
/-- The bytes that a packet takes in its cistern: whole words, the last one padded (R310). -/
def Pkt.room (eth : Bool) (p : Pkt) : Nat := ((if eth then 0 else 16) + p.body.length + 15) / 16 * 16
/-- The mark moves to the oldest frame still unreleased, and the space before it is freed (R312). -/
def Cis.settle (c : Cis) : Cis := { c with pkts := c.pkts.dropWhile (·.freed) }
/-- The bytes from the mark to the committed pointer. -/
def Cis.count (eth : Bool) (c : Cis) : Nat := each (fun p acc => acc + p.room eth) c.pkts 0
/-- The size of cistern n in bytes (Table 11.9). -/
def cisSize (s : State) (n : Nat) : Nat := 1024 * rd s (F.CIS_CFG_SIZE n)
/-- The state with cistern n changed, its mark moved, and its count shown (R312, R316). -/
def modCis (n : Nat) (f : Cis → Cis) (s : State) : State :=
  let c := (f (s.cis n)).settle
  wr (F.CIS_CNT_COUNT n) (c.count (cisEth n)) (s.setNet { s.net with cis := tset (fun _ => {}) s.net.cis n c })
/-- A packet dropped for want of room (R314). -/
def cisDrop (n : Nat) (s : State) : State :=
  let s := bumpWrap (F.CIS_DROP_DROP n) (wr (F.CIS_STAT_GAPPEND n) 1 s)
  logRated 0x0A02 n 0 (rd s (F.CIS_DROP_DROP n)) s
/-- A packet finds its room in cistern n. -/
def cisFits (s : State) (n : Nat) (p : Pkt) : Bool := (s.cis n).count (cisEth n) + p.room (cisEth n) ≤ cisSize s n
/-- A packet written whole and closed on cistern n: dropped without room, and carrying GAP after a drop (R311, R314). The second part tells
whether it was taken. -/
def cisPut (n : Nat) (p : Pkt) (s : State) : State × Bool :=
  if cisFits s n p then
    let gap := isSet s (F.CIS_STAT_GAPPEND n)
    let p := if gap ∧ p.flags / 4 % 2 = 0 then { p with flags := p.flags + 4 } else p
    (modCis n (fun c => { c with pkts := c.pkts ++ [p] }) (wr (F.CIS_STAT_GAPPEND n) 0 s), true)
  else (cisDrop n s, false)

/-- The device number in use (R301): the image's, or without an image the enumerated position. -/
def State.devNum (s : State) : Nat :=
  if isSet s F.CFG_STAT_LOADED then rd s F.RNG_CFG_DEVNUM
  else if isSet s F.RNG_ENUM_VALIDA then rd s F.RNG_ENUM_POSA
  else if isSet s F.RNG_ENUM_VALIDB then rd s F.RNG_ENUM_POSB else 0
/-- The ring ports run in their ROM default configuration: no image, on the timebase of R37 that is never aligned (R34, R301). -/
def romRing (s : State) : Bool :=
  s.dev.plain && !isSet s F.CFG_STAT_LOADED && (s.dev.st == .armed || s.dev.st == .recovery)
/-- The device is a member of a string: the image says so, or without an image the ring ports forward (R301; assumption 94). -/
def ringOn (s : State) : Bool := isSet s F.STR_SYNCCFG_RINGEN || romRing s
/-- The ports are powered and frames may be sent: not in reset, SAVE, PARKED or SLEEP (R286, R301, R373). -/
def portsOn (s : State) : Bool :=
  !held s &&
  (match s.dev.st with
    | .load | .identify | .sync | .armed | .service | .recovery => true
    | _ => false)

/-- CRC-16 of R287 over bytes, first byte first, most significant bit first. -/
def crc16 (bs : List Byte) : Nat := crcFwd 16 0x1021 (bs.flatMap fun b => msbBits b.toNat 8) 0xFFFF
/-- The bytes of a ring frame: header, payload, CRC-32 (R287, Table 11.2). -/
def frameBytes (p : Pkt) (flags seq credit : Nat) : List Byte :=
  let w := p.dest % 64 + 64 * (p.src % 64) + 4096 * (p.cls % 8) + 32768 * (flags % 32) + 1048576 * (p.body.length % 4096)
  let h := leBytes 4 w ++ leBytes 2 seq ++ leBytes 2 p.stamp ++ leBytes 2 p.stream ++ leBytes 2 credit ++ [0, 0]
  let b := h ++ leBytes 2 (crc16 h) ++ p.body
  b ++ leBytes 4 (crc32 b)
/-- The output cistern of a class on a ring: 0 is ring A (RAO), 1 is ring B (RBO) (Table 11.9). -/
def ringCis (ring cls : Nat) : Nat :=
  7 * ring + (match cls with
    | 0 | 1 => 0
    | 2 => 1
    | 3 => 3
    | _ => 4)
/-- A frame of the device's own put into the cistern of its class on a ring. The second part tells whether it was taken. -/
def ringPut (ring cls dest stream flags : Nat) (payload : List Byte) (s : State) : State × Bool :=
  if ringOn s ∧ portsOn s then
    cisPut (ringCis ring cls)
      { dest := dest, src := s.devNum, cls := cls, flags := flags, stamp := s.dev.count.toNat % 65536, stream := stream, body := payload } s
  else (s, false)
/-- A frame for the neighbour or for every device: class 1 goes to the neighbour on the ring's output side, the rest is broadcast. -/
def ringSend (ring cls stream : Nat) (payload : List Byte) (s : State) : State :=
  let dest := if cls = 1 then rd s (F.RNG_HOP_STAT_NEIGH (1 - ring)) else 0x3F
  (ringPut ring cls dest stream 0 payload s).1

/-! ### Rewinding (R292, R312) -/

/-- A sequence lies at or before another. -/
def seqLe (a b : Nat) : Bool := (b + 65536 - a) % 65536 < 32768
/-- Every ring cistern's packets changed. -/
def modPkts (f : Nat → List Pkt → List Pkt) (s : State) : State :=
  upto (fun n s => let l := f n (s.cis n).pkts; if l = (s.cis n).pkts then s else modCis n (fun c => { c with pkts := l }) s) 14 s
/-- A control block sent on hop h (R284); the latest sixteen are held. -/
def sendCtl (h : Nat) (ty : Byte) (content : Nat) (s : State) : State :=
  modHop h (fun x => let l := x.ctl ++ [(ty, BitVec.ofNat 56 content)]; { x with ctl := l.drop (l.length - 16) }) s
/-- The number that the next frame sent on hop h carries: the nearest at or behind the next sequence that waits to be sent again, or with none
waiting the next sequence itself. -/
def nextSeq (s : State) (h : Nat) : Nat :=
  let t := (s.hop h).txSeq
  let ds := (List.range 14).flatMap fun n => (s.cis n).pkts.filterMap fun p => match p.again with
    | some (k, q) => if k = h then some ((q % 65536 + 65536 - t % 65536) % 65536) else none
    | none => none
  match ds.min? with
  | some d => if d = 0 then t else (t + d) % 65536
  | none => t
/-- The link goes on with the next number there is, which RESYNC names (R313, R315; assumption 141). -/
def resync (h : Nat) (s : State) : State :=
  let q := nextSeq s h
  sendCtl h 0x55 q (modHop h (fun x => { x with txSeq := q }) s)
/-- The same where the next sequence is a number that no frame carries any more. -/
def seqSettle (h : Nat) (s : State) : State := if nextSeq s h = (s.hop h).txSeq then s else resync h s
/-- The frames sent on hop h from a sequence on are sent again, with the same numbers and RETX (R292, R312). -/
def rewindFrom (h seq : Nat) (s : State) : State :=
  let hit := fun (p : Pkt) => match p.sent with
    | some (k, q) => k == h && seqLe seq q
    | none => false
  let s := upto (fun n s => if (s.cis n).pkts.any hit then bumpSat (F.CIS_STAT_REWINDS n) s else s) 14 s
  let s := modPkts (fun _ l => l.map fun p => if hit p then { p with again := p.sent, sent := none, retx := true } else p) s
  seqSettle h (modHop h (fun x => { x with txSeq := seq }) s)
/-- The unreleased frames of a cistern are sent again from its mark, with what was sent behind them on that hop (Table 1.5, R292, R312). -/
def cisRewind (n : Nat) (s : State) : State :=
  match (s.cis n).pkts.findSome? (·.sent) with
  | some (h, q) => rewindFrom h q s
  | none => s

end Sys2Proof.Machine
end

