-- ==== Sys2Proof/Machine/Sense.lean ====
section
/-! DEFINITION. The sense channels (Sense Channels, R59 to R82): filters, correction, fast trips, plausibility checks, offset trim. -/
namespace Sys2Proof.Machine
open Sys2Proof

/-- The main OSR M of channel n (R65). -/
def osrM (s : State) (n : Nat) : Nat := 8 * rd s (F.SNS_CH_CFG_MOSR n)
/-- The divider k of the clock that serves channel n (R7, R59, R60). -/
def chanDiv (s : State) (n : Nat) : Nat := rd s (F.SNS_MCLK_CFG_DIV (n / 8))
/-- The sinc3 weight h(i) of R65. -/
def sinc3 (m i : Nat) : Nat :=
  if i < m then (i + 1) * (i + 2) / 2
  else if i < 2 * m then ((i + 1) * (i + 2) - 3 * ((i - m + 1) * (i - m + 2))) / 2
  else (3 * m - 2 - i) * (3 * m - 1 - i) / 2
/-- The sinc2 weight h2(i) of R71. -/
def sinc2 (m i : Nat) : Nat := if i < m then i + 1 else 2 * m - 1 - i
/-- The weighted sum of bits, +1 for a one and −1 for a zero, from index i on. -/
def wsum (h : Nat → Nat) : Nat → List Bool → Int
  | _, [] => 0
  | i, b :: bs => (if b then (h i : Int) else -(h i : Int)) + wsum h (i + 1) bs
/-- The numerator of r over M³: weight h(i) on the (i + 2)-th bit of the window (R65, R66). -/
def sincSum (m : Nat) (bits : List Bool) : Int := wsum (sinc3 m) 0 ((bits.drop 1).take (3 * m - 2))
/-- RAW: r × 2^17 rounded, ties away from zero, and saturated to 18 bits (R68). -/
def rawOf (m : Nat) (bits : List Bool) : Int := sat 18 (Flt.roundAway (sincSum m bits * 131072) (m * m * m))
/-- (RAW − O) × G rounded, G in Q3.21, before saturation (R68). -/
def corrOf (raw o : Int) (g : Nat) : Int := Flt.roundAway ((raw - o) * g) 2097152
/-- O of channel n: OFS_ID + TRIM (R68). -/
def offOf (s : State) (n : Nat) : Int := rdI s (F.SNS_CH_OFS_OFS_ID n) + rdI s (F.SNS_CH_TRIM_TRIM n)

/-- The quotient of two finite binary32 numbers as an exact fraction with a positive denominator. -/
def ratioOf (x y : F32) : Int × Nat :=
  let d := Flt.ex x - Flt.ex y
  let n := if Flt.mant y < 0 then -(Flt.mant x) else Flt.mant x
  let m := (Flt.mant y).natAbs
  if d ≥ 0 then (n * 2 ^ d.toNat, m) else (n, m * 2 ^ (-d).toNat)
/-- A fast threshold in Q1.15: round((O / 2^17 + T / FS) × 2^15), saturated (R72). -/
def fthOf (o : Int) (thr fs : F32) : Int :=
  if Flt.isInf thr then (if Flt.sign thr then -32768 else 32767)
  else let q := ratioOf thr fs; sat 16 (Flt.roundAway (o * q.2 + 131072 * q.1) (4 * q.2))
/-- The fast thresholds in force after a change of O or G (R72); free where FS is 0 or not finite, for which the formula has no value
(assumption 130). -/
def setThr (n : Nat) (s : State) : State :=
  let fs := rdW s (F.SNS_CH_FS_FS n)
  if Flt.isZero fs ∨ ¬ Flt.finite fs then
    let (v, s) := draw 32 s
    s.setReg (A.SNS_CH_FTHR n) v
  else
  wrI (F.SNS_CH_FTHR_FTH_HI n) (fthOf (offOf s n) (rdW s (F.SNS_CH_FTHPH_FTHPH n)) fs)
    (wrI (F.SNS_CH_FTHR_FTH_LO n) (fthOf (offOf s n) (rdW s (F.SNS_CH_FTHPL_FTHPL n)) fs) s)
/-- O and G of the second correction unit taken from the first (R78). -/
def setDup (n : Nat) (s : State) : State :=
  let o := offOf s n
  let g := rd s (F.SNS_CH_GAIN_G n)
  modChan n (fun c => { c with dupOfs := o, dupGain := g }) s
/-- The calibration of channel n taken from its source: FS, OFS_ID, G, thresholds; outside 0.25 ≤ G < 4 the channel is
uncalibrated, with 0x020A of class AX (R69, R80). G is rounded to nearest, ties away from zero (assumption 107); a G out of range
leaves SNS_CHn_GAIN as it is (assumption 108), while FS, OFS_ID and what follows from them are set. The data of 0x020A is free where G has no
Q3.21 (assumption 130). -/
def applyCal (n : Nat) (fs : F32) (ofs : Int) (s : State) : State :=
  let s := wrW (F.SNS_CH_FS_FS n) fs (wrI (F.SNS_CH_OFS_OFS_ID n) ofs s)
  let q := ratioOf fs (rdW s (F.SNS_CH_LSB_LSB n))
  let ok := Flt.finite fs && !Flt.isZero (rdW s (F.SNS_CH_LSB_LSB n)) &&
    decide (q.1 * 4 ≥ q.2 * 131072 ∧ q.1 < 4 * q.2 * 131072)
  let g := Flt.roundAway (q.1 * 16) q.2
  let s := setDup n (setThr n (if ok then wrI (F.SNS_CH_GAIN_G n) g s else s))
  if ok then s
  else
    let as := chanAxes s n
    let fits := Flt.finite fs && !Flt.isZero (rdW s (F.SNS_CH_LSB_LSB n)) && decide (0 ≤ g ∧ g < 2 ^ 24)
    let (v, s) := draw 32 s
    let s := logFault 0x020A n 2 (if fits then g.toNat else v.toNat) s
    let s := modChan n (fun c => { c with uncal := true }) s
    each (fun a s => setLock a 2 (flagAx a F.SAF_AX_FLT_BLOCK s)) as s

/-- The run of invalid results of channel n (R68): at the second in a row the fault and the axis reactions, once a run. -/
def countInvalid (n : Nat) (valid : Bool) (s : State) : State :=
  if valid ∨ (s.chan n).uncal ∨ ¬ armedOn s then modChan n (fun c => { c with invRun := 0 }) s
  else
    let r := (s.chan n).invRun + 1
    let s := modChan n (fun c => { c with invRun := r }) s
    if r = 2 then axFault true 0x020B n (s.dev.count.toNat % 65536) 6 (chanAxes s n) s else s

/-- A window of channel n that ends now can hold the period broken by the last step of the timebase: the whole strides since then are shorter
than the window's 3M periods, one of them stretched, and the 32 cycles of the result (R62, R66; assumption 98). -/
def stepRecent (s : State) (n : Nat) : Bool :=
  match s.dev.stepped with
  | none => false
  | some m => decide ((m - 1) * s.per < (3 * osrM s n + 1) * chanDiv s n + 32)
/-- A main-filter result written to both result registers, with its checks (R62, R68, R78, R81). A window can hold a stepped period only
while a step is recent. The data of 0x0209 is the second value less the first, signed (assumption 109). -/
def deliver (n : Nat) (w : Window) (dupFlip : BitVec 18) (s : State) : State :=
  let m := osrM s n
  let raw := rawOf m w.bits
  let c := s.chan n
  let v := corrOf raw (offOf s n) (rd s (F.SNS_CH_GAIN_G n))
  let val := sat 18 v
  let ovr := (sincSum m w.bits).natAbs * 65536 > rd s (F.SNS_CH_LIM_OVRLIM n) * (m * m * m) || val != v
  let stepped := w.stepped && stepRecent s n
  let valid := w.whole && !isSet s (F.SNS_CH_STAT_STUCK n) && !c.uncal && !stepped
  let dv := sext 18 (BitVec.toNat (BitVec.ofInt 18 (sat 18 (corrOf raw c.dupOfs c.dupGain)) ^^^ dupFlip))
  let stamp := s.dev.count.toNat % 256
  let s := wrI (F.SNS_CH_RAW_RAW n) raw s |> wrI (F.SNS_CH_RES_VALUE n) val |> wrB (F.SNS_CH_RES_VALID n) valid
    |> wrB (F.SNS_CH_RES_OVR n) ovr |> wrB (F.SNS_CH_RES_STEP n) stepped |> wr (F.SNS_CH_RES_STAMP n) stamp
  let s := modChan n (fun c => { c with
    lastValid := if valid then val else c.lastValid, dupValue := dv, dupValid := valid, dupOvr := ovr,
    dupStamp := BitVec.ofNat 8 stamp, dupLast := if valid then dv else c.dupLast }) s
  let s := if ovr && !isSet s (F.SNS_CH_STAT_OVR n) then
    wr (F.SNS_CH_STAT_OVR n) 1 (logFault 0x0207 n 1 (trunc 32 raw) s) else s
  let s := countInvalid n valid s
  if dv ≠ val ∧ ¬ isSet s (F.SNS_CH_STAT_DUPFLT n) then
    tmFault 0x0209 n (trunc 32 (dv - val)) (n / 24) (wr (F.SNS_CH_STAT_DUPFLT n) 1 s)
  else s

/-- The channels in use. -/
def usedChans (s : State) : List Nat := (List.range (24 * s.nTeams)).filter fun n => rd s (F.SNS_CH_CFG_ROLE n) != 0
/-- The channels of a role and an object. -/
def roleChans (s : State) (r o : Nat) : List Nat :=
  (usedChans s).filter fun n => rd s (F.SNS_CH_CFG_ROLE n) == r && rd s (F.SNS_CH_CFG_OBJ n) == o
/-- The phase-current channel of a leg: its ROLE 1 channel that is not the secondary of a pair (R117). -/
def curChan (s : State) (leg : Nat) : Option Nat :=
  ((List.range 24).map (24 * (leg / 12) + ·)).find? fun n =>
    rd s (F.SNS_CH_CFG_ROLE n) == 1 && rd s (F.SNS_CH_CFG_OBJ n) == leg &&
    !isSecondary s n
/-- The leg-voltage channel of a leg: its lowest ROLE 2 channel. -/
def voltChan (s : State) (leg : Nat) : Option Nat :=
  ((List.range 24).map (24 * (leg / 12) + ·)).find? fun n =>
    rd s (F.SNS_CH_CFG_ROLE n) == 2 && rd s (F.SNS_CH_CFG_OBJ n) == leg &&
    !isSecondary s n
/-- The DC-link voltage channel a team's loop engine uses for a group: the lowest-numbered of its own that is not the secondary
of a pair (R64, R76). -/
def vdcChan (s : State) (t g : Nat) : Option Nat :=
  ((List.range 24).map (24 * t + ·)).find? fun n => rd s (F.SNS_CH_CFG_ROLE n) == 3 && rd s (F.SNS_CH_CFG_OBJ n) == g &&
    !isSecondary s n
/-- The value a consumer uses: the present VALUE, or with VALID clear the last valid one (R68). -/
def useVal (s : State) (n : Nat) : Int :=
  if isSet s (F.SNS_CH_RES_VALID n) then rdI s (F.SNS_CH_RES_VALUE n) else (s.chan n).lastValid
/-- The channels whose VALUEs an up frame carries, in the order of R139: six ROLE 1, six ROLE 2, one DC-link. -/
def upChans (s : State) (a : Nat) : List (Option Nat) :=
  (axLegs s a).map (curChan s) ++ (axLegs s a).map (voltChan s) ++ [vdcChan s (a / 4) (rd s (F.LE_AX_CFG_DCL a))]
/-- The payload of the up frame of a spanned partner (R139). -/
def upPayload (s : State) (a : Nat) : List Byte :=
  let cs := upChans s a
  let vals := cs.map fun c => match c with
    | some n => trunc 32 (rdI s (F.SNS_CH_RES_VALUE n))
    | none => 0
  let ok := cs.map fun c => match c with
    | some n => isSet s (F.SNS_CH_RES_VALID n)
    | none => false
  let legs := axLegs s a
  let w0 := maskOf ((List.range 13).filter fun i => ok.getD i false)
  let w1 := maskOf ((List.range 6).filter fun i => match legs[i]? with
    | some n => isSet s (F.MOD_LEG_FLT_FAULTED n)
    | none => false)
  let w2 := ((List.range 6).map fun i => match legs[i]? with
    | some n => if isSet s (F.MOD_LEG_FLT_FAULTED n) then rd s (F.MOD_LEG_FLT_SIDE n) * 4 ^ i else 0
    | none => 0).sum
  vals.flatMap (leBytes 4) ++ leBytes 4 (w0 + w1 * 2 ^ 13 + w2 * 2 ^ 19 + b2n (s.ax a).span.safe * 2 ^ 31)
/-- The up frames of the team's spanned partners whose last result of the stride this is (R139): every channel of the frame carries
the present stride's stamp. -/
def sendUp (n : Nat) (s : State) : State :=
  each (fun a s =>
    let cs := (upChans s a).filterMap id
    if axType s a = 7 ∧ cs.contains n ∧ cs.all (fun c => rd s (F.SNS_CH_RES_STAMP c) == s.dev.count.toNat % 256) then
      ringSend 1 1 a (upPayload s a) s
    else s) (teamAxes s (n / 24)) s

/-- SENSE_RESULT (R66): the result of a stride is corrected, checked and delivered. -/
def execSenseResult (n : ChanNo) (w : Window) (dupFlip : BitVec 18) (s : State) : Host.Outcome State Fault Refusal :=
  let r := rd s (F.SNS_CH_CFG_ROLE n)
  if r ≠ 0 ∧ r ≠ 5 ∧ r ≠ 6 ∧ s.dev.mclk ∧ n.val < 24 * s.nTeams then done (sendUp n (deliver n w dupFlip s)) else unmet s

/-- The age at its delivery of the instant a resolver result represents: 1.5Mk + 32 cycles (R91). -/
def resultAge (s : State) (n : Nat) : Nat := 3 * osrM s n * chanDiv s n / 2 + 32
/-- The time from entry into ARMED, with which the excitation and the observer grid start, to phase `exPh` of a period of the excitation, in
SCLK cycles (R90, R94): the period is the one nearest to the last observer update, in no half period that has been judged (assumption
163). -/
def excTime (s : State) (i exPh : Nat) : Nat :=
  let half := 32 * rd s (F.POS_IF_RES0_EXCDIV i)
  let x := s.ifc i
  exPh + 2 * half * max ((800 * x.us + half - exPh) / (2 * half)) ((x.halves * half + 2 * half - 1 - exPh) / (2 * half))
/-- The instant that a resolver result delivered at phase `exPh` represents, in SCLK cycles from entry into ARMED (R91). -/
def resultPhase (s : State) (n i exPh : Nat) : Nat := excTime s i exPh - resultAge s n
/-- The instant that a result delivered at phase `exPh` represents lies before the excitation, and the first half period, began (R90, R91). -/
def resultEarly (s : State) (n i exPh : Nat) : Bool :=
  decide (excTime s i exPh < resultAge s n)
/-- RESOLVER_RESULT (R67, R91): a free-running result goes to the position block with the instant it represents; with VALID clear the last valid
result stands for it, as R68 has it for a loop engine (assumption 110). A result for an instant before the first half period is in none. -/
def execResolverResult (n : ChanNo) (w : DupWindow) (exPh : Nat) (s : State) : Host.Outcome State Fault Refusal :=
  let r := rd s (F.SNS_CH_CFG_ROLE n)
  if (r = 5 ∨ r = 6) ∧ s.dev.mclk ∧ n.val < 24 * s.nTeams then
    let s := deliver n w.win w.dupFlip s
    let v := useVal s n
    let i := rd s (F.SNS_CH_CFG_OBJ n)
    let ph := resultPhase s n i exPh
    if resultEarly s n i exPh then done s else
    done (modIfc i (fun x => if r = 5 then { x with sinRes := x.sinRes ++ [(v, ph)] } else { x with cosRes := x.cosRes ++ [(v, ph)] }) s)
  else unmet s

/-- The legs a fast trip of channel n forces to Hi-Z (R73); with FTGT 2 on a leg of no axis that leg alone (assumption 166). -/
def tripLegs (s : State) (n : Nat) : List Nat :=
  let obj := rd s (F.SNS_CH_CFG_OBJ n)
  match rd s (F.SNS_CH_CFG_FTGT n) with
  | 0 => []
  | 1 => [obj]
  | 2 => match legAxis s obj with
    | some a => axLegs s a
    | none => [obj]
  | _ => (dclAxes s obj).flatMap (axLegs s)
/-- The fast output times M_f² (R71). -/
def fastSum (mf : Nat) (bits : List Bool) : Int := wsum (sinc2 mf) 0 (bits.take (2 * mf - 1))
/-- FAST_TRIP (R73): the qualified fast output lies beyond a threshold; the target legs are latched faulted with cause FAST. -/
def execFastTrip (n : ChanNo) (bits : List Bool) (ph : Nat) (s : State) : Host.Outcome State Fault Refusal :=
  let r := rd s (F.SNS_CH_CFG_ROLE n)
  let mf := 8 * (rd s (F.SNS_CH_CFG_FOSR n) + 1)
  let out := fastSum mf bits * 32768
  let hi := out > rdI s (F.SNS_CH_FTHR_FTH_HI n) * (mf * mf : Nat)
  let lo := out < rdI s (F.SNS_CH_FTHR_FTH_LO n) * (mf * mf : Nat)
  if (r = 1 ∨ r = 4) ∧ armedOn s ∧ ¬ (s.chan n).uncal ∧ n.val < 24 * s.nTeams ∧ (hi ∨ lo) then
    let legs := tripLegs s n
    let s := logFault 0x0201 n 2 (if hi then 1 else 2) s
    let s := bumpSat (F.SNS_CH_STAT_FTRIPCNT n) (wr (if hi then F.SNS_CH_STAT_FTRIP_HI n else F.SNS_CH_STAT_FTRIP_LO n) 1 s)
    done (each (fun l s => latchLeg l F.MOD_LEG_FLT_FAST (faultSide s l ph) s) legs s)
  else unmet s

/-- STREAM_STUCK (R81): one value for 256 modulator periods. -/
def execStreamStuck (n : ChanNo) (level : Bool) (s : State) : Host.Outcome State Fault Refusal :=
  if rd s (F.SNS_CH_CFG_ROLE n) ≠ 0 ∧ s.dev.mclk ∧ n.val < 24 * s.nTeams ∧ ¬ isSet s (F.SNS_CH_STAT_STUCK n) then
    done (axFault false 0x0208 n (b2n level) 6 (chanAxes s n) (wr (F.SNS_CH_STAT_STUCK n) 1 s))
  else unmet s

/-- The Kirchhoff check of set k (R75). -/
def kirchhoff (k : Nat) (s : State) : State :=
  let cs := [rd s (F.SNS_KSET_CFG_CHA k), rd s (F.SNS_KSET_CFG_CHB k), rd s (F.SNS_KSET_CFG_CHC k)]
  let ok := cs.all fun c => isSet s (F.SNS_CH_RES_VALID c)
  let sum := (cs.map fun c => rdI s (F.SNS_CH_RES_VALUE c)).sum
  let cnt := tget (fun _ => 0) s.sense.kCnt k
  let put := fun (v : Nat) (s : State) => s.setSense { s.sense with kCnt := tset (fun _ => 0) s.sense.kCnt k v }
  if ok ∧ sum.natAbs > rd s (F.SNS_KSET_LIM_KLIM k) then
    if isSet s (F.SNS_KSET_LIM_KFLT k) then s
    else if cnt + 1 > rd s (F.SNS_KSET_CFG_KCNT k) then
      configReact false (rd s (F.SNS_KSET_CFG_KREACT k)) 0x0202 k (trunc 32 sum) 6 (nub (cs.flatMap (objAxes s))) (nub (cs.map (· / 24)))
        (put 0 (wr (F.SNS_KSET_LIM_KFLT k) 1 s))
    else put (cnt + 1) s
  else put 0 s
/-- The dual-sensor check of the pair with primary n (R76). The data of 0x0203 is the primary's value less the secondary's, signed
(assumption 111). -/
def pairCheck (n : Nat) (s : State) : State :=
  let m := rd s (F.SNS_CH_PAIR_PARTNER n)
  let d := rdI s (F.SNS_CH_RES_VALUE n) - rdI s (F.SNS_CH_RES_VALUE m)
  let cnt := (s.chan n).pairCnt
  if isSet s (F.SNS_CH_RES_VALID n) ∧ isSet s (F.SNS_CH_RES_VALID m) ∧ d.natAbs > rd s (F.SNS_CH_PAIR_DLIM n) then
    if isSet s (F.SNS_CH_STAT_PAIRFLT n) then s
    else if cnt + 1 > rd s (F.SNS_CH_PAIR_DCNT n) then
      configReact false (rd s (F.SNS_CH_PAIR_DREACT n)) 0x0203 n (trunc 32 d) 6 (nub (objAxes s n ++ objAxes s m)) [n / 24]
        (modChan n (fun c => { c with pairCnt := 0 }) (wr (F.SNS_CH_STAT_PAIRFLT n) 1 s))
    else modChan n (fun c => { c with pairCnt := cnt + 1 }) s
  else modChan n (fun c => { c with pairCnt := 0 }) s
/-- PLAUSIBILITY_CHECK (R75, R76): the Kirchhoff sets and the pairs of team t. -/
def execPlausibilityCheck (t : TeamNo) (s : State) : Host.Outcome State Fault Refusal :=
  if armedOn s ∧ t.val < s.nTeams then
    let ks := (List.range 32).filter fun k => isSet s (F.SNS_KSET_CFG_EN k) && rd s (F.SNS_KSET_CFG_CHA k) / 24 == t.val
    let ps := ((List.range 24).map (24 * t.val + ·)).filter fun n =>
      isSet s (F.SNS_CH_PAIR_PAIREN n) && isSet s (F.SNS_CH_PAIR_PRIMARY n) && rd s (F.SNS_CH_CFG_ROLE n) != 0
    done (each pairCheck ps (each kirchhoff ks s))
  else unmet s

/-- The ROLE 3 channels of group g across the device (R64, R77). -/
def dclChans (s : State) (g : Nat) : List Nat :=
  (List.range (24 * s.nTeams)).filter fun n => rd s (F.SNS_CH_CFG_ROLE n) == 3 && rd s (F.SNS_CH_CFG_OBJ n) == g
/-- The greatest of a list of integers, `d` for an empty one. -/
def maxInt (d : Int) : List Int → Int
  | [] => d
  | x :: xs => each (fun y m => if y > m then y else m) xs x
/-- The least of a list of integers. -/
def minInt (d : Int) : List Int → Int
  | [] => d
  | x :: xs => each (fun y m => if y < m then y else m) xs x
/-- The DC-link agreement check of group g at a mark (R77). -/
def dclCheck (g : Nat) (s : State) : State :=
  let cs := dclChans s g
  if ¬ isSet s (F.SNS_DCL_CFG_EN g) then s
  else if cs.all (fun c => isSet s (F.SNS_CH_RES_VALID c)) ∧ cs ≠ [] then
    let vs := cs.map fun c => rdI s (F.SNS_CH_RES_VALUE c)
    let d := maxInt 0 vs - minInt 0 vs
    let s := wr (F.SNS_DCL_STAT_SPREAD g) (if d > 65535 then 65535 else d.toNat) s
    let cnt := tget (fun _ => 0) s.sense.dclCnt g
    let put := fun (v : Nat) (s : State) => s.setSense { s.sense with dclCnt := tset (fun _ => 0) s.sense.dclCnt g v }
    if d > rd s (F.SNS_DCL_CFG_VDLIM g) then
      if isSet s (F.SNS_DCL_STAT_VDFLT g) then s
      else if cnt + 1 > rd s (F.SNS_DCL_CFG_VDCNT g) then
        let as := dclAxes s g
        configReact true (rd s (F.SNS_DCL_CFG_VDREACT g)) 0x0204 g d.toNat 6 as (nub (as.map (· / 4)))
          (put 0 (wr (F.SNS_DCL_STAT_VDFLT g) 1 s))
      else put (cnt + 1) s
    else put 0 s
  else s.setSense { s.sense with dclCnt := tset (fun _ => 0) s.sense.dclCnt g 0 }

/-- Every leg of every axis of a group is Hi-Z (the condition of R70 for a ROLE 4 channel). -/
def groupHiz (s : State) (g : Nat) : Bool :=
  (dclAxes s g).all fun a => (s.ax a).asc == 0 && (axLegs s a).all fun n =>
    let l := s.leg n
    (l.hiz || l.blk || isSet s (F.MOD_LEG_FLT_FAULTED n)) && !l.preOn
/-- The channels of the trim of axis a at its beginning: ROLE 1 of its legs, secondaries included, and ROLE 4 of its group (R70). -/
def trimChans (s : State) (a : Nat) : List Nat :=
  let legs := axLegs s a
  (List.range (24 * s.nTeams)).filter fun n =>
    (rd s (F.SNS_CH_CFG_ROLE n) == 1 && legs.contains (rd s (F.SNS_CH_CFG_OBJ n))) ||
    (rd s (F.SNS_CH_CFG_ROLE n) == 4 && rd s (F.SNS_CH_CFG_OBJ n) == rd s (F.LE_AX_CFG_DCL a))
/-- N of R70: averaging strides. -/
def trimN (s : State) : Nat := let n := s.strides 2000; if n < 16 then 16 else n
/-- W of R70: waiting strides. -/
def trimW (s : State) : Nat := s.strides 500
/-- The trim of axis a begins with its entry into PRECHARGE. The entry stride does not count among the waiting strides. -/
def trimBegin (a : Nat) (s : State) : State :=
  let cs := trimChans s a
  modAx a (fun x => { x with trim := some ⟨trimW s + 1, 0, cs, cs.map fun _ => 0⟩ }) s
/-- A trim abandoned: its failed channels log, the axis returns to READY with an axis fault (R70). -/
def trimAbandon (a : Nat) (failed : List (Nat × Nat)) (s : State) : State :=
  let s := each (fun (p : Nat × Nat) s => logFault 0x0205 p.1 2 p.2 (wr (F.SNS_CH_STAT_TRIMFLT p.1) 1 s)) failed s
  let toReady := fun (b : Nat) (s : State) =>
    wr (F.LE_AX_STATE_STATE b) 1 (flagReact b F.SAF_AX_FLT_BLOCK (legsHiz b (modAx b (fun x => { x with trim := none, pre := false }) s)))
  let s := toReady a s
  match exciterOf s a, statorOf s a with
  | some e, _ => toReady e s
  | none, some b => toReady b s
  | none, none => s
/-- Whether a leg of the group stands on at the end of a mark's decisions begins the stride that follows (R70). -/
def onMark (g : Nat) (s : State) : State := let b := !groupHiz s g; modDcl g (fun d => { d with on := b }) s
/-- ROLE 4 channels whose condition fails leave C and keep their TRIM (R70): a leg of the group was not Hi-Z in the stride that ended. -/
def trimSkip (a : Nat) (s : State) : State :=
  match (s.ax a).trim with
  | none => s
  | some tr =>
    let out := tr.chans.filter fun n => rd s (F.SNS_CH_CFG_ROLE n) == 4 && (s.dcl (rd s (F.SNS_CH_CFG_OBJ n))).wasOn
    let s := each (fun n s => logFault 0x0206 n 0 0 (wr (F.SNS_CH_TRIM_SKIP n) 1 s)) out s
    let keep := (tr.chans.zip tr.sums).filter fun p => !out.contains p.1
    modAx a (fun x => { x with trim := some ⟨tr.wait, tr.taken, keep.map (·.1), keep.map (·.2)⟩ }) s
/-- One mark of the trim of axis a (R70): a waiting stride passes, or the results of the averaging stride that ended are taken. -/
def trimMark (a : Nat) (s : State) : State :=
  match (s.ax a).trim with
  | none => s
  | some tr =>
    if tr.wait > 0 then modAx a (fun x => { x with trim := some { tr with wait := tr.wait - 1 } }) s
    else if tr.taken ≥ trimN s then s
    else
      let s := trimSkip a s
      match (s.ax a).trim with
      | none => s
      | some tr =>
        let bad := tr.chans.filter fun n => !isSet s (F.SNS_CH_RES_VALID n)
        if bad ≠ [] then trimAbandon a (bad.map fun n => (n, 0x80000000)) s
        else
          let sums := (tr.chans.zip tr.sums).map fun p => p.2 + rdI s (F.SNS_CH_RAW_RAW p.1)
          modAx a (fun x => { x with trim := some { tr with taken := tr.taken + 1, sums := sums } }) s
/-- The bootstrap low sides of an axis turned on together, at the mark the trim takes effect (R158). An axis without one stays Hi-Z (R70). -/
def preBegin (a : Nat) (s : State) : State :=
  let s := if hasBoot s a then noteOn a s else s
  each (fun n s => if isSet s (F.MOD_LEG_CFG_BOOT n) then
    modLeg n (fun l => { l with preOn := true, lastHi := some false, edges := [] }) s else s) (axLegs s a)
    (modAx a (fun x => { x with trim := none, pre := true }) s)
end Sys2Proof.Machine
end

