-- ==== Sys2Proof/Machine/Position.lean ====
section
/-! DEFINITION. The position block (Position Feedback and Observers, R83 to R111): counts, hysteresis, tracking observers, snapshots,
sensor faults and compare units. Observer values are held in units of 2^-24 count. -/
namespace Sys2Proof.Machine
open Sys2Proof

/-- MODE of interface n (Table 4.1). -/
def ifMode (s : State) (n : Nat) : Nat := rd s (F.POS_IF_CFG_MODE n)
/-- CPR of interface n (R92). -/
def ifCpr (s : State) (n : Nat) : Nat := rd s (F.POS_IF_CPR_CPR n)
/-- The interface has failed (R104). -/
def ifFailed (s : State) (n : Nat) : Bool := isSet s (F.POS_IF_FLT_FAILED n)
/-- The interface runs: ARMED or later, and not off (R83). -/
def ifRuns (s : State) (n : Nat) : Bool := armedOn s && s.dev.wasArmed && (let m := ifMode s n; 1 ≤ m && m ≤ 4)
/-- The repeat outputs of an interface follow their inputs: REPEN = 1, from ARMED to RECOVERY, whatever its fault state (R106). -/
def repeatOn (s : State) (n : Nat) : Bool := armedOn s && s.dev.wasArmed && isSet s (F.POS_IF_CFG_REPEN n)
/-- The difference of two extended counts, wrapped to the nearest for a period of `p` counts (R92); exactly half the period counts as downward
(assumption 148). -/
def wrapDiff (p : Nat) (d : Int) : Int := let r := d % p; if 2 * r ≥ p then r - p else r
/-- A count at 24 fractional bits. -/
def cfix (c : Int) : Int := c * 16777216
/-- A value on the 2^-24 grid times `num / den`, rounded to nearest. -/
def mulR (x num : Int) (den : Nat) : Int := Flt.roundAway (x * num) den

/-- A sensor fault qualifies: its flag, FAILED, and the log once, of class AX with an axis on the interface, of class W without
(R103, R104). An axis that is not active has its fault flagged (R180), one in PRECHARGE takes its safe state at the mark (Table 7.1);
one that is switching reacts at its next snapshot (R188, R190). -/
def posFault (n : Nat) (flag : Nat → Fld) (code data : Nat) (s : State) : State :=
  if isSet s (flag n) then s else
  let as := ifAxes s n
  let s := wr (F.POS_IF_FLT_FAILED n) 1 (wr (flag n) 1 s)
  let s := logFault code n (if as.isEmpty then 1 else 2) data s
  each (fun a s => if axState s a = 2 then blockReact false a 2 s else if axActive s a then s else flagReact a F.SAF_AX_FLT_BLOCK s) as s

/-- P of compare unit c as an extended count, its turn taken nearest the present turn of Np (R107). -/
def cmpP (s : State) (c : Nat) : Int :=
  let u := tget (fun _ => {}) s.pos.cmps c
  let n := rd s (F.POS_CMP_CFG_IF c)
  let cpr := ifCpr s n
  let t := (s.ifc n).np / cpr
  (t + wrapDiff 65536 ((u.turn.toNat : Int) - t)) * cpr + u.pos
/-- An armed compare unit fires at a crossing (R107). -/
def cmpFire (c : Nat) (up : Bool) (ph : Nat) (s : State) : State :=
  let s := wr (F.POS_CMP_STAT_FIRED c) 1 s |> bumpSat (F.POS_CMP_STAT_FIRECNT c) |> wrB (F.POS_CMP_STAT_FDIR c) (!up)
    |> wr (F.POS_CMP_STAT_PASSED c) 0 |> wr (F.POS_CMP_STAMP_PHASE c) ph |> wr (F.POS_CMP_STAMP_COUNT c) s.dev.count.toNat
  if isSet s (F.POS_CMP_CFG_IRQEN c) then coreEvent 2 s else s
/-- The compare units of interface n at a change of Np from old to new: upward where old < P ≤ new, downward where new ≤ P < old. -/
def cmpCross (n : Nat) (old new : Int) (ph : Nat) (s : State) : State :=
  if ifFailed s n then s else
  upto (fun c s =>
    if isSet s (F.POS_CMP_CFG_EN c) ∧ rd s (F.POS_CMP_CFG_IF c) = n ∧ isSet s (F.POS_CMP_STAT_ARMED c) then
      let p := cmpP s c
      if old < p ∧ p ≤ new then cmpFire c true ph s
      else if new ≤ p ∧ p < old then cmpFire c false ph s
      else s
    else s) 32 s

/-- The hysteresis rule of R93 on one interface record: Np and DIR after a change of Nr. -/
def npRule (x : Ifc) : Ifc :=
  let go := fun (np : Int) (d : BitVec 2) =>
    let rev := x.dir ≠ 0 ∧ d ≠ x.dir
    { x with
      np := np, dir := d, still := 0, rest := false, revNow := x.revNow || rev,
      revTeams := if rev then BitVec.allOnes 8 else x.revTeams }
  if x.nr ≥ x.np + 2 then go (x.nr - 1) 1
  else if x.nr ≤ x.np - 2 then go (x.nr + 1) 2
  else x
/-- The in-turn count of Np shown in POS_IFn_NP; the live register of a failed interface keeps its value (R101, R104). -/
def showNp (n : Nat) (s : State) : State :=
  if ifFailed s n then s else wr (F.POS_IF_NP_CNT n) ((s.ifc n).np % (ifCpr s n : Int)).toNat s
/-- A new raw count: the reported count follows and the compare units watch it (R93, R107); Np of a failed interface holds
(R104, assumption 92). -/
def setNr (n : Nat) (nr : Int) (ph : Nat) (s : State) : State :=
  let s := modIfc n (fun x => { x with nr := nr }) s
  let x := s.ifc n
  if x.first ∧ ¬ x.resync ∧ ¬ ifFailed s n then
    let s' := modIfc n npRule s
    if (s'.ifc n).np = x.np then s' else cmpCross n x.np (s'.ifc n).np ph (showNp n s')
  else s

/-- The turn-store entry of interface n in the record taken at start (Table 14.4), where R102 lets it be used. -/
def turnEntry (s : State) (n : Nat) : Option (Int × Nat) :=
  let r := s.pwr.record
  let o := 0x180 + 16 * n
  if r.length = 4096 ∧ field r o 1 = 1 ∧ field r (o + 1) 1 = ifMode s n ∧ field r (o + 4) 4 = ifCpr s n then
    some (sext 16 (field r (o + 8) 2), field r (o + 12) 4)
  else none
/-- The turn is kept in the state record: mode 3 without multi-turn bits, or mode 4 with RPOLE = 1 (R102). -/
def keepsTurn (s : State) (n : Nat) : Bool :=
  (ifMode s n == 3 && rd s (F.POS_IF_SSI1_MTBITS n) == 0) || (ifMode s n == 4 && rd s (F.POS_IF_RES1_RPOLE n) == 1)
/-- The turn restored at the first measurement: adjusted by −1, 0 or +1 so that the angle moves by at most half a revolution. -/
def restoreTurn (n : Nat) (inTurn : Nat) (s : State) : Int × State :=
  match (if keepsTurn s n then turnEntry s n else none) with
  | none => (0, s)
  | some (t, ang) =>
    let cur : Int := inTurn * 4294967296 / ifCpr s n
    let d := cur - ang
    let t' := if d > 2147483648 then t - 1 else if d < -2147483648 then t + 1 else t
    (t', logFault 0x0309 n 0 (trunc 32 t') (modIfc n (fun x => { x with turnRest := true }) s))
/-- A first measurement, or the first after a recovery: Np takes Nr (R93, R105). After a recovery DIR stays (assumption 167). -/
def takeFirst (n : Nat) (s : State) : State :=
  let x := s.ifc n
  if x.first ∧ ¬ x.resync then s
  else
    let keep := x.first && x.np == x.nr
    showNp n (modIfc n (fun x => { x with
      np := x.nr, first := true, resync := false, dir := if x.first then x.dir else 0,
      still := if keep then x.still else 0, rest := x.rest && keep }) s)

/-- A sequence error (R85, R87, R103). -/
def seqError (n : Nat) (s : State) : State :=
  let s := bumpSat (F.POS_IF_EVCNT_SEQCNT n) s
  let s := if ifMode s n = 1 then modIfc n (fun x => { x with refValid := false }) s else s
  if rd s (F.POS_IF_EVCNT_SEQCNT n) ≥ rd s (F.POS_IF_FLTCFG_SEQLIM n) then
    posFault n F.POS_IF_FLT_SEQ 0x0304 ((s.ifc n).nr % (ifCpr s n : Int)).toNat s
  else s

/-- ENCODER_EDGE (R85): the filtered levels of A and B become these. -/
def execEncoderEdge (n : IfNo) (aLvl bLvl : Bool) (ph : Nat) (s : State) : Host.Outcome State Fault Refusal :=
  if ifRuns s n ∧ ifMode s n = 1 then
    let x := s.ifc n
    let s := modIfc n (fun x => { x with aLvl := aLvl, bLvl := bLvl }) s
    let da := aLvl != x.aLvl
    let db := bLvl != x.bLvl
    if da && db then done (seqError n s)
    else if da || db then
      -- A leads B upward: after the edge of A the levels differ, after the edge of B they agree
      let up := (if da then aLvl != bLvl else aLvl == bLvl) != isSet s (F.POS_IF_CFG_INV n)
      done (setNr n (x.nr + if up then 1 else -1) ph s)
    else done s
  else unmet s

/-- INDEX_EDGE (R86): a rising Z edge counts while A and B are both high. On a failed interface Nr is referenced, while Np and the observer
hold until the recovery (R104). -/
def execIndexEdge (n : IfNo) (ph : Nat) (s : State) : Host.Outcome State Fault Refusal :=
  let x := s.ifc n
  let z := rd s (F.POS_IF_CFG_ZMODE n)
  if ifRuns s n ∧ ifMode s n = 1 ∧ x.aLvl ∧ x.bLvl ∧ (z = 1 ∨ z = 2) then
    let cpr := ifCpr s n
    let zo := rd s (F.POS_IF_ZOFS_ZOFS n)
    if x.refSteps = 0 then
      let nr := x.nr / cpr * cpr + zo
      let s := if ifFailed s n then modIfc n (fun x => { x with nr := nr, refValid := true, refSteps := 1 }) s else
        let s := modIfc n (fun x => { x with
          nr := nr, np := nr, refValid := true, refSteps := 1, fresh := true, first := true,
          still := if x.np = nr then x.still else 0, rest := x.rest && x.np == nr }) s
        let s := showNp n s
        if x.np ≠ nr then cmpCross n x.np nr ph s else s
      done (each (fun a s => match (s.ax a).cfgOfs with
        | some o => wrW (F.LE_AX_COMM_OFS a) o (wr (F.LE_AX_STATE_OFSVALID a) 1 (modAx a (fun y => { y with alignRef := none }) s))
        | none => s) (ifAxes s n) s)
    else if z = 2 then
      let i := (x.nr % (cpr : Int)).toNat
      let d := if i ≥ zo then i - zo else zo - i
      let d := if cpr - d < d then cpr - d else d
      if d > rd s (F.POS_IF_FLTCFG_ZTOL n) then
        done (logFault 0x0308 n 1 i (wr (F.POS_IF_FLT_ZMIS n) 1 (modIfc n (fun x => { x with refValid := false }) s)))
      else done s
    else done s
  else unmet s

/-- The sector of a Hall code (Table 4.2). -/
def hallSector (h : BitVec 3) : Option Nat :=
  match h.toNat with
  | 1 => some 0
  | 3 => some 1
  | 2 => some 2
  | 6 => some 3
  | 4 => some 4
  | 5 => some 5
  | _ => none
/-- HALL_CHANGE (R87): the filtered code becomes this. -/
def execHallChange (n : IfNo) (code : BitVec 3) (ph : Nat) (s : State) : Host.Outcome State Fault Refusal :=
  if ifRuns s n ∧ ifMode s n = 2 then
    let x := s.ifc n
    let s := modIfc n (fun x => { x with hall := code }) s
    match hallSector code with
    | none => done (modIfc n (fun x => { x with illegal := if x.illegal = 0 then 1 else x.illegal }) s)
    | some h =>
      -- an illegal code that ends before HALLQ is counted (Table 4.9)
      let s := if x.illegal = 1 then bumpSat (F.POS_IF_EVCNT_HALLCNT n) s else s
      let s := modIfc n (fun x => { x with sector := h, illegal := 0 }) s
      if ¬ x.first then done (takeFirst n (modIfc n (fun x => { x with nr := h }) s))
      else
        let inv := isSet s (F.POS_IF_CFG_INV n)
        let d := (h + 6 - x.sector) % 6
        if d = 0 then done s
        else if d = 1 then done (setNr n (x.nr + if inv then -1 else 1) ph s)
        else if d = 5 then done (setNr n (x.nr + if inv then 1 else -1) ph s)
        else done (seqError n s)
  else unmet s

/-- POS_HALL_ILLEGAL (R87, R103): an illegal code has been held for HALLQ µs. -/
def execPosHallIllegal (n : IfNo) (s : State) : Host.Outcome State Fault Refusal :=
  if ifRuns s n ∧ ifMode s n = 2 ∧ hallSector (s.ifc n).hall = none then
    done (posFault n F.POS_IF_FLT_HALL 0x0305 (s.ifc n).hall.toNat (modIfc n (fun x => { x with illegal := 2 }) s))
  else unmet s

/-- A bad word of a synchronous-serial interface: 0 = CRC, 1 = error bit, 2 = timeout (Table 4.4). -/
def badWord (n kind data : Nat) (s : State) : State :=
  let s := bumpSat (F.POS_IF_EVCNT_BADCNT n) s
  let r := (s.ifc n).badRun + 1
  let s := modIfc n (fun x => { x with badRun := r, reqOut := false }) s
  if r ≥ rd s (F.POS_IF_FLTCFG_BADLIM n) then
    match kind with
    | 0 => posFault n F.POS_IF_FLT_CRC 0x0301 data s
    | 1 => posFault n F.POS_IF_FLT_ERRBIT 0x0302 data s
    | _ => posFault n F.POS_IF_FLT_TIMEOUT 0x0303 (rd s (F.POS_IF_EVCNT_BADCNT n)) s
  else s
/-- One SSI clock period in SCLK cycles (R88). -/
def ssiPeriod (s : State) (n : Nat) : Nat := 10 * rd s (F.POS_IF_SSI0_CLKDIV n)
/-- Clock periods of a request: the one whose falling edge latches the sensor, then SKIP + WLEN more (R88). -/
def ssiClocks (s : State) (n : Nat) : Nat := 1 + rd s (F.POS_IF_SSI0_SKIP n) + rd s (F.POS_IF_SSI0_WLEN n)
/-- POSn_C of a mode 3 interface `c` SCLK cycles after the latching edge of its request: low in the first half of each period, high after it
and outside a request (R88; assumption 112). -/
def ssiClock (s : State) (n c : Nat) : Bool :=
  let p := ssiPeriod s n
  decide (ssiClocks s n * p ≤ c) || decide (p ≤ 2 * (c % p))
/-- When bit j of a request, j from 0 to SKIP + WLEN − 1, is sampled: SDLY cycles after the rising edge of the period behind it (R88). -/
def ssiSample (s : State) (n j : Nat) : Nat :=
  let p := ssiPeriod s n
  (j + 1) * p + p / 2 + rd s (F.POS_IF_SSI0_SDLY n)
/-- A request is due: every RPER µs from entry into ARMED, with the first at that entry (assumption 168), once each time (R88). -/
def ssiDue (s : State) (n : Nat) : Bool :=
  let r := rd s (F.POS_IF_SSI3_RPER n)
  r != 0 && (s.ifc n).us % r == 0 && (s.ifc n).reqAt != some (s.ifc n).us
/-- SSI_REQUEST (R88): a request falls due; with the line low it counts as a timed-out word, else the word is clocked out. -/
def execSsiRequest (n : IfNo) (lineLow : Bool) (s : State) : Host.Outcome State Fault Refusal :=
  if ifRuns s n ∧ ifMode s n = 3 ∧ ssiDue s n then
    let s := modIfc n (fun x => { x with reqAt := some x.us }) s
    if lineLow then done (badWord n 2 0 (modIfc n (fun x => { x with lineLow := true }) s))
    else done (modIfc n (fun x => { x with lineLow := false, reqOut := true }) s)
  else unmet s
/-- Gray code to binary, from the most significant bit down. -/
def grayBits : Bool → List Bool → List Bool
  | _, [] => []
  | p, b :: bs => (p != b) :: grayBits (p != b) bs
/-- The number of bits given most significant first. -/
def msbNat : List Bool → Nat := fun bs => each (fun b v => 2 * v + b2n b) bs 0
/-- A measurement of a mode 3 or 4 interface: Nr, the first measurement, and the observer's input with the age of its stamp. One older
than 64 µs is discarded for the observer only; Nr and Np take it (R95, assumption 133). -/
def measure (n : Nat) (nr age : Int) (ph : Nat) (s : State) : State :=
  let s := setNr n nr ph s
  let s := takeFirst n s
  modIfc n (fun x => { x with meas := some (nr, age) }) s
/-- What is wrong with a complete word of interface n: its kind and the data of its fault, none for a good word (R89). A word with a CRC
mismatch and an active error bit counts as a CRC mismatch (assumption 134). -/
def ssiVerdict (s : State) (n : Nat) (word : BitVec 64) : Option (Nat × Nat) :=
  let wlen := rd s (F.POS_IF_SSI0_WLEN n)
  let cl := rd s (F.POS_IF_SSI1_CRCLEN n)
  let w := word.toNat % 2 ^ wlen
  let got := w % 2 ^ cl
  let c0 := crcFwd cl (rd s (F.POS_IF_SSI2_POLY n) % 2 ^ cl) ((msbBits w wlen).take (wlen - cl)) (rd s (F.POS_IF_SSI2_INIT n) % 2 ^ cl)
  let crc := if isSet s (F.POS_IF_SSI0_CRCINV n) then 2 ^ cl - 1 - c0 else c0
  let status := w / 2 ^ cl % 2 ^ (wlen - rd s (F.POS_IF_SSI1_MTBITS n) - rd s (F.POS_IF_SSI1_STBITS n) - cl)
  if cl ≠ 0 ∧ got ≠ crc then some (0, got)
  else if isSet s (F.POS_IF_SSI0_ERREN n) ∧ bit w (rd s (F.POS_IF_SSI1_ERRPOS n)) = isSet s (F.POS_IF_SSI0_ERRPOL n) then some (1, status)
  else none
/-- The age at the next update of a measurement stamped LAT × 10 ns after the latching edge, which is `edge` cycles old then: negative where
the stamp lies behind that update (R88). -/
def ssiAge (s : State) (n edge : Nat) : Int := edge - (8 * rd s (F.POS_IF_SSI3_LAT n) : Nat)
/-- SSI_WORD (R88, R89): the SKIP + WLEN samples of a complete word, the last one lowest, the first SKIP of them discarded; `edge` SCLK
cycles lie between the latching edge of its request and the next observer update. -/
def execSsiWord (n : IfNo) (word : BitVec 64) (edge ph : Nat) (s : State) : Host.Outcome State Fault Refusal :=
  if ifRuns s n ∧ ifMode s n = 3 ∧ (s.ifc n).reqOut then
    match ssiVerdict s n word with
    | some (kind, data) => done (badWord n kind data s)
    | none =>
      let age := ssiAge s n edge
      let wlen := rd s (F.POS_IF_SSI0_WLEN n)
      let mt := rd s (F.POS_IF_SSI1_MTBITS n)
      let st := rd s (F.POS_IF_SSI1_STBITS n)
      let bits := msbBits (word.toNat % 2 ^ wlen) wlen
      let s := modIfc n (fun x => { x with badRun := 0, reqOut := false }) s
      if ifFailed s n then done s else
      let sb := (bits.drop mt).take st
      let sb := if isSet s (F.POS_IF_SSI0_GRAY n) then grayBits false sb else sb
      let one := msbNat (sb.take (if st < 24 then st else 24))
      let multi : Int := let m := msbNat (bits.take mt); if mt = 16 then sext 16 m else m
      let x := s.ifc n
      let cpr := ifCpr s n
      if ¬ x.first then
        let (t, s) := restoreTurn n one s
        let t := if mt = 0 then t else multi
        done (measure n (t * cpr + one) age ph s)
      else if mt = 0 then done (measure n (x.nr + wrapDiff cpr (one - x.nr)) age ph s)
      else done (measure n (x.nr + wrapDiff (cpr * 65536) (multi * cpr + one - x.nr)) age ph s)
  else unmet s
/-- POS_TIMEOUT (R88): the data line is not high within TOUT of the last rising edge. -/
def execPosTimeout (n : IfNo) (s : State) : Host.Outcome State Fault Refusal :=
  if ifRuns s n ∧ ifMode s n = 3 ∧ (s.ifc n).reqOut then
    done (badWord n 2 0 (modIfc n (fun x => { x with lineLow := true }) s))
  else unmet s

/-- The width in units of 78.125 ps of the high part of PWM period j, 0 to 63, of the excitation: duty 0.5 + 0.5 × (EXCAMP / 256) ×
sin(2π × (j + 0.5) / 64) of EXCDIV cycles (R90); a half unit goes away from zero (assumption 113). -/
def excWidth (s : State) (n j : Nat) : Nat :=
  let d := 16 * rd s (F.POS_IF_RES0_EXCDIV n)
  let a := rd s (F.POS_IF_RES0_EXCAMP n)
  (Flt.roundAway ((d : Int) * (256 * 2 ^ 96 + a * sinTurn (2 * j + 1) 128)) (512 * 2 ^ 96)).toNat
/-- POSn_C of a mode 4 interface `u` units of 78.125 ps after entry into ARMED: each PWM period begins with its high part (assumption 113). -/
def excHigh (s : State) (n u : Nat) : Bool :=
  let p := 16 * rd s (F.POS_IF_RES0_EXCDIV n)
  decide (u % p < excWidth s n (u / p % 64))
/-- POSn_QA, POSn_QB and POSn_QZ of interface n for the levels of its pins A, B and Z and of POSn_C (R106). -/
def repeatPins (s : State) (n : Nat) (a b z c : Bool) : Bool × Bool × Bool :=
  if ¬ repeatOn s n then (false, false, false) else
  match ifMode s n with
  | 1 | 2 => (a, b, z)
  | 3 => (a, c, false)
  | _ => (false, false, false)
/-- The integrals of a half period: results times the excitation reference delayed by PHASE / 256 of a period, so scaled that an
in-phase signal gives its amplitude in units of 2^-32 of a VALUE unit (R91; assumption 25). -/
def correlate (per phase : Nat) (rs : List (Int × Nat)) : Int :=
  let sum := (rs.map fun r => r.1 * sinTurn ((256 * (r.2 % per) : Int) - phase * per) (256 * per) / 2 ^ 64).sum
  if rs.length = 0 then 0 else 2 * sum / rs.length
/-- The half period, counted from entry into ARMED, of the instant that a result represents (R90, R91). -/
def resHalf (s : State) (n : Nat) (r : Int × Nat) : Nat := r.2 / (32 * rd s (F.POS_IF_RES0_EXCDIV n))
/-- The results that represent an instant of a later half period than the one that ended. -/
def resLater (s : State) (n : Nat) (rs : List (Int × Nat)) : List (Int × Nat) := rs.filter fun r => decide ((s.ifc n).halves < resHalf s n r)
/-- The integrals of the half period that ended, sine and cosine, over the results that represent an instant in it (R91). -/
def resIntegrals (s : State) (n : Nat) : Int × Int :=
  let per := 64 * rd s (F.POS_IF_RES0_EXCDIV n)
  let phase := rd s (F.POS_IF_RES0_PHASE n)
  let of := fun (rs : List (Int × Nat)) => correlate per phase (rs.filter fun r => resHalf s n r == (s.ifc n).halves)
  (of (s.ifc n).sinRes, of (s.ifc n).cosRes)
/-- G in Q3.21 of the channel that delivers role r, 5 the sine and 6 the cosine, to interface n. -/
def resGain (s : State) (n r : Nat) : Nat :=
  match roleChans s r n with
  | c :: _ => rd s (F.SNS_CH_GAIN_G c)
  | [] => 0
/-- The amplitude of the half period that ended in units of 2^-16 FS: full scale of a channel is 2^17 × G units of its VALUE (R68, R69, R91;
assumption 25). -/
def resAmp (s : State) (n : Nat) : Nat :=
  let q := resIntegrals s n
  let a := q.1 * 2097152 / resGain s n 5
  let b := q.2 * 2097152 / resGain s n 6
  Flt.isqrt ((a * a + b * b).toNat) / 2 ^ 33
/-- The electrical angle of the half period that ended, quantised to RESBITS bits; with both integrals 0, or without a result, it is free
(R91; assumption 146). -/
def resAngle (s : State) (n : Nat) : Nat × State :=
  let q := resIntegrals s n
  let bits := rd s (F.POS_IF_RES1_RESBITS n)
  if q = (0, 0) then let (v, s) := draw bits s; (v.toNat, s) else (angleOf bits q.1 q.2, s)
/-- RESOLVER_HALF_PERIOD (R91): the integrals of the half period give an angle and an amplitude, stamped at the centre of the half period,
whose end lies `end_` SCLK cycles before the next observer update. Results of later instants wait for their own. An amplitude of 1 FS or more shows 65,535 (assumption 147). -/
def execResolverHalfPeriod (n : IfNo) (end_ ph : Nat) (s : State) : Host.Outcome State Fault Refusal :=
  if ifRuns s n ∧ ifMode s n = 4 then
    let x := s.ifc n
    let age := end_ + 16 * rd s (F.POS_IF_RES0_EXCDIV n)
    let bits := rd s (F.POS_IF_RES1_RESBITS n)
    let amp := resAmp s n
    let (el, s) := resAngle s n
    let s := modIfc n (fun x => { x with sinRes := resLater s n x.sinRes, cosRes := resLater s n x.cosRes, halves := x.halves + 1 }) s
    let s := wr (F.POS_IF_AMP_AMP n) (if amp > 65535 then 65535 else amp) s
    let out := amp < 256 * rd s (F.POS_IF_RES1_AMPLO n) ∨ amp > 256 * rd s (F.POS_IF_RES1_AMPHI n)
    let run := if out then x.ampRun + 1 else 0
    let s := modIfc n (fun x => { x with ampRun := run }) (if out then bumpSat (F.POS_IF_EVCNT_AMPCNT n) s else s)
    let s := if out ∧ run ≥ rd s (F.POS_IF_FLTCFG_AMPQ n) then posFault n F.POS_IF_FLT_AMPL 0x0306 amp s else s
    if ifFailed s n then done s
    else if ¬ x.first then
      let (t, s) := restoreTurn n el s
      done (measure n (t * ifCpr s n + el) age ph s)
    else done (measure n (x.nr + wrapDiff (2 ^ bits) (el - x.nr)) age ph s)
  else unmet s

/-- ω = 2π × BW of R94 as a numerator over `Flt.piScale`. -/
def obsOmega (s : State) (n : Nat) : Int := 2 * rd s (F.POS_IF_OBS_BW n) * Flt.piFix
/-- The position of an observer state (position, speed, acceleration) extrapolated by `d` interpolation steps, 16 in an SCLK cycle (R95,
R100). -/
def thLater (q : Int × Int × Int) (d : Int) : Int :=
  q.1 + Flt.roundAway (q.2.1 * d * 25600000000 + q.2.2 * d * d) 327680000000000000000
/-- The observer position at a stamp `age` SCLK cycles before this update (R95): the state of the update at or before it, extrapolated. This
update, for which the measurement is, has not stepped yet: for a stamp at or behind it the state of the last one is extrapolated by its
800 cycles and on to the stamp (assumption 145). -/
def thAt (x : Ifc) (age : Int) : Int :=
  if age ≤ 0 then thLater (x.th, x.spd, x.acc) (16 * (800 - age)) else
  let j := (age.toNat + 799) / 800
  match x.hist[j - 1]? with
  | none => x.th
  | some q => thLater q (16 * (800 * j - age))
/-- One observer update of R94 with the error `e` and its rest rule (R97). -/
def obsStep (om : Int) (x : Ifc) (e : Int) : Ifc :=
  let sc := Flt.piScale
  let acc := if x.rest then 0 else x.acc + mulR e (om * om * om) (sc * sc * sc * 1000000)
  let spd := if x.rest then 0 else x.spd + Flt.roundAway (acc * (sc * sc : Nat) + e * (3 * om * om)) (sc * sc * 1000000)
  let th := x.th + Flt.roundAway (spd * (sc : Nat) + e * (3 * om)) (sc * 1000000)
  { x with th := th, spd := spd, acc := acc }
/-- The formats of R99 of an observer state: angle, turn, speed, acceleration. -/
def toAng (cpr : Nat) (th : Int) : Word := BitVec.ofInt 32 (th % cfix cpr * 256 / (cpr : Int))
def toTurn (cpr : Nat) (th : Int) : BitVec 16 := BitVec.ofInt 16 (th / cfix cpr)
def satRate (v : Int) : Word := BitVec.ofInt 32 (if v > 2147483647 then 2147483647 else if v < -2147483647 then -2147483647 else v)
def toSpd (cpr : Nat) (v : Int) : Word := satRate (Flt.roundAway v (256 * cpr))
def toAcc (cpr : Nat) (v : Int) : Word := satRate (Flt.roundAway v (65536 * cpr))
/-- STAT as the last update shows it, without the mirror of FAILED (Table 4.9). -/
def statOf (x : Ifc) : BitVec 9 :=
  BitVec.ofNat 9 (b2n x.posValid + 2 * b2n x.spdValid + 4 * b2n x.rest + 8 * b2n x.revUpd + 16 * x.dir.toNat
    + 64 * b2n x.refValid + 256 * b2n x.turnRest)
/-- The live registers of an update (R101). -/
def showLive (n : Nat) (s : State) : State :=
  let cpr := ifCpr s n
  let x := s.ifc n
  let mv := x.spdValid && !x.rest
  let s := wrW (F.POS_IF_ANG_ANG n) (toAng cpr x.th) s
  modIfc n (fun x => { x with
    lvTurn := toTurn cpr x.th, lvSpd := if mv then toSpd cpr x.spd else 0, lvAcc := if mv then toAcc cpr x.acc else 0,
    lvStat := statOf x, lvErr := BitVec.ofInt 32 (sat 32 (Flt.roundAway x.err 65536)) }) s
/-- OBSERVER_UPDATE (R94 to R98, R103): the update every 1 µs. The observer of a failed interface holds its state (R104); the update that
qualifies 0x0307 itself still steps and shows before FAILED is set (assumption 131). -/
def execObserverUpdate (n : IfNo) (s : State) : Host.Outcome State Fault Refusal :=
  if ¬ ifRuns s n then unmet s else
  let s := modIfc n (fun x => { x with us := x.us + 1 }) s
  if ifFailed s n then done s else
  let m12 := ifMode s n = 1 ∨ (ifMode s n = 2 ∧ hallSector (s.ifc n).hall ≠ none) ∨ (ifMode s n = 2 ∧ (s.ifc n).first)
  let s := if ifMode s n = 1 then takeFirst n s else if m12 then takeFirst n s else s
  let x := s.ifc n
  let ms : Option (Int × Int) := if m12 then some (x.nr, 0) else
    match x.meas with
    | some (v, age) => if age > 51200 then none else some (v, age)
    | none => none
  let prev := (x.th, x.spd, x.acc)
  let x := { x with meas := none, revUpd := x.revNow, revNow := false, still := x.still + 1, hist := (prev :: x.hist).take 64 }
  match ms with
  | some (v, age) =>
    let m := cfix v + 8388608
    if x.fresh then
      done (showLive n (modIfc n (fun _ => { x with
        th := m, spd := 0, acc := 0, err := 0, acq := 0, obsRun := 0, spdValid := false, posValid := true, fresh := false,
        hist := [] }) s))
    else
      let e := wrapDiff (ifCpr s n * 65536 * 16777216) (m - thAt x age)
      let x := { x with rest := x.rest || (x.still > 1000 * rd s (F.POS_IF_OBS_REST n) && e.natAbs < 16777216) }
      let x := obsStep (obsOmega s n) { x with err := e } e
      let acq := if e.natAbs < 8388608 then x.acq + 1 else 0
      let bad := x.spdValid && e.natAbs > rd s (F.POS_IF_ELIM_ELIM n) * 16777216
      let run := if bad then x.obsRun + 1 else 0
      let x := { x with acq := acq, spdValid := x.spdValid || acq ≥ 64, obsRun := run }
      let s := showLive n (modIfc n (fun _ => x) s)
      if bad ∧ run ≥ rd s (F.POS_IF_FLTCFG_OBSQ n) then
        done (posFault n F.POS_IF_FLT_OBS 0x0307 (trunc 32 (sat 32 (Flt.roundAway e 65536))) s)
      else done s
  | none =>
    if x.fresh then done (modIfc n (fun _ => x) s)
    else
      let x := { x with rest := x.rest || x.still > 1000 * rd s (F.POS_IF_OBS_REST n) }
      done (showLive n (modIfc n (fun _ => obsStep (obsOmega s n) { x with err := 0 } 0) s))

/-- POS_ANG_READ (R101): a read of ANG latches TURN, SPD, ACC, STAT and ERR of the same update. -/
def latchAng (n : Nat) (s : State) : State :=
  let x := s.ifc n
  let f := x.lvStat.toNat + 128 * b2n (ifFailed s n)
  wr (F.POS_IF_TURN_TURN n) x.lvTurn.toNat s |> wrW (F.POS_IF_SPD_SPD n) x.lvSpd |> wrW (F.POS_IF_ACC_ACC n) x.lvAcc
    |> wrW (F.POS_IF_ERR_E n) x.lvErr |> State.setReg (A.POS_IF_STAT n) (BitVec.ofNat 32 f)
def execPosAngRead (n : IfNo) (s : State) : Host.Outcome State Fault Refusal :=
  if ¬ coresRun s then unmet s else
  done (latchAng n s)
/-- POS_NP_READ (R101): a read of NP latches the turn of the same Np. -/
def latchNp (n : Nat) (s : State) : State :=
  wrI (F.POS_IF_NPT_TURN n) ((s.ifc n).np / (ifCpr s n : Int)) s
def execPosNpRead (n : IfNo) (s : State) : Host.Outcome State Fault Refusal :=
  if ¬ coresRun s then unmet s else
  done (latchNp n s)

/-- A write to POS_CMPc_POS commits P, arms the unit, and judges at once whether P has been passed (R108); on a failed interface it is
judged against the held Np (assumption 135). -/
def commitCmp (c : Nat) (v : Word) (s : State) : State :=
  let s := wr (F.POS_CMP_POS_POS c) v.toNat s
  let u : Cmp := ⟨BitVec.ofNat 16 (rd s (F.POS_CMP_TURN_TURN c)), rd s (F.POS_CMP_POS_POS c)⟩
  let s := s.setPos { s.pos with cmps := tset (fun _ => {}) s.pos.cmps c u }
  let x := s.ifc (rd s (F.POS_CMP_CFG_IF c))
  let p := cmpP s c
  let passed := if x.dir = 1 then decide (p ≤ x.np) else if x.dir = 2 then decide (p ≥ x.np) else decide (p = x.np)
  wrB (F.POS_CMP_STAT_PASSED c) passed (wr (F.POS_CMP_STAT_ARMED c) 1 s)
/-- COMPARE_WRITE (R108). -/
def execCompareWrite (c : Fin 32) (v : Word) (s : State) : Host.Outcome State Fault Refusal :=
  if ¬ coresRun s then unmet s else
  done (commitCmp c v s)

/-- Recovery of interface n is accepted: it has failed and every axis using it is DISABLED, READY, LOCKED or in SAFE (R105). -/
def mayRecover (s : State) (n : Nat) : Bool := ifFailed s n && (ifAxes s n).all (axIdle s)
/-- The recovery of R105: flags cleared, Np from the next measurement, a new acquisition; an align offset ends with it (R173). Until that
measurement POSVALID stays as it was (assumption 132). -/
def recoverIf (n : Nat) (s : State) : State :=
  let s := s.setReg (A.POS_IF_FLT n) 0
  let s := modIfc n (fun x => { x with
    resync := true, fresh := true, badRun := 0, ampRun := 0, obsRun := 0, meas := none, spdValid := false }) s
  each (fun a s => if (s.ax a).alignRef.isSome then
    wr (F.LE_AX_STATE_OFSVALID a) 0 (modAx a (fun y => { y with alignRef := none }) s) else s) (ifAxes s n) s
/-- POS_RECOVERY (R105). -/
def execPosRecovery (n : IfNo) (s : State) : Host.Outcome State Fault Refusal :=
  if ¬ coresRun s then unmet s else
  if mayRecover s n then done (recoverIf n s) else unmet s

/-- The snapshot of interface n for team t at its sample phase (R100), `delta` interpolation steps after the last update. -/
def snapOf (s : State) (n t delta : Nat) : Snap :=
  let x := s.ifc n
  let cpr := ifCpr s n
  let failed := ifFailed s n
  let mv := x.spdValid && !x.rest && !failed
  let d : Int := delta
  let th := if mv then thLater (x.th, x.spd, x.acc) d else x.th
  let sp := if mv then x.spd + Flt.roundAway (x.acc * d) 12800000000 else 0
  let fl := b2n (x.posValid && !failed) + 2 * b2n (x.spdValid && !failed) + 4 * b2n x.rest
    + 8 * b2n (x.revTeams.getLsbD t) + 16 * x.dir.toNat + 64 * b2n x.refValid + 128 * b2n failed
  ⟨toAng cpr th, toTurn cpr th, toSpd cpr sp, toAcc cpr (if mv then x.acc else 0), BitVec.ofNat 8 fl⟩
/-- POSITION_SNAPSHOT (R100): both copies of the snapshots of team t are written; REV is shown once to each team (R98). -/
def snapTeam (t delta : Nat) (s : State) : State :=
  let as := (teamAxes s t).filter fun a => isSet s (F.LE_AX_CFG_POSEN a)
  let s := each (fun a s =>
    let p := snapOf s (rd s (F.LE_AX_CFG_POSIF a)) t delta
    let s := wrBytes (inBase a) (leBytes 4 p.ang.toNat ++ leBytes 2 p.turn.toNat ++ [p.flags, 0] ++ leBytes 4 p.spd.toNat
      ++ leBytes 4 p.acc.toNat) s
    modAx a (fun x => { x with dup := p }) s) as s
  each (fun a => modIfc (rd s (F.LE_AX_CFG_POSIF a)) fun x => { x with revTeams := x.revTeams &&& ~~~(1#8 <<< t) }) as s

end Sys2Proof.Machine
end

