-- ==== Sys2Proof/Machine/Setpoint.lean ====
section
/-! DEFINITION. The set-point unit (R114, R120, R135 to R137) and the sample phase (R39): snapshots, the latch and check of the active
set-point copy, the ramps and the position profile. -/
namespace Sys2Proof.Machine
open Sys2Proof

/-- A speed in units of 2^-16 rev/s as binary32 rev/s. -/
def spdF (v : Int) : F32 := Flt.ofRat v 65536
/-- A 48-bit position in units of 2^-32 rev as binary32 rev, signed. -/
def posF (p : BitVec 48) : F32 := Flt.ofRat p.toInt 4294967296
/-- The angle source of axis a: 0 sensor, 1 estimator, 2 open loop or fixed, 3 blend (R174). -/
def angSrc (s : State) (a : Nat) : Nat := rd s (F.LE_AX_STATE_ANGSRC a)
/-- The mechanical speed that the engine uses, in rev/s (R174). -/
def useSpd (s : State) (a : Nat) : F32 := if angSrc s a = 1 then estSpd s a else spdF (inSpd s a)
/-- The mechanical position that the engine uses, TURN × 2^32 + ANG modulo 2^48 (R132, R174). -/
def usePos (s : State) (a : Nat) : BitVec 48 :=
  if angSrc s a = 1 then (s.ax a).eng.epos
  else BitVec.ofNat 48 ((rd32 s (inBase a + 4)).toNat % 65536 * 4294967296 + (rd32 s (inBase a)).toNat)

/-- A set-point record read from memory (Table 5.5). -/
def readSetP (s : State) (b : Nat) : SetP :=
  { kind := (rd32 s b).toNat, torque := rd32 s (b + 4), idref := rd32 s (b + 8), iqref := rd32 s (b + 0xC), speed := rd32 s (b + 0x10),
    pang := rd32 s (b + 0x14), pturn := rd32 s (b + 0x18), tff := rd32 s (b + 0x1C), sff := rd32 s (b + 0x20),
    tlimp := rd32 s (b + 0x24), tlimn := rd32 s (b + 0x28) }
/-- KIND is permitted for the axis (R120). -/
def kindOk (s : State) (a k : Nat) : Bool :=
  let ex := axType s a = 4 ∨ axType s a = 5
  match k with
  | 0 => true
  | 1 => !ex
  | 2 => true
  | 3 => !ex && isSet s (F.LE_AX_CFG_SPDEN a)
  | 4 => !ex && isSet s (F.LE_AX_CFG_PLEN a)
  | _ => false
/-- The check of R120. -/
def setPOk (s : State) (a : Nat) (p : SetP) : Bool :=
  [p.torque, p.idref, p.iqref, p.tff, p.tlimp, p.tlimn].all Flt.finite && kindOk s a p.kind &&
  Flt.le 0 p.tlimp && Flt.le p.tlimn 0
/-- The latch of the active copy of axis a at S_t: accepted, or refused with the last accepted record kept; a record logs once (R120). -/
def latchSetP (a : Nat) (s : State) : State :=
  let p := readSetP s (actBase a)
  let new := (s.ax a).spNew
  let s := modAx a (fun x => { x with spNew := false }) s
  if setPOk s a p then modAx a (fun x => { x with sp := p }) s
  else
    let s := wr (F.LE_AX_FLT_SPINVAL a) 1 s
    if new then logFault 0x0404 a 1 p.kind s else s

/-- The demand replaced: by a ZERO_RAMP reaction (R50), or while a controlled stop runs (R182: KIND 4 becomes KIND 3). -/
def zeroDemand (s : State) (a : Nat) : Bool := (s.ax a).zeroRamp || isSet s (F.LE_AX_STATE_STOPPING a)
/-- KIND in force. -/
def kindOf (s : State) (a : Nat) : Nat := let k := (s.ax a).sp.kind; if zeroDemand s a ∧ k = 4 then 3 else k
/-- The first and the second target of the ramps of R135. -/
def targets (s : State) (a : Nat) : F32 × F32 :=
  let p := (s.ax a).sp
  if zeroDemand s a then (0, 0) else
  match kindOf s a with
  | 1 => (p.torque, 0)
  | 2 => (p.idref, p.iqref)
  | 3 => (spdF p.speed.toInt, 0)
  | _ => (0, 0)
/-- The target position of KIND 4. -/
def posTarget (p : SetP) : BitVec 48 := BitVec.ofNat 48 (p.pturn.toNat % 65536 * 4294967296 + p.pang.toNat)

/-- One ramp at one latch (R135): the new ramp and its acceleration. -/
def rampStep (t rate : F32) (zdwell : Nat) (target : F32) (r : Ramp) : Ramp × F32 :=
  let step := Flt.mul rate t
  let y := r.y
  let yn := Flt.add y (Flt.clamp (Flt.sub target y) (Flt.neg step) step)
  let crosses := (Flt.lt 0 y && Flt.lt yn 0) || (Flt.lt y 0 && Flt.lt 0 yn)
  let yn' := if zdwell > 0 then (if r.dwell > 0 then 0 else if crosses then 0 else yn) else yn
  let d := if zdwell > 0 ∧ r.dwell > 0 then r.dwell - 1 else r.dwell
  let d' := if zdwell > 0 ∧ Flt.eq yn' 0 ∧ ¬ Flt.eq y 0 ∧ ¬ Flt.eq target 0 then zdwell else d
  (⟨yn', d'⟩, Flt.div (Flt.sub yn' y) t)

/-- The position profile of R136 at one latch. The position is kept in units of 2^-32 rev (assumption 26). -/
def profStep (t amax jmax vmaxs : F32) (target : BitVec 48) (r : RampSt) : RampSt :=
  let d := posF (target - r.py)
  let ad := Flt.abs d
  if Flt.le ad (Flt.mul (Flt.abs r.pv) t) ∧ Flt.le (Flt.abs r.pv) (Flt.mul amax t) then { r with py := target, pv := 0, pa := 0 }
  else
    let vdes := Flt.copysign (Flt.min vmaxs (Flt.sqrt (Flt.mul (Flt.dbl amax) ad))) d
    let ades := Flt.clamp (Flt.div (Flt.sub vdes r.pv) t) (Flt.neg amax) amax
    let j := Flt.mul jmax t
    let a := Flt.add r.pa (Flt.clamp (Flt.sub ades r.pa) (Flt.neg j) j)
    let v := Flt.add r.pv (Flt.mul a t)
    { r with pa := a, pv := v, py := r.py + BitVec.ofInt 48 (Flt.toSat (Flt.mul v t) 4294967296 1 48) }

/-- The ramp state at its first latch, from the measured values of the latched KIND (R137). -/
def rampInit (s : State) (a k : Nat) : RampSt :=
  let m := fun (o : Nat) => rd32 s (rbBase a + o)
  let base : RampSt := { init := false, kind := k }
  match k with
  | 1 => { base with r1 := ⟨m 0x28, 0⟩ }
  | 2 => { base with r1 := ⟨m 0x08, 0⟩, r2 := ⟨m 0x0C, 0⟩ }
  | 3 => { base with r1 := ⟨useSpd s a, 0⟩ }
  | 4 => { base with py := usePos s a, pv := useSpd s a, pa := 0 }
  | _ => base
/-- The demand of axis a ramped at its latch (R135, R136). -/
def rampAxis (a : Nat) (s : State) : State :=
  let k := kindOf s a
  let r0 := (s.ax a).ramp
  let r := if r0.init ∨ r0.kind ≠ k then rampInit s a k else r0
  let t := s.tSec
  let rate := prm s a 0x888
  let zd := (prm s a 0x894).toNat
  let tg := targets s a
  let r := if k = 4 then
      let y := profStep t (prm s a 0x88C) (prm s a 0x890) (prm s a 0x884) (posTarget (s.ax a).sp) r
      { y with aref := 0, act := decide (y.py ≠ posTarget (s.ax a).sp), zeroTgt := false }
    else if k = 0 then { r with aref := 0, act := false, zeroTgt := true }
    else
      let a1 := rampStep t rate zd tg.1 r.r1
      let a2 := if k = 2 then rampStep t rate zd tg.2 r.r2 else (r.r2, 0)
      { r with
        r1 := a1.1, r2 := a2.1, aref := a1.2,
        act := !Flt.eq a1.1.y tg.1 || (k = 2 && !Flt.eq a2.1.y tg.2), zeroTgt := Flt.eq tg.1 0 && Flt.eq tg.2 0 }
  let s := modAx a (fun x => { x with ramp := r }) s
  wrB (F.LE_AX_STAT_DWELL a) (decide (r.r1.dwell > 0 ∨ (k = 2 ∧ r.r2.dwell > 0))) (wrB (F.LE_AX_STAT_RAMPACT a) r.act s)
/-- The output of the ramp is zero (R182). -/
def rampZero (s : State) (a : Nat) : Bool :=
  let r := (s.ax a).ramp
  match kindOf s a with
  | 0 => true
  | 2 => Flt.eq r.r1.y 0 && Flt.eq r.r2.y 0
  | 4 => false
  | _ => Flt.eq r.r1.y 0

/-- The closed loop begins (R184): the angle source is the one given. -/
def closeLoop (a src : Nat) (s : State) : State :=
  wr (F.LE_AX_STATE_ANGSRC a) src (wr (F.LE_AX_STATE_STEP a) 0 (modAx a (fun x => { x with closed := true, closedRan := false }) s))
/-- The wait of start path P1 ends at the snapshot that carries POSVALID and SPDVALID (Table 7.2). -/
def p1Wait (a : Nat) (s : State) : State :=
  let x := s.ax a
  if axState s a = 3 ∧ x.path = 1 ∧ ¬ x.closed ∧ rd s (F.LE_AX_STATE_STEP a) = 0 ∧ inPosValid s a ∧ inSpdValid s a ∧ ¬ inFailed s a then
    closeLoop a 0 s
  else s
/-- The ramp of axis a runs: in START once the closed loop runs, in RUN and in DEGRADED (R137, R184). -/
def rampRuns (s : State) (a : Nat) : Bool :=
  axType s a ≠ 7 && (axState s a == 4 || axState s a == 5 || (axState s a == 3 && (s.ax a).closed))
/-- Δ of R100: interpolation steps from the last update of the observer grid to S_t. -/
def obsDelta (s : State) (t : Nat) : Nat := (s.dev.grid + 16 * rd s (F.STR_TEAM_CFG_SPHASE t)) % 12800
/-- SAMPLE_PHASE (R39, R100, R120, R135): at S_t the snapshots of team t are taken and the set-points latched and ramped. -/
def execSamplePhase (t : TeamNo) (s : State) : Host.Outcome State Fault Refusal :=
  if armedOn s ∧ t.val < s.nTeams then
    let s := snapTeam t (obsDelta s t) s
    done (each (fun a s =>
      if axType s a = 7 then s else
      let s := p1Wait a (latchSetP a s)
      if rampRuns s a then rampAxis a s else s) (teamAxes s t) s)
  else unmet s

end Sys2Proof.Machine
end

