-- ==== Sys2Proof/Machine/CurrentLaw.lean ====
section
/-! DEFINITION. The arithmetic of the loop engine (R112, R122 to R136, R151, R152, R175): transforms, gain interpolation, the current
laws, the outer loops and the estimator, as functions of plain values. -/
namespace Sys2Proof.Machine
open Sys2Proof

/-- A pair of components: (α, β), (d, q) or (x, y). -/
abbrev V2 := F32 × F32

/-- √3 in binary32. -/
def sqrt3 : F32 := 0x3fddb3d7
/-- iα and iβ of R122. -/
def clarke (a b c : F32) : V2 := (Flt.div (Flt.sub (Flt.sub (Flt.dbl a) b) c) 0x40400000, Flt.div (Flt.sub b c) sqrt3)
/-- The vector turned by an angle given by its cosine and sine. -/
def rot (c sn : F32) (v : V2) : V2 :=
  (Flt.sub (Flt.mul v.1 c) (Flt.mul v.2 sn), Flt.add (Flt.mul v.1 sn) (Flt.mul v.2 c))
/-- id and iq of R122: the vector turned back by an angle. -/
def park (c sn : F32) (v : V2) : V2 :=
  (Flt.add (Flt.mul v.1 c) (Flt.mul v.2 sn), Flt.sub (Flt.mul v.2 c) (Flt.mul v.1 sn))
/-- The sum and the difference of two vectors, halved. -/
def half (f : F32 → F32 → F32) (a b : F32) : F32 := Flt.mul 0x3f000000 (f a b)
/-- Cosine and sine of σ of R125. -/
def sigma (shift : Bool) : V2 := if shift then (0x3f5db3d7, 0x3f000000) else (Flt.one, 0)
/-- Three phase quantities with at most one unknown, which is minus the sum of the others (R117). -/
def fill3 : List (Option F32) → F32 × F32 × F32
  | [some a, some b, some c] => (a, b, c)
  | [none, some b, some c] => (Flt.neg (Flt.add b c), b, c)
  | [some a, none, some c] => (a, Flt.neg (Flt.add a c), c)
  | [some a, some b, none] => (a, b, Flt.neg (Flt.add a b))
  | _ => (0, 0, 0)
/-- The same for VALUEs (R154). -/
def fill3I : List (Option Int) → List Int
  | [some a, some b, some c] => [a, b, c]
  | [none, some b, some c] => [-(b + c), b, c]
  | [some a, none, some c] => [a, -(a + c), c]
  | [some a, some b, none] => [a, b, -(a + b)]
  | _ => [0, 0, 0]
/-- (iα, iβ) of a set. -/
def setAB (l : List (Option F32)) : V2 := let (a, b, c) := fill3 l; clarke a b c

/-- The coefficients of R119 and R134. -/
structure Coef where
  kpd : F32
  kid : F32
  kpq : F32
  kiq : F32
  ld : F32
  lq : F32
  psi : F32
  rs : F32
  deriving DecidableEq, Repr
/-- The cell and fraction of R134 in one variable, and whether the variable lies outside its nodes; with one node it does not (assumption 157). -/
def locate (nodes : List F32) (x : F32) : Nat × F32 × Bool :=
  match nodes with
  | [] | [_] => (0, 0, false)
  | g0 :: rest =>
    let n := rest.length + 1
    let last := rest.getLast?.getD 0
    if Flt.le x g0 then (0, 0, Flt.lt x g0)
    else if Flt.le last x then (n - 2, Flt.one, Flt.lt last x)
    else
      let i := ((List.range n).filter fun i => Flt.le (nodes.getD i 0) x).getLast?.getD 0
      let gi := nodes.getD i 0
      (i, Flt.div (Flt.sub x gi) (Flt.sub (nodes.getD (i + 1) 0) gi), false)
/-- The interpolation of R134: a term of zero weight is not read. -/
def interp (node : Nat → Nat → F32) (ix iy : Nat) (fx fy : F32) : F32 :=
  let gx := Flt.sub Flt.one fx
  let gy := Flt.sub Flt.one fy
  let term := fun (w v : F32) (acc : F32) => if Flt.isZero w then acc else Flt.add acc (Flt.mul w v)
  term (Flt.mul fx fy) (node (ix + 1) (iy + 1)) (term (Flt.mul gx fy) (node ix (iy + 1))
    (term (Flt.mul fx gy) (node (ix + 1) iy) (term (Flt.mul gx gy) (node ix iy) 0)))

/-- What a current law gives: integrators, voltages before and after limiting, and what acted. -/
structure LawOut where
  fd : F32
  fq : F32
  vdu : F32
  vqu : F32
  vd : F32
  vq : F32
  vlim : Bool
  satd : Bool
  satq : Bool
  deriving DecidableEq, Repr
/-- The limiting of R123 with d-axis priority. -/
def limitV (vmax vdu vqu : F32) : V2 :=
  let vd := Flt.clamp vdu (Flt.neg vmax) vmax
  let m := Flt.sqrt (Flt.sub (Flt.mul vmax vmax) (Flt.mul vd vd))
  (vd, Flt.clamp vqu (Flt.neg m) m)
/-- The PI law of R123 with decoupling `we`. -/
def piLaw (t : F32) (c : Coef) (dlim qlim vmax we : F32) (i r : V2) (fd fq : F32) : LawOut :=
  let ed := Flt.sub r.1 i.1
  let eq := Flt.sub r.2 i.2
  let idn := Flt.clamp (Flt.add fd (Flt.mul (Flt.mul c.kid t) ed)) (Flt.neg dlim) dlim
  let iqn := Flt.clamp (Flt.add fq (Flt.mul (Flt.mul c.kiq t) eq)) (Flt.neg qlim) qlim
  let vdu := Flt.sub (Flt.add (Flt.mul c.kpd ed) idn) (Flt.mul (Flt.mul we c.lq) i.2)
  let vqu := Flt.add (Flt.add (Flt.mul c.kpq eq) iqn) (Flt.mul we (Flt.add (Flt.mul c.ld i.1) c.psi))
  let v := limitV vmax vdu vqu
  let ld := !Flt.eq v.1 vdu
  let lq := !Flt.eq v.2 vqu
  let sd := ld && Flt.lt 0 (Flt.mul ed vdu)
  let sq := lq && Flt.lt 0 (Flt.mul eq vqu)
  ⟨if sd then fd else idn, if sq then fq else iqn, vdu, vqu, v.1, v.2, ld || lq, sd, sq⟩
/-- The predictive deadbeat law of R124 with the limiting of R123. -/
def deadbeat (t : F32) (c : Coef) (dbg vmax we : F32) (i r vp : V2) (fd fq : F32) : LawOut :=
  let idp := Flt.add i.1 (Flt.mul (Flt.div t c.ld)
    (Flt.add (Flt.sub vp.1 (Flt.mul c.rs i.1)) (Flt.mul (Flt.mul we c.lq) i.2)))
  let iqp := Flt.add i.2 (Flt.mul (Flt.div t c.lq)
    (Flt.sub (Flt.sub vp.2 (Flt.mul c.rs i.2)) (Flt.mul we (Flt.add (Flt.mul c.ld i.1) c.psi))))
  let vdu := Flt.add (Flt.sub (Flt.mul c.rs idp) (Flt.mul (Flt.mul we c.lq) iqp))
    (Flt.mul (Flt.mul dbg (Flt.div c.ld t)) (Flt.sub r.1 idp))
  let vqu := Flt.add (Flt.add (Flt.mul c.rs iqp) (Flt.mul we (Flt.add (Flt.mul c.ld idp) c.psi)))
    (Flt.mul (Flt.mul dbg (Flt.div c.lq t)) (Flt.sub r.2 iqp))
  let v := limitV vmax vdu vqu
  ⟨fd, fq, vdu, vqu, v.1, v.2, !Flt.eq v.1 vdu || !Flt.eq v.2 vqu, false, false⟩
/-- The scalar PI law of R126: voltage before limiting, voltage, integrator, and whether it was held. -/
def scalarLaw (t kp ki lim lo hi ff i r f : F32) : LawOut :=
  let e := Flt.sub r i
  let n := Flt.clamp (Flt.add f (Flt.mul (Flt.mul ki t) e)) (Flt.neg lim) lim
  let vu := Flt.add (Flt.add (Flt.mul kp e) n) ff
  let v := Flt.clamp vu lo hi
  let l := !Flt.eq v vu
  let sd := l && Flt.lt 0 (Flt.mul e vu)
  ⟨0, if sd then f else n, 0, vu, 0, v, l, sd, false⟩

/-- 2/√3, the end of the linear range (R151). -/
def uLin : F32 := Flt.div 0x40000000 sqrt3
/-- 4/π × (1 − 2^-10), where six-step begins (R152). -/
def uSix : F32 := Flt.ofRat (4 * 1023 * Flt.piScale) (1024 * Flt.piFix)
/-- The cosine and the min-max function ua + u0 of R151 for a unit vector at (2k + 1)/360 of a right angle, on a 2^-30 grid. -/
def quarter : List (Int × Int) :=
  (List.range 180).map fun k =>
    let c := fun (n : Int) => (let x := n * Flt.twoPiFix / 1440; Flt.taylor (Flt.fmul x x) 24 0 (2 ^ 96)) / 2 ^ 66
    let a := c (2 * k + 1)
    let b := c ((2 * k + 1 : Int) - 480)
    let d := c ((2 * k + 1 : Int) + 480)
    (a, a - (max a (max b d) + min a (min b d)) / 2)
/-- The fundamental of the leg voltage that the clamp of R151 leaves of a vector of magnitude `m` (both in units of 2^-30), by the midpoint
rule over a quarter of the period (R152; assumption 27). -/
def fundamental (m : Int) : Int :=
  (quarter.map fun q => (min (2 ^ 30) (m * q.2 / 2 ^ 30)) * q.1 / 2 ^ 30).sum / 90
/-- A scaled magnitude has a fundamental within 0.5 % of the wanted one (R152). -/
def gainFits (want m : Int) : Bool := decide ((fundamental m - want).natAbs * 200 ≤ want.natAbs)
/-- The magnitude, found bit by bit, whose fundamental reaches the wanted one. -/
def gainGo (want : Int) : Nat → Int → Int
  | 0, m => m
  | i + 1, m => gainGo want i (if fundamental (m + 2 ^ i) ≤ want then m + 2 ^ i else m)
/-- The gain of R152 for the magnitude `m`: the device's table where it keeps the 0.5 % of R152, else the gain that meets it (assumption
27). -/
def ovmGain (m : F32) : F32 :=
  let want := Flt.fix m / 2 ^ 66
  let raw := Config.ovmGain m
  if Flt.finite raw ∧ gainFits want (Flt.fmul (Flt.fix raw) (Flt.fix m) / 2 ^ 66) then raw
  else Flt.ofRat (gainGo want 34 0) want.toNat
/-- The three duties of R151 for a normalised vector, with the gain of R152; the second part tells whether the gain exceeds 1. -/
def svm (ovm : Bool) (u : V2) : List F32 × Bool :=
  let m := Flt.hypot u.1 u.2
  let ovr := ovm && Flt.lt uLin m
  let six := ovm && Flt.le uSix m
  let g := if ovr && !six then ovmGain m else Flt.one
  let ua := Flt.mul g u.1
  let ub := Flt.mul g u.2
  let p := Flt.mul 0xbf000000 ua
  let q := Flt.mul 0x3f5db3d7 ub
  let xs := [ua, Flt.add p q, Flt.sub p q]
  let mx := Flt.max (xs.getD 0 0) (Flt.max (xs.getD 1 0) (xs.getD 2 0))
  let mn := Flt.min (xs.getD 0 0) (Flt.min (xs.getD 1 0) (xs.getD 2 0))
  let u0 := Flt.neg (Flt.div (Flt.add mx mn) 0x40000000)
  let d := fun (x : F32) =>
    let w := Flt.add x u0
    if six then (if Flt.lt 0 w then Flt.one else 0)
    else Flt.clamp (Flt.add 0x3f000000 (Flt.mul 0x3f000000 w)) 0 Flt.one
  (xs.map d, six || (ovr && Flt.lt Flt.one g))

/-- The references of R127 for a torque demand already clamped: (idr, iqr) and whether the current circle acted. -/
def torqueRefs (ktf polep imax idPrev tstar : F32) (c : Coef) (idfw : Option F32) : V2 × Bool :=
  let iqr := Flt.div tstar (Flt.mul (Flt.mul ktf polep) (Flt.add c.psi (Flt.mul (Flt.sub c.ld c.lq) idPrev)))
  let dl := Flt.sub c.lq c.ld
  let idm := if Flt.lt (Flt.abs dl) 0x3089705f then 0 else
    Flt.div (Flt.sub c.psi (Flt.sqrt (Flt.add (Flt.mul c.psi c.psi)
      (Flt.mul (Flt.mul (Flt.mul (Flt.mul 0x40800000 dl) dl) iqr) iqr)))) (Flt.dbl dl)
  let idr := match idfw with
    | some f => Flt.min idm f
    | none => idm
  let idr := Flt.clamp idr (Flt.neg imax) 0
  let iqm := Flt.sqrt (Flt.sub (Flt.mul imax imax) (Flt.mul idr idr))
  if Flt.lt iqm (Flt.abs iqr) then ((idr, Flt.copysign iqm iqr), true) else ((idr, iqr), false)
/-- The current references of KIND 2 limited to the circle with d priority (R127). -/
def circle (imax : F32) (r : V2) : V2 × Bool :=
  let idr := Flt.clamp r.1 (Flt.neg imax) imax
  let iqm := Flt.sqrt (Flt.sub (Flt.mul imax imax) (Flt.mul idr idr))
  let iqr := Flt.clamp r.2 (Flt.neg iqm) iqm
  ((idr, iqr), !Flt.eq idr r.1 || !Flt.eq iqr r.2)
/-- TEST of R127 for a machine. -/
def torqueOf (ktf polep : F32) (c : Coef) (i : V2) : F32 :=
  Flt.mul (Flt.mul ktf polep) (Flt.add (Flt.mul c.psi i.2) (Flt.mul (Flt.mul (Flt.sub c.ld c.lq) i.1) i.2))

/-- leakcomp of R175: the magnitude raised by √(1 + (ESTWC/w)²) and the vector turned by −atan(ESTWC/|w|) × sign(w), the turn formed
from its tangent (assumption 28); at w = 0 the sign is 0 and nothing turns. -/
def leakcomp (wc w : F32) (v : V2) : V2 :=
  let aw := Flt.max (Flt.abs w) wc
  let r := Flt.div wc aw
  let g := Flt.sqrt (Flt.add Flt.one (Flt.mul r r))
  let c := Flt.div Flt.one g
  let sn := Flt.copysign (Flt.div r g) w
  let u := if Flt.isZero w then v else park c sn v
  (Flt.mul g u.1, Flt.mul g u.2)
/-- One stride of the estimator of R175: `i` the αβ currents, `id` the d current of R122 at the angle in use. -/
def estimate (t wb wc tol : F32) (c : Coef) (i : V2) (id : F32) (x : Eng) : Eng :=
  let psa := Flt.add x.psa (Flt.mul t (Flt.sub (Flt.sub x.va (Flt.mul c.rs i.1)) (Flt.mul wc x.psa)))
  let psb := Flt.add x.psb (Flt.mul t (Flt.sub (Flt.sub x.vb (Flt.mul c.rs i.2)) (Flt.mul wc x.psb)))
  let pc := leakcomp wc x.ew (psa, psb)
  let fa := Flt.sub pc.1 (Flt.mul c.lq i.1)
  let fb := Flt.sub pc.2 (Flt.mul c.lq i.2)
  let e := Flt.wrap (Flt.sub (Flt.atan2 fb fa) x.eth)
  let w := Flt.add x.ew (Flt.mul (Flt.mul (Flt.mul t wb) wb) e)
  let th := Flt.wrap (Flt.add x.eth (Flt.mul t (Flt.add w (Flt.mul (Flt.dbl wb) e))))
  let fexp := Flt.add c.psi (Flt.mul (Flt.sub c.ld c.lq) id)
  let ok := Flt.lt (Flt.abs e) 0x3dcccccd && Flt.lt (Flt.abs (Flt.sub (Flt.hypot fa fb) fexp)) (Flt.mul tol fexp)
  { x with psa := psa, psb := psb, eth := th, ew := w, eerr := e, ecnt := if ok then (if x.ecnt < 32 then x.ecnt + 1 else 32) else 0 }
/-- An angle in radians as units of 2^-32 rev. -/
def angU32 (th : F32) : Word := if Flt.finite th then BitVec.ofInt 32 (Flt.roundAway (Flt.fix th * 4294967296) (2 * Flt.piFix / 2 ^ 30)) else 0

end Sys2Proof.Machine
end

