-- ==== Sys2Proof/Machine/Engine.lean ====
section
/-! DEFINITION. LOOP_ENGINE_RUN: the static schedule of a team's axes in one stride (R113, R114), its steps of START (R184 to R188), the
fallback of R190, the readback record (R121) and the check of R138. -/
namespace Sys2Proof.Machine
open Sys2Proof

/-- A VALUE of a channel as the engine's binary32 quantity (R68). -/
def chanQty (s : State) (n : Nat) (v : Int) : F32 := Flt.mul (Flt.ofInt v) (rdW s (F.SNS_CH_LSB_LSB n))
/-- The engine's quantity of a channel in this stride. -/
def qtyOf (s : State) (n : Nat) : F32 := chanQty s n (useVal s n)
/-- The DC-link voltage of axis a (R64). -/
def axVdc (s : State) (a : Nat) : F32 :=
  match vdcChan s (a / 4) (rd s (F.LE_AX_CFG_DCL a)) with
  | some n => qtyOf s n
  | none => 0
/-- The partner's value number i of a spanned lead, on the scale of the lead's own channel of that place, or where the lead's leg has
none, of the first of its legs that has one (assumption 29). -/
def spanQty (s : State) (a i : Nat) (own : Option Nat) (all : List (Option Nat)) : Option F32 :=
  let sp := (s.ax a).span
  match own.or (all.findSome? id) with
  | some n => if bit sp.mask i then some (chanQty s n (sp.vals.getD i 0)) else none
  | none => none
/-- The phase currents of the halves of axis a: its own legs, and the partner's for a spanned lead. -/
def legCurs (s : State) (a : Nat) : List (Option F32) := (axLegs s a).map fun n => (curChan s n).map (qtyOf s)
def spanCurs (s : State) (a : Nat) : List (Option F32) :=
  (axLegs s a).zipIdx.map fun p => spanQty s a p.2 (curChan s p.1) ((axLegs s a).map (curChan s))
/-- The leg voltages of axis a (R186). -/
def legVolts (s : State) (a : Nat) : List (Option F32) := (axLegs s a).map fun n => (voltChan s n).map (qtyOf s)
def spanVolts (s : State) (a : Nat) : List (Option F32) :=
  (axLegs s a).zipIdx.map fun p => spanQty s a (6 + p.2) (voltChan s p.1) ((axLegs s a).map (voltChan s))
/-- The phase-current VALUE of each leg of axis a, derived where a leg has no channel (R117, R154). -/
def legVals (s : State) (a : Nat) : List Int :=
  let vs := (axLegs s a).map fun n => (curChan s n).map (useVal s)
  let ty := axType s a
  if ty = 3 ∨ ty = 5 then (let i := (vs.getD 0 none).getD 0; [i, -i])
  else if ty = 4 then [(vs.getD 0 none).getD 0]
  else if ty = 1 then fill3I vs else fill3I (vs.take 3) ++ fill3I (vs.drop 3)
/-- The winding set of axis a that R161 row 3 has opened: 1 or 2, 0 for none. -/
def openSet (s : State) (a : Nat) : Nat :=
  if isSet s (F.MOD_AX_STAT_DEG a) then
    match axLegs s a with
    | n :: _ => if (s.leg n).blk then 1 else 2
    | [] => 0
  else 0
/-- The torque subspace and the harmonic subspace of a half (R122, R125). -/
def subspaces (six : Bool) (shift : Bool) (opened : Nat) (l : List (Option F32)) : V2 × V2 :=
  if six then
    let u := setAB (l.take 3)
    let cs := sigma shift
    let r := rot cs.1 cs.2 (setAB (l.drop 3))
    if opened = 1 then (r, (0, 0)) else if opened = 2 then (u, (0, 0)) else
    ((half Flt.add u.1 r.1, half Flt.add u.2 r.2),
      (half Flt.sub u.1 r.1, if shift then half Flt.sub r.2 u.2 else half Flt.sub u.2 r.2))
  else (setAB l, (0, 0))
/-- The axis is a machine (TYPE 1, 2 or 6). -/
def isMachine (s : State) (a : Nat) : Bool := let t := axType s a; t == 1 || t == 2 || t == 6
/-- KTF of R127 for the sets that the engine controls. -/
def ktfOf (s : State) (a : Nat) : F32 :=
  let n := match axType s a with
    | 2 => if openSet s a = 0 then 2 else 1
    | 6 => 4
    | _ => 1
  Flt.mul 0x3fc00000 (Flt.ofNat n)
/-- POLEP in binary32. -/
def polepF (s : State) (a : Nat) : F32 := Flt.ofNat (rd s (F.LE_AX_MOTOR_POLEP a))
/-- The field current of a MACH 1 stator in this stride (R129). -/
def fieldCur (s : State) (e : Nat) : F32 :=
  match axLegs s e with
  | n :: _ => match curChan s n with
    | some c => qtyOf s c
    | none => 0
  | [] => 0

/-- The torque limits in force (R120): upper, lower. -/
def torqueLims (s : State) (a : Nat) : V2 :=
  let p := (s.ax a).sp
  let hi := Flt.min (prm s a 0x844) p.tlimp
  let lo := Flt.max (prm s a 0x848) p.tlimn
  if axState s a = 5 then (let d := prm s a 0x84C; (Flt.min hi d, Flt.max lo (Flt.neg d))) else (hi, lo)
/-- The winding path of a discharge switches axis a in this stride (R192). -/
def windsNow (s : State) (a : Nat) : Bool := (s.ax a).winding && !(s.ax a).windPre
/-- The closed loop runs on axis a in this stride (R137, R184). -/
def loopRuns (s : State) (a : Nat) : Bool :=
  axState s a == 4 || axState s a == 5 || (axState s a == 3 && (s.ax a).closed)
/-- The current loop of axis a runs in this stride: closed, in a start step that drives the current, or in a discharge. -/
def ctlRuns (s : State) (a : Nat) : Bool :=
  let st := rd s (F.LE_AX_STATE_STEP a)
  loopRuns s a || windsNow s a ||
  (axState s a == 3 && !(s.ax a).brkEnd && (st == 3 || st == 4 || st == 5 || st == 6))

/-- The electrical angle and speed that the engine uses in this stride, in rad and rad/s (R122, R171, R174, R185, R188), and the angle
in units of 2^-32 electrical revolutions. -/
def angleNow (s : State) (a : Nat) : F32 × F32 × Word :=
  let x := s.ax a
  let sens :=
    let u : Word := BitVec.ofNat 32 (rd s (F.LE_AX_MOTOR_POLEP a) * (rd32 s (inBase a)).toNat + rd s (F.LE_AX_COMM_OFS a))
    (Flt.rad u, Flt.mul (Flt.mul Flt.twoPi (polepF s a)) (spdF (inSpd s a)), u)
  let ol := Flt.wrap (Flt.mul Flt.twoPi x.thol)
  if windsNow s a then sens else
  match angSrc s a with
  | 0 => sens
  | 1 => (x.eng.eth, x.eng.ew, angU32 x.eng.eth)
  | 2 => if rd s (F.LE_AX_STATE_STEP a) = 5 then (ol, Flt.mul Flt.twoPi x.wol, angU32 ol) else (0, 0, 0)
  | _ =>
    let th := Flt.add ol (Flt.mul (Flt.div (Flt.ofNat x.blend) 0x41800000) (Flt.wrap (Flt.sub x.eng.eth ol)))
    (th, Flt.mul Flt.twoPi x.wol, angU32 th)

/-- The position loop (R132). -/
def positionLoop (a : Nat) (s : State) : State :=
  let x := s.ax a
  if isSet s (F.LE_AX_CFG_PLEN a) ∧ kindOf s a = 4 ∧ loopRuns s a ∧ s.dev.count.toNat % 2 ^ rd s (F.LE_AX_CFG_PLDIV a) = 0 then
    let e := posF (x.ramp.py - usePos s a)
    let sff := if zeroDemand s a then 0 else spdF x.sp.sff.toInt
    let v := prm s a 0x884
    let w := Flt.clamp (Flt.add (Flt.add (Flt.mul (prm s a 0x880) e) x.ramp.pv) sff) (Flt.neg v) v
    modAx a (fun x => { x with eng := { x.eng with wref := w } }) s
  else s
/-- The speed loop (R131); the second part tells whether the torque was clamped, which holds with T* between its runs (R114, R130). -/
def speedLoop (a : Nat) (s : State) : State × Bool :=
  let x := s.ax a
  let k := kindOf s a
  let ds := 2 ^ rd s (F.LE_AX_CFG_SPDDIV a)
  if ¬ (isSet s (F.LE_AX_CFG_SPDEN a) ∧ (k = 3 ∨ k = 4) ∧ loopRuns s a) then (s, false)
  else if s.dev.count.toNat % ds = 0 then
    let wref := if k = 3 then x.ramp.r1.y else x.eng.wref
    let aref := if k = 3 then x.ramp.aref else 0
    let ew := Flt.sub wref (useSpd s a)
    let td := Flt.mul (Flt.ofNat ds) s.tSec
    let lim := prm s a 0x878
    let iwn := Flt.clamp (Flt.add x.eng.iw (Flt.mul (Flt.mul (prm s a 0x874) td) ew)) (Flt.neg lim) lim
    let tff := if x.zeroRamp then 0 else x.sp.tff
    let tu := Flt.add (Flt.add (Flt.add (Flt.mul (prm s a 0x870) ew) iwn) tff)
      (Flt.mul (Flt.mul (Flt.dbl (prm s a 0x87C)) Flt.pi) aref)
    let l := torqueLims s a
    let t := Flt.clamp tu l.2 l.1
    let cl := !Flt.eq t tu
    let hold := (cl || x.eng.tlim) && Flt.lt 0 (Flt.mul ew tu)
    (modAx a (fun x => { x with eng := { x.eng with wref := wref, tstar := t, tclamp := cl, iw := if hold then x.eng.iw else iwn } }) s, cl)
  else (s, x.eng.tclamp)
/-- T* of R127 before its clamp. -/
def tStar (s : State) (a : Nat) : F32 :=
  match kindOf s a with
  | 1 => (s.ax a).ramp.r1.y
  | 3 | 4 => (s.ax a).eng.tstar
  | _ => 0
/-- The current demand of a scalar axis before its clamp, for a torque demand `t` (R127, R129). -/
def scalarRef (s : State) (a : Nat) (t : F32) : F32 :=
  if kindOf s a = 2 then (s.ax a).ramp.r2.y
  else if axType s a = 3 then Flt.div t (prm s a 0x898)
  else match statorOf s a with
    | some b => (s.ax b).eng.iex
    | none => 0

/-- A grid coefficient of axis a (R119). -/
def gridAt (s : State) (a k ix iy : Nat) : F32 := prm s a (32 * (8 * iy + ix) + 4 * k)
/-- A scheduling variable of R134. Under KIND 3 and 4 the torque of variable 1 is the speed loop's output as R131 leaves it, clamped (assumption
158). An engine reads the channels of its own team alone (R18); what variable 3 is with a TEMPCH of
another team is open (assumption 115). -/
def schedVar (s : State) (a sel : Nat) (we : F32) : F32 :=
  match sel with
  | 0 => Flt.abs we
  | 1 => if !isMachine s a then Flt.abs (scalarRef s a (tStar s a))
    else if kindOf s a = 2 then Flt.hypot (s.ax a).ramp.r1.y (s.ax a).ramp.r2.y
    else Flt.div (Flt.abs (tStar s a)) (Flt.mul (Flt.mul (ktfOf s a) (polepF s a)) (gridAt s a 6 0 0))
  | 2 => axVdc s a
  | _ =>
    let n := rd s (F.LE_AX_MOTOR_TEMPCH a)
    if n / 24 = a / 4 then qtyOf s n else Config.foreignTemp a s.dev.count.toNat
/-- Gain schedule interpolation (R134), with PSI taken from the field current on a MACH 1 stator (R129). -/
def gainItem (a : Nat) (we : F32) (s : State) : Coef × State :=
  let nodes := fun (o n : Nat) => (List.range n).map fun i => prm s a (o + 4 * i)
  let gs := isSet s (F.LE_AX_CFG_GSEN a)
  let (ix, fx, ox) := if gs then locate (nodes 0x800 (rd s (F.LE_AX_GS_NX a))) (schedVar s a (rd s (F.LE_AX_GS_VARX a)) we) else (0, 0, false)
  let (iy, fy, oy) := if gs then locate (nodes 0x820 (rd s (F.LE_AX_GS_NY a))) (schedVar s a (rd s (F.LE_AX_GS_VARY a)) we) else (0, 0, false)
  let g := fun k => interp (gridAt s a k) ix iy fx fy
  let psi := match exciterOf s a with
    | some e => Flt.mul (prm s a 0x86C) (fieldCur s e)
    | none => g 6
  (⟨g 0, g 1, g 2, g 3, g 4, g 5, psi, g 7⟩,
    wr (F.LE_AX_STAT_CELLX a) ix s |> wr (F.LE_AX_STAT_CELLY a) iy |> wrB (F.LE_AX_STAT_GSOUT a) (ox || oy))

/-- The torque-subspace currents of axis a: of its own legs, and for a spanned lead the mean of both halves. -/
def torqueAB (s : State) (a : Nat) (own span : List (Option F32)) : V2 :=
  let sh := isSet s (F.LE_AX_CFG_SHIFT a)
  let u := (subspaces (axType s a ≠ 1) sh (openSet s a) own).1
  if axType s a = 6 then
    let v := (subspaces true sh 0 span).1
    (half Flt.add u.1 v.1, half Flt.add u.2 v.2)
  else u
/-- The estimator item (R175), with the counters of R191; `th` is the electrical angle in use. -/
def estimatorItem (a : Nat) (c : Coef) (th : F32) (s : State) : State :=
  if isSet s (F.LE_AX_CFG_SLEN a) ∧ isMachine s a then
    let i := torqueAB s a (legCurs s a) (spanCurs s a)
    let x := s.ax a
    let id := (park (Flt.cos th) (Flt.sin th) i).1
    let wb := Flt.mul Flt.twoPi (prm s a 0x8AC)
    let en := estimate s.tSec wb (prm s a 0x8B0) (prm s a 0x8B4) c i id x.eng
    let s := wrB (F.LE_AX_STATE_ESTCONV a) (en.ecnt ≥ 32) (modAx a (fun x => { x with eng := en }) s)
    let on := angSrc s a = 1 ∧ (axState s a = 4 ∨ axState s a = 5)
    let low := Flt.lt (Flt.abs (estSpd s a)) (Flt.mul 0x3f400000 (prm s a 0x8B8))
    modAx a (fun x => { x with
      estClr := if on ∧ en.ecnt < 32 then x.estClr + 1 else 0,
      estLow := if on ∧ low ∧ ¬ x.ramp.zeroTgt then x.estLow + 1 else 0 }) s
  else s
/-- The voltage limit VMAX of axis a (R122, R152). -/
def vmaxOf (s : State) (a : Nat) : F32 :=
  Flt.div (Flt.mul (Flt.ofRat (rd s (F.MOD_AX_CFG_MMAX a)) 32768) (axVdc s a)) 0x40000000
/-- Flux weakening (R128, R129). -/
def fluxItem (a : Nat) (s : State) : State :=
  let x := s.ax a
  let st := (exciterOf s a).isSome
  let x' := if isSet s (F.LE_AX_CFG_FWEN a) ∧ ctlRuns s a then
      let d := Flt.mul (Flt.mul (prm s a 0x85C) (Flt.sub x.eng.vmagu (Flt.mul (prm s a 0x860) (vmaxOf s a)))) s.tSec
      if st then { x.eng with lam := Flt.clamp (Flt.sub x.eng.lam d) (prm s a 0x864) Flt.one }
      else { x.eng with idfw := Flt.clamp (Flt.sub x.eng.idfw d) (prm s a 0x864) 0 }
    else x.eng
  let act := if st then Flt.lt x'.lam Flt.one else Flt.lt x'.idfw 0
  wrB (F.LE_AX_STAT_FWACT a) act
    (modAx a (fun x => { x with eng := { x' with iex := if st then Flt.mul (prm s a 0x868) x'.lam else 0 } }) s)

/-- The voltages of one half: its law, its αβ voltage, its set voltages, its harmonic currents and their unlimited voltages (R122 to R125). -/
structure HalfOut where
  law : LawOut
  frame : Frame
  ab : V2
  sets : List V2
  xy : V2
  xyu : V2
  deriving DecidableEq, Repr
/-- The law of one half with the references `r`, the currents `tq` and `xy`, θe and θv given by cosine and sine. The harmonic currents are
turned by −θe (R125), and their voltage back by −θv (assumption 169). -/
def halfLaw (s : State) (a : Nat) (c : Coef) (vmax we : F32) (th thv : V2) (r : V2) (tq xy : V2) (six : Bool) (opened : Nat) (f : Frame) :
    HalfOut :=
  let t := s.tSec
  let sh := isSet s (F.LE_AX_CFG_SHIFT a)
  let two := six && opened = 0
  -- the frame of the harmonic subspace is turned by −θe
  let hxy := park th.1 (Flt.neg th.2) xy
  let cxy : Coef := ⟨prm s a 0x8A0, prm s a 0x8A4, prm s a 0x8A0, prm s a 0x8A4, 0, 0, 0, 0⟩
  let lx := prm s a 0x8A8
  let ox := piLaw t cxy lx lx (Flt.div vmax 0x41000000) 0 hxy (0, 0) f.x f.y
  let mxy := if two then Flt.hypot ox.vd ox.vq else 0
  let vm := Flt.sub vmax mxy
  let i := park th.1 th.2 tq
  let o := if isSet s (F.LE_AX_CFG_LAW a) then deadbeat t c (prm s a 0x858) vm we i r (f.vd, f.vq) f.d f.q
    else piLaw t c (prm s a 0x850) (prm s a 0x854) vm we i r f.d f.q
  let v := rot thv.1 thv.2 (o.vd, o.vq)
  let fr : Frame := { d := o.fd, q := o.fq, x := if two then ox.fd else f.x, y := if two then ox.fq else f.y, vd := o.vd, vq := o.vq }
  let cs := sigma sh
  let sets := if ¬ six then [v]
    else if opened ≠ 0 then [v, park cs.1 cs.2 v]
    else
      let w := rot thv.1 (Flt.neg thv.2) (ox.vd, ox.vq)
      let b1 := if sh then Flt.sub v.2 w.2 else Flt.add v.2 w.2
      let b2 := if sh then Flt.add v.2 w.2 else Flt.sub v.2 w.2
      [(Flt.add v.1 w.1, b1), park cs.1 cs.2 (Flt.sub v.1 w.1, b2)]
  ⟨o, fr, v, sets, xy, if two then (ox.vdu, ox.vqu) else (0, 0)⟩

/-- The current references of axis a in this stride (R127, R185, R187, R188, R192): the references, ILIM and TLIM. -/
def refsNow (s : State) (a : Nat) (c : Coef) (tclamp : Bool) : V2 × Bool × Bool :=
  let x := s.ax a
  let l := torqueLims s a
  let imax := prm s a 0x840
  if windsNow s a then ((Flt.neg (prm s a 0x8F4), 0), false, false)
  else if ¬ loopRuns s a then
    match rd s (F.LE_AX_STATE_STEP a) with
    | 4 =>
      -- linear over TALIGN / 4, then held (R185)
      let num := 4 * x.stepCnt * s.per
      let den := (prm s a 0x8D4).toNat * 800000
      let ia := prm s a 0x8C4
      ((if num ≥ den then ia else Flt.mul ia (Flt.ofRat num den), 0), false, false)
    | 3 =>
      let iq := Flt.copysign (prm s a 0x8D0) (Flt.neg x.eng.ew)
      let k := Flt.mul (Flt.mul (ktfOf s a) (polepF s a)) c.psi
      let t := Flt.mul k iq
      let tc := Flt.clamp t l.2 l.1
      if Flt.eq tc t then ((0, iq), false, false) else ((0, Flt.div tc k), false, true)
    | _ => ((0, if x.forward then prm s a 0x8C8 else Flt.neg (prm s a 0x8C8)), false, false)
  else if kindOf s a = 2 then
    let (r, lim) := circle imax (x.ramp.r1.y, x.ramp.r2.y)
    (r, lim, !Flt.eq r.2 x.ramp.r2.y)
  else
    let t0 := tStar s a
    let t := Flt.clamp t0 l.2 l.1
    let cl := tclamp || !Flt.eq t t0
    let (r, lim) := torqueRefs (ktfOf s a) (polepF s a) imax x.eng.idPrev t c
      (if isSet s (F.LE_AX_CFG_FWEN a) ∧ (exciterOf s a).isNone then some x.eng.idfw else none)
    (r, lim, cl || lim)

/-- What the slot of an axis writes into its readback record. -/
structure Meas where
  i : V2 := (0, 0)
  xy : V2 := (0, 0)
  test : F32 := 0
  deriving DecidableEq, Repr
/-- A value that R138 checks, with its schedule item. -/
abbrev Check := Nat × F32
/-- What the current loop of an axis did: the state with integrators, flags and references, the staged duties by place, the partner's
duties, and the values to check. -/
structure LoopOut where
  st : State
  duties : List F32
  partner : List F32
  checks : List Check

/-- The current loop of a machine axis (R122 to R127, R139, R151). The partner half of a spanned axis is limited with the lead's VMAX and
normalised with its own link voltage, and the readback shows the lead's half but for VMAGU (assumption 159). -/
def machineLoop (a : Nat) (c : Coef) (ang : F32 × F32) (tclamp : Bool) (s : State) : LoopOut :=
  let x := s.ax a
  let (th, we) := ang
  let ty := axType s a
  let six := ty ≠ 1
  let sh := isSet s (F.LE_AX_CFG_SHIFT a)
  let op := openSet s a
  let (r, ilim, tlim) := refsNow s a c tclamp
  let vmax := vmaxOf s a
  let dv := Flt.ofRat (2 * ((rd s (F.STR_TEAM_UPD_UPHASE (a / 4)) : Int) - rd s (F.STR_TEAM_CFG_SPHASE (a / 4))) + s.per) 1600000000
  let thv := Flt.add th (Flt.mul we dv)
  let cs := (Flt.cos th, Flt.sin th)
  let cv := (Flt.cos thv, Flt.sin thv)
  let h1 := subspaces six sh op (legCurs s a)
  let o1 := halfLaw s a c vmax we cs cv r h1.1 h1.2 six op x.eng.f1
  let vdc2 := Flt.div (axVdc s a) 0x40000000
  let ovm := isSet s (F.MOD_AX_CFG_OVM a)
  let dut := fun (h : F32) (o : HalfOut) => o.sets.map fun v => svm ovm (Flt.div v.1 h, Flt.div v.2 h)
  let d1 := dut vdc2 o1
  let h2 := subspaces true sh 0 (spanCurs s a)
  let o2 := halfLaw s a c vmax we cs cv r h2.1 h2.2 true 0 x.eng.f2
  let span := ty == 6
  let pv := (spanQty s a 12 (vdcChan s (a / 4) (rd s (F.LE_AX_CFG_DCL a))) []).getD (axVdc s a)
  let d2 := if span then dut (Flt.div pv 0x40000000) o2 else []
  let mean := fun (u v : F32) => if span then half Flt.add u v else u
  let vmagu := Flt.hypot (mean o1.law.vdu o2.law.vdu) (mean o1.law.vqu o2.law.vqu)
  let en := { x.eng with
    f1 := o1.frame, f2 := if span then o2.frame else x.eng.f2, idPrev := r.1, iqPrev := r.2, vmagu := vmagu, tlim := tlim,
    va := mean o1.ab.1 o2.ab.1, vb := mean o1.ab.2 o2.ab.2 }
  let s := modAx a (fun x => { x with eng := en }) s
  let s := wrB (F.LE_AX_STAT_VLIM a) (o1.law.vlim || (span && o2.law.vlim)) s |> wrB (F.LE_AX_STAT_ILIM a) ilim
    |> wrB (F.LE_AX_STAT_TLIM a) tlim |> wrB (F.LE_AX_STAT_SATD a) (o1.law.satd || (span && o2.law.satd))
    |> wrB (F.LE_AX_STAT_SATQ a) (o1.law.satq || (span && o2.law.satq)) |> wrB (F.MOD_AX_STAT_OVMACT a) (d1.any (·.2) || d2.any (·.2))
  let ds := d1.flatMap (·.1)
  let ps := d2.flatMap (·.1)
  let fs := fun (o : HalfOut) => [o.frame.d, o.frame.q, o.frame.x, o.frame.y, o.law.vdu, o.law.vqu, o.xyu.1, o.xyu.2]
  ⟨s, ds, ps, ((fs o1 ++ (if span then fs o2 else []) ++ ds ++ ps).map
    fun v => (7, v))⟩
/-- The current loop of a scalar axis (R126, R127, R151). -/
def scalarLoop (a : Nat) (c : Coef) (tclamp : Bool) (s : State) : LoopOut :=
  let x := s.ax a
  let ty := axType s a
  let imax := prm s a 0x840
  let l := torqueLims s a
  let t0 := tStar s a
  let t := if ty = 3 then Flt.clamp t0 l.2 l.1 else t0
  let i0 := scalarRef s a t
  let ir := Flt.clamp i0 (Flt.neg imax) imax
  let ilim := !Flt.eq ir i0
  let torque := ty = 3 ∧ kindOf s a ≠ 2
  let tlim := torque ∧ (tclamp ∨ ¬ Flt.eq t t0 ∨ ilim)
  let vdc := axVdc s a
  let ff := if ty = 3 then Flt.mul (prm s a 0x89C) (spdF (inSpd s a)) else 0
  let o := scalarLaw s.tSec c.kpq c.kiq (prm s a 0x854) (if ty = 4 then 0 else Flt.neg vdc) vdc ff ir (fieldCur s a) x.eng.f1.q
  let u := Flt.div o.vq vdc
  let h := Flt.div u 0x40000000
  let ds := if ty = 4 then [u] else [Flt.add 0x3f000000 h, Flt.sub 0x3f000000 h]
  let en := { x.eng with
    f1 := { x.eng.f1 with q := o.fq, vd := 0, vq := o.vq }, idPrev := 0, iqPrev := ir, vmagu := Flt.abs o.vqu, tlim := decide tlim }
  let s := modAx a (fun x => { x with eng := en }) s
  let s := wrB (F.LE_AX_STAT_VLIM a) o.vlim s |> wrB (F.LE_AX_STAT_ILIM a) ilim |> wrB (F.LE_AX_STAT_TLIM a) (decide tlim)
    |> wrB (F.LE_AX_STAT_SATD a) o.satd |> wr (F.LE_AX_STAT_SATQ a) 0
  ⟨s, ds, [], ([o.fq, o.vqu] ++ ds).map fun v => (7, v)⟩
/-- No limit acted in a stride without a current loop: the flags of the last stride are clear (R130, R152, R170). -/
def limitsIdle (a : Nat) (s : State) : State :=
  let s := modAx a (fun x => { x with eng := { x.eng with tlim := false } }) s
  wr (F.LE_AX_STAT_VLIM a) 0 s |> wr (F.LE_AX_STAT_ILIM a) 0 |> wr (F.LE_AX_STAT_TLIM a) 0 |> wr (F.LE_AX_STAT_SATD a) 0
    |> wr (F.LE_AX_STAT_SATQ a) 0 |> wr (F.MOD_AX_STAT_OVMACT a) 0
/-- The slot of an axis whose current loop does not run: no duties, integrators held at zero outside START, RUN and DEGRADED (R114). -/
def idleLoop (a : Nat) (s : State) : LoopOut :=
  let hold := fun (f : Frame) => { f with d := 0, q := 0, x := 0, y := 0 }
  let s := if axState s a = 3 then s else
    modAx a (fun x => { x with eng := { x.eng with iw := 0, f1 := hold x.eng.f1, f2 := hold x.eng.f2 } }) s
  ⟨limitsIdle a s, [], [], []⟩

/-- The readback record of Table 5.6 and R174; of the two ramps of KIND 2, RAMP shows the one of IQREF (assumption 136). -/
def readback (a : Nat) (m : Meas) (vmax : F32) (thetae : Word) (s : State) : State :=
  let x := s.ax a
  let b := rbBase a
  let stamp := BitVec.ofNat 32 s.dev.count.toNat
  let k := kindOf s a
  let ramp := match k with
    | 2 => x.ramp.r2.y
    | 4 => posF x.ramp.py
    | 0 => 0
    | _ => x.ramp.r1.y
  let fws := if (exciterOf s a).isSome then x.eng.lam else x.eng.idfw
  let ws := [stamp, BitVec.ofNat 32 k, m.i.1, m.i.2, x.eng.idPrev, x.eng.iqPrev, x.eng.f1.vd, x.eng.f1.vq, x.eng.vmagu, vmax, m.test,
    ramp, x.eng.wref, fws, m.xy.1, m.xy.2, axVdc s a, s.reg (A.LE_AX_STAT a)]
  let s := wrBytes b (ws.flatMap fun w => leBytes 4 w.toNat) s
  let s := wrBytes (b + 0x48) (rdBytes s (inBase a) 16) s
  wr32 (b + 0xFC) stamp (wr32 (b + 0x64) x.eng.eerr (wr32 (b + 0x60) (if isMachine s a then estSpd s a else 0)
    (wr32 (b + 0x5C) (angU32 x.eng.eth) (wr32 (b + 0x58) thetae s))))

/-- The fallback of R190 at a snapshot that carries FAILED. -/
def fallback (a : Nat) (s : State) : State :=
  if isSet s (F.LE_AX_CFG_POSEN a) ∧ angSrc s a = 0 ∧ loopRuns s a ∧ inFailed s a then
    if isSet s (F.LE_AX_CFG_SLEN a) ∧ isSet s (F.LE_AX_STATE_ESTCONV a) ∧ Flt.le (prm s a 0x8B8) (Flt.abs (estSpd s a)) then
      let s := wr (F.LE_AX_STATE_ANGSRC a) 1 (wr (F.LE_AX_STATE_STATE a) 5 (wr (F.LE_AX_STATE_FALLBACK a) 1 s))
      logFault 0x040A a 1 (rd s (F.LE_AX_CFG_POSIF a)) (wr (F.LE_AX_SFLT_SENSFB a) 1 s)
    else blockReact true a 2 s
  else s
/-- The speed of R176 that stands for the last valid snapshot, and the position the estimator continues from (R174). -/
def noteSnap (a : Nat) (s : State) : State :=
  modAx a (fun x => { x with
    lastSpd := if isSet s (F.LE_AX_CFG_POSEN a) ∧ inSpdValid s a ∧ ¬ inFailed s a then some (inSpd s a, 0)
      else x.lastSpd.map fun p => (p.1, if p.2 < 65 then p.2 + 1 else 65),
    eng := if angSrc s a ≠ 1 ∧ inPosValid s a then { x.eng with epos := usePos s a }
      else if angSrc s a = 1 then
        { x.eng with epos := x.eng.epos + BitVec.ofInt 48 (Flt.toSat (Flt.mul (estSpd s a) s.tSec) 4294967296 1 48) }
      else x.eng }) s
/-- The steps of START that begin with this stride: the blend (R188), and the align that follows a brake (R187). -/
def stepBegin (a : Nat) (s : State) : State :=
  let x := s.ax a
  if axState s a ≠ 3 then s else
  match rd s (F.LE_AX_STATE_STEP a) with
  | 3 => if x.brkEnd then
      wr (F.LE_AX_STATE_STEP a) 4 (wr (F.LE_AX_STATE_ANGSRC a) 2 (modAx a (fun x => { x with brkEnd := false, stepCnt := 0 }) s))
    else s
  | 5 =>
    let lim := Flt.mul (prm s a 0x8B8) (polepF s a)
    if Flt.le lim (Flt.abs x.wol) ∧ isSet s (F.LE_AX_STATE_ESTCONV a) then
      wr (F.LE_AX_STATE_STEP a) 6 (wr (F.LE_AX_STATE_ANGSRC a) 3 (modAx a (fun x => { x with blend := 1 }) s))
    else s
  | 6 => modAx a (fun x => { x with blend := x.blend + 1 }) s
  | _ => s
/-- One sample of the catch window (R186): the unwrapped angle and the amplitude of the back-EMF. -/
def catchSample (s : State) (a : Nat) (prev : List (F32 × F32)) : F32 × F32 :=
  let e := torqueAB s a (legVolts s a) (spanVolts s a)
  let ph := Flt.atan2 e.2 e.1
  let ph := match prev.getLast? with
    | some p => Flt.add p.1 (Flt.wrap (Flt.sub ph p.1))
    | none => ph
  (ph, Flt.hypot e.1 e.2)
/-- The counters of START and the open-loop angle at the end of the slot, or that the closed loop has run in it (R184 to R189). -/
def stepEnd (a : Nat) (s : State) : State :=
  if axState s a ≠ 3 then s
  else if (s.ax a).closed then modAx a (fun x => { x with closedRan := true }) s else
  let st := rd s (F.LE_AX_STATE_STEP a)
  let x := s.ax a
  let x := { x with stepCnt := x.stepCnt + 1, startCnt := if st = 3 then x.startCnt else x.startCnt + 1 }
  match st with
  | 1 =>
    let ok := match exciterOf s a with
      | some e => Flt.le (Flt.mul 0x3f666666 (prm s a 0x868)) (fieldCur s e)
      | none => true
    modAx a (fun _ => { x with fieldCnt := if ok then x.fieldCnt + 1 else 0 }) s
  | 2 => modAx a (fun _ => { x with catches := x.catches ++ [catchSample s a x.catches] }) s
  | 3 =>
    if ¬ x.brkEnd ∧ Flt.lt (Flt.abs (estSpd s a)) (prm s a 0x8C0) then
      legsHiz a (modAx a (fun _ => { x with brkEnd := true }) s)
    else modAx a (fun _ => x) s
  | 5 | 6 =>
    let t := s.tSec
    let lim := Flt.mul (prm s a 0x8B8) (polepF s a)
    let w := Flt.add (Flt.abs x.wol) (Flt.mul (Flt.mul (prm s a 0x8CC) (polepF s a)) t)
    let w := if st = 6 then Flt.abs x.wol else if Flt.lt lim w then lim else w
    let wol := if x.forward then w else Flt.neg w
    let th := Flt.add x.thol (Flt.mul wol t)
    let th := if Flt.lt 0x3f000000 th then Flt.sub th Flt.one else if Flt.lt th 0xbf000000 then Flt.add th Flt.one else th
    modAx a (fun _ => { x with wol := wol, thol := th }) s
  | _ => modAx a (fun _ => x) s

/-- The slot of axis a (R113, R114, R138; what is tested for a finite value: assumption 67). -/
def slotRun (a : Nat) (s0 : State) : State :=
  let s := stepBegin a (noteSnap a (fallback a s0))
  let before := s
  let ang := angleNow s a
  let s := positionLoop a s
  let (s, tcl) := speedLoop a s
  let (c, s) := gainItem a ang.2.1 s
  let s := estimatorItem a c ang.1 s
  let s := fluxItem a s
  let m : Meas := if isMachine s a then
      let tq := torqueAB s a (legCurs s a) (spanCurs s a)
      let i := park (Flt.cos ang.1) (Flt.sin ang.1) tq
      let xy := (subspaces (axType s a ≠ 1) (isSet s (F.LE_AX_CFG_SHIFT a)) (openSet s a) (legCurs s a)).2
      { i := i, xy := xy, test := torqueOf (ktfOf s a) (polepF s a) c i }
    else
      let i := fieldCur s a
      { i := (0, i), test := if axType s a = 3 then Flt.mul (prm s a 0x898) i else 0 }
  let out := if ¬ ctlRuns s a then idleLoop a s
    else if isMachine s a then machineLoop a c (ang.1, ang.2.1) tcl s else scalarLoop a c tcl s
  let e := (out.st.ax a).eng
  let bad := ([(3, e.iw), (5, e.psa), (5, e.psb), (6, e.idfw), (6, e.lam)] ++ out.checks).find? fun (p : Nat × F32) => !Flt.finite p.2
  match bad with
  | some (item, _) =>
    blockReact false a 10 (logFault 0x0403 a 2 item (wr (F.LE_AX_FLT_NONFIN a) 1 before))
  | none =>
    let s := out.st
    let s := each (fun (p : Nat × F32 × Int) => modLeg p.1 fun l => { l with staged := some (p.2.1, p.2.2) })
      (((axLegs s a).zip (out.duties.zip (legVals s a))).filter fun (p : Nat × F32 × Int) => !(s.leg p.1).blk) s
    let s := modAx a (fun x => { x with span := { x.span with duties := out.partner } }) s
    stepEnd a (readback a m (if isMachine s a then vmaxOf s a else axVdc s a) (if isMachine s a then ang.2.2 else 0) s)

/-- An ECC error of a loop-engine memory (R31): counted when corrected, class TM when not. -/
def leEcc (t : Nat) (e : EccEvent) (s : State) : State :=
  if e.corrected then logFault 0x0407 t 0 e.offset.toNat (bumpSat (F.LE_TEAM_STAT_ECCCNT t) s)
  else tmFault 0x0405 t e.offset.toNat t (wr (F.LE_TEAM_STAT_UNCOR t) 1 s)
/-- LOOP_ENGINE_RUN (R113): the axes of team t in increasing number. A spanned partner has no item (Table 5.1). -/
def execLoopEngineRun (t : TeamNo) (ecc : Option EccEvent) (s : State) : Host.Outcome State Fault Refusal :=
  if armedOn s ∧ t.val < s.nTeams then
    let s := match ecc with
      | some e => leEcc t e s
      | none => s
    done (each (fun a s => if axType s a = 7 then s else slotRun a s) (teamAxes s t) s)
  else unmet s

end Sys2Proof.Machine
end

