-- ==== Sys2Proof/Machine/Modulation.lean ====
section
/-! DEFINITION. The modulation block (Modulation and Gate Outputs, R146 to R170): commit and update of duties, edge processing, driver
faults, gate-supply lock-out, and the clearing of their latches. -/
namespace Sys2Proof.Machine
open Sys2Proof

/-- The payload of the down frame of a spanned lead (R139). Its duties are the last that a slot computed for the partner, 0 where the last slot
computed none (assumption 160). -/
def downPayload (s : State) (a : Nat) : List Byte :=
  let x := s.ax a
  let ds := (List.range 6).map fun i => (x.span.duties.getD i 0).toNat
  let v := rd s (F.MOD_AX_STAT_SAFEVAR a)
  let blk := if axState s a = 6 ∧ v = 3 then 63 else 0
  ds.flatMap (leBytes 4) ++ leBytes 4 (axState s a + 16 * v + 64 * axVar s a (speedRule s a) + 256 * blk + 16384 * b2n x.span.safe) ++ leBytes 4 0
/-- COMMIT_PHASE (R42, R113): the staged duties of team t move to the shadow registers together; a spanned lead sends its down frame. -/
def execCommitPhase (t : TeamNo) (s : State) : Host.Outcome State Fault Refusal :=
  if armedOn s ∧ t.val < s.nTeams then
    let as := teamAxes s t
    let s := each (fun a s => each (fun n => modLeg n fun l =>
      match l.staged with
      | some d => { l with shadow := some d, staged := none }
      | none => l) (axLegs s a) s) as s
    done (each (fun a s => if axType s a = 6 then ringSend 0 1 a (downPayload s a) s else s) as s)
  else unmet s

/-- A duty as MOD_LEGn_DUTY shows it, in units of 2^-16, to the nearest and at most 65,535 (R170; assumption 172). -/
def dutyCode (d : F32) : Nat := let v := Flt.toSat d 65536 1 18; if v < 0 then 0 else if v > 65535 then 65535 else v.toNat
/-- The update point number of U_t: even at a valley, odd at a peak (R43). -/
def updPoint (s : State) (t : Nat) : Nat :=
  rd s (F.STR_TEAM_UPD_UPHASE t) * (2 * 2 ^ rd s (F.STR_TEAM_CFG_CARMUL t)) / s.per
/-- The shadow duty of leg n taken at U_t (R43, R158). -/
def takeDuty (peak : Bool) (n : Nat) (s : State) : State :=
  let l := s.leg n
  match l.shadow with
  | none => s
  | some d =>
    let l' := { l with
      duty := d, prev := if peak || l.hiz then d else l.duty, hiz := false, fresh := if l.hiz then some peak else l.fresh }
    wr (F.MOD_LEG_DUTY_STAMP n) s.dev.count.toNat (wr (F.MOD_LEG_DUTY_DUTY n) (dutyCode d.1) (modLeg n (fun _ => l') s))
/-- UPDATE_PHASE (R43): at U_t the modulator takes the shadow duties of team t. -/
def execUpdatePhase (t : TeamNo) (s : State) : Host.Outcome State Fault Refusal :=
  if armedOn s ∧ t.val < s.nTeams then
    let peak := updPoint s t % 2 = 1
    done (each (fun a s =>
      let s := if (axLegs s a).any fun n => (s.leg n).hiz && (s.leg n).shadow.isSome then noteOn a s else s
      each (takeDuty peak) (axLegs s a) s) (teamAxes s t) s)
  else unmet s

/-- The ideal half width d × H of R150, rounded to the nearest unit. -/
def idealHalf (h : Nat) (d : F32) : Int := Flt.roundScaled d h 1
/-- What dead-time compensation adds at one edge of the high interval: DT × s / 2 (R154). -/
def dtcHalf (s : State) (n : Nat) (i : Int) : Int :=
  if isSet s (F.MOD_LEG_CFG_DTCEN n) then
    let dt := rd s (F.MOD_LEG_CFG_DT n)
    let c : Int := rd s (F.MOD_LEG_TIM_DTCI n)
    if c = 0 then Flt.roundAway (dt * i.sign) 2
    else Flt.roundAway (dt * (if i > c then c else if i < -c then -c else i)) (2 * c.toNat)
  else 0
/-- An interval under R155: 0 kept, 1 dropped, 2 widened, by its width after step 3. -/
def minKind (minpw dt width : Int) : Nat :=
  let on := width - dt
  if on < minpw then (if 2 * on < minpw then 1 else 2) else 0
/-- One carrier period, from peak to peak, after steps 3 and 4 of R153. -/
structure Period where
  /-- The edges where the high interval ends and begins; none where a switch stays on across. -/
  fall : Option Int
  rise : Option Int
  /-- The treatment of the low interval and of the high interval that begins in the period. -/
  low : Nat
  high : Nat
  /-- How far a widened high interval reaches into the next period. -/
  carry : Option Int
  deriving DecidableEq, Repr
/-- Steps 3 (with `set` the interval it sets) and 4 for a period of half length `h`: `f` and `r` the edges of the low interval, `e` how
far the next high interval reaches past the closing peak, `l` what the period before left (R155, R157). -/
def placePeriod (h dt minpw : Int) (l : Leg) (f r e : Int) (set : Option Int) : Period :=
  let (f, r) := match set with
    | some w => (h - w / 2, h - w / 2 + w)
    | none => (f, r)
  let lk := if set.isSome then 0 else minKind minpw dt (r - f)
  let hk := minKind minpw dt (2 * h + e - r)
  let w := minpw + dt
  let fl := (f + r - w) / 2
  let hl := (r + 2 * h + e - w) / 2
  let fall := if lk = 1 ∨ l.hiDrop then none else if set.isSome then some f else if lk = 2 then some fl else some (l.carry.getD f)
  let rise := if lk = 1 ∨ hk = 1 then none else if set.isSome then some r else if hk = 2 then some hl
    else if lk = 2 then some (fl + w) else some r
  let carry := if hk = 2 then some (hl + w - 2 * h) else none
  match fall, rise with
  | some x, some y => if y ≤ x then ⟨none, none, lk, hk, carry⟩ else ⟨fall, rise, lk, hk, carry⟩
  | _, _ => ⟨fall, rise, lk, hk, carry⟩
/-- The on-time of the low side in the period after dead-time insertion (R157). -/
def lowOn (h dt : Int) (l : Leg) (p : Period) : Int :=
  if p.low = 1 ∨ (p.fall.isNone ∧ p.rise.isNone ∧ ¬ l.hiDrop) then 0
  else (p.rise.getD (2 * h)) - (match p.fall with
    | some x => x + dt
    | none => 0)
/-- Step 5 (R154): the edges of a period, each turn-on delayed by DT. -/
def deadTime (dt : Int) (p : Period) : List (Int × Nat) :=
  let on := match p.fall, p.rise with
    | some x, some y => decide (x + dt < y)
    | _, _ => true
  (match p.fall with
    | some x => if on then [(x, 0), (x + dt, 1)] else [(x, 0)]
    | none => []) ++
  (match p.rise with
    | some y => if on then [(y, 2), (y + dt, 3)] else [(y + dt, 3)]
    | none => [])
/-- The high interval around a peak at which the leg leaves Hi-Z, from `f` before it to `e` behind it (R153, R155, R158): its treatment, the leg
with what it leaves for the period behind the peak, and the edges of a leg that had been switching. -/
def freshHigh (dt minpw f e : Int) (l : Leg) : Nat × Leg × List (Int × Nat) :=
  let k := minKind minpw dt (f + e)
  let w := minpw + dt
  let a := if k = 2 then (e - f - w) / 2 else -f
  let b := if k = 2 then a + w else e
  (k, { l with carry := if k = 2 then some b else none, hiDrop := k == 1 },
    if k = 1 then [(-1, 1)] else (a, 2) :: if a + dt < b then [(a + dt, 3)] else [])
/-- What lies before the carrier period of a leg that leaves Hi-Z in it, with `e` the reach of the high interval behind the opening peak
(R158). U_t at the valley: that interval is not placed, and no other is judged. -/
def freshStart (dt minpw f e : Int) (l : Leg) : Nat × Leg × List (Int × Nat) :=
  match l.fresh with
  | none => (0, l, [])
  | some true => freshHigh dt minpw f e l
  | some false => (0, { l with carry := none, hiDrop := false }, [(-1, 3)])
/-- The part of the first period after Hi-Z that lies at or after U_t (R158): each output takes its command at U_t. `past` are the edges before
the period. -/
def freshEdges (h : Int) (l : Leg) (past es : List (Int × Nat)) : List (Int × Nat) :=
  match l.fresh with
  | none => es
  | some peak =>
    let u := if peak then 0 else h
    let all := past ++ es
    let here := match (all.filter fun e => decide (e.1 < u)).getLast? with
      | some (_, 1) => [(u, 1)]
      | some (_, 3) => [(u, 3)]
      | _ => []
    here ++ all.filter fun e => decide (u ≤ e.1)
/-- Step 6 (R156): both commands high from `p` to `q` force both low until DT after; then each output follows its command. -/
def interlock (dt : Int) (l : Leg) (es : List (Int × Nat)) (p q : Int) : List (Int × Nat) :=
  let rel := q + dt
  let c := cmdAt { l with edges := es } rel
  es.filter (fun e => decide (e.1 < p)) ++ [(p, 0)] ++ (if c.1 then [(rel, 3)] else if c.2 then [(rel, 1)] else [])
    ++ es.filter fun e => decide (e.1 > rel)
/-- The leg's modulator commands reach its pins: its own axis switches it (R147, R153). -/
def switching (s : State) (n : Nat) : Bool :=
  match legAxis s n with
  | none => false
  | some a => (s.ax a).asc == 0 && rdBit s F.SAF_TEAMEN_EN (n / 12) && !(s.leg n).blk && !(s.leg n).hiz
    && !isSet s (F.MOD_LEG_FLT_FAULTED n) && !isSet s (F.MOD_TEAM_STAT_GSUV (n / 12))
/-- EDGE_PROCESSING (R153 to R157): the carrier period of leg n around the valley number j of the stride; `both` gives the first and the
last position at which both commands were high. ILKCNT stops at 255 (assumption 173). A period that begins in Hi-Z with U_t at its valley is
judged for refresh by its whole low interval (assumption 174). -/
def execEdgeProcessing (n : LegNo) (j : Fin 4) (both : Option (Nat × Nat)) (s : State) : Host.Outcome State Fault Refusal :=
  let t := n.val / 12
  if armedOn s ∧ t < s.nTeams ∧ switching s n then
    let l := s.leg n
    let h : Int := halfCar s t
    let dt : Int := rd s (F.MOD_LEG_CFG_DT n)
    let minpw : Int := rd s (F.MOD_LEG_TIM_MINPW n)
    let next := if updPoint s t = 2 * j.val + 1 then l.shadow.getD l.duty else l.duty
    let next2 := if updPoint s t = 2 * j.val + 2 then l.shadow.getD next else next
    let w := fun (d : F32 × Int) => idealHalf (halfCar s t) d.1 + dtcHalf s n d.2
    let f := w l.prev
    let r := 2 * h - w l.duty
    let l0 := (freshStart dt minpw f f l).2.1
    let p0 := placePeriod h dt minpw l0 f r (w next) none
    let boot := isSet s (F.MOD_LEG_CFG_BOOT n)
    let tref : Int := 16 * rd s (F.MOD_LEG_REF_TREF n)
    let nref := rd s (F.MOD_LEG_REF_NREF n)
    let q := tref ≤ lowOn h dt l0 p0
    let clip := boot ∧ nref ≤ l.refCnt ∧ ¬ q
    let set := if clip then some (tref + dt) else none
    let (k0, l, past) := freshStart dt minpw f (if clip then h - (tref + dt) / 2 else f) l
    -- the period that follows, as it would stand unset: the high interval that reaches into it is judged after its step 3 (assumption 116)
    let p1 := placePeriod h dt minpw l f r (w next) set
    let l1 := { l with carry := p1.carry, hiDrop := decide (p1.high = 1 ∧ p1.low ≠ 1) }
    let p2 := placePeriod h dt minpw l1 (w next) (2 * h - w next2) (w next2) none
    let clip2 := boot ∧ nref ≤ (if clip ∨ q then 0 else l.refCnt + 1) ∧ ¬ tref ≤ lowOn h dt l1 p2
    let p := if clip2 then placePeriod h dt minpw l f r (h - (tref + dt) / 2) set else p1
    let k := b2n (k0 ≠ 0) + b2n (p.low ≠ 0) + b2n (p.high ≠ 0)
    let s := wr (F.MOD_TEAM_MINP_COUNT t) (rd s (F.MOD_TEAM_MINP_COUNT t) + k) s
    let s := if clip then bumpSat (F.MOD_LEG_CNT_REFCLIP n) s else s
    let old := l.edges.map fun e => (e.1 - 2 * h, e.2)
    let gone := old.filter fun e => decide (e.1 < -65536)
    let old := old.filter fun e => decide (-65536 ≤ e.1)
    let l := { l with lastHi := lastOn { l with edges := gone } }
    let new := freshEdges h l past (deadTime dt p)
    let es := match both with
      | some (a, b) => interlock dt l (old ++ new) a b
      | none => old ++ new
    let s := modLeg n (fun _ => { l with
      edges := es, prev := l.duty, carry := p.carry, hiDrop := decide (p.high = 1 ∧ p.low ≠ 1), fresh := none,
      refRun := boot, refCnt := if clip ∨ q then 0 else l.refCnt + 1 }) s
    match both with
    | none => done s
    | some (a, _) =>
      let s := bumpSat (F.MOD_LEG_CNT_ILKCNT n) s
      let c := rd s (F.MOD_LEG_CNT_ILKCNT n)
      let s := logFault 0x0502 n 0 c s
      if c = rd s (F.MOD_TEAM_CFG_ILKLIM t) then
        let side := match sideAt { l with edges := old ++ new } a with
          | some true => 1
          | some false => 2
          | none => 3
        let s := latchLeg n F.MOD_LEG_FLT_ILK side s
        done (logFault 0x0501 n 2 (3 + 16 * rd s (F.MOD_LEG_FLT_SIDE n)) s)
      else done s
  else unmet s

/-- ILKCNT_WINDOW_CLEAR (R156): ILKCNT is cleared at every multiple of ILKWIN strides. -/
def execIlkcntWindowClear (t : TeamNo) (s : State) : Host.Outcome State Fault Refusal :=
  let w := rd s (F.MOD_TEAM_CFG_ILKWIN t)
  if armedOn s ∧ t.val < s.nTeams ∧ w ≠ 0 ∧ s.dev.count.toNat % w = 0 then
    done (upto (fun i => wr (F.MOD_LEG_CNT_ILKCNT (12 * t.val + i)) 0) 12 s)
  else unmet s

/-- A driver fault latched with its side and logged (R159). -/
def driverFault (n side : Nat) (s : State) : State :=
  let s := latchLeg n F.MOD_LEG_FLT_LFLT side s
  let sd := rd s (F.MOD_LEG_FLT_SIDE n)
  match legAxis s n with
  | some _ => logFault 0x0501 n 2 (1 + 16 * sd) s
  | none => logFault 0x0506 n 1 sd s
/-- A blanking window of leg n runs at a position of the carrier period: the last turn-on stands less than BLANK before it (R160). A
turn-on that the modulator's edges do not hold, the Halter's, the precharge's, or one before the leg went Hi-Z, is `since` cycles old. -/
def blanked (s : State) (n : Nat) (p : Int) (since : Nat) : Bool :=
  let b := rd s (F.MOD_LEG_CFG_BLANK n)
  let l := s.leg n
  match (l.edges.filter fun e => (e.2 == 1 || e.2 == 3) && decide (e.1 ≤ p)).getLast? with
  | some e => decide (p < e.1 + 16 * (b : Int))
  | none => l.lastHi.isSome && decide (since < b)
/-- LEG_FAULT (R159, R160): a filtered assertion of LFLT_N, its raw assertion at stride phase `t.ph`, 80 cycles before; `t.since` is the age of
the last turn-on at the pin where the modulator's edges do not hold it. -/
def execLegFault (n : LegNo) (t : FaultTime) (s : State) : Host.Outcome State Fault Refusal :=
  if armedOn s ∧ n.val < 12 * s.nTeams then
    let side := faultSide s n t.ph
    let s := wr (F.MOD_LEG_FLT_LIVE n) 1 s
    if blanked s n (carPos s (n.val / 12) t.ph + 1280 : Nat) t.since then
      done (wr (F.MOD_LEG_FLT_PEND n) 1 (modLeg n (fun l => { l with pendSide := side }) s))
    else done (driverFault n side s)
  else unmet s
/-- BLANK_WINDOW_END (R160): a pending assertion latches the leg, or is an early fault. -/
def execBlankWindowEnd (n : LegNo) (stillAsserted : Bool) (s : State) : Host.Outcome State Fault Refusal :=
  if ¬ armedOn s then unmet s else
  if isSet s (F.MOD_LEG_FLT_PEND n) then
    let s := wrB (F.MOD_LEG_FLT_LIVE n) stillAsserted (wr (F.MOD_LEG_FLT_PEND n) 0 s)
    if stillAsserted then done (driverFault n (s.leg n).pendSide s)
    else
      let s := bumpSat (F.MOD_LEG_CNT_EARLYCNT n) s
      if (s.leg n).earlyAt = some s.dev.count then done s
      else done (logFault 0x0503 n 0 (rd s (F.MOD_LEG_CNT_EARLYCNT n)) (modLeg n (fun l => { l with earlyAt := some s.dev.count }) s))
  else unmet s

/-- The axes of a locked-out team (R164): supply lost, and a short circuit ends in FREEWHEEL. -/
def supplyLost (t : Nat) (s : State) : State :=
  let as := teamAxes s t
  let act := as.filter (axActive s)
  let s := each (fun a s =>
    if axState s a = 6 ∧ (rd s (F.LE_AX_STATE_SAFEVAR a) = 1 ∨ rd s (F.LE_AX_STATE_SAFEVAR a) = 2) then
      driveVar a 3 (wr (F.MOD_AX_STAT_CAUSE a) 4 (wr (F.MOD_AX_STAT_SAFEVAR a) 3 (wr (F.LE_AX_STATE_SAFEVAR a) 3 s)))
    else s) as s
  let s := tmFault 0x0504 t 0 t s
  let s := each (fun a => wr (F.MOD_AX_STAT_CAUSE a) 4) act s
  each (fun a s => if axType s a = 7 then modAx a (fun x => { x with span := { x.span with safe := true } }) s else s) as s
/-- GSUV_LOCKOUT (R164, R165): a filtered assertion of GSUV_Nt. -/
def gsuvAssert (t : Nat) (s : State) : State :=
  let s := wr (F.MOD_TEAM_STAT_GSLIVE t) 1 (wr (F.MOD_TEAM_STAT_GSREL t) 0 s)
  if isSet s (F.MOD_TEAM_STAT_GSUV t) then s
  else supplyLost t (bumpSat (F.MOD_TEAM_STAT_GSCNT t) (wr (F.MOD_TEAM_STAT_GSUV t) 1 s))
def execGsuvLockout (t : TeamNo) (s : State) : Host.Outcome State Fault Refusal :=
  if armedOn s ∧ t.val < s.nTeams then done (gsuvAssert t s) else unmet s
/-- GSUV_RELEASED (R165): released for 1 ms without interruption. -/
def execGsuvReleased (t : TeamNo) (s : State) : Host.Outcome State Fault Refusal :=
  if armedOn s ∧ t.val < s.nTeams then done (wr (F.MOD_TEAM_STAT_GSREL t) 1 (wr (F.MOD_TEAM_STAT_GSLIVE t) 0 s)) else unmet s
/-- A write of 1 to GSUV: discarded while GSREL is 0 (R165). -/
def gsuvClear (t : Nat) (s : State) : State := if isSet s (F.MOD_TEAM_STAT_GSREL t) then wr (F.MOD_TEAM_STAT_GSUV t) 0 s else s
/-- GSUV_CLEAR (R165). -/
def execGsuvClear (t : TeamNo) (s : State) : Host.Outcome State Fault Refusal :=
  if ¬ coresRun s then unmet s else
  done (gsuvClear t s)

/-- PRECHARGE_LEG_END (R158): the leg's low side has been on for TPRE and returns to Hi-Z. -/
def execPrechargeLegEnd (n : LegNo) (s : State) : Host.Outcome State Fault Refusal :=
  if ¬ armedOn s then unmet s else
  if (s.leg n).preOn then done (modLeg n (fun l => { l with preOn := false, lastHi := lastOn l, edges := [] }) s) else unmet s

/-- A write to the latch bits of MOD_LEGn_FLT (R163); those of a leg of no axis clear in every state (assumption 175). -/
def legClear (n v : Nat) (s : State) : State :=
  let ok : Bool := match legAxis s n with
    | some a => axIdle s a
    | none => true
  if ¬ ok then s else
  let s := if bit v 0 ∧ ¬ isSet s (F.MOD_LEG_FLT_LIVE n) then wr (F.MOD_LEG_FLT_LFLT n) 0 s else s
  let s := if bit v 1 then wr (F.MOD_LEG_FLT_FAST n) 0 s else s
  let s := if bit v 2 then wr (F.MOD_LEG_FLT_ILK n) 0 s else s
  if isSet s (F.MOD_LEG_FLT_LFLT n) ∨ isSet s (F.MOD_LEG_FLT_FAST n) ∨ isSet s (F.MOD_LEG_FLT_ILK n) then s
  else wr (F.MOD_LEG_FLT_SIDE n) 0 (wr (F.MOD_LEG_FLT_FAULTED n) 0 s)
/-- LEG_FAULT_CLEAR (R163): `released` tells whether the filtered LFLT_Nn stands released; the input of an absent team is ignored (R3). -/
def execLegFaultClear (n : LegNo) (v : Word) (released : Bool) (s : State) : Host.Outcome State Fault Refusal :=
  if ¬ coresRun s then unmet s else
  done (legClear n v.toNat (if n.val < 12 * s.nTeams then wrB (F.MOD_LEG_FLT_LIVE n) (!released) s else s))

/-- A span lost (R141, R142): SAFE in the outgoing frames from now on, the fault with its data, SPANLOST, and the axis's own legs to the
safe state. -/
def spanLost (a data : Nat) (s : State) : State :=
  let s := modAx a (fun x => { x with span := { x.span with safe := true } }) s
  blockReact true a 4 (logFault 0x0402 a 2 data (wr (F.LE_AX_FLT_SPANLOST a) 1 s))
/-- A good span frame: the run of losses ends (R141). -/
def spanGood (a : Nat) (s : State) : State :=
  wr (F.LE_AX_STAT_SPANHOLD a) 0 (wr (F.LE_AX_SPANSTAT_CONSEC a) 0 (modAx a (fun x => { x with span := { x.span with got := true } }) s))
/-- A span frame counts for this stride: its CRC is good, its stamp is the stride's, it is in time (R141). -/
def spanOk (s : State) (stamp : BitVec 16) (crcOk late : Bool) : Bool := crcOk && !late && stamp.toNat == s.dev.count.toNat % 65536
/-- SAFE received: the own legs take the safe state in the stride of receipt (R141). The legs of an axis that is not active are off
already: there is nothing to send, and the half that recovers first is not stopped again by the other's flag (assumption 114). -/
def spanSafe (a : Nat) (safe : Bool) (s : State) : State := if safe ∧ axActive s a then spanLost a 4 s else s
/-- SPAN_UP_FRAME (R139): the lead takes the partner's values, mask, leg faults and SAFE. -/
def execSpanUpFrame (a : AxisNo) (f : SpanUp) (s : State) : Host.Outcome State Fault Refusal :=
  if armedOn s ∧ axType s a = 6 ∧ spanOk s f.stamp f.crcOk f.late ∧ f.payload.length = 56 ∧ ¬ (s.ax a).span.got then
    let w := field f.payload 0x34 4
    let ok := w % 2 ^ 13
    let old := (s.ax a).span
    let vals := (List.range 13).map fun i => if bit ok i then sext 32 (field f.payload (4 * i) 4) else old.vals.getD i 0
    let fl := w / 2 ^ 13 % 64
    let s := spanGood a s
    let s := modAx a (fun x => { x with
      span := { x.span with vals := vals, mask := maskOf (bitsOf old.mask 13 ++ bitsOf ok 13), flegs := fl, sides := w / 2 ^ 19 % 2 ^ 12 },
      legNew := x.legNew || (axActive s a && (bitsOf fl 6).any fun i => !bit old.flegs i) }) s
    done (spanSafe a (bit w 31) s)
  else unmet s
/-- SPAN_DOWN_FRAME (R139, R140): the partner takes duties into its shadow registers, and the state, the variants, the blocks and SAFE. -/
def execSpanDownFrame (a : AxisNo) (f : SpanDown) (s : State) : Host.Outcome State Fault Refusal :=
  if armedOn s ∧ axType s a = 7 ∧ spanOk s f.stamp f.crcOk f.late ∧ f.payload.length = 32 ∧ ¬ (s.ax a).span.got then
    let w := field f.payload 0x18 4
    let s := spanGood a s
    let s := modAx a (fun x => { x with span := { x.span with axst := w % 16, axvar := w / 16 % 4, safech := w / 64 % 4, blk := w / 256 % 64 } }) s
    let st := axState s a
    let s := if (st = 3 ∨ st = 4 ∨ st = 5) ∧ (w % 16 = 3 ∨ w % 16 = 4 ∨ w % 16 = 5) then
        each (fun (p : Nat × Nat) s =>
          let d : F32 := BitVec.ofNat 32 (field f.payload (4 * p.2) 4)
          modLeg p.1 (fun l => { l with shadow := some (d, (legVals s a).getD p.2 0) }) s) (axLegs s a).zipIdx s
      else s
    done (spanSafe a (bit w 14) s)
  else unmet s
/-- SPAN_FRAME_LOST (R141): no good frame by the deadline; the second loss in a row sends the own legs to the safe state. -/
def execSpanFrameLost (a : AxisNo) (s : State) : Host.Outcome State Fault Refusal :=
  let ty := axType s a
  if armedOn s ∧ (ty = 6 ∨ ty = 7) ∧ ¬ (s.ax a).span.got then
    let d := if ty = 6 then 1 else 2
    let c := rd s (F.LE_AX_SPANSTAT_CONSEC a)
    let s := bumpSat (F.LE_AX_SPANSTAT_LOSTCNT a) (wr (F.LE_AX_SPANSTAT_CONSEC a) (if c < 2 then c + 1 else 2) s)
    let s := modAx a (fun x => { x with span := { x.span with got := true } }) s
    let s := wr (F.LE_AX_STAT_SPANHOLD a) 1 (logFault 0x0401 a 0 d s)
    if c = 1 ∨ (c = 2 ∧ ¬ isSet s (F.LE_AX_FLT_SPANLOST a)) then done (spanLost a d s) else done s
  else unmet s

end Sys2Proof.Machine
end

