-- ==== Sys2Proof/Machine/Axes.lean ====
section
/-! DEFINITION. Axis states, mode requests, starting, the controlled stop and active discharge (Commutation, Starting and Active
Discharge, R171 to R199). -/
namespace Sys2Proof.Machine
open Sys2Proof

/-- Strides that cover a time in milliseconds. -/
def State.msStrides (s : State) (ms : Nat) : Nat := s.strides (1000 * ms)
/-- The channels that bear on axis a for Table 8.2: those of its team that it uses by role, the secondaries of its pairs, and the resolver
channels of its interface, which may lie in any team. -/
def axChans (s : State) (a : Nat) : List Nat := (List.range (24 * s.nTeams)).filter fun n => (chanAxes s n).contains a
/-- The first block of Table 8.2 whose latch blocks axis a. -/
def axisLatched (s : State) (a : Nat) : Bool :=
  let t := a / 4
  let cs := axChans s a
  let g := rd s (F.LE_AX_CFG_DCL a)
  (axLegs s a).any (fun n => isSet s (F.MOD_LEG_FLT_FAULTED n)) || isSet s (F.MOD_TEAM_STAT_GSUV t) ||
  cs.any (fun n => isSet s (F.SNS_CH_STAT_FTRIP_HI n) || isSet s (F.SNS_CH_STAT_FTRIP_LO n) || isSet s (F.SNS_CH_STAT_STUCK n) ||
    isSet s (F.SNS_CH_STAT_TRIMFLT n) || isSet s (F.SNS_CH_STAT_PAIRFLT n) || isSet s (F.SNS_CH_STAT_DUPFLT n)) ||
  (List.range 32).any (fun k => isSet s (F.SNS_KSET_LIM_KFLT k) &&
    (cs.contains (rd s (F.SNS_KSET_CFG_CHA k)) || cs.contains (rd s (F.SNS_KSET_CFG_CHB k)) || cs.contains (rd s (F.SNS_KSET_CFG_CHC k)))) ||
  isSet s (F.SNS_DCL_STAT_VDFLT g) ||
  (isSet s (F.LE_AX_CFG_POSEN a) && !isSet s (F.LE_AX_CFG_SLEN a) && ifFailed s (rd s (F.LE_AX_CFG_POSIF a))) ||
  isSet s (F.LE_AX_FLT_NONFIN a) || isSet s (F.LE_AX_FLT_SPANLOST a) || isSet s (F.LE_AX_FLT_SPANHOP a) ||
  isSet s (F.LE_AX_SFLT_STARTFLT a) || isSet s (F.LE_AX_SFLT_BRKFLT a) || isSet s (F.LE_AX_SFLT_ESTLOST a)

/-- The slot of a group that axis a is: group and slot (R227). -/
def slotOf (s : State) (a : Nat) : Option (Nat × Nat) :=
  ((List.range 4).flatMap fun g => [(g, 0), (g, 1)]).find? fun (p : Nat × Nat) =>
    isSet s (F.GRP_G_CFG_EN p.1) &&
    (if p.2 = 0 then isSet s (F.GRP_G_AX_AX0EN p.1) && rd s (F.GRP_G_AX_AX0 p.1) == a
     else isSet s (F.GRP_G_AX_AX1EN p.1) && rd s (F.GRP_G_AX_AX1 p.1) == a)
/-- A slot axis of a group has its member ADMITTED (R227). -/
def slotAdmitted (s : State) (a : Nat) : Bool :=
  match slotOf s a with
  | some (g, _) => rd s (F.GRP_G_STAT_STATE g) == 3
  | none => true
/-- The conditions of R181 on one axis, with that of R227 on a slot axis. -/
def mayRunOne (s : State) (a : Nat) : Bool :=
  let g := rd s (F.LE_AX_CFG_DCL a)
  s.dev.st == .service && rdBit s F.SAF_TEAMEN_EN (a / 4) && !isSet s (F.SAF_AX_FLT_AXF a) && !axisLatched s a &&
  !isSet s (F.MOD_TEAM_STAT_GSUV (a / 4)) && !isSet s (F.LE_DCL_DSTAT_ACTIVE g) && !isSet s (F.LE_DCL_DSTAT_CRASHLOCK g) &&
  slotAdmitted s a &&
  (!isMachine s a || (isSet s (F.LE_AX_CFG_POSEN a) && !ifFailed s (rd s (F.LE_AX_CFG_POSIF a))) || isSet s (F.LE_AX_CFG_SLEN a))
/-- READY may pass to PRECHARGE (R181), a MACH 1 stator with its exciter, which is in READY with it. -/
def mayRun (s : State) (a : Nat) : Bool :=
  mayRunOne s a && (match exciterOf s a with
    | some e => mayRunOne s e && axState s e == 1
    | none => true)

/-- The axis and, for a MACH 1 stator, its exciter, which moves with it (R178). -/
def withExciter (s : State) (a : Nat) : List Nat := a :: (exciterOf s a).toList
/-- Axis a enters READY: the legs Hi-Z, no step and no trim (Table 7.1), and ANGSRC at the sensor (R174; assumption 153). The winding path of a
discharge runs on in READY, with its precharge and its step (R192). -/
def toReadyOne (a : Nat) (s : State) : State :=
  let wind := (s.ax a).winding
  let s := modAx a (fun x => { x with
    trim := none, pre := false, closed := false, brkEnd := false, stopCnt := 0, relCnt := 0, span := { x.span with safe := false } }) s
  let s := if wind then s else setBlk a false (legsHiz a s)
  wr (F.LE_AX_STATE_STATE a) 1 s |> wr (F.LE_AX_STATE_SAFEVAR a) 0 |> wr (F.MOD_AX_STAT_SAFEVAR a) 0 |> wr (F.LE_AX_STATE_SCAUSE a) 0
    |> wr (F.LE_AX_STATE_STEP a) (if wind then 7 else 0) |> wr (F.LE_AX_STATE_STOPPING a) 0 |> wr (F.LE_AX_STATE_FALLBACK a) 0
    |> wr (F.LE_AX_STATE_ANGSRC a) 0 |> wr (F.MOD_AX_STAT_DEG a) 0
/-- The transition into READY, made by the exciter in the same stride (R178); an exciter in LOCKED stays there (Table 7.1). -/
def toReady (a : Nat) (s : State) : State :=
  each (fun b s => if b ≠ a ∧ axState s b = 7 then s else toReadyOne b s) (withExciter s a) s
/-- Entry into PRECHARGE (R137, R158, R70): the engine initialises the axis, the trim begins. The estimator's flux and PLL go on (assumption
170). -/
def toPrechargeOne (a : Nat) (s : State) : State :=
  let s := setBlk a false (legsHiz a s)
  let s := each (fun n => modLeg n fun l => { l with lastHi := none, pendSide := 0 }) (axLegs s a) s
  let s := modAx a (fun x => { x with
    ramp := {}, legNew := false, closed := false,
    eng := { x.eng with f1 := {}, f2 := {}, iw := 0, idfw := 0, lam := Flt.one, idPrev := 0, tstar := 0, tclamp := false, wref := 0, tlim := false } }) s
  let s := wr (F.LE_AX_STATE_STATE a) 2 s |> wr (F.MOD_AX_STAT_CAUSE a) 0 |> wr (F.MOD_AX_STAT_FLEGS a) 0 |> wr (F.MOD_AX_STAT_DEG a) 0
    |> wr (F.LE_AX_STATE_SAFEVAR a) 0 |> wr (F.MOD_AX_STAT_SAFEVAR a) 0 |> wr (F.LE_AX_STATE_SCAUSE a) 0
  trimBegin a s
def toPrecharge (a : Nat) (s : State) : State := each toPrechargeOne (withExciter s a) s

/-- The sign of the demand latched at START entry: a zero demand counts as positive (R186). -/
def demandForward (s : State) (a : Nat) : Bool :=
  let p := (s.ax a).sp
  match p.kind with
  | 1 => !Flt.lt p.torque 0
  | 2 => !Flt.lt p.iqref 0
  | 3 => decide (p.speed.toInt ≥ 0)
  | 4 => decide ((posTarget p - usePos s a).toInt ≥ 0)
  | _ => true
/-- The offset counts as valid at START entry (R173). -/
def offsetOk (s : State) (a : Nat) : Bool :=
  let n := rd s (F.LE_AX_CFG_POSIF a)
  let x := s.ifc n
  isSet s (F.LE_AX_STATE_OFSVALID a) &&
  (ifMode s n ≠ 1 || x.refValid || (match (s.ax a).alignRef with
    | some k => k == x.refSteps
    | none => false))
/-- The steps of the start path after a field step (Table 7.2). -/
def pathBegin (a : Nat) (s : State) : State :=
  let s := modAx a (fun x => { x with stepCnt := 0, catches := [], blend := 0 }) s
  match (s.ax a).path with
  | 0 => closeLoop a 0 s
  | 1 => wr (F.LE_AX_STATE_STEP a) 0 (wr (F.LE_AX_STATE_ANGSRC a) 0 s)
  | 2 => wr (F.LE_AX_STATE_STEP a) 4 (wr (F.LE_AX_STATE_ANGSRC a) 2 s)
  | _ => wr (F.LE_AX_STATE_STEP a) 2 (wr (F.LE_AX_STATE_ANGSRC a) 2 s)
/-- Entry into START (R184): the path is selected from Table 7.2. -/
def toStartOne (a : Nat) (s : State) : State :=
  let pos := isSet s (F.LE_AX_CFG_POSEN a) ∧ ¬ ifFailed s (rd s (F.LE_AX_CFG_POSIF a))
  let path := if ¬ isMachine s a then 0 else if pos then (if offsetOk s a then 1 else 2) else 3
  let s := if path = 2 then wr (F.LE_AX_STATE_OFSVALID a) 0 (modAx a (fun y => { y with alignRef := none }) s) else s
  let fwd := demandForward s a
  let s := wr (F.LE_AX_STATE_STATE a) 3 (wr (F.LE_AX_STATE_CAUGHT a) 0 (wr (F.LE_AX_STATE_ANGSRC a) 0 (wr (F.LE_AX_STATE_FALLBACK a) 0 s)))
  let s := modAx a (fun x => { x with
    path := path, stepCnt := 0, startCnt := 0, fieldCnt := 0, closed := false, brkEnd := false, forward := fwd, catches := [],
    thol := 0, wol := 0, blend := 0, estClr := 0, estLow := 0, pre := false }) s
  if (exciterOf s a).isSome then wr (F.LE_AX_STATE_STEP a) 1 s else pathBegin a s
def toStart (a : Nat) (s : State) : State := each toStartOne (withExciter s a) s

/-- A request refused under R179. -/
def modeRefused (a req : Nat) (s : State) : State := logFault 0x0410 a 0 (req + 16 * axState s a) s
/-- A write of LE_AXa_MODE.REQ (R179, R183). -/
def modeWrite (a req : Nat) (s : State) : State :=
  let ty := axType s a
  if ty = 0 ∨ a ≥ s.nAxes then s
  else if ty = 7 ∨ (statorOf s a).isSome then modeRefused a (req % 8) s
  else modAx a (fun x => { x with req := some (req % 8) }) (wr (F.LE_AX_MODE_REQ a) req s)
/-- AXIS_MODE_REQUEST (R179). -/
def execAxisModeRequest (a : AxisNo) (req : Byte) (s : State) : Host.Outcome State Fault Refusal :=
  if ¬ coresRun s then unmet s else
  done (modeWrite a req.toNat s)
/-- Axis a locked with a reason (R180, Table 7.1). -/
def toLocked (a rsn : Nat) (s : State) : State := wr (F.LE_AX_STATE_STATE a) 7 (wr (F.LE_AX_STATE_LOCKRSN a) rsn s)
/-- The request of axis a acted on at the mark (Table 7.1, R182). -/
def modeAct (a req : Nat) (s : State) : State :=
  let no := modeRefused a req s
  match axState s a with
  | 0 => if req = 1 then toReady a s else if req = 3 then toLocked a 4 s else no
  | 1 => if req = 0 then wr (F.LE_AX_STATE_STATE a) 0 s else if req = 3 then toLocked a 4 s
    else if req = 2 ∧ mayRun s a then toPrecharge a s else no
  | 2 | 3 => if req = 1 then toReady a s else if req = 0 then wr (F.LE_AX_STATE_STATE a) 0 (toReady a s) else no
  | 4 | 5 =>
    if req = 0 ∨ req = 1 ∨ req = 3 then
      let go := isSet s (F.LE_AX_STATE_STOPPING a)
      wr (F.LE_AX_STATE_STOPPING a) 1 (modAx a (fun x => { x with stopTo := req, stopCnt := if go then x.stopCnt else 0 }) s)
    else if req = 2 ∧ isSet s (F.LE_AX_STATE_STOPPING a) then wr (F.LE_AX_STATE_STOPPING a) 0 s else no
  | 7 => if req = 4 ∧ rd s (F.LE_AX_STATE_LOCKRSN a) = 4 then wr (F.LE_AX_STATE_STATE a) 0 (wr (F.LE_AX_STATE_LOCKRSN a) 0 s) else no
  | _ => no
/-- The pending request of axis a taken at the mark; a reaction of the same stride discards it (R179, R183). -/
def modeMark (a : Nat) (s : State) : State :=
  let x := s.ax a
  let s := if x.req.isSome ∨ x.reacted then modAx a (fun x => { x with req := none, reacted := false }) s else s
  match x.req with
  | none => s
  | some r => if x.reacted then s else modeAct a r s

/-- Every bootstrap leg of axis a has ended its precharge (R158). -/
def preDone (s : State) (a : Nat) : Bool := (s.ax a).pre && (axLegs s a).all fun n => !(s.leg n).preOn
/-- PRECHARGE passes to START once the trim and the precharge of the axis and of its exciter have ended (R158, R178, Table 7.1). -/
def startReady (a : Nat) (s : State) : State :=
  if axState s a = 2 ∧ axType s a ≠ 7 ∧ (statorOf s a).isNone ∧ (withExciter s a).all (preDone s) then toStart a s else s
/-- OFFSET_TRIM_COMPLETE (R70): after the averaging strides the new TRIM of every channel of C takes effect together, or the trim is
abandoned for an excess; then precharge begins, and an axis without a bootstrap leg passes to START at this mark (R158). -/
def execOffsetTrimComplete (a : AxisNo) (s : State) : Host.Outcome State Fault Refusal :=
  if ¬ armedOn s then unmet s else
  match (s.ax a).trim with
  | some tr =>
    if axState s a = 2 ∧ tr.wait = 0 ∧ tr.taken ≥ trimN s then
      let ts := (tr.chans.zip tr.sums).map fun p => (p.1, Flt.roundAway p.2 (trimN s) - rdI s (F.SNS_CH_OFS_OFS_ID p.1))
      let bad := ts.filter fun p => p.2.natAbs > rd s (F.SNS_CH_LIM_TRIMLIM p.1)
      if bad ≠ [] then done (trimAbandon a (bad.map fun p => (p.1, trunc 32 p.2)) s)
      else
        let s := each (fun (p : Nat × Int) s =>
          setDup p.1 (setThr p.1 (wr (F.SNS_CH_TRIM_DONE p.1) 1 (wr (F.SNS_CH_TRIM_SKIP p.1) 0 (wrI (F.SNS_CH_TRIM_TRIM p.1) p.2 s))))) ts s
        done (startReady ((statorOf s a).getD a) (preBegin a s))
    else unmet s
  | none => unmet s
/-- PRECHARGE passes to START, START to RUN or DEGRADED or READY, at the mark (Table 7.1): to RUN after the stride in which the closed loop first
ran (R184). -/
def startMark (a : Nat) (s : State) : State :=
  let x := s.ax a
  match axState s a with
  | 2 => startReady a s
  | 3 =>
    if x.closed ∧ x.closedRan then
      if isMachine s a ∧ x.path = 3 ∧ isSet s (F.LE_AX_CFG_POSEN a) then
        wr (F.LE_AX_STATE_STATE a) 5 (wr (F.LE_AX_STATE_FALLBACK a) 1 s)
      else wr (F.LE_AX_STATE_STATE a) 4 s
    else if (x.path = 1 ∨ x.path = 2) ∧ isMachine s a ∧ ¬ x.closed ∧ inFailed s a then
      flagReact a F.SAF_AX_FLT_BLOCK (toReady a s)
    else s
  | _ => s
/-- A spanned partner takes the state and the variant of the lead's down frame (R139, R161, R180), with R149 recorded where it applies. Its
own latches block its leaving READY, and an axis fault of its own its leaving SAFE until it is cleared on its device (R142). -/
def partnerMark (a : Nat) (s : State) : State :=
  let sp := (s.ax a).span
  let cur := axState s a
  let axf := isSet s (F.SAF_AX_FLT_AXF a)
  if axType s a ≠ 7 ∨ s.lock a ≠ 0 then s else
  if cur = sp.axst then
    -- the variant of the lead, but for a partner whose own team stands latched
    if cur = 6 ∧ sp.axvar ≠ rd s (F.LE_AX_STATE_SAFEVAR a) ∧ sp.axvar ≠ 0 ∧ ¬ isSet s (F.MOD_TEAM_STAT_GSUV (a / 4)) ∧
        ¬ rdBit s F.SAF_TEAMFLT_TMLAT (a / 4) then
      let v := axVar s a sp.axvar
      let s := if v ≠ sp.axvar then wr (F.MOD_AX_STAT_CAUSE a) 5 s else s
      driveVar a v (wr (F.LE_AX_STATE_SAFEVAR a) v (wr (F.MOD_AX_STAT_SAFEVAR a) v s))
    else s
  else if cur = 6 ∧ axf then s
  else
  let ready := fun (s : State) => wr (F.LE_AX_STATE_LOCKRSN a) 0 (toReadyOne a (modAx a (fun x => { x with asc := 0 }) s))
  match sp.axst with
  | 0 => wr (F.LE_AX_STATE_STATE a) 0 (ready s)
  | 1 => ready s
  | 2 => if axf ∨ axisLatched s a ∨ 1 < cur then s else toPrechargeOne a s
  | 3 | 4 | 5 => if axActive s a then wr (F.LE_AX_STATE_STATE a) sp.axst (modAx a (fun x => { x with pre := false }) s) else s
  | 6 => if axActive s a then axisReact true a (axRank 4) (some sp.axvar) 4 F.SAF_AX_FLT_BLOCK s
    else enterSafe a ⟨axRank 4, sp.axvar, 4⟩ s
  | 7 => toLocked a 4 (ready s)
  | _ => s

/-- The speed of R176 is known and its magnitude below a limit. -/
def curMag (s : State) (a : Nat) : F32 := Flt.hypot (rd32 s (rbBase a + 8)) (rd32 s (rbBase a + 0xC))
/-- The conditions of the controlled stop counted over the stride that ends (R182). -/
def stopMark (a : Nat) (s : State) : State :=
  if isSet s (F.LE_AX_STATE_STOPPING a) then
    let ok := rampZero s a && slowerThan s a (prm s a 0x8E0) && Flt.lt (curMag s a) (Flt.mul 0x3ca3d70a (prm s a 0x840))
    modAx a (fun x => { x with stopCnt := if ok then x.stopCnt + 1 else 0 }) s
  else s
/-- CONTROLLED_STOP_COMPLETE (R182): the conditions have held for 8 strides. -/
def execControlledStopComplete (a : AxisNo) (s : State) : Host.Outcome State Fault Refusal :=
  let x := s.ax a
  if isSet s (F.LE_AX_STATE_STOPPING a) ∧ 8 ≤ x.stopCnt then
    let goal := x.stopTo
    let s := toReady a s
    done (if goal = 0 then wr (F.LE_AX_STATE_STATE a) 0 s else if goal = 3 then toLocked a 4 s else s)
  else unmet s
/-- An axis on its estimator that falls below 0.75 × SLHAND with a zero target goes to READY at the next mark (R191). -/
def estStopMark (a : Nat) (s : State) : State :=
  if angSrc s a = 1 ∧ (axState s a = 4 ∨ axState s a = 5) ∧ (s.ax a).ramp.zeroTgt ∧
      Flt.lt (Flt.abs (estSpd s a)) (Flt.mul 0x3f400000 (prm s a 0x8B8)) ∧ (s.ax a).react.isNone then
    toReady a s
  else s

/-- The axis is in START and its closed loop has not run. -/
def starting (s : State) (a step : Nat) : Bool := axState s a == 3 && !(s.ax a).closed && rd s (F.LE_AX_STATE_STEP a) == step
/-- The fault of a start: logged, its flag, and the safe state with SCAUSE 3 from the next mark (R186, R187, R189). -/
def startFault (a code data : Nat) (flag : Nat → Fld) (s : State) : State :=
  blockReact false a 3 (logFault code a 2 data (wr (flag a) 1 s))
/-- FIELD_STEP_COMPLETE (R184): the field current has been at least 0.9 × IFNOM for 16 strides. -/
def execFieldStepComplete (a : AxisNo) (s : State) : Host.Outcome State Fault Refusal :=
  if starting s a 1 ∧ 16 ≤ (s.ax a).fieldCnt then done (pathBegin a s) else unmet s
/-- ALIGN_COMPLETE (R185): the offset is taken in path P2, the open-loop ramp begins in path P3. -/
def execAlignComplete (a : AxisNo) (s : State) : Host.Outcome State Fault Refusal :=
  let x := s.ax a
  if starting s a 4 ∧ s.msStrides (prm s a 0x8D4).toNat ≤ x.stepCnt ∧ (x.path = 2 → inRest s a) then
    if x.path = 2 then
      let o : Word := BitVec.ofInt 32 (-((rd s (F.LE_AX_MOTOR_POLEP a) * (rd32 s (inBase a)).toNat : Nat) : Int))
      let k := (s.ifc (rd s (F.LE_AX_CFG_POSIF a))).refSteps
      done (closeLoop a 0 (wr (F.LE_AX_STATE_OFSVALID a) 1 (wrW (F.LE_AX_COMM_OFS a) o
        (modAx a (fun y => { y with alignRef := some k }) s))))
    else
      let psi := (gainItem a 0 s).1.psi
      done (wr (F.LE_AX_STATE_STEP a) 5 (modAx a (fun y => { y with
        thol := 0, wol := 0, stepCnt := 0, eng := { y.eng with eth := 0, ew := 0, psa := psi, psb := 0, ecnt := 0 } })
        (wr (F.LE_AX_STATE_ESTCONV a) 0 s)))
  else unmet s
/-- BLEND_COMPLETE (R188): after 16 strides the closed loop runs on the estimator. -/
def execBlendComplete (a : AxisNo) (s : State) : Host.Outcome State Fault Refusal :=
  if starting s a 6 ∧ 16 ≤ (s.ax a).blend then
    done (closeLoop a 1 (modAx a (fun y => { y with eng := { y.eng with epos := 0 } }) s))
  else unmet s
/-- BRAKE_TIMEOUT (R187). -/
def execBrakeTimeout (a : AxisNo) (s : State) : Host.Outcome State Fault Refusal :=
  if starting s a 3 ∧ ¬ (s.ax a).brkEnd ∧ s.msStrides (prm s a 0x8DC).toNat ≤ (s.ax a).stepCnt then
    done (startFault a 0x0409 (trunc 32 (Flt.toSat (estSpd s a) 65536 1 32)) F.LE_AX_SFLT_BRKFLT s)
  else unmet s
/-- START_TIMEOUT (R189): TSTMAX from START entry, the brake step excluded. -/
def execStartTimeout (a : AxisNo) (s : State) : Host.Outcome State Fault Refusal :=
  if axState s a = 3 ∧ ¬ (s.ax a).closed ∧ isMachine s a ∧ rd s (F.LE_AX_STATE_STEP a) ≠ 3 ∧
      s.msStrides (prm s a 0x8D8).toNat ≤ (s.ax a).startCnt then
    done (startFault a 0x0408 2 F.LE_AX_SFLT_STARTFLT s)
  else unmet s
/-- ESTIMATOR_LOST (R191). -/
def execEstimatorLost (a : AxisNo) (s : State) : Host.Outcome State Fault Refusal :=
  let x := s.ax a
  if angSrc s a = 1 ∧ (axState s a = 4 ∨ axState s a = 5) ∧ (32 ≤ x.estClr ∨ 16 ≤ x.estLow) then
    done (startFault a 0x040B (if 32 ≤ x.estClr then 1 else 2) F.LE_AX_SFLT_ESTLOST s)
  else unmet s

/-- The sum of a list in binary32. -/
def sumF (l : List F32) : F32 := each (fun v acc => Flt.add acc v) l 0
/-- The catch fit of R186: the offset φ0 and slope per stride by least squares, the residual (rms), the mean amplitude. -/
def catchFit (l : List (F32 × F32)) : F32 × F32 × F32 × F32 :=
  let n := l.length
  let nf := Flt.ofNat n
  let ks := (List.range n).map Flt.ofNat
  let ph := l.map (·.1)
  let mk := Flt.div (sumF ks) nf
  let mp := Flt.div (sumF ph) nf
  let sxy := sumF ((ks.zip ph).map fun p => Flt.mul (Flt.sub p.1 mk) (Flt.sub p.2 mp))
  let sxx := sumF (ks.map fun k => Flt.mul (Flt.sub k mk) (Flt.sub k mk))
  let b := if n ≤ 1 then 0 else Flt.div sxy sxx
  let a := Flt.sub mp (Flt.mul b mk)
  let r := Flt.sqrt (Flt.div (sumF ((ks.zip ph).map fun p =>
    let e := Flt.sub p.2 (Flt.add a (Flt.mul b p.1)); Flt.mul e e)) nf)
  (a, b, r, Flt.div (sumF (l.map (·.2))) nf)
/-- The estimator set to the caught rotor (Table 7.3). -/
def catchSet (a : Nat) (th w : F32) (s : State) : State :=
  let psi := (gainItem a 0 s).1.psi
  modAx a (fun y => { y with eng := { y.eng with
    eth := th, ew := w, psa := Flt.mul psi (Flt.cos th), psb := Flt.mul psi (Flt.sin th), epos := 0 } }) s
/-- The mechanical speed of the fit, in rev/s (R186). -/
def catchSpd (s : State) (a : Nat) : F32 :=
  Flt.div (Flt.div (catchFit (s.ax a).catches).2.1 s.tSec) (Flt.mul Flt.twoPi (polepF s a))
/-- CATCH_WINDOW_END (R186): the fit of the window and the decision of Table 7.3. -/
def execCatchWindowEnd (a : AxisNo) (s : State) : Host.Outcome State Fault Refusal :=
  let x := s.ax a
  let n := s.strides 2000
  if starting s a 2 ∧ n ≤ x.catches.length then
    let (p0, b, r, amp) := catchFit x.catches
    let we := Flt.div b s.tSec
    let wm := catchSpd s a
    let align := wr (F.LE_AX_STATE_STEP a) 4 (wr (F.LE_AX_STATE_ANGSRC a) 2 (modAx a (fun y => { y with stepCnt := 0 }) s))
    if Flt.lt amp (prm s a 0x8BC) then done align
    else if Flt.lt 0x3e4ccccd r then done (startFault a 0x0408 1 F.LE_AX_SFLT_STARTFLT s)
    else if Flt.lt (Flt.abs wm) (prm s a 0x8C0) then done align
    else
      let th := Flt.wrap (Flt.sub (Flt.add p0 (Flt.mul b (Flt.ofNat x.catches.length)))
        (Flt.copysign (Flt.div Flt.pi 0x40000000) we))
      let s := catchSet a th we s
      if (!Flt.sign we) = x.forward then done (wr (F.LE_AX_STATE_CAUGHT a) 1 (closeLoop a 1 s))
      else done (wr (F.LE_AX_STATE_STEP a) 3 (wr (F.LE_AX_STATE_ANGSRC a) 1 (modAx a (fun y => { y with stepCnt := 0 }) s)))
  else unmet s

/-- The strides below ASCREL counted over the stride that ends (R177). -/
def relMark (a : Nat) (s : State) : State :=
  let v := rd s (F.LE_AX_STATE_SAFEVAR a)
  let rel := prm s a 0x8E4
  let ok := axState s a = 6 ∧ (v = 1 ∨ v = 2) ∧ Flt.lt 0 rel ∧ isSet s (F.LE_AX_CFG_POSEN a) ∧ inSpdValid s a ∧ ¬ inFailed s a ∧
    Flt.lt (Flt.abs (spdF (inSpd s a))) rel
  modAx a (fun x => { x with relCnt := if ok then x.relCnt + 1 else 0 }) s
/-- ASC_RELEASED (R177): the short circuit is left for FREEWHEEL. -/
def execAscReleased (a : AxisNo) (s : State) : Host.Outcome State Fault Refusal :=
  if ¬ armedOn s then unmet s else
  let v := rd s (F.LE_AX_STATE_SAFEVAR a)
  if axState s a = 6 ∧ (v = 1 ∨ v = 2) ∧ 64 ≤ (s.ax a).relCnt then
    let s := driveVar a 3 (wr (F.LE_AX_STATE_SAFEVAR a) 3 (wr (F.MOD_AX_STAT_SAFEVAR a) 3 (modAx a (fun x => { x with relCnt := 0 }) s)))
    done (logFault 0x040D a 0 (trunc 32 (inSpd s a)) s)
  else unmet s

/-- The legs of axis a counted at mark E: faulted, or of a set opened earlier. -/
def legsCounted (s : State) (a : Nat) : List Nat :=
  (axLegs s a).filter fun n => isSet s (F.MOD_LEG_FLT_FAULTED n) || (isSet s (F.MOD_AX_STAT_DEG a) && (s.leg n).blk)
/-- The partner's faulted legs as a spanned lead counts them (R139). -/
def farLegs (s : State) (a : Nat) : List Nat := if axType s a = 6 then bitsOf (s.ax a).span.flegs 6 else []
/-- The SIDE of the one faulted leg. -/
def legSide (s : State) (a : Nat) : Nat :=
  match (axLegs s a).find? (fun n => isSet s (F.MOD_LEG_FLT_FAULTED n)), farLegs s a with
  | some n, _ => rd s (F.MOD_LEG_FLT_SIDE n)
  | none, i :: _ => (s.ax a).span.sides / 4 ^ i % 4
  | none, [] => 0
/-- Rows 2 to 6 of Table 6.2 for one faulted leg with its side: variant 0 with an opened set, else the variant, and the cause. -/
def legRow (side pol ty st rule : Nat) (boot : Bool) : Nat × Nat :=
  if side = 3 then (3, 3)
  else if pol = 3 ∧ ty = 2 ∧ (st = 3 ∨ st = 4) then (0, 1)
  else if pol = 2 then (3, 1)
  else if pol = 1 ∨ rule ≠ 3 then (if side = 1 then (1, 1) else if boot then (3, 5) else (2, 1))
  else (3, 1)
/-- The reaction of axis a to its leg faults at mark E (R161, Table 6.2); a linked exciter goes to FREEWHEEL (R178). -/
def legDecide (s : State) (a : Nat) : Nat × Nat :=
  if (legsCounted s a).length + (farLegs s a).length > 1 then (3, 2)
  else if (statorOf s a).isSome then (3, if legSide s a = 3 then 3 else 1)
  else legRow (legSide s a) (rd s (F.MOD_AX_CFG_LFPOL a)) (axType s a) (axState s a) (speedRule s a) (hasBoot s a)
/-- The mask of the team legs counted (MOD_AXa_STAT.FLEGS). -/
def legMask (s : State) (a : Nat) : Nat := maskOf ((legsCounted s a).map (· % 12))
/-- LEG_REACTION (R161): the decision of mark E, for every axis with a leg fault latched since the last one. A spanned partner takes
the lead's decision from the down frame. A reaction that has sent the axis to SAFE within the stride gives way where the leg fault ranks
before it (R426). -/
def legMark (a : Nat) (s : State) : State :=
  let x := s.ax a
  if ¬ x.legNew then s else
  let s := modAx a (fun x => { x with legNew := false }) s
  if (¬ axActive s a ∧ x.taken.isNone) ∨ axType s a = 7 then s else
  let (v, cause) := legDecide s a
  let m := legMask s a
  let outranked := match x.taken with
    | some q => decide (q.rank < axRank 1)
    | none => false
  let s := wr (F.MOD_AX_STAT_FLEGS a) m (if outranked then s else wr (F.MOD_AX_STAT_CAUSE a) cause s)
  let s := logFault 0x0505 a 2 (v + 16 * cause + 256 * m) s
  if v = 0 then
    let legs := axLegs s a
    let set := if (legs.take 3).any fun n => isSet s (F.MOD_LEG_FLT_FAULTED n) then legs.take 3 else legs.drop 3
    let (p, s) := carNow (a / 4) s
    let s := each (fun n => modLeg n fun l => { l.off p with blk := true }) set s
    flagReact a F.SAF_AX_FLT_BLOCK (wr (F.MOD_AX_STAT_DEG a) 1 (wr (F.LE_AX_STATE_STATE a) 5 s))
  else axisReact true a (axRank 1) (some v) 1 F.SAF_AX_FLT_BLOCK s
/-- A reaction that waited for the mark takes effect (R426). -/
def reactMark (a : Nat) (s : State) : State :=
  match (s.ax a).react with
  | none => s
  | some r =>
    let s := modAx a (fun x => { x with react := none }) s
    if axActive s a then enterSafe a r s else s
/-- The entry into SAFE of the stride logged at the mark, with the reaction that ranked first (R426). -/
def safeLog (a : Nat) (s : State) : State :=
  match (s.ax a).taken with
  | none => s
  | some r => logFault 0x040C a 0 (r.var + 16 * r.scause) (modAx a (fun x => { x with taken := none }) s)

/-! ### Active discharge -/

/-- The winding path stops: the legs Hi-Z (R192, R194). -/
def windOff (g : Nat) (s : State) : State :=
  let a := rd s (F.LE_DCL_DCFG_DAX g)
  if (s.ax a).winding then
    let s := legsHiz a (modAx a (fun x => { x with winding := false, windPre := false }) s)
    let s := if axState s a = 6 then setBlk a true s else s
    wr (F.LE_DCL_DSTAT_WIND g) 0 (wr (F.LE_AX_STATE_STEP a) 0 s)
  else s
/-- The end of a discharge with the flag given. -/
def dischEnd (g : Nat) (s : State) : State :=
  windOff g (wr (F.LE_DCL_DSTAT_ACTIVE g) 0 (wr (F.LE_DCL_DSTAT_RES g) 0 (modDcl g (fun d => { d with strides := 0, low := 0, abort := false }) s)))
/-- DISCHARGE_START (R193): the host command. -/
def dischStart (g : Nat) (s : State) : State :=
  if isSet s (F.LE_DCL_DCFG_EN g) ∧ isSet s (F.LE_DCL_DCFG_TRGHOST g) then
    let act := (dclAxes s g).filter (axActive s)
    if act ≠ [] then logFault 0x040F g 1 (maskOf act) s else dischTrigger g 1 s
  else s
def execDischargeStart (g : Fin 4) (s : State) : Host.Outcome State Fault Refusal :=
  if ¬ coresRun s then unmet s else
  done (dischStart g s)
/-- DISCHARGE_ABORT (R193): a host-triggered discharge ends at the next mark. -/
def dischAbort (g : Nat) (s : State) : State :=
  if isSet s (F.LE_DCL_DSTAT_ACTIVE g) ∧ rd s (F.LE_DCL_DSTAT_SRC g) = 1 then modDcl g (fun d => { d with abort := true }) s else s
def execDischargeAbort (g : Fin 4) (s : State) : Host.Outcome State Fault Refusal :=
  if ¬ coresRun s then unmet s else
  done (dischAbort g s)
/-- The valid VALUEs of a group's ROLE 3 channels, and their channels. -/
def dclValid (s : State) (g : Nat) : List Nat := (dclChans s g).filter fun n => isSet s (F.SNS_CH_RES_VALID n)
/-- The conditions of the winding path (R192). -/
def windOk (s : State) (g : Nat) : Bool :=
  let a := rd s (F.LE_DCL_DCFG_DAX g)
  let st := axState s a
  bit (rd s (F.LE_DCL_DCFG_PATH g)) 1 && rd s (F.LE_DCL_DSTAT_SRC g) != 3 &&
  (st == 0 || st == 1 || (st == 6 && rd s (F.LE_AX_STATE_SAFEVAR a) == 3 && rd s (F.LE_AX_STATE_SCAUSE a) == 8)) &&
  (axLegs s a).all (fun n => !isSet s (F.MOD_LEG_FLT_FAULTED n)) && rdBit s F.SAF_TEAMEN_EN (a / 4) &&
  !isSet s (F.MOD_TEAM_STAT_GSUV (a / 4)) && inSpdValid s a && !inFailed s a && Flt.lt (Flt.abs (spdF (inSpd s a))) (prm s a 0x8F8)
/-- The winding path at a mark: begun with its precharge, begun with its switching, or stopped (R192). -/
def windMark (g : Nat) (s : State) : State :=
  let a := rd s (F.LE_DCL_DCFG_DAX g)
  if windOk s g then
    if ¬ (s.ax a).winding then
      let s := setBlk a false (legsHiz a (modAx a (fun x => { x with winding := true, windPre := true, eng := { x.eng with f1 := {}, f2 := {} } }) s))
      let s := each (fun n s => if isSet s (F.MOD_LEG_CFG_BOOT n) then
        modLeg n (fun l => { l with preOn := true, lastHi := some false, edges := [] }) s else s) (axLegs s a) s
      wr (F.LE_AX_STATE_STEP a) 7 (wr (F.LE_AX_STATE_ANGSRC a) 0 s)
    else if (s.ax a).windPre ∧ (axLegs s a).all (fun n => !(s.leg n).preOn) then
      wr (F.LE_DCL_DSTAT_WIND g) 1 (modAx a (fun x => { x with windPre := false }) s)
    else s
  else windOff g s
/-- A discharge at a mark: its time, its voltage, its winding path, a waiting abort (R192 to R194). -/
def dischMark (g : Nat) (s : State) : State :=
  if ¬ isSet s (F.LE_DCL_DSTAT_ACTIVE g) then s else
  if (s.dcl g).abort then dischEnd g s else
  let d := s.dcl g
  let tgt := rdW s (F.LE_DCL_DTGT_VDCTGT g)
  let vs := dclValid s g
  let below := decide (vs ≠ []) && vs.all fun n => Flt.lt (chanQty s n (rdI s (F.SNS_CH_RES_VALUE n))) tgt
  let n := d.strides + 1
  let ms := n * s.per / 800000
  let s := modDcl g (fun d => { d with strides := n, low := if below then d.low + 1 else 0 }) s
  windMark g (wr (F.LE_DCL_DSTAT_ELAPSED g) (if ms > 65535 then 65535 else ms) s)
/-- The marks of R194 are counted: elsewhere, as in SAVE and PARKED, no stride of the drive runs and the command tells what has lasted. -/
def dischMarks (s : State) : Bool := armedOn s
/-- DISCHARGE_COMPLETE (R194): below VDCTGT for 16 strides. -/
def execDischargeComplete (g : Fin 4) (s : State) : Host.Outcome State Fault Refusal :=
  if isSet s (F.LE_DCL_DSTAT_ACTIVE g) ∧ (dischMarks s → 16 ≤ (s.dcl g).low) then done (wr (F.LE_DCL_DSTAT_DONE g) 1 (dischEnd g s)) else unmet s
/-- TDCHMAX has passed since the trigger (R194). -/
def dischOver (s : State) (g : Nat) : Bool :=
  decide (s.msStrides (rd s (F.LE_DCL_DCFG_TDCHMAX g)) ≤ (s.dcl g).strides) || !dischMarks s
/-- DISCH_TIMEOUT (R194). -/
def execDischTimeout (g : Fin 4) (s : State) : Host.Outcome State Fault Refusal :=
  if isSet s (F.LE_DCL_DSTAT_ACTIVE g) ∧ dischOver s g then
    let hi := maxInt 0 ((dclValid s g).map fun n => rdI s (F.SNS_CH_RES_VALUE n))
    done (logFault 0x040E g 1 (trunc 32 hi) (wr (F.LE_DCL_DSTAT_TIMEOUT g) 1 (dischEnd g s)))
  else unmet s

end Sys2Proof.Machine
end

