-- ==== Sys2Proof/Machine/Halter.lean ====
section
/-! DEFINITION. The safety channel (R200 to R224): the SMC's work of a stride, the variant table, the torque monitor, the Halter's
enables and its heartbeat watch, clearing requests, safe inputs, safe brake outputs, and the clock monitor. -/
namespace Sys2Proof.Machine
open Sys2Proof

/-! ### Start checks and enables (R202, R204) -/

/-- The strides that the SMC works in: under an image, from the first mark in SYNC on (R37, R202). -/
def smcStrides (s : State) : Bool := (armedOn s || (s.dev.st == .sync && !held s)) && s.dev.running
/-- The mask of the teams the part reports. -/
def teamMask (s : State) : Nat := 2 ^ s.nTeams - 1
/-- The duplicated snapshot of axis a carries a valid speed. -/
def dupSpdOk (s : State) (a : Nat) : Bool :=
  let d := (s.ax a).dup
  isSet s (F.LE_AX_CFG_POSEN a) && d.flags.getLsbD 1 && !d.flags.getLsbD 7
/-- The variant that the SMC writes for axis a: the speed rule over its own copies, with its copy of ASCSPD where the axis has a
torque-monitor block (R205, R221). -/
def smcVar (s : State) (a : Nat) : Nat :=
  let ty := axType s a
  let d := (s.ax a).dup
  let lim := if rd s (F.SAF_AX_TMCFG_MODE a) ≠ 0 then tmPrm s a 0x268 else prm s a 0x8E0
  let key : Option Int :=
    if dupSpdOk s a then some (d.spd.toInt * 2 ^ 284)
    else if isSet s (F.LE_AX_STATE_ESTCONV a) then some (Flt.key (rd32 s (rbBase a + 0x60)))
    else match (s.mon a).spd with
      | some (v, age) => if age ≤ 64 then some (v * 2 ^ 284) else none
      | none => none
  if ty = 7 then (s.ax a).span.safech
  else if ty = 4 ∨ ty = 5 then 3
  else if ty = 3 ∧ !isSet s (F.LE_AX_CFG_POSEN a) then 3
  else match key with
    | none => ascVar s a
    | some k => if Flt.key lim ≤ k.natAbs then ascVar s a else 3
/-- The SMC's entry of the variant table for axis a written (R205); R149 turns an ASC_HIGH into FREEWHEEL here too, and the substitution is
recorded when the axis takes the variant. -/
def writeVar (a : Nat) (s : State) : State :=
  let ok := dupSpdOk s a
  let v := (s.ax a).dup.spd.toInt
  let s := modMon a (fun m => { m with
    age := 0, spd := if ok then some (v, 0) else m.spd.map fun p => (p.1, if p.2 < 65 then p.2 + 1 else 65) }) s
  let raw := smcVar s a
  let s := modMon a (fun m => { m with ascHigh := raw == 2 }) s
  wr (F.SAF_AX_TMSTAT_STALE a) 0 (wr (F.SAF_AX_TMSTAT_VAR a) (axVar s a raw) s)
/-- SMC_START_CHECKS (R202, R204): in ARMED under an image, since without one the SMC never reports them (R348), before SMCOK. `path.low`
names the teams whose driven line reads back 0, `path.high` those whose withdrawn line still reads 1. A team whose enable path fails takes its team reaction with the first check that failed, and SMCOK stays
clear until the next start. -/
def execSmcStartChecks (romOk crcOk monOk : Bool) (path : PathFail) (s : State) : Host.Outcome State Fault Refusal :=
  let ts := List.range s.nTeams
  if s.dev.st == .armed ∧ isSet s F.CFG_STAT_LOADED ∧ ¬ isSet s F.SAF_STAT_SMCOK ∧ ts.all (fun t => !(s.team t).pathFail) then
    let s := each writeVar (axesUsed s) s
    let bad := ts.filter fun t => path.low.getLsbD t || path.high.getLsbD t
    let s := each (fun t s => wrBit F.SAF_TEAMEN_RB t (path.high.getLsbD t)
      (tmFault 0x060E t (if path.low.getLsbD t then 1 else 2) t (modTeam t (fun x => { x with pathFail := true }) s))) bad s
    if romOk ∧ crcOk ∧ monOk ∧ bad = [] then
      done (faultN (wr F.SAF_STAT_SMCOK 1 (wr F.SAF_TEAMEN_REQ (teamMask s) s)))
    else done s
  else unmet s
/-- ENABLE_READBACK (R204): the readback of team t's enable line; a disagreement with the enable driven latches a team reaction. -/
def execEnableReadback (t : TeamNo) (rb : Bool) (s : State) : Host.Outcome State Fault Refusal :=
  if ¬ monitored s then unmet s else
  let en := rdBit s F.SAF_TEAMEN_EN t
  if en = rb then done (wrBit F.SAF_TEAMEN_RB t rb s)
  else done (wrBit F.SAF_TEAMEN_RB t rb (tmFault 0x060E t (b2n en + 2 * b2n rb) t s))
/-- A safe input with FUNC = STO requests its function for team t (R215). -/
def stoTeam (s : State) (t : Nat) : Bool :=
  (List.range 16).any fun n => isSet s (F.SAF_SI_STAT_REQ n) && rd s (F.SAF_SI_CFG_FUNC n) == 1 && bit (rd s (F.SAF_SI_CFG_MASK n)) t
/-- The conditions of R23 under which the Halter grants the enable of team t. -/
def mayEnable (s : State) (t : Nat) : Bool :=
  s.dev.st == .service && s.saf.islandClk && isSet s F.SAF_STAT_SMCOK && !isSet s F.SAF_STAT_DVLAT && rdBit s F.SAF_TEAMEN_REQ t &&
  !rdBit s F.SAF_TEAMFLT_TMLAT t && !stoTeam s t && !(s.team t).enWait
/-- The enable of team t at a mark; its readback follows a change (R23, R204, R209). -/
def haltGrant (t : Nat) (s : State) : State :=
  let en := mayEnable s t
  let s := if (s.team t).enWait then modTeam t (fun x => { x with enWait := false }) s else s
  if rdBit s F.SAF_TEAMEN_EN t = en then s else wrBit F.SAF_TEAMEN_EN t en (wrBit F.SAF_TEAMEN_RB t en s)
/-- VARTAB_STALE (R205): an entry not written for 64 strides. -/
def execVartabStale (a : AxisNo) (s : State) : Host.Outcome State Fault Refusal :=
  if ¬ smcStrides s then unmet s else
  if axType s a ≠ 0 ∧ 64 ≤ (s.mon a).age ∧ ¬ isSet s (F.SAF_AX_TMSTAT_STALE a) then
    let s := wr (F.SAF_AX_TMSTAT_STALE a) 1 s
    done (logFault 0x060D a 1 (axVar s a (tableVar s a)) s)
  else unmet s
/-- The SMC runs: in every stride, its clock present, its heartbeat not lost. -/
def smcRuns (s : State) : Bool := smcStrides s && s.saf.islandClk && !s.saf.smcDead
/-- SMC_HEARTBEAT (R206): two marks without a correct heartbeat; the SMC has stopped, and its table ages. -/
def execSmcHeartbeat (s : State) : Host.Outcome State Fault Refusal :=
  if smcRuns s then done (dvFault 0x0606 0 (s.saf.hbSeq % 2 ^ 32) (s.setSaf { s.saf with smcDead := true })) else unmet s

/-! ### Torque monitor (R201, R210 to R212) -/

/-- A quantity of a channel from its duplicated result (R210). -/
def dupQty (s : State) (n : Nat) : F32 :=
  let c := s.chan n
  chanQty s n (if c.dupValid then c.dupValue else c.dupLast)
/-- The duplicated phase currents of axis a. -/
def dupCurs (s : State) (a : Nat) : List (Option F32) := (axLegs s a).map fun n => (curChan s n).map (dupQty s)
/-- The three-phase sets of a list of phase currents. -/
def phaseSets (l : List (Option F32)) : List (F32 × F32 × F32) :=
  (if l.length ≤ 3 then [l] else [l.take 3, l.drop 3]).map fill3
/-- The flux linkage of a map at (id, iq): bilinear, clamped at the edges (R210, Table 8.4: index [iq][id]). -/
def tmFlux (s : State) (a base : Nat) (id iq : F32) : F32 :=
  let x := locate ((List.range 8).map fun k => tmPrm s a (4 * k)) id
  let y := locate ((List.range 8).map fun k => tmPrm s a (0x20 + 4 * k)) iq
  interp (fun ix iy => tmPrm s a (base + 32 * iy + 4 * ix)) x.1 y.1 x.2.1 y.2.1
/-- The flux torque term ψd × iq − ψq × id of one set at an electrical angle turned back by `sh` for the second set. -/
def setTorque (s : State) (a : Nat) (th : Word) (v : V2) : F32 :=
  let i := park (Config.smcCos th) (Config.smcSin th) v
  Flt.sub (Flt.mul (tmFlux s a 0x40 i.1 i.2) i.2) (Flt.mul (tmFlux s a 0x140 i.1 i.2) i.1)
/-- POLEP of the torque-monitor block. -/
def tmPolep (s : State) (a : Nat) : Nat := (tmPrm s a 0x260).toNat
/-- POLEP × ANG of the duplicated snapshot. -/
def tmTheta0 (s : State) (a : Nat) : Word := BitVec.ofNat 32 (tmPolep s a * (s.ax a).dup.ang.toNat)
/-- The SMC can form dq currents on axis a: its angle source is a sensor. -/
def tmDq (s : State) (a : Nat) : Bool := angSrc s a == 0 && isSet s (F.LE_AX_CFG_POSEN a)
/-- TMON of axis a at θm, and whether it is the magnitude bound (R210). -/
def tmTorque (s : State) (a : Nat) (thm : Word) : F32 × Bool :=
  let cur := dupCurs s a
  if axType s a = 3 then (Flt.mul (tmPrm s a 0x254) ((cur.getD 0 none).getD 0), false)
  else
    let sets := phaseSets cur
    if tmDq s a then
      let ab := sets.zipIdx.map fun (p : (F32 × F32 × F32) × Nat) =>
        let v := clarke p.1.1 p.1.2.1 p.1.2.2
        if p.2 = 0 then v else (let g := sigma (isSet s (F.LE_AX_CFG_SHIFT a)); rot g.1 g.2 v)
      let sum := sumF (ab.map (setTorque s a thm))
      (Flt.mul (Flt.mul 0x3fc00000 (Flt.ofNat (tmPolep s a))) sum, false)
    else
      let mags := sets.map fun (p : F32 × F32 × F32) =>
        Flt.sqrt (Flt.mul 0x3f2aaaab (Flt.add (Flt.add (Flt.mul p.1 p.1) (Flt.mul p.2.1 p.2.1)) (Flt.mul p.2.2 p.2.2)))
      (Flt.mul (tmPrm s a 0x250) (sumF mags), true)
/-- The bound of R201 applies to axis a: a safety-relevant task of a split pair owns it (assumption 31). -/
def splitLim (s : State) (a : Nat) : Bool :=
  let s0 := isSet s F.SAF_STAT_SPLIT0
  let s1 := isSet s F.SAF_STAT_SPLIT1
  (s0 || s1) && (List.range 32).any fun k =>
    isSet s (F.STR_TASK_CFG_USED k) && isSet s (F.STR_TASK_CFG_SAFETY k) && rdBit s (F.STR_TASK_AXES_AXES k) a &&
    (match tget (fun _ => 0) s.dev.taskBy k with
      | 1 => s0
      | 2 => s1
      | _ => true)
/-- The least and the greatest of the demands of the last TMWIN strides, with 0. -/
def demBounds (s : State) (a : Nat) : F32 × F32 :=
  let l := (s.mon a).dem.take (rd s (F.SAF_AX_TMCFG_TMWIN a))
  (each Flt.min l 0, each Flt.max l 0)
/-- The permitted interval of R211: lower bound, upper bound. -/
def tmInterval (s : State) (a : Nat) (mode : Nat) : F32 × F32 :=
  let th := tmPrm s a 0x240
  let b := if mode = 1 then demBounds s a else (tmPrm s a 0x248, tmPrm s a 0x244)
  let lo := Flt.sub b.1 th
  let hi := Flt.add b.2 th
  if axState s a = 5 then (let d := tmPrm s a 0x24C; (Flt.max lo (Flt.neg d), Flt.min hi d)) else (lo, hi)
/-- Monitoring is active on axis a in the stride (R210). -/
def tmActive (s : State) (a : Nat) : Bool := rd s (F.SAF_AX_TMCFG_MODE a) != 0 && loopRuns s a
/-- TORQUE_MONITOR (R210 to R212): the stride of axis a that ends at the mark is judged. Under the magnitude bound no angle is compared: the
SMC forms no θm of its own while the source is not the sensor (assumption 117). -/
def tmStride (a : Nat) (s : State) : State :=
  if ¬ tmActive s a then
    wr (F.SAF_AX_TMSTAT_ACTIVE a) 0 (wr (F.SAF_AX_TMSTAT_MAGMODE a) 0 (wr (F.SAF_AX_TMSTAT_SPLITLIM a) 0
      (modMon a (fun m => { m with on := false, ofsOk := false }) s)))
  else
    let first := !(s.mon a).on
    let thetae := rd32 s (rbBase a + 0x58)
    let s := if first then modMon a (fun m => { m with on := true, ofsOk := true, ofsm := thetae - tmTheta0 s a }) s else s
    let thm := tmTheta0 s a + (s.mon a).ofsm
    let split := splitLim s a
    let mode := if split then 2 else rd s (F.SAF_AX_TMCFG_MODE a)
    let (lo, hi) := tmInterval s a mode
    let (t, mag) := tmTorque s a thm
    let big := Flt.max (Flt.abs hi) (Flt.abs lo)
    let above := if mag then Flt.lt big t else Flt.lt hi t
    let bad := above || (!mag && Flt.lt t lo)
    let dth := thm - thetae
    let angBad := !first && !mag && axType s a ≠ 3 && decide (dth.toInt.natAbs > (tmPrm s a 0x258).toNat)
    let fail := bad || angBad
    let cnt := if first then 0 else rd s (F.SAF_AX_TMSTAT_CNT a)
    let s := modMon a (fun m => { m with
      torqueBad := bad, angleBad := angBad, dTorque := Flt.sub t (if mag then big else if above then hi else lo), dAngle := dth }) s
    wr (F.SAF_AX_TMSTAT_CNT a) (if fail then satAdd 65535 cnt 1 else 0) s |> wrB (F.SAF_AX_TMSTAT_FAILING a) fail
      |> wr (F.SAF_AX_TMSTAT_ACTIVE a) 1 |> wrB (F.SAF_AX_TMSTAT_MAGMODE a) mag |> wrB (F.SAF_AX_TMSTAT_SPLITLIM a) split
      |> wrW (F.SAF_AX_TMVAL_TMON a) t
/-- The demand held at the mark becomes D_k of the stride that begins: the share in force for a slot axis (R211, R247). -/
def demMark (a : Nat) (s : State) : State :=
  let d := match slotOf s a with
    | some (g, k) => rdW s (F.GRP_G_SHARE_SHARE g k)
    | none => (s.mon a).held
  modMon a (fun m => { m with dem := (d :: m.dem).take 255 }) s
/-- A measured cost of the SMC in a stride, which the spec does not give: a free value within the budget of R203. -/
def smcUse (s : State) : State :=
  let (v, s) := draw 16 s
  let u := v.toNat % (s.per * 792 / 10000 + 1)
  wr F.SAF_SMCBUD_MAXUSED (Nat.max u (rd s F.SAF_SMCBUD_MAXUSED)) s
/-- The SMC may write its mailbox in a stride, which raises event 4 (R22, R253): when it does is free (assumption 79). -/
def mailWrite (s : State) : State :=
  let (b, s) := draw 1 s
  if b = 1 then coreEvent 4 (s.setSaf { s.saf with mbox := s.saf.mbox + 1 }) else s
/-- N of R212. -/
def tmN (s : State) (a : Nat) : Nat := s.msStrides (rd s (F.SAF_AX_TMCFG_TMDT a))
/-- The axes that a reaction on axis a acts on (R178). -/
def reactAxes (s : State) (a : Nat) : List Nat := (statorOf s a).toList ++ withExciter s a
/-- A safe-state request of the SMC for axis a with the variant of its table entry (R208), at once or for the mark; every axis that it
sends to FREEWHEEL is watched. -/
def smcRequest (now : Bool) (a : Nat) (bitf : Nat → Fld) (s : State) : State :=
  let var := fun (b : Nat) =>
    if (statorOf s b).isSome then 3 else axVar s b (if b = a then tableVar s a else speedRule s b)
  let bs := (reactAxes s a).filter fun b => axActive s b && var b == 3
  let s := axisReact now a (axRank 7) (some (tableVar s a)) 7 bitf s
  each (fun b => modAx b fun x => { x with fwWatch := some 0 }) bs s
/-- The discrepancy count of axis a has reached N in a failing stride (R212). -/
def tmDue (s : State) (a : Nat) : Bool :=
  isSet s (F.SAF_AX_TMSTAT_ACTIVE a) && axActive s a && decide (tmN s a ≤ rd s (F.SAF_AX_TMSTAT_CNT a)) &&
  ((s.mon a).torqueBad || (s.mon a).angleBad)
/-- The request of R212, effective at the next mark: TORQUE, ANGLE or both, with a fault for each. -/
def tmRequest (a : Nat) (s : State) : State :=
  let m := s.mon a
  let s := if m.torqueBad then
    logFault 0x0601 a 2 (trunc 32 (Flt.toSat m.dTorque 10 1 32)) (smcRequest false a F.SAF_AX_FLT_TORQUE s) else s
  if m.angleBad then
    logFault 0x0602 a 2 (trunc 32 (Flt.roundAway m.dAngle.toInt 65536)) (smcRequest false a F.SAF_AX_FLT_ANGLE s) else s
/-- The stride of axis a judged, once, with the request that follows where the count reaches N (R212). -/
def tmJudge (a : Nat) (s : State) : State :=
  if (s.mon a).judged then s else
  let s := modMon a (fun m => { m with judged := true }) (tmStride a s)
  if tmDue s a then tmRequest a s else s
/-- TORQUE_DISCREPANCY (R212): the SMC's judgement of this stride brings the count of axis a to N. A stride whose judgement no command brings
is judged with the mark that ends it. -/
def execTorqueDiscrepancy (a : AxisNo) (s : State) : Host.Outcome State Fault Refusal :=
  if smcRuns s ∧ ¬ (s.mon a).judged ∧ a.val ∈ axesUsed s ∧ tmDue (tmStride a s) a then done (tmJudge a s) else unmet s
/-- SMC_STRIDE_WORK (R202): the torque monitor over the stride that ends, the variant table, the heartbeat; without the SMC the table
ages. -/
def smcWork (s : State) : State :=
  if smcRuns s then
    let s := each (fun a s => modMon a (fun m => { m with judged := false }) (tmJudge a s)) (axesUsed s) s
    let s := each writeVar (axesUsed s) s
    mailWrite (smcUse (s.setSaf { s.saf with hbSeq := s.saf.hbSeq + 1 }))
  else if smcStrides s then each (fun a => modMon a fun m => { m with age := m.age + 1 }) (axesUsed s) s
  else s
/-- The marks since a freewheel request counted (R208). -/
def watchMark (a : Nat) (s : State) : State :=
  match (s.ax a).fwWatch with
  | none => s
  | some k => modAx a (fun x => { x with fwWatch := if k < 2 then some (k + 1) else none }) s
/-- FREEWHEEL_ESCALATION (R208): a leg still commanded on at the second mark after the request. -/
def execFreewheelEscalation (n : LegNo) (s : State) : Host.Outcome State Fault Refusal :=
  if ¬ smcStrides s then unmet s else
  match legAxis s n with
  | some a =>
    if (s.ax a).fwWatch = some 2 then
      done (tmFault 0x060F a (a / 4) (a / 4) (modAx a (fun x => { x with fwWatch := none }) s))
    else unmet s
  | none => unmet s

/-! ### Clearing (R209) -/

/-- A write of 1 to SAF_AXa_FLT.AXF requests clearing. -/
def axfWrite (a : Nat) (s : State) : State :=
  if isSet s (F.SAF_AX_FLT_AXF a) then modAx a (fun x => { x with clrReq := true }) s else s
def execAxisFaultClear (a : AxisNo) (s : State) : Host.Outcome State Fault Refusal :=
  if ¬ coresRun s then unmet s else
  done (axfWrite a s)
/-- A write of ones to SAF_TEAMFLT.TMLAT requests clearing of those teams. -/
def tmlatWrite (mask : Nat) (s : State) : State :=
  each (fun t s => if rdBit s F.SAF_TEAMFLT_TMLAT t then modTeam t (fun x => { x with clrReq := true }) s else s) (bitsOf mask 8) s
def execTeamLatchClear (mask : Word) (s : State) : Host.Outcome State Fault Refusal :=
  if ¬ coresRun s then unmet s else
  done (tmlatWrite mask.toNat s)
/-- The first condition of R209 that fails for axis a, 0 with none. -/
def clearFails (s : State) (a : Nat) : Nat :=
  if axActive s a then 1
  else if s.dev.st == .recovery || rdBit s F.SAF_TEAMFLT_TMLAT (a / 4) then 2
  else if axisLatched s a then 3
  else if (s.ax a).asc ≠ 0 ∧ ¬ slowerThan s a (prm s a 0x8E0) then 4
  else 0
/-- AXIS_FAULT_CLEAR_EVAL (R209): a request judged at the mark. A zero demand of R50 ends with the axis fault. -/
def clearMark (a : Nat) (s : State) : State :=
  if ¬ (s.ax a).clrReq then s else
  let s := modAx a (fun x => { x with clrReq := false }) s
  let c := clearFails s a
  if c ≠ 0 then logFault 0x060C a 0 c (wr (F.SAF_AX_FLT_REFUSED a) 1 s)
  else
    let s := s.setReg (A.SAF_AX_FLT a) 0
    let s := modAx a (fun x => { x with asc := 0, fwWatch := none, zeroRamp := false, span := { x.span with safe := false } }) s
    if axState s a = 6 then toReady a s else s
/-- The cause of a class TM reaction of team t is gone, by its fault code (R209). -/
def causeGone (s : State) (t code : Nat) : Bool :=
  let cs := (List.range 24).map (24 * t + ·)
  let conns := (List.range 32).filter fun c =>
    rd s (F.GRP_CONN_CFG_CREACT c) == 2 && (teamAxes s t).any fun a => rd s (F.SAF_AX_TMCFG_CONN a) == c
  match code with
  | 0x060E => rdBit s F.SAF_TEAMEN_EN t == rdBit s F.SAF_TEAMEN_RB t && !(s.team t).pathFail
  | 0x0202 => (List.range 32).all fun k => !(isSet s (F.SNS_KSET_LIM_KFLT k) &&
      ([F.SNS_KSET_CFG_CHA k, F.SNS_KSET_CFG_CHB k, F.SNS_KSET_CFG_CHC k].any fun f => cs.contains (rd s f)))
  | 0x0203 => cs.all fun n => !isSet s (F.SNS_CH_STAT_PAIRFLT n)
  | 0x0204 => (teamAxes s t).all fun a => !isSet s (F.SNS_DCL_STAT_VDFLT (rd s (F.LE_AX_CFG_DCL a)))
  | 0x0209 => cs.all fun n => !isSet s (F.SNS_CH_STAT_DUPFLT n)
  | 0x0405 => !isSet s (F.LE_TEAM_STAT_UNCOR t)
  | 0x0504 => !isSet s (F.MOD_TEAM_STAT_GSUV t)
  | 0x0703 => conns.all fun c => !isSet s (F.GRP_CONN_STAT_CFAIL c)
  | 0x0704 => conns.all fun c => !isSet s (F.GRP_CONN_STAT_WDEXP c)
  | 0x0E0A => false
  | _ => true
/-- A clearing of team t's latch judged at the mark (R209). -/
def teamClearMark (t : Nat) (s : State) : State :=
  let x := s.team t
  if ¬ x.clrReq then s
  else if x.tmSrc.all (causeGone s t) ∧ ¬ x.pathFail then
    wrBit F.SAF_TEAMFLT_TMLAT t false (modTeam t (fun x => { x with clrReq := false, tmSrc := [], enWait := true }) s)
  else modTeam t (fun x => { x with clrReq := false }) s

/-! ### Safe inputs (R213 to R215) -/

/-- The filtered channels of input n evaluated (R214): agreed state, discrepancy timer, release of DFLT. -/
def siEval (n first : Nat) (s : State) : State :=
  let a := isSet s (F.SAF_SI_STAT_ACTA n)
  let b := isSet s (F.SAF_SI_STAT_ACTB n)
  let was := isSet s (F.SAF_SI_STAT_DISC n)
  if a = b then
    let s := if was ∧ ¬ (tget (fun _ => {}) s.saf.ins n).expired then bumpSat (F.SAF_SI_STAT_DISCCNT n) s else s
    let s := wrB (F.SAF_SI_STAT_PERMIT n) a (wr (F.SAF_SI_STAT_DISC n) 0 s)
    if a then s else wr (F.SAF_SI_STAT_DFLT n) 0 s
  else if was then s
  else wr (F.SAF_SI_STAT_DISC n) 1 (s.setSaf { s.saf with ins := tset (fun _ => {}) s.saf.ins n { firstCh := first } })
/-- Safe inputs are evaluated: from the end of LOAD, on the island clock. -/
def siRuns (s : State) (n : Nat) : Bool :=
  isSet s (F.SAF_SI_CFG_EN n) && s.saf.islandClk && !held s &&
  (match s.dev.st with
    | .identify | .sync | .armed | .service | .recovery => true
    | _ => false)
/-- SAFE_INPUT_CHANGE (R213, R214): the filtered levels of both channels after one or both changed in a 10 µs tick. -/
def execSafeInputChange (n : Fin 16) (aLvl bLvl : Bool) (s : State) : Host.Outcome State Fault Refusal :=
  if siRuns s n then
    let actB := if isSet s (F.SAF_SI_CFG_ANTI n) then !bLvl else bLvl
    let first := if aLvl = isSet s (F.SAF_SI_STAT_ACTA n) then 2 else 1
    done (siEval n first (wrB (F.SAF_SI_STAT_ACTA n) aLvl (wrB (F.SAF_SI_STAT_ACTB n) actB s)))
  else unmet s
/-- SI_DISCREPANCY (R214): the disagreement has lasted longer than TDISC. -/
def execSiDiscrepancy (n : Fin 16) (s : State) : Host.Outcome State Fault Refusal :=
  let x := tget (fun _ => {}) s.saf.ins n
  if siRuns s n ∧ isSet s (F.SAF_SI_STAT_DISC n) ∧ ¬ x.expired then
    done (logFault 0x0603 n 1 x.firstCh (wr (F.SAF_SI_STAT_DFLT n) 1 (wr (F.SAF_SI_STAT_DSEEN n) 1
      (s.setSaf { s.saf with ins := tset (fun _ => {}) s.saf.ins n { x with expired := true } }))))
  else unmet s
/-- The action of a requested function (R215); `onset` at the mark of its onset. -/
def siAct (n : Nat) (onset : Bool) (s : State) : State :=
  let m := rd s (F.SAF_SI_CFG_MASK n)
  match rd s (F.SAF_SI_CFG_FUNC n) with
  | 1 => each (fun t s =>
      let s := wrBit F.SAF_TEAMEN_EN t false (wrBit F.SAF_TEAMEN_RB t false s)
      each (fun a s => if axActive s a then toReadyOne a s else s) (teamAxes s t) s) (bitsOf m 8) s
  | 2 => each (fun t s =>
      each (fun a s => if axActive s a then smcRequest true a F.SAF_AX_FLT_SAFEIN s else s) (teamAxes s t) s) (bitsOf m 8) s
  | 3 => each (fun g s =>
      if isSet s (F.LE_DCL_DCFG_EN g) ∧ isSet s (F.LE_DCL_DCFG_TRGCRASH g) ∧ armedOn s ∧
        (onset ∨ ¬ isSet s (F.LE_DCL_DSTAT_CRASHLOCK g)) then dischTrigger g 2 s else s) (bitsOf m 4) s
  | _ => s
/-- SI_FUNCTION (R214, R215): the function state of input n at a mark. -/
def siMark (n : Nat) (s : State) : State :=
  if ¬ siRuns s n then s else
  let req := isSet s (F.SAF_SI_STAT_DFLT n) || !isSet s (F.SAF_SI_STAT_PERMIT n)
  let f := rd s (F.SAF_SI_CFG_FUNC n)
  let onset := req && !isSet s (F.SAF_SI_STAT_REQ n)
  let s := wrB (F.SAF_SI_STAT_REQ n) req s
  let s := if onset ∧ f ≠ 0 then logFault 0x060B n 0 f s else s
  if req then siAct n onset s else s

/-! ### Safe brake outputs (R216 to R218) -/

/-- The record of brake output n. -/
def State.brk (s : State) (n : Nat) : SafeBrk := tget (fun _ => {}) s.saf.brks n
/-- The state with the record of brake output n changed. -/
def modBrk (n : Nat) (f : SafeBrk → SafeBrk) (s : State) : State :=
  s.setSaf { s.saf with brks := tset (fun _ => {}) s.saf.brks n (f (s.brk n)) }
/-- Output n is energised, an off-pulse of a test included. -/
def sbOn (s : State) (n : Nat) : Bool := isSet s (F.SAF_SB_STAT_RELEASED n) || isSet s (F.SAF_SB_STAT_TESTING n)
/-- The conditions of R216 for output n. -/
def sbMay (s : State) (n : Nat) : Bool :=
  let a := rd s (F.SAF_SB_CFG_AXLINK n)
  let st := axState s a
  isSet s (F.SAF_SB_CFG_EN n) && isSet s (F.SAF_SB_CMD_REL n) && s.dev.st == .service && !isSet s F.SAF_STAT_DVLAT &&
  (List.range 16).all (fun i => !(isSet s (F.SAF_SI_STAT_REQ i) && rd s (F.SAF_SI_CFG_FUNC i) == 4 && bit (rd s (F.SAF_SI_CFG_MASK i)) n)) &&
  !isSet s (F.SAF_SB_STAT_TESTFLT n) && !isSet s (F.SAF_SB_STAT_RBFLT n) &&
  (!isSet s (F.SAF_SB_CFG_AXEN n) || st == 3 || st == 4 || st == 5) && (!isSet s (F.SAF_SB_CFG_ONSAFE n) || st != 6)
/-- The conditions evaluated at the mark. -/
def sbMark (n : Nat) (s : State) : State := let c := sbMay s n; modBrk n (fun b => { b with cond := c }) s
/-- Both commands of output n low; a test is abandoned (R216 to R218). -/
def sbOff (n : Nat) (s : State) : State :=
  wr (F.SAF_SB_STAT_CMDH n) 0 s |> wr (F.SAF_SB_STAT_CMDL n) 0 |> wr (F.SAF_SB_STAT_RELEASED n) 0 |> wr (F.SAF_SB_STAT_TESTING n) 0
/-- SAFE_BRAKE_SLOT (R216): output n takes the conditions of the latest mark. -/
def execSafeBrakeSlot (n : Fin 8) (s : State) : Host.Outcome State Fault Refusal :=
  if ¬ s.saf.islandClk then unmet s
  else if (s.brk n).cond ∧ s.dev.st == .service ∧ ¬ isSet s F.SAF_STAT_DVLAT then
    if sbOn s n then done s
    else done (modBrk n (fun b => { b with testHi := true })
      (wr (F.SAF_SB_STAT_CMDH n) 1 s |> wr (F.SAF_SB_STAT_CMDL n) 1 |> wr (F.SAF_SB_STAT_RELEASED n) 1))
  else done (sbOff n s)
/-- The axis a brake fault acts on: the linked axis of an output that uses its link (R217). -/
def sbAxis (s : State) (n : Nat) : List Nat :=
  let a := rd s (F.SAF_SB_CFG_AXLINK n)
  if (isSet s (F.SAF_SB_CFG_AXEN n) ∨ isSet s (F.SAF_SB_CFG_ONSAFE n)) ∧ axType s a ≠ 0 then [a] else []
/-- A fault of output n: its commands fall, and its axis reacts at the next mark. -/
def sbFault (n code data : Nat) (s : State) : State :=
  axFault false code n data 7 (sbAxis s n) (modBrk n (fun b => { b with cond := false }) (sbOff n s))
/-- SB_READBACK (R217): a readback that has differed from its command for 1 ms outside a test pulse. -/
def execSbReadback (n : Fin 8) (fbh fbl : Bool) (s : State) : Host.Outcome State Fault Refusal :=
  if ¬ monitored s then unmet s else
  let s := wrB (F.SAF_SB_STAT_FBH n) fbh (wrB (F.SAF_SB_STAT_FBL n) fbl s)
  let h := isSet s (F.SAF_SB_STAT_CMDH n)
  let l := isSet s (F.SAF_SB_STAT_CMDL n)
  if isSet s (F.SAF_SB_CFG_EN n) ∧ ¬ isSet s (F.SAF_SB_STAT_TESTING n) ∧ ¬ isSet s (F.SAF_SB_STAT_RBFLT n) ∧ (fbh ≠ h ∨ fbl ≠ l) then
    done (sbFault n 0x0605 (b2n fbh + 2 * b2n fbl + 4 * b2n h + 8 * b2n l) (wr (F.SAF_SB_STAT_RBFLT n) 1 s))
  else done s
/-- SB_TEST_PULSE (R218): the off-pulse that falls due, the high side first after energising, then each side in turn. -/
def execSbTestPulse (n : Fin 8) (s : State) : Host.Outcome State Fault Refusal :=
  if ¬ smcStrides s then unmet s else
  if isSet s (F.SAF_SB_STAT_RELEASED n) then
    done (wr (if (s.brk n).testHi then F.SAF_SB_STAT_CMDH n else F.SAF_SB_STAT_CMDL n) 0 s
      |> wr (F.SAF_SB_STAT_RELEASED n) 0 |> wr (F.SAF_SB_STAT_TESTING n) 1)
  else unmet s
/-- SB_TEST_PULSE_END (R218): the tested readback at the end of the pulse. -/
def execSbTestPulseEnd (n : Fin 8) (fb : Bool) (s : State) : Host.Outcome State Fault Refusal :=
  if ¬ smcStrides s then unmet s else
  if isSet s (F.SAF_SB_STAT_TESTING n) then
    let hi := (s.brk n).testHi
    let s := wrB (if hi then F.SAF_SB_STAT_FBH n else F.SAF_SB_STAT_FBL n) fb s
    if fb then done (sbFault n 0x0604 (if hi then 1 else 2) (wr (F.SAF_SB_STAT_TESTFLT n) 1 s))
    else done (bumpWrap (F.SAF_SB_STAT_TESTCNT n) (modBrk n (fun b => { b with testHi := !hi })
      (wr (F.SAF_SB_STAT_CMDH n) 1 s |> wr (F.SAF_SB_STAT_CMDL n) 1 |> wr (F.SAF_SB_STAT_RELEASED n) 1 |> wr (F.SAF_SB_STAT_TESTING n) 0)))
  else unmet s
/-- A write of ones to TESTFLT and RBFLT of output n: accepted while it is de-energised with both readbacks 0 (R218). -/
def sbClear (n v : Nat) (s : State) : State :=
  if isSet s (F.SAF_SB_STAT_CMDH n) ∨ isSet s (F.SAF_SB_STAT_CMDL n) ∨ isSet s (F.SAF_SB_STAT_FBH n) ∨ isSet s (F.SAF_SB_STAT_FBL n) then s
  else
    let s := if bit v 5 then wr (F.SAF_SB_STAT_TESTFLT n) 0 s else s
    if bit v 6 then wr (F.SAF_SB_STAT_RBFLT n) 0 s else s
/-- SB_FAULT_CLEAR (R218). -/
def execSbFaultClear (n : Fin 8) (v : Word) (fbh fbl : Bool) (s : State) : Host.Outcome State Fault Refusal :=
  if ¬ coresRun s then unmet s else
  done (sbClear n v.toNat (wrB (F.SAF_SB_STAT_FBH n) fbh (wrB (F.SAF_SB_STAT_FBL n) fbl s)))

/-! ### Clock monitor (R27, R220) -/

/-- The class of Table 1.3. -/
def clkClass (dev : Int) (lost : Bool) : Nat := if lost ∨ dev.natAbs > 600 then 2 else if dev.natAbs > 100 then 1 else 0
/-- CLOCK_MONITOR_WINDOW (R27, R220): a window of 10 µs with its measured deviation in 0.01 %. PARKED and SLEEP watch no clock (Table 1.7,
R374). -/
def execClockMonitorWindow (dev : Int) (lost : Bool) (s : State) : Host.Outcome State Fault Refusal :=
  if ¬ s.saf.islandClk ∨ held s ∨ s.dev.st = .parked ∨ s.dev.st = .sleep then unmet s else
  let d := sat 16 dev
  let c := clkClass dev lost
  let n := if c = 1 then satAdd 255 (rd s F.SAF_CLK_MARGCNT) 1 else 0
  let again := rd s F.SAF_CLK_MARGCNT = 255
  let s := wrI F.SAF_CLK_DEV d (wr F.SAF_CLK_CLASS c (wr F.SAF_CLK_MARGCNT n s))
  if c = 2 then done (dvFault 0x0607 0 (trunc 32 d) s)
  else if n = 4 ∧ ¬ again then done (logFault 0x0608 0 1 (trunc 32 d) s)
  else done s
/-- ISLAND_CLOCK_LOST (R27, R220): the enables fall at the gate output cells and no short circuit is driven. -/
def execIslandClockLost (s : State) : Host.Outcome State Fault Refusal :=
  if ¬ monitored s then unmet s else
  if s.saf.islandClk then
    let s := s.setSaf { s.saf with islandClk := false }
    let s := wr F.SAF_TEAMEN_EN 0 (wr F.SAF_TEAMEN_RB 0 s)
    done (deviceReact (fun _ _ => 3) 0x0609 (logFault 0x0609 0 4 0 s))
  else unmet s

end Sys2Proof.Machine
end

