-- ==== Sys2Proof/Machine/Groups.lean ====
section
/-! DEFINITION. Safe frames and redundant groups (R225 to R250): copies, pairing and watchdogs; member frames, the rein, the shares in
force, arbitration, and what a stride mark decides for a group. -/
namespace Sys2Proof.Machine
open Sys2Proof

/-- Group g. -/
def State.group (s : State) (g : Nat) : Group := tget (fun _ => {}) s.grp.groups g
/-- The state with group g changed. -/
def modGroup (g : Nat) (f : Group → Group) (s : State) : State :=
  s.setGrp { s.grp with groups := tset (fun _ => {}) s.grp.groups g (f (s.group g)) }
/-- Connection c. -/
def State.conn (s : State) (c : Nat) : Conn := tget (fun _ => {}) s.grp.conns c
/-- The state with connection c changed. -/
def modConn (c : Nat) (f : Conn → Conn) (s : State) : State :=
  s.setGrp { s.grp with conns := tset (fun _ => {}) s.grp.conns c (f (s.conn c)) }

/-! ### What the image says -/

/-- Members of group g. -/
def grpMembers (s : State) (g : Nat) : Nat := if isSet s (F.GRP_G_CFG_TRIPLEX g) then 3 else 2
/-- This member's rank. -/
def grpRank (s : State) (g : Nat) : Nat := rd s (F.GRP_G_CFG_RANK g)
/-- The device number of a rank. -/
def grpDev (s : State) (g r : Nat) : Nat :=
  match r with
  | 0 => rd s (F.GRP_G_MEM_DEV0 g)
  | 1 => rd s (F.GRP_G_MEM_DEV1 g)
  | _ => rd s (F.GRP_G_MEM_DEV2 g)
/-- The member connection of a rank. -/
def grpMc (s : State) (g r : Nat) : Nat :=
  match r with
  | 0 => rd s (F.GRP_G_CONN_MC0 g)
  | 1 => rd s (F.GRP_G_CONN_MC1 g)
  | _ => rd s (F.GRP_G_CONN_MC2 g)
/-- The slot axes of group g, each with its slot. -/
def grpSlots (s : State) (g : Nat) : List (Nat × Nat) :=
  (if isSet s (F.GRP_G_AX_AX0EN g) then [(0, rd s (F.GRP_G_AX_AX0 g))] else []) ++
  (if isSet s (F.GRP_G_AX_AX1EN g) then [(1, rd s (F.GRP_G_AX_AX1 g))] else [])
/-- L of R236. -/
def grpL (s : State) (g : Nat) : Nat := rd s (F.GRP_G_CFG_LEASE g) + 1
/-- The group and rank whose member connection, other than this member's own, is c. -/
def memberConn (s : State) (c : Nat) : Option (Nat × Nat) :=
  ((List.range 4).flatMap fun g => (List.range 3).map fun r => (g, r)).find? fun (p : Nat × Nat) =>
    isSet s (F.GRP_G_CFG_EN p.1) && decide (p.2 < grpMembers s p.1) && p.2 != grpRank s p.1 && grpMc s p.1 p.2 == c
/-- The group whose host connection is c. -/
def hostConn (s : State) (c : Nat) : Option Nat :=
  (List.range 4).find? fun g => isSet s (F.GRP_G_CFG_EN g) && isSet s (F.GRP_G_CONN_HEN g) && rd s (F.GRP_G_CONN_HC g) == c
/-- The group unit of group g runs: in use, not kept off, past OFF, in ARMED or SERVICE (R225, R243, R246). -/
def grpRuns (s : State) (g : Nat) : Bool :=
  isSet s (F.GRP_G_CFG_EN g) && !(s.group g).off && isSet s (F.GRP_G_STAT_STATE g) && (s.dev.st == .armed || s.dev.st == .service)
/-- A term newer than another in serial-number arithmetic, 0 being none (R235). -/
def termNewer (a b : Nat) : Bool := a != 0 && (b == 0 || (let d := (a + 65536 - b) % 65536; 1 ≤ d && d < 32768))
/-- The term after another; 0 is none and is left out (assumption 33). -/
def termNext (t : Nat) : Nat := if t % 65536 = 65535 then 1 else t + 1
/-- The group's term, AGE and QAGE. -/
def grpTerm (s : State) (g : Nat) : Nat := rd s (F.GRP_G_STAT_TERM g)
def grpAge (s : State) (g : Nat) : Nat := rd s (F.GRP_G_LEASE_AGE g)
def grpQage (s : State) (g : Nat) : Nat := rd s (F.GRP_G_LEASE_QAGE g)
/-- This member is the holder, and has not stopped. -/
def grpHolds (s : State) (g : Nat) : Bool := isSet s (F.GRP_G_STAT_HOLDER g) && !isSet s (F.GRP_G_STAT_STOPPED g)
/-- The member is ADMITTED. -/
def grpAdmitted (s : State) (g : Nat) : Bool := rd s (F.GRP_G_STAT_STATE g) == 3
/-- What has been heard from a rank. -/
def peer (s : State) (g r : Nat) : Peer := tget (fun _ => {}) (s.group g).peers r
/-- The state with a rank's record changed. -/
def modPeer (g r : Nat) (f : Peer → Peer) (s : State) : State :=
  modGroup g (fun x => { x with peers := tset (fun _ => {}) x.peers r (f (peer s g r)) }) s
/-- The host is silent for the member (R230). -/
def hostSilent (s : State) (g : Nat) : Bool :=
  !isSet s (F.GRP_G_CONN_HEN g) || isSet s (F.GRP_CONN_STAT_WDEXP (rd s (F.GRP_G_CONN_HC g)))
/-- HOSTSIL of every group as it stands. -/
def showHostSil (s : State) : State :=
  upto (fun g s => if isSet s (F.GRP_G_CFG_EN g) then wrB (F.GRP_G_STAT_HOSTSIL g) (hostSilent s g) s else s) 4 s

/-! ### The rein (R235 to R240) -/

/-- HOLDER_STOPPED (R238): a holder stops renewing its term, with the event. -/
def holderStop (g ev : Nat) (s : State) : State :=
  if grpHolds s g then logFault 0x0710 g 0 ev (wr (F.GRP_G_STAT_STOPPED g) 1 s) else s
/-- The conditions of R228 beside the commit. -/
def grpFit (s : State) (g : Nat) : Bool :=
  s.dev.st == .service && isSet s F.STR_SYNCSTAT_SYNCED &&
  (grpSlots s g).all fun (p : Nat × Nat) => (let x := axState s p.2; 1 ≤ x && x ≤ 5) && !isSet s (F.SAF_AX_FLT_AXF p.2)
/-- A member that no longer meets R228 outside A: HEALTHY clears, and a holder stops (R238, R246). -/
def fitMark (g : Nat) (s : State) : State :=
  if isSet s (F.GRP_G_CFG_EN g) ∧ isSet s (F.GRP_G_STAT_HEALTHY g) ∧ ¬ grpFit s g then
    holderStop g 4 (wr (F.GRP_G_STAT_HEALTHY g) 0 s)
  else s
/-- A REVOKE accepted of the current term or a newer one (R240): the term's renewals are discarded from this stride on, and a holder of it stops. -/
def revokeTerm (g term cause : Nat) (s : State) : State :=
  if term = 0 ∨ (s.group g).revoked = term ∨ termNewer (grpTerm s g) term then s else
  let s := modGroup g (fun x => { x with
    revoked := term, ren := match x.ren with
      | some r => if r.term = term then none else some r
      | none => none }) s
  let s := bumpSat (F.GRP_G_CNT_REVOKES g) (wr (F.GRP_G_FLT_REVOKED g) 1 s)
  let s := logFault 0x0706 g 0 (cause + 65536 * term) s
  if term = grpTerm s g then holderStop g 1 s else s
/-- A newer term accepted in this stride: the newest stays, and of two GRANTs of one term the lower rank's (R240, R246). -/
def offerTerm (g : Nat) (n : NewTerm) (s : State) : State :=
  if ¬ termNewer n.term (grpTerm s g) then s else
  let own := grpRank s g
  let win := match (s.group g).cand with
    | none => true
    | some c => if n.term = c.term then (n.grant && !c.grant) || (n.grant == c.grant && decide (n.sender < c.sender)) else termNewer n.term c.term
  let s := match (s.group g).cand with
    | some c => if n.term = c.term ∧ n.grant ∧ c.grant ∧ n.sender ≠ c.sender ∧ (if win then c.sender else n.sender) = own then
        logFault 0x070C g 0 (if win then n.holder else c.holder) s else s
    | none => s
  let s := if win then modGroup g (fun x => { x with cand := some n }) s else s
  holderStop g 2 s
/-- An ADMIT accepted by the rank it names while READY and HEALTHY (R240). -/
def admitRank (g r : Nat) (s : State) : State :=
  if r = grpRank s g ∧ rd s (F.GRP_G_STAT_STATE g) = 2 ∧ isSet s (F.GRP_G_STAT_HEALTHY g) ∧ ¬ (s.group g).admits then
    logFault 0x070D g 0 r (modGroup g (fun x => { x with admits := true }) s)
  else s
/-- The command is one the group accepts: from a frame with ARBITER in a triplex group, from the host in a duplex group (R240). -/
def cmdFrom (s : State) (g : Nat) (c : CmdSource) : Bool :=
  match c with
  | .member _ arb => isSet s (F.GRP_G_CFG_TRIPLEX g) && arb
  | .host => !isSet s (F.GRP_G_CFG_TRIPLEX g)
/-- The rank that sent a command; 3 for the host. -/
def cmdSender (c : CmdSource) : Nat :=
  match c with
  | .member r _ => r.val
  | .host => 3
/-- A REVOKE received. The frame carries no cause, so that a member that did not send it itself logs a free one of 1 to 3 (R249; assumption 34). -/
def cmdRevoke (g : Nat) (c : GroupCmd) (s : State) : State :=
  if grpRuns s g ∧ cmdFrom s g c.src then
    match c.src with
    | .host => revokeTerm g c.term.toNat 4 s
    | .member _ _ =>
      if (s.group g).revoked = c.term.toNat then s else
      let (v, s) := draw 2 s
      revokeTerm g c.term.toNat (v.toNat % 3 + 1) s
  else s
/-- A GRANT received: from the host only with the own lease expired or no term (R240). -/
def cmdGrant (g : Nat) (c : GroupCmd) (s : State) : State :=
  if grpRuns s g ∧ cmdFrom s g c.src ∧ (c.src ≠ .host ∨ grpAge s g > grpL s g ∨ grpTerm s g = 0) then
    offerTerm g ⟨c.term.toNat, c.rank.toNat, cmdSender c.src, true⟩ s
  else s
/-- An ADMIT received. -/
def cmdAdmit (g : Nat) (c : GroupCmd) (s : State) : State :=
  if grpRuns s g ∧ cmdFrom s g c.src then admitRank g c.rank.toNat s else s
/-- REIN_REVOKED (R240, R246). -/
def execReinRevoked (g : Fin 4) (c : GroupCmd) (s : State) : Host.Outcome State Fault Refusal := done (cmdRevoke g c s)
/-- REIN_GRANTED (R240, R246): adopted at the next mark. -/
def execReinGranted (g : Fin 4) (c : GroupCmd) (s : State) : Host.Outcome State Fault Refusal := done (cmdGrant g c s)
/-- MEMBER_ADMITTED (R240): ADMITTED from the next mark. -/
def execMemberAdmitted (g : Fin 4) (c : GroupCmd) (s : State) : Host.Outcome State Fault Refusal := done (cmdAdmit g c s)
/-- CMD of a frame: 0 none, 1 REVOKE, 2 GRANT, 3 ADMIT. -/
def cmdApply (g cmd : Nat) (c : GroupCmd) (s : State) : State :=
  match cmd with
  | 1 => cmdRevoke g c s
  | 2 => cmdGrant g c s
  | 3 => cmdAdmit g c s
  | _ => s
/-- Quorum evidence accepted (R238). -/
def quorumNow (g : Nat) (s : State) : State := modGroup g (fun x => { x with qNow := true }) s
/-- A host group frame (Table 9.2, R230, R238, R240): quorum evidence, and in a duplex group a command. -/
def hostGroup (g : Nat) (d : List Byte) (s : State) : State :=
  if ¬ grpRuns s g ∨ field d 0 1 ≠ 1 then s else
  if isSet s (F.GRP_G_CFG_TRIPLEX g) then (if field d 5 1 = grpRank s g then quorumNow g s else s)
  else cmdApply g (field d 1 1) ⟨BitVec.ofNat 16 (field d 2 2), BitVec.ofNat 8 (field d 4 1), .host⟩ (quorumNow g s)
/-- HOST_GROUP_FRAME (R230): the data of an accepted host group frame. -/
def execHostGroupFrame (g : Fin 4) (bytes : List Byte) (s : State) : Host.Outcome State Fault Refusal := done (hostGroup g bytes s)
/-- The six shares of a member frame. -/
def frameShares (d : List Byte) : List F32 := (List.range 6).map fun i => BitVec.ofNat 32 (field d (0x0C + 4 * i) 4)
/-- A renewal accepted, or refused for a share that is not finite (R236). -/
def takeRenewal (g r : Nat) (x : Renewal) (s : State) : State :=
  if x.shares.all Flt.finite then modGroup g (fun y => { y with ren := some x }) s
  else logFault 0x070E g 1 r (wr (F.GRP_G_FLT_BADSHARE g) 1 s)
/-- MEMBER_FRAME_ACCEPT (R236, R238, R240): a frame of rank r with its data and STAMP. -/
def memberFrame (g r : Nat) (stamp : Word) (d : List Byte) (s : State) : State :=
  if ¬ grpRuns s g ∨ field d 0 1 ≠ 1 ∨ field d 1 1 ≠ r then s else
  let term := field d 2 2
  let flags := field d 4 2
  let s := modPeer g r (fun p => { p with flags := flags, now := true, okNow := p.okNow || (bit flags 1 && bit flags 2) })
    (modGroup g (fun x => { x with heard := true }) s)
  let s := if bit flags 2 then quorumNow g s else s
  let s :=
    if bit flags 0 then
      if termNewer term (grpTerm s g) then offerTerm g ⟨term, r, r, false⟩ s
      else if term = grpTerm s g ∧ r = rd s (F.GRP_G_LEASE_HRANK g) ∧ (s.group g).revoked ≠ term then
        takeRenewal g r ⟨term, stamp, frameShares d, bit flags 5⟩ s
      else s
    else s
  let s := if ¬ isSet s (F.GRP_G_CFG_TRIPLEX g) ∧ field d 6 1 ≥ grpL s g then holderStop g 6 s else s
  if r < 3 then
    cmdApply g (field d 7 1) ⟨BitVec.ofNat 16 (field d 8 2), BitVec.ofNat 8 (field d 10 1), .member (Fin.ofNat 3 r) (bit flags 4)⟩ s
  else s

/-! ### Safe frames (R232 to R234) -/

/-- The axes whose SAF_AXa_TMCFG names connection c, whatever their MODE, and their teams (R234). -/
def connAxes (s : State) (c : Nat) : List Nat := (axesUsed s).filter fun a => rd s (F.SAF_AX_TMCFG_CONN a) == c
def connTeams (s : State) (c : Nat) : List Nat := nub ((connAxes s c).map (· / 4))
/-- A reaction of class CREACT (R234): without an axis, AX and TM fall to W, and DV acts on the device all the same. -/
def connReact (c code data : Nat) (s : State) : State :=
  let k := rd s (F.GRP_CONN_CFG_CREACT c)
  configReact (k != 3) k code c data 7 (connAxes s c) (connTeams s c) s
/-- The CRC-32C of a safe frame with its connection ID, as transmitted (R232). -/
def safeCrc (bytes : List Byte) (cid : Nat) : Nat := crc32c (bytes ++ leBytes 4 cid)
/-- The CRC-32C of a safe frame is right, as the receiver and, over its own copy, the SMC recompute it (R21, R233). -/
def crcGood (s : State) (c : Nat) (bytes : List Byte) : Bool :=
  let n := 12 + field bytes 2 1
  bytes.length == n + 4 && field bytes n 4 == safeCrc (bytes.take n) (rd s (F.GRP_CONN_ID_CID c))
/-- The demand that the SMC takes for a torque monitor from its own copy in the island, once its CRC is recomputed (R21, R210, R211; R247: a
slot axis takes its share instead). -/
def takeDemand (c : Nat) (s : State) : State :=
  let f := (s.conn c).isl
  if ¬ crcGood s c f then s else
  each (fun a s =>
    if (slotOf s a).isSome ∨ ¬ isSet s (F.SAF_AX_TMCFG_MODE a) then s else
    let v : F32 := BitVec.ofNat 32 (field (f.drop 12) (tmPrm s a 0x25C).toNat 4)
    if Flt.finite v then modMon a (fun m => { m with held := v }) s else s) (connAxes s c) s
/-- A SEQ newer than another (R233). -/
def seqNewer (a b : Nat) : Bool := let x := (a + 2 ^ 32 - b % 2 ^ 32) % 2 ^ 32; 1 ≤ x && x < 2 ^ 31
/-- A frame accepted on connection c: delivered to shared SRAM and to the island (R21), the watchdog restarted, older copies discarded, its content applied. -/
def acceptFrame (c : Nat) (bytes : List Byte) (s : State) : State :=
  let seq := field bytes 4 4
  let mism := (s.conn c).mism.filter fun x => decide ((BitVec.ofNat 32 x - BitVec.ofNat 32 seq).toInt.natAbs < 64)
  let s := wr (F.GRP_CONN_STAT_MISCNT c) (if mism.length > 255 then 255 else mism.length) s
  let d := (bytes.drop 12).take (field bytes 2 1)
  let s := modConn c (fun x => { x with
    ref := seq, mism := mism, waits := x.waits.filter (fun w => seqNewer w.seq seq), wdOn := true, wd := 0, got := true, last := bytes,
    isl := bytes }) s
  let s := showHostSil (wr (F.GRP_CONN_STAT_WDEXP c) 0 (wr (F.GRP_CONN_SEQ_SEQ c) seq s))
  let s := takeDemand c s
  let s := if isSet s (F.GRP_CONN_CFG_PATH c) then coreEvent 3 s else s
  let s := match memberConn s c with
    | some (g, r) => memberFrame g r (BitVec.ofNat 32 (field bytes 8 4)) d s
    | none => s
  match hostConn s c with
  | some g => hostGroup g d s
  | none => s
/-- The conditions of R233 other than the SEQ rule. -/
def copyOk (s : State) (c : Nat) (bytes : List Byte) : Bool :=
  let len := field bytes 2 1
  let prod := if isSet s (F.GRP_CONN_CFG_PATH c) then 0x40 else rd s (F.GRP_CONN_CFG_PROD c)
  let dt := (BitVec.ofNat 32 (field bytes 8 4) - BitVec.ofNat 32 s.dev.count.toNat).toInt.natAbs
  crcGood s c bytes &&
  field bytes 0 1 == prod && field bytes 1 1 == rd s (F.GRP_CONN_TOL_CONS c) && len == rd s (F.GRP_CONN_TOL_LEN c) &&
  decide (dt ≤ rd s (F.GRP_CONN_TOL_STOL c))
/-- A mismatch of two copies of one SEQ (R233): both rejected; the third among 64 sequences sets CFAIL. -/
def copyMismatch (c seq : Nat) (s : State) : State :=
  let near := fun x => decide (((BitVec.ofNat 32 x - BitVec.ofNat 32 seq).toInt.natAbs) < 64)
  let s := modConn c (fun x => { x with waits := x.waits.filter (fun w => w.seq ≠ seq), mism := seq :: x.mism.filter near }) s
  let n := (s.conn c).mism.length
  let s := logFault 0x0702 c 0 seq (wr (F.GRP_CONN_STAT_MISCNT c) (if n > 255 then 255 else n) s)
  if n ≥ 3 ∧ ¬ isSet s (F.GRP_CONN_STAT_CFAIL c) then
    connReact c 0x0703 n (modConn c (fun x => { x with waits := [] }) (wr (F.GRP_CONN_STAT_CFAIL c) 1 s))
  else s
/-- A valid copy paired with one that waits, or put to wait (R233). -/
def copyPair (c path seq : Nat) (bytes : List Byte) (s : State) : State :=
  match (s.conn c).waits.find? fun w => w.seq == seq with
  | none => modConn c (fun x => { x with waits := x.waits ++ [⟨path, seq, bytes, 0⟩] }) s
  | some w =>
    if w.path = path then s
    else if w.bytes = bytes then
      acceptFrame c bytes (wr (F.GRP_CONN_STAT_SINGLE c) 0 (wr (F.GRP_CONN_STAT_SPRUN c) 0
        (modConn c (fun x => { x with waits := x.waits.filter (fun w => w.seq ≠ seq), plLogged := false }) s)))
    else copyMismatch c seq s
/-- A connection receives: in use, not the device's own, in a state with safe frames. -/
def connRx (s : State) (c : Nat) : Bool := isSet s (F.GRP_CONN_CFG_EN c) && !isSet s (F.GRP_CONN_CFG_TX c) && armedOn s
/-- A copy received on path 0 (ring A, ETHA) or 1 (ring B, ETHB); a further copy of a rejected SEQ is a second one of its path. -/
def rxCopy (c path : Nat) (bytes : List Byte) (s : State) : State :=
  if ¬ connRx s c then s
  else if ¬ copyOk s c bytes then bumpSat (F.GRP_CONN_STAT_BADCNT c) s
  else if isSet s (F.GRP_CONN_STAT_CFAIL c) then s
  else
    let seq := field bytes 4 4
    let s := if isSet s (F.GRP_CONN_STAT_REF c) then s
      else wr (F.GRP_CONN_STAT_REF c) 1 (modConn c (fun x => { x with ref := (seq + 2 ^ 32 - 1) % 2 ^ 32 }) s)
    if seqNewer seq (s.conn c).ref ∧ ¬ (s.conn c).mism.contains seq then copyPair c path seq bytes s else s
/-- SAFE_FRAME_COPY (R232, R233). -/
def execSafeFrameCopy (c : Fin 32) (path : Ring) (bytes : List Byte) (s : State) : Host.Outcome State Fault Refusal :=
  done (rxCopy c path.toNat bytes s)
/-- A copy without a partner at its W-th mark is accepted singly (R233). -/
def singleCopy (c : Nat) (w : Copy) (s : State) : State :=
  let s := modConn c (fun x => { x with waits := x.waits.filter (fun v => v.seq ≠ w.seq) }) s
  let s := bumpSat (F.GRP_CONN_STAT_SPRUN c) (wr (F.GRP_CONN_STAT_SINGLE c) 1 s)
  let s :=
    if rd s (F.GRP_CONN_STAT_SPRUN c) > rd s (F.GRP_CONN_CFG_SPLIM c) then
      let s := wr (F.GRP_CONN_STAT_PATHLOST c) 1 s
      if (s.conn c).plLogged then s else logFault 0x0701 c 1 (w.path + 1) (modConn c (fun x => { x with plLogged := true }) s)
    else s
  acceptFrame c w.bytes s
/-- A copy put among others in the order of SEQ. -/
def copyInsert (w : Copy) : List Copy → List Copy
  | [] => [w]
  | v :: l => if seqNewer w.seq v.seq then v :: copyInsert w l else w :: v :: l
/-- The waiting copies whose W-th mark is the next one, in the order of SEQ. -/
def dueCopies (s : State) (c : Nat) : List Copy :=
  ((s.conn c).waits.filter fun w => decide (rd s (F.GRP_CONN_CFG_W c) ≤ w.age)).foldr copyInsert []
/-- SAFE_FRAME_SINGLE (R231, R233): the oldest copy of connection c whose W-th mark is the one that ends this stride, accepted in the
stride that ends (assumption 93). -/
def execSafeFrameSingle (c : Fin 32) (s : State) : Host.Outcome State Fault Refusal :=
  if ¬ connRx s c then unmet s else
  match dueCopies s c with
  | [] => unmet s
  | w :: _ => done (singleCopy c w s)
/-- ARBITER_SELECT (R239): the arbiter in this member's view, of a triplex group. -/
def arbiterOf (s : State) (g : Nat) : Option Nat :=
  (List.range 3).find? fun r =>
    let p := peer s g r
    decide (p.since < 2) && bit p.flags 1 && bit p.flags 8 && (bit p.flags 2 || grpTerm s g == 0) &&
    !(grpTerm s g != 0 && rd s (F.GRP_G_LEASE_HRANK g) == r)
/-- The holder has no supervisor (R244). -/
def noSupervisor (s : State) (g : Nat) : Bool :=
  if isSet s (F.GRP_G_CFG_TRIPLEX g) then (arbiterOf s g).isNone
  else
    hostSilent s g && !decide ((peer s g (1 - grpRank s g)).okSince < 2)
/-- STOP_REQUEST (R244). -/
def stopReqMark (g : Nat) (s : State) : State :=
  let no := isSet s (F.GRP_G_STAT_HOLDER g) && noSupervisor s g
  if no ∧ ¬ isSet s (F.GRP_G_STAT_STOPREQ g) then
    logFault 0x0709 g 1 (grpRank s g) (wr (F.GRP_G_FLT_STOPREQ g) 1 (wr (F.GRP_G_STAT_STOPREQ g) 1 s))
  else wrB (F.GRP_G_STAT_STOPREQ g) no s
/-- SF_WATCHDOG (R234): WDT strides without an accepted frame. A group whose host falls silent by it judges its supervisor again (R244). -/
def execSfWatchdog (c : Fin 32) (s : State) : Host.Outcome State Fault Refusal :=
  let x := s.conn c
  if connRx s c ∧ x.wdOn ∧ rd s (F.GRP_CONN_CFG_WDT c) ≤ x.wd ∧ ¬ isSet s (F.GRP_CONN_STAT_WDEXP c) then
    let s := connReact c 0x0704 (rd s (F.GRP_CONN_SEQ_SEQ c)) (showHostSil (wr (F.GRP_CONN_STAT_WDEXP c) 1 s))
    match hostConn s c with
    | some g => done (if grpRuns s g then stopReqMark g s else s)
    | none => done s
  else unmet s
/-- CFAIL_CLEAR (R233): reception with a new reference. -/
def cfailClear (c : Nat) (s : State) : State :=
  if isSet s (F.GRP_CONN_STAT_CFAIL c) then
    wr (F.GRP_CONN_STAT_CFAIL c) 0 (wr (F.GRP_CONN_STAT_REF c) 0 (wr (F.GRP_CONN_STAT_MISCNT c) 0
      (modConn c (fun x => { x with waits := [], mism := [] }) s)))
  else s
def execCfailClear (c : Fin 32) (s : State) : Host.Outcome State Fault Refusal :=
  if ¬ coresRun s then unmet s else
  done (cfailClear c s)
/-- The copies whose W-th mark this is: each that still waits is accepted singly (R231, R233). -/
def singlesMark (c : Nat) (s : State) : State :=
  each (fun w s => if (s.conn c).waits.contains w then singleCopy c w s else s) (dueCopies s c) s
/-- A connection at a mark: copies accepted singly, the others age, the watchdog starts and counts (R233, R234). -/
def connMark (c : Nat) (s : State) : State :=
  if ¬ connRx s c then s else
  let s := singlesMark c s
  let svc := s.dev.st == .service
  modConn c (fun x => { x with
    waits := x.waits.map (fun w => { w with age := w.age + 1 }), wd := if x.wdOn ∧ ¬ x.got then satAdd 65535 x.wd 1 else 0,
    wdOn := x.wdOn || svc, got := false }) s
/-- A safe frame of this device on a ring connection: header, data, CRC (R232). -/
def safeFrame (s : State) (c : Nat) (cons : Nat) (seq : Nat) (d : List Byte) : List Byte :=
  let b := [BitVec.ofNat 8 s.devNum, BitVec.ofNat 8 cons, BitVec.ofNat 8 d.length, 0] ++ leBytes 4 seq ++ leBytes 4 (s.dev.count.toNat % 2 ^ 32) ++ d
  b ++ leBytes 4 (safeCrc b (rd s (F.GRP_CONN_ID_CID c)))
/-- A safe frame sent on both rings, class 2, PATHB on ring B (R232, R288). -/
def sendSafe (c cons dest : Nat) (d : List Byte) (s : State) : State :=
  let seq := (rd s (F.GRP_CONN_SEQ_SEQ c) + 1) % 2 ^ 32
  let f := safeFrame s c cons seq d
  let stream := s.devNum + 256 * cons
  let s := wr (F.GRP_CONN_SEQ_SEQ c) seq s
  (ringPut 1 2 dest stream 8 f (ringPut 0 2 dest stream 0 f s).1).1

/-! ### The member frame (R228, R229) -/

/-- Another member ADMITTED was heard in the last two strides. -/
def otherAdmitted (s : State) (g : Nat) : Bool :=
  (List.range (grpMembers s g)).any fun r => r != grpRank s g && decide ((peer s g r).since < 2 ∨ (peer s g r).now) && bit (peer s g r).flags 2
/-- The command of a triplex arbiter in this A: CMD, CMDTERM, CMDRANK (R240). -/
def arbiterCmd (s : State) (g : Nat) : Nat × Nat × Nat :=
  let x := s.group g
  let term := grpTerm s g
  if x.revWant ≠ 0 ∧ term ≠ 0 ∧ x.revSent ≠ term then (1, term, 0)
  else if isSet s (F.GRP_G_STAT_QUORUM g) ∧
      (if term = 0 then grpAdmitted s g && otherAdmitted s g else decide (grpAge s g > grpL s g)) then
    (2, termNext term, grpRank s g)
  else match (List.range (grpMembers s g)).find? fun r => decide (16 ≤ (peer s g r).run) with
    | some r => (3, 0, r)
    | none => (0, 0, 0)
/-- The effect of an arbiter's own command on itself. -/
def ownCmd (g : Nat) (c : Nat × Nat × Nat) (s : State) : State :=
  match c.1 with
  | 1 =>
    let cause := (s.group g).revWant
    revokeTerm g c.2.1 cause (modGroup g (fun x => { x with revSent := c.2.1, revWant := 0 }) s)
  | 2 => offerTerm g ⟨c.2.1, c.2.2, grpRank s g, true⟩ s
  | 3 => admitRank g c.2.2 s
  | _ => s
/-- The flags of Table 9.1. -/
def memberFlags (s : State) (g : Nat) (renew fwok arbok : Bool) : Nat :=
  let b := fun (i : Nat) (v : Bool) => if v then 2 ^ i else 0
  let st := rd s (F.GRP_G_STAT_STATE g)
  let stop := renew && isSet s (F.GRP_G_STAT_STOPREQ g)
  b 0 renew + b 1 (isSet s (F.GRP_G_STAT_HEALTHY g)) + b 2 (st == 3) + b 3 (st == 2) + b 4 (isSet s (F.GRP_G_STAT_ARBITER g)) + b 5 stop +
  b 6 stop + b 7 fwok + b 8 arbok + b 9 (isSet s (F.GRP_G_STAT_NOREIN g)) + b 10 (isSet s (F.GRP_G_STAT_QUORUM g))
/-- The 64 data bytes of a member frame (Table 9.1). -/
def memberData (s : State) (g flags : Nat) (c : Nat × Nat × Nat) (words : List Word) : List Byte :=
  let w := fun (i : Nat) => leBytes 4 ((words.drop i).headD 0).toNat
  leBytes 1 1 ++ leBytes 1 (grpRank s g) ++ leBytes 2 (grpTerm s g) ++ leBytes 2 flags ++ leBytes 1 (grpAge s g) ++ leBytes 1 c.1 ++
  leBytes 2 c.2.1 ++ leBytes 1 c.2.2 ++ [0] ++ (List.range 6).flatMap w ++ (List.range 7).flatMap fun k => w (12 + k)
/-- MEMBER_FRAME_SEND (R228, R229, R236, R238, R240): the member frame of group g at A. -/
def memberSend (g : Nat) (s : State) : State :=
  if ¬ grpRuns s g then s else
  let go := (s.group g).staged
  let fwok := go.isSome
  let s := match go with
    | some (_, ws) => modGroup g (fun x => { x with staged := none, words := ws }) s
    | none => s
  let healthy := fwok && grpFit s g
  let s := wrB (F.GRP_G_STAT_HEALTHY g) healthy s
  let s := if healthy then s else holderStop g 4 s
  let arbok := healthy && (match go with
    | some (ok, _) => ok
    | none => false)
  let renew := grpHolds s g && fwok
  let cmd := if isSet s (F.GRP_G_CFG_TRIPLEX g) ∧ isSet s (F.GRP_G_STAT_ARBITER g) ∧ healthy then arbiterCmd s g else (0, 0, 0)
  let flags := memberFlags s g renew fwok arbok
  let own := grpRank s g
  let d := memberData s g flags cmd (s.group g).words
  let s := sendSafe (grpMc s g own) (0x80 + rd s (F.GRP_G_CFG_GID g)) 0x3F d s
  let s := modPeer g own (fun p => { p with flags := flags, now := true, okNow := bit flags 1 && bit flags 2 }) s
  let s := if renew ∧ (s.group g).revoked ≠ grpTerm s g then
    takeRenewal g own ⟨grpTerm s g, BitVec.ofNat 32 s.dev.count.toNat, frameShares d, bit flags 5⟩ s else s
  ownCmd g cmd s
/-- The words a commit takes: TXSH, SHAD, TXFB. -/
def grpWords (s : State) (g : Nat) : List Word :=
  ((List.range 6).map fun i => rdW s (F.GRP_G_TXSH_SHARE g i)) ++ ((List.range 6).map fun i => rdW s (F.GRP_G_SHAD_SHADOW g i)) ++
  (List.range 7).map fun k => rdW s (F.GRP_G_TXFB_FB g k)
/-- A GO with its ARBOK, counted at the next A (R229). -/
def groupGo (g : Nat) (arbok : Bool) (s : State) : State := let w := grpWords s g; modGroup g (fun x => { x with staged := some (arbok, w) }) s
/-- GROUP_GO (R229): from the application cores only. -/
def execGroupGo (g : Fin 4) (who : Requestor) (arbok : Bool) (s : State) : Host.Outcome State Fault Refusal :=
  if fromCore s who then done (groupGo g arbok s) else unmet s
/-- GROUP_RELEASE (R238): the holder stops. -/
def execGroupRelease (g : Fin 4) (who : Requestor) (s : State) : Host.Outcome State Fault Refusal :=
  if fromCore s who then done (holderStop g 3 s) else unmet s

/-! ### The group at a mark -/

/-- A newer term taken (R235): holder, counters, and the new term starts afresh. -/
def adoptTerm (g : Nat) (term holder : Nat) (s : State) : State :=
  let s := modGroup g (fun x => { x with ren := none, cand := none, noRen := 0, shRun := 0, revWant := 0 }) s
  bumpSat (F.GRP_G_CNT_GRANTS g) (wr (F.GRP_G_STAT_TERM g) term s |> wr (F.GRP_G_LEASE_HRANK g) holder
    |> wrB (F.GRP_G_STAT_HOLDER g) (holder = grpRank s g) |> wr (F.GRP_G_STAT_STOPPED g) 0)
/-- TERM_ADOPT (R235). -/
def termMark (g : Nat) (s : State) : State :=
  match (s.group g).cand with
  | none => s
  | some n =>
    let s := adoptTerm g n.term n.holder s
    if n.grant then logFault 0x0707 g 0 (n.term + 65536 * n.holder) s else s
/-- A slot of the renewal that differs from SHAD by more than SHTOL (R240). -/
def shadowDiff (s : State) (g : Nat) (l : List F32) : Option Nat :=
  (List.range 6).find? fun i =>
    let d := Flt.abs (Flt.sub ((l.drop i).headD 0) (((s.group g).words.drop (6 + i)).headD 0))
    !Flt.le d (rdW s (F.GRP_G_SHTOL_SHTOL g))
/-- Why a triplex arbiter revokes at this mark, 0 with no reason (R240). -/
def revokeWhy (s : State) (g : Nat) : Nat :=
  let h := rd s (F.GRP_G_LEASE_HRANK g)
  let x := s.group g
  if grpTerm s g = 0 ∨ ¬ isSet s (F.GRP_G_STAT_ARBITER g) then 0
  else if (peer s g h).since < 255 ∧ ¬ bit (peer s g h).flags 1 then 1
  else if 2 ≤ x.noRen then 2
  else if rd s (F.GRP_G_TIM_SHCNT g) ≤ x.shRun then 3 else 0
/-- The renewal of the stride that ended: its STAMP, the runs of R240, the end of a ramp. -/
def renewalMark (g : Nat) (s : State) : State :=
  match (s.group g).ren with
  | none => modGroup g (fun x => { x with noRen := satAdd 255 x.noRen 1, shRun := 0, renMark := false }) s
  | some r =>
    let diff := shadowDiff s g r.shares
    let s := modGroup g (fun x => { x with
      noRen := 0, renMark := true, expLogged := false, shRun := if diff.isSome then satAdd 65535 x.shRun 1 else 0, shSlot := diff.getD x.shSlot,
      stamp := match x.stamp with
        | none => some r.stamp
        | some t => if (r.stamp - t).toInt < 0 then some t else some r.stamp }) s
    wr (F.GRP_G_STAT_NOREIN g) 0 (wrB (F.GRP_G_STAT_REDUCED g) r.reduced s)
/-- AGE (R236). -/
def ageMark (g : Nat) (s : State) : State :=
  let a := match (s.group g).stamp with
    | none => 255
    | some t => let d := (BitVec.ofNat 32 s.dev.count.toNat - t).toNat; if d > 255 then 255 else d
  wr (F.GRP_G_LEASE_AGE g) a s
/-- A stride period over a ramp time, of a value: the ramp's step (R237). -/
def shareStep (s : State) (g : Nat) (v : F32) : F32 := Flt.mul v (Flt.ofRat s.per (800000 * rd s (F.GRP_G_TIM_TRAMP g)))
/-- A share under REDUCED: clamped, then its change limited (R237; assumption 35). -/
def reducedShare (s : State) (g : Nat) (old new : F32) : F32 :=
  let lim := rdW s (F.GRP_G_REDTQ_REDTQ g)
  let v := Flt.clamp new (Flt.neg lim) lim
  let st := Flt.mul (rdW s (F.GRP_G_REDRATE_REDRATE g)) s.tSec
  Flt.clamp v (Flt.sub old st) (Flt.add old st)
/-- A slot's share moved towards 0 by a step of the ramp. -/
def rampShare (s : State) (g : Nat) (held v : F32) : F32 :=
  let st := Flt.abs (shareStep s g held)
  if Flt.le (Flt.abs v) st then 0 else if Flt.sign v then Flt.add v st else Flt.sub v st
/-- SHARE_IN_FORCE (Table 9.4): slot k, with the renewal of the stride that ended. -/
def shareMark (g k : Nat) (s : State) : State :=
  let old := rdW s (F.GRP_G_SHARE_SHARE g k)
  let v :=
    if ¬ grpAdmitted s g then 0
    else match (s.group g).ren with
      | some r =>
        let n := (r.shares.drop (2 * grpRank s g + k)).headD 0
        if r.reduced then reducedShare s g old n else n
      | none =>
        if isSet s (F.GRP_G_STAT_NOREIN g) then rampShare s g (((s.group g).held.drop k).headD 0) old
        else if isSet s (F.GRP_G_STAT_REDUCED g) then reducedShare s g old old else old
  wrW (F.GRP_G_SHARE_SHARE g k) v s
/-- What was heard in the stride that ended (R239, R240), quorum evidence (R238), the listen count (R243), a waiting ADMIT (R240). -/
def heardMark (g : Nat) (s : State) : State :=
  let s := each (fun r s => modPeer g r (fun p =>
    let good := p.now && bit p.flags 3 && bit p.flags 1 && !bit p.flags 2
    { p with
      since := if p.now then 0 else satAdd 255 p.since 1, run := if good then satAdd 255 p.run 1 else 0, now := false,
      okSince := if p.okNow then 0 else satAdd 255 p.okSince 1, okNow := false }) s) [0, 1, 2] s
  let q := if (s.group g).qNow then 0 else satAdd 255 (grpQage s g) 1
  let s := wr (F.GRP_G_LEASE_QAGE g) q s
  let s := if q < grpL s g then wr (F.GRP_G_STAT_QUORUM g) 1 s else s
  let heard := (s.group g).heard
  let s := if (s.group g).admits then wr (F.GRP_G_STAT_STATE g) 3 s else s
  let s := if heard then bumpSat (F.GRP_G_LEASE_LISTEN g) s
    else if grpAdmitted s g then s else wr (F.GRP_G_STAT_STATE g) 1 (wr (F.GRP_G_LEASE_LISTEN g) 0 s)
  modGroup g (fun x => { x with qNow := false, heard := false, admits := false }) s
/-- The renewals have differed from SHAD in SHCNT strides in a row, before a triplex arbiter that has not yet revoked the term (R240). -/
def shadowDue (s : State) (g : Nat) : Bool :=
  grpTerm s g != 0 && isSet s (F.GRP_G_STAT_ARBITER g) && (s.group g).revSent != grpTerm s g &&
  decide (rd s (F.GRP_G_TIM_SHCNT g) ≤ (s.group g).shRun)
/-- What the mark decides for a triplex arbiter's REVOKE, with SHADOW reported once a run, whatever other reason holds too (R240). -/
def revokeMark (g : Nat) (s : State) : State :=
  let why := revokeWhy s g
  let sh := shadowDue s g
  let s := if sh ∧ ¬ (s.group g).shLog then logFault 0x070A g 1 (s.group g).shSlot (wr (F.GRP_G_FLT_SHADOW g) 1 s) else s
  modGroup g (fun x => { x with revWant := why, shLog := sh }) s
/-- Group g at a mark (R235 to R244). -/
def groupMark (g : Nat) (s : State) : State :=
  if ¬ isSet s (F.GRP_G_CFG_EN g) ∨ (s.group g).off then s
  else if rd s (F.GRP_G_STAT_STATE g) = 0 then
    if (s.dev.st == .armed || s.dev.st == .service) && isSet s F.STR_SYNCSTAT_SYNCED then
      wrB (F.GRP_G_STAT_HOSTSIL g) (hostSilent s g) (wr (F.GRP_G_STAT_STATE g) 1 s)
    else s
  else if ¬ grpRuns s g then s
  else
    let fresh := (s.group g).cand.isSome
    let s := heardMark g (termMark g s)
    let s := ageMark g (renewalMark g s)
    let s := if fresh then modGroup g (fun x => { x with noRen := 0 }) s else s
    let s := each (fun (p : Nat × Nat) => shareMark g p.1) (grpSlots s g) s
    let s := modGroup g (fun x => { x with ren := none }) s
    let s := wrB (F.GRP_G_STAT_ARBITER g) (isSet s (F.GRP_G_CFG_TRIPLEX g) && arbiterOf s g == some (grpRank s g)) s
    wrB (F.GRP_G_STAT_HOSTSIL g) (hostSilent s g) (revokeMark g (stopReqMark g s))

/-- LEASE_EXPIRED (R236): AGE exceeds L. -/
def execLeaseExpired (g : Fin 4) (s : State) : Host.Outcome State Fault Refusal :=
  let x := s.group g
  if grpRuns s g ∧ x.stamp.isSome ∧ grpL s g < grpAge s g ∧ ¬ x.expLogged then
    done (logFault 0x0705 g 1 (grpTerm s g) (wr (F.GRP_G_FLT_EXPIRED g) 1 (modGroup g (fun x => { x with expLogged := true }) s)))
  else unmet s
/-- D_k of a slot axis is the share in force in the stride that has begun, which the ramp's first step lowers (R211, R247). -/
def renewDem (g k a : Nat) (s : State) : State :=
  let v := rdW s (F.GRP_G_SHARE_SHARE g k)
  modMon a (fun m => { m with dem := if m.dem.isEmpty then [] else v :: m.dem.drop 1 }) s
/-- NO_REIN (R237): the ramp begins at the mark just made. -/
def execNoRein (g : Fin 4) (s : State) : Host.Outcome State Fault Refusal :=
  if grpRuns s g ∧ grpAdmitted s g ∧ ¬ (s.group g).renMark ∧ grpL s g + 3 ≤ grpAge s g ∧ ¬ isSet s (F.GRP_G_STAT_NOREIN g) then
    let held := (List.range 2).map fun k => rdW s (F.GRP_G_SHARE_SHARE g k)
    let s := modGroup g (fun x => { x with held := held }) s
    let s := wr (F.GRP_G_STAT_REDUCED g) 0 (wr (F.GRP_G_STAT_NOREIN g) 1 (wr (F.GRP_G_FLT_NOREIN g) 1 (bumpSat (F.GRP_G_CNT_GAPS g) s)))
    let s := each (fun (p : Nat × Nat) s => renewDem g p.1 p.2 (shareMark g p.1 s)) (grpSlots s g) s
    done (logFault 0x0708 g 1 (grpTerm s g) s)
  else unmet s
/-- REIN_TAKEN (R242): an admitted and healthy duplex standby with a silent host, at the mark at which AGE is L + 3. -/
def execReinTaken (g : Fin 4) (s : State) : Host.Outcome State Fault Refusal :=
  if grpRuns s g ∧ ¬ isSet s (F.GRP_G_CFG_TRIPLEX g) ∧ grpAdmitted s g ∧ isSet s (F.GRP_G_STAT_HEALTHY g) ∧ hostSilent s g ∧
      ¬ isSet s (F.GRP_G_STAT_HOLDER g) ∧ grpTerm s g ≠ 0 ∧ grpAge s g = grpL s g + 3 then
    let t := termNext (grpTerm s g)
    done (stopReqMark g (logFault 0x070B g 0 t (adoptTerm g t (grpRank s g) s)))
  else unmet s
/-- QUORUM_LOST (R238): QAGE has reached L. -/
def execQuorumLost (g : Fin 4) (s : State) : Host.Outcome State Fault Refusal :=
  if grpRuns s g ∧ grpL s g ≤ grpQage s g ∧ isSet s (F.GRP_G_STAT_QUORUM g) then
    done (holderStop g 5 (wr (F.GRP_G_STAT_QUORUM g) 0 s))
  else unmet s
/-- LISTEN_COMPLETE (R243): the listen count has reached 64. -/
def execListenComplete (g : Fin 4) (s : State) : Host.Outcome State Fault Refusal :=
  if grpRuns s g ∧ rd s (F.GRP_G_STAT_STATE g) = 1 ∧ 64 ≤ rd s (F.GRP_G_LEASE_LISTEN g) then
    done (wr (F.GRP_G_STAT_STATE g) 2 s)
  else unmet s

end Sys2Proof.Machine
end

