-- ==== Sys2Proof/Machine/Cores.lean ====
section
/-! DEFINITION. Lockstep pairs, split and rejoin, register signatures, March slices, ECC errors, and the JTAG port with its debug module
(R251 to R281). -/
namespace Sys2Proof.Machine
open Sys2Proof

/-- Hart h. -/
def State.hart (s : State) (h : Nat) : Hart := tget (fun _ => {}) s.bst.harts h
/-- The state with hart h changed. -/
def modHart (h : Nat) (f : Hart → Hart) (s : State) : State :=
  s.setBst { s.bst with harts := tset (fun _ => {}) s.bst.harts h (f (s.hart h)) }
/-- The debug unit changed. -/
def modDbg (f : Dbg → Dbg) (s : State) : State := s.setBst { s.bst with dbg := f s.bst.dbg }
/-- BST_PAIRp_STAT.MODE: 0 joined, 1 split pending, 2 split, 3 rejoining. -/
def pairMode (s : State) (p : Nat) : Nat := rd s (F.BST_PAIR_STAT_MODE p)

/-! ### ECC errors (R31, Table 1.5) -/

/-- The first byte and the cistern of each cistern in the buffer memory, in the order of their numbers (assumption 37). -/
def cisOfByte (o : Nat) : Nat :=
  let step := fun (n : Nat) (acc : Option Nat × Nat) =>
    match acc with
    | (some k, b) => (some k, b)
    | (none, b) => if o < b + 1024 * cisKB n then (some n, b) else (none, b + 1024 * cisKB n)
  ((each step (List.range 24) (none, 0)).1).getD 23
/-- The identities of R272, with 28 and 29 for the ROMs (R401). -/
def eccMem (mem : Nat) : Bool := decide (mem ≤ 5) || (decide (8 ≤ mem) && decide (mem ≤ 18)) || [20, 24, 25, 28, 29].contains mem
/-- An ECC error of a memory of R272 (28 and 29 are the ROMs) at a byte offset. In SELFTEST an uncorrectable one of the MRAM belongs to the
record being taken, whose taking logs it (R380). -/
def eccError (mem off : Nat) (corrected : Bool) (s : State) : State :=
  if ¬ eccMem mem then s
  else if 8 ≤ mem ∧ mem ≤ 15 then leEcc (mem - 8) ⟨BitVec.ofNat 24 off, corrected⟩ s
  else if 16 ≤ mem ∧ mem ≤ 18 then
    if corrected then countCls 0 s
    else
      let n := cisOfByte (0x80000 * (mem - 16) + off)
      cisRewind n (logFault 0x0A03 n 0 1 (wr (F.CIS_STAT_ECCERR n) 1 s))
  else if mem = 24 ∨ mem = 25 then
    if corrected then countCls 0 s
    else
      let s := s.setPwr { s.pwr with bad := if s.pwr.bad.contains (mem - 24) then s.pwr.bad else s.pwr.bad ++ [mem - 24] }
      if s.dev.st = .selftest then s else logFault 0x0C01 (mem - 24) 1 3 s
  else if corrected then logRated 0x0F02 mem 0 off s else dvFault 0x0F03 mem off s

/-! ### March slices (R268 to R272) -/

/-- The memory of R272 and the byte offset in it of slice i of the pass (R268). -/
def sliceAt (i : Nat) : Nat × Nat :=
  if i < 12288 then (i / 2048, i % 2048 * 512)
  else if i < 16384 then (8 + (i - 12288) / 512, (i - 12288) % 512 * 512)
  else if i < 19456 then (16 + (i - 16384) / 1024, (i - 16384) % 1024 * 512)
  else (24 + (i - 19456) / 512, (i - 19456) % 512 * 512)
/-- The states in which slices run (R268). -/
def sliceState (s : State) : Bool := s.dev.st == .armed || s.dev.st == .service || s.dev.st == .recovery
/-- The conditions of R271 hold. -/
def sliceMay (s : State) : Bool := rd s F.SAF_CLK_CLASS == 0 && s.saf.islandClk && !s.pwr.vcoreOut
/-- The conditions of R271 for the island's own sequencer: its supply and its clock by the island's own monitors. -/
def islMay (s : State) : Bool := s.saf.islandClk && !s.dev.vsafeLow
/-- What a slice of a memory found (R269, R272). -/
def sliceFound (mem off : Nat) (r : SliceResult) (s : State) : State :=
  match r with
  | .corrected w => eccError mem (off + 8 * w.val) true s
  | .uncorrectable w => eccError mem (off + 8 * w.val) false s
  | .fail =>
    dvFault 0x0E06 mem off (wr F.BST_SLICEFAIL_MEM mem s |> wr F.BST_SLICEFAIL_OFFSET off |> wr F.BST_SLICEFAIL_VALID 1)
  | _ => s
/-- IDLE_WINDOW (R45, R268 to R272): the slice of the stride, skipped without its conditions; a cistern's slice may be postponed. `w.ecc` is an
ECC error that an access of the stride met, by memory identity of R272, 28 and 29 for the ROMs (R31). From SELFTEST to SYNC, where no slice
runs, the command brings such an error alone (assumption 140). -/
def execIdleWindow (w : IdleWork) (s : State) : Host.Outcome State Fault Refusal :=
  if ¬ coresRun s then unmet s else
  let on := sliceState s
  let s := match w.ecc with
    | some (m, e) => eccError m.val e.offset.toNat e.corrected s
    | none => s
  if ¬ on then done s
  else if ¬ sliceMay s then done (bumpSat F.BST_SLICECNT_SKIPRUN (bumpSat F.BST_SLICECNT_SKIPCNT s))
  else
    let i := rd s F.BST_SLICE_NEXT
    let (mem, off) := sliceAt i
    if w.slice = .postponed ∧ 16 ≤ mem ∧ mem ≤ 18 then done (s.setBst { s.bst with postponed := s.bst.postponed + 1 })
    else
      let s := s.setBst { s.bst with postponed := 0, postLogged := false, skipLogged := false }
      let s := wr F.BST_SLICECNT_SKIPRUN 0 s
      let s := if i + 1 ≥ 20480 then bumpWrap F.BST_SLICE_PASSCNT (wr F.BST_SLICE_NEXT 0 s) else wr F.BST_SLICE_NEXT (i + 1) s
      done (sliceFound mem off w.slice s)
/-- ISLAND_SLICE (R268): one slice of the safety island's SRAM, under the same rule (R271). -/
def execIslandSlice (res : SliceResult) (s : State) : Host.Outcome State Fault Refusal :=
  if ¬ sliceState s ∨ held s then unmet s
  else if ¬ islMay s then
    done (s.setBst { s.bst with islSkip := satAdd 65535 s.bst.islSkip 1, islSkipCnt := satAdd 65535 s.bst.islSkipCnt 1 })
  else
    let i := rd s F.BST_ISLSLICE_NEXT
    let s := s.setBst { s.bst with islSkip := 0, islLogged := false }
    let s := if i + 1 ≥ 512 then bumpWrap F.BST_ISLSLICE_PASSCNT (wr F.BST_ISLSLICE_NEXT 0 s) else wr F.BST_ISLSLICE_NEXT (i + 1) s
    done (sliceFound 20 (512 * i) res s)
/-- SLICE_SKIP_LONG (R271): a full pass without a slice, of 20,480 strides or for the island's memory of 512, logged once (assumption 119). -/
def execSliceSkipLong (s : State) : Host.Outcome State Fault Refusal :=
  if ¬ coresRun s then unmet s else
  if 20480 < rd s F.BST_SLICECNT_SKIPRUN ∧ ¬ s.bst.skipLogged then
    done (logFault 0x0E07 0 1 (rd s F.BST_SLICECNT_SKIPCNT) (s.setBst { s.bst with skipLogged := true }))
  else if 512 < s.bst.islSkip ∧ ¬ s.bst.islLogged then
    done (logFault 0x0E07 0 1 s.bst.islSkipCnt (s.setBst { s.bst with islLogged := true }))
  else unmet s
/-- SLICE_POSTPONED (R270): sixteen postponements in a row of one slice. -/
def execSlicePostponed (s : State) : Host.Outcome State Fault Refusal :=
  if ¬ coresRun s then unmet s else
  if 16 ≤ s.bst.postponed ∧ ¬ s.bst.postLogged then
    let i := rd s F.BST_SLICE_NEXT
    let (mem, off) := sliceAt i
    done (logFault 0x0E08 (cisOfByte (0x80000 * (mem - 16) + off)) 1 i (s.setBst { s.bst with postLogged := true }))
  else unmet s

/-! ### Lockstep (R257 to R260) -/

/-- The comparator of a pair is enabled: the pair in step, not held. -/
def lockOn (s : State) (p : Nat) : Bool := coresRun s && !(s.pair p).held && (pairMode s p != 2)
/-- A lockstep mismatch (R258): latched, the pair held, its request discarded (R265), the device's safe state. -/
def lockMismatch (p groups : Nat) (railA railB parity : Bool) (s : State) : State :=
  let s := if isSet s F.BST_LSFLT_MM then s
    else wr F.BST_LSFLT_MM 1 s |> wrB F.BST_LSFLT_RAILA railA |> wrB F.BST_LSFLT_RAILB railB |> wrB F.BST_LSFLT_PARITY parity
      |> wr F.BST_LSFLT_PAIR p |> wr F.BST_LSFLT_GROUPS groups
  let s := if pairMode s p = 1 then wr (F.BST_PAIR_STAT_MODE p) 0 s else s
  let s := modPair p (fun x => { x with held := true, mmGroups := groups, mmPar := parity, attrPend := true, req := 0, winOk := false }) s
  let s := each (fun c => modHart c fun _ => {}) [2 * p, 2 * p + 1] s
  coreEvent 7 (dvFault 0x0E01 p (groups + 256 * b2n railA + 512 * b2n railB + 1024 * b2n parity) s)
/-- LOCKSTEP_MISMATCH (R257, R258). -/
def execLockstepMismatch (p : PairNo) (groups : Byte) (railA railB parity : Bool) (s : State) : Host.Outcome State Fault Refusal :=
  if lockOn s p ∧ ((groups ≠ 0 ∧ (railA ∨ railB)) ∨ parity) then done (lockMismatch p groups.toNat railA railB parity s) else unmet s
/-- LOCKSTEP_ATTRIBUTION (R259): `fails` names the rails that failed an injection. -/
def execLockstepAttribution (p : PairNo) (fails : BitVec 2) (s : State) : Host.Outcome State Fault Refusal :=
  if ¬ coresRun s then unmet s else
  let x := s.pair p
  if ¬ x.attrPend then unmet s else
  let s := modPair p (fun x => { x with attrPend := false }) s
  let core := fails = 0 ∧ ¬ x.mmPar
  let s := if rd s F.BST_LSFLT_PAIR = p.val then wr F.BST_LSFLT_ATTR (if core then 1 else 2) s else s
  if core then done (logFault 0x0E02 p 0 x.mmGroups s)
  else done (logFault 0x0E03 p 0 (x.mmGroups + 256 * fails.toNat + 1024 * b2n x.mmPar) s)
/-- MSIGD_WRITE (R253, R260): the values of lead and checker compared in group G5. -/
def execMsigdWrite (p : PairNo) (master checker : Word) (s : State) : Host.Outcome State Fault Refusal :=
  if lockOn s p ∧ master ≠ checker then done (lockMismatch p 32 true true false s) else unmet s
/-- The flush of a pair ends: both cores have written msigend (R253, R260). -/
def msigEnd (p : Nat) (s : State) : State := bumpWrap (F.BST_PAIR_SIG_FLUSHCNT p) (modPair p (fun x => { x with winEnd := true }) s)
/-- MSIGEND_WRITE (R253, R260): the flush of a joined pair ends. -/
def execMsigendWrite (p : PairNo) (s : State) : Host.Outcome State Fault Refusal :=
  if lockOn s p then done (msigEnd p s) else unmet s
/-- The conditions under which a window of pair p is checked (R260). -/
def sigChecked (s : State) (p : Nat) : Bool :=
  (s.dev.st == .armed || s.dev.st == .service) && !s.dev.recPend && pairMode s p == 0 && (s.pair p).appOn && !(s.pair p).held
/-- A mark of the signature windows: a window ends and the next begins where STR_COUNT is a multiple of 64 (R260). -/
def sigMark (p : Nat) (s : State) : State :=
  let ok := sigChecked s p
  let x := s.pair p
  if s.dev.count.toNat % 64 = 0 then
    let v := if x.winOk && ok then (if x.winEnd then 1 else 2) else 0
    let s := modPair p (fun x => { x with verdict := v, winOk := ok, winEnd := false }) s
    if v = 2 then s else wr (F.BST_PAIR_SIG_MISSCNT p) 0 s
  else modPair p (fun x => { x with winOk := x.winOk && ok, verdict := 0 }) s
/-- SIG_WINDOW_END (R260): a checked window without a msigend; two in a row lose the signature. -/
def execSigWindowEnd (p : PairNo) (s : State) : Host.Outcome State Fault Refusal :=
  if ¬ coresRun s then unmet s else
  if (s.pair p).verdict ≠ 2 then unmet s else
  let s := modPair p (fun x => { x with verdict := 0 }) s
  let s := bumpSat (F.BST_PAIR_SIG_MISSCNT p) (wr (F.BST_PAIR_SIG_MISS p) 1 s)
  let s := logFault 0x0E04 p 1 (s.dev.count.toNat % 65536) s
  let n := rd s (F.BST_PAIR_SIG_MISSCNT p)
  if 2 ≤ n then done (dvFault 0x0E05 p n s) else done s

/-! ### Split and rejoin (R262 to R265) -/

/-- A refused request. -/
def pairRefused (p k : Nat) (s : State) : State := logFault 0x0E09 p 0 k (wr (F.BST_PAIR_STAT_REFUSED p) 1 s)
/-- The earlier request of the stride is discarded: only the last write counts, a write of 0 too (R265); the pair's state goes back, which is
event 7 (R253). -/
def pairForget (p : Nat) (s : State) : State :=
  let s := if pairMode s p = 1 then coreEvent 7 (wr (F.BST_PAIR_STAT_MODE p) 0 s) else s
  modPair p (fun x => { x with req := 0 }) s
/-- PAIR_SPLIT (R262). -/
def pairSplit (p : Nat) (s : State) : State :=
  let s := pairForget p s
  if isSet s (F.BST_PAIR_CFG_SPLITEN p) ∧ isSet s F.SAF_STAT_SMCOK ∧ pairMode s p = 0 ∧ ¬ isSet s F.SAF_STAT_DVLAT then
    coreEvent 7 (wr (F.BST_PAIR_STAT_MODE p) 1 (modPair p (fun x => { x with req := 1, winOk := false }) s))
  else pairRefused p 1 s
def execPairSplit (p : PairNo) (s : State) : Host.Outcome State Fault Refusal :=
  if ¬ coresRun s then unmet s else
  done (pairSplit p s)
/-- PAIR_JOIN (R264): while the pair is split and no rejoin runs. -/
def pairJoin (p : Nat) (s : State) : State :=
  let s := pairForget p s
  if pairMode s p = 2 then modPair p (fun x => { x with req := 2 }) s else pairRefused p 2 s
def execPairJoin (p : PairNo) (s : State) : Host.Outcome State Fault Refusal :=
  if ¬ coresRun s then unmet s else
  done (pairJoin p s)
/-- Where the transfer area of pair p lies (R264). -/
def xferBase (p : Nat) : Nat := 0x105FFC00 + 0x200 * p
/-- SPLITp of SAF_STAT. -/
def splitFld (p : Nat) : Fld := if p = 0 then F.SAF_STAT_SPLIT0 else F.SAF_STAT_SPLIT1
/-- What the debugger has set in a hart and code outside Debug Mode does not change: its scratch registers, and triggers with dmode = 1
(RISC-V debug 0.13.2). -/
def dbgKept (old : Tbl (Option Word)) (n : Nat) : Bool :=
  if 0x10000 ≤ n then ((tget (fun _ => none) old (n - n % 16)).getD 0).getLsbD 27 else n == 0x7B2 || n == 0x7B3
/-- The four PMP configuration registers cleared. -/
def pmpClear : Tbl (Option Word) := [(0x3A0, some 0), (0x3A1, some 0), (0x3A2, some 0), (0x3A3, some 0)]
/-- The split takes effect: the checker's pipeline is reset and runs the split entry code, with its PMP regions cleared; the lead goes on where
it stopped (R263). -/
def splitNow (p : Nat) (s : State) : State :=
  let s := modHart (2 * p + 1) (fun _ => { dpc := rdW s (F.BST_PAIR_VEC_SPLITVEC p), regs := pmpClear }) s
  coreEvent 7 (wr (splitFld p) 1 (wr (F.BST_PAIR_STAT_MODE p) 2 (modPair p (fun x => { x with req := 0 }) s)))
/-- The checker takes the lead's state as both restart in step (R264): the halves show one hart, with one mevten and mevpend. -/
def joinHarts (p : Nat) (s : State) : State :=
  let s := modHart (2 * p + 1) (fun _ => s.hart (2 * p)) s
  s.setBst { s.bst with
    mevten := tset (fun _ => 0) s.bst.mevten (2 * p + 1) (tget (fun _ => 0) s.bst.mevten (2 * p)),
    mevpend := tset (fun _ => 0) s.bst.mevpend (2 * p + 1) (tget (fun _ => 0) s.bst.mevpend (2 * p)) }
/-- The lead's state in the transfer area: the layout and the values are not given, so that every byte is free (assumption 7). -/
def xferStore (p : Nat) (s : State) : State :=
  let r := each (fun _ (acc : List Byte × State) => let (b, t) := draw 8 acc.2; (acc.1 ++ [b], t)) (List.range 512) (([] : List Byte), s)
  wrBytes (xferBase p) r.1 r.2
/-- Pair p at a mark: PAIR_SPLIT_EFFECT, REJOIN_START, the end of a rejoin (R262 to R265). -/
def pairMark (p : Nat) (s : State) : State :=
  let x := s.pair p
  if s.dev.dvNow ∧ x.req ≠ 0 then pairForget p s
  else if x.req = 1 then splitNow p s
  else if x.req = 2 then
    xferStore p (coreEvent 7 (wr (F.BST_PAIR_STAT_MODE p) 3 (modPair p (fun x => { x with req := 0, xferDone := false }) s)))
  else if pairMode s p = 3 ∧ x.xferDone then
    coreEvent 7 (wr (splitFld p) 0 (wr (F.BST_PAIR_STAT_MODE p) 0 (modPair p (fun x => { x with xferDone := false }) s)))
  else s
/-- SPLITINIT (R262): at the first mark in ARMED the pair splits without a request. -/
def splitInit (p : Nat) (s : State) : State :=
  let x := s.pair p
  if s.dev.st ≠ .armed ∨ x.initDone then s else
  let s := modPair p (fun x => { x with initDone := true }) s
  if isSet s (F.BST_PAIR_CFG_SPLITINIT p) ∧ pairMode s p < 2 ∧ ¬ x.held then splitNow p s else s

/-! ### What the debug module sees of a hart (R251 to R253, R274) -/

/-- A CSR that a core has; any other access raises an exception (Table 10.1; assumption 38). -/
def csrThere (n : Nat) : Bool :=
  let inR := fun (lo hi : Nat) => decide (lo ≤ n) && decide (n ≤ hi)
  inR 1 3 || inR 0x300 0x301 || inR 0x304 0x306 || inR 0x323 0x33F || inR 0x340 0x344 || inR 0x3A0 0x3A3 || inR 0x3B0 0x3BF ||
  inR 0x7A0 0x7A4 || inR 0x7B0 0x7B3 || inR 0x7C0 0x7C3 || n == 0xB00 || inR 0xB02 0xB1F || n == 0xB80 || inR 0xB82 0xB9F || inR 0xF11 0xF14
/-- A register number that reads as a constant and ignores writes: x0, the counters and events of R251, misa (RV32IMAFC with user mode),
msigd and msigend, mhartid, tdata3 and tinfo. -/
def csrConst (h n : Nat) : Option Word :=
  let inR := fun (lo hi : Nat) => decide (lo ≤ n) && decide (n ≤ hi)
  if n = 0x1000 ∨ inR 0x323 0x33F ∨ inR 0xB03 0xB1F ∨ inR 0xB83 0xB9F ∨ n = 0x7C2 ∨ n = 0x7C3 ∨ n = 0x7A3 then some 0
  else if n = 0x301 then some 0x40101125
  else if n = 0x7A4 then some 4
  else if n = 0xF14 then some (BitVec.ofNat 32 h)
  else none
/-- A privilege-mode field with machine and user mode only (R251): a value of another mode, which it cannot hold, leaves a legal one, free
through `f` (assumption 7). -/
def privLegal (p : Nat) (f : Nat) : Nat := if p = 0 ∨ p = 3 then p else 3 * (f % 2)
/-- mstatus of a core without supervisor mode and without D (R251): MIE, MPIE, MPP, FS, MPRV and TW, with SD from FS. -/
def mstatusLegal (v : Word) : Word :=
  let w := (v &&& 0x00226088) ||| BitVec.ofNat 32 (0x800 * privLegal (v.toNat / 0x800 % 4) (v.toNat / 0x800 % 2))
  if v.toNat / 0x2000 % 4 = 3 then w ||| 0x80000000 else w
/-- The bits a register can hold: mstatus, fcsr, mie, mepc, tselect of four triggers, tdata1 of type mcontrol. -/
def csrLegal (n : Nat) (v : Word) : Word :=
  match n with
  | 0x300 => mstatusLegal v
  | 3 => v &&& 0xFF
  | 0x304 => v &&& 0x888
  | 0x341 => v &&& 0xFFFFFFFE
  | 0x7A0 => v &&& 3
  | _ => if 0x10000 ≤ n ∧ n % 16 = 0 then (v &&& 0x0FFFFFFF) ||| 0x20000000 else v
/-- A stored register of hart h, a free value at its first read. -/
def hartRaw (h n : Nat) (s : State) : Word × State :=
  match tget (fun _ => none) (s.hart h).regs n with
  | some v => (v, s)
  | none =>
    let (v, s) := draw 32 s
    let v := csrLegal n v
    (v, modHart h (fun x => { x with regs := tset (fun _ => none) x.regs n (some v) }) s)
/-- A stored register of hart h written. -/
def hartPut (h n : Nat) (v : Word) (s : State) : State :=
  modHart h (fun x => { x with regs := tset (fun _ => none) x.regs n (some (csrLegal n v)) }) s
/-- Byte i of a word. -/
def wByte (v : Word) (i : Nat) : Nat := v.toNat / 256 ^ i % 256
/-- The address mode of a PMP configuration byte: 0 OFF, 1 TOR, 2 NA4, 3 NAPOT. -/
def pmpA (b : Nat) : Nat := b / 8 % 4
/-- A configuration byte a PMP region can hold: reserved bits 0; NA4 is not available, and `f` is the mode it holds instead (R251). -/
def pmpByte (b f : Nat) : Nat := let b := b % 32 + b / 128 * 128; if pmpA b = 2 then b - 16 + 8 * (if f % 4 = 2 then 0 else f % 4) else b
/-- The configuration byte of PMP region i. -/
def pmpCfg (h i : Nat) (s : State) : Nat × State :=
  let (v, s) := hartRaw h (0x3A0 + i / 4) s
  (pmpByte (wByte v (i % 4)) 0, s)
/-- A register of a hart, by its number, that code which has run since cannot have changed (R251, R274; RISC-V debug 0.13.2): the address of a
locked PMP region, or below a locked TOR region; outside Debug Mode also a trigger with dmode = 1 and the scratch registers of the debugger. -/
def regKept (old : Tbl (Option Word)) (dbg : Bool) (n : Nat) : Bool :=
  let cfg := fun (i : Nat) => wByte ((tget (fun _ => none) old (0x3A0 + i / 4)).getD 0) (i % 4)
  let i := n - 0x3B0
  if 0x3B0 ≤ n ∧ n ≤ 0x3BF then decide (128 ≤ cfg i) || (decide (i < 15 ∧ 128 ≤ cfg (i + 1)) && pmpA (cfg (i + 1)) == 1)
  else !dbg && dbgKept old n
/-- The cores that one debug request to hart h reaches: both of a pair that appears as one hart (R274). -/
def hartCores (s : State) (h : Nat) : List Nat := if pairMode s (h / 2) = 2 then [h] else [h / 2 * 2, h / 2 * 2 + 1]
/-- The code that hart h has run may have written mevten and cleared bits of mevpend (R253): both cores of a joined pair did the same. -/
def eventsRan (h : Nat) (s : State) : State :=
  let (e, s) := draw 8 s
  let (k, s) := draw 8 s
  each (fun c s => s.setBst { s.bst with
    mevten := tset (fun _ => 0) s.bst.mevten c e,
    mevpend := tset (fun _ => 0) s.bst.mevpend c (tget (fun _ => 0) s.bst.mevpend c &&& k) }) (hartCores s h) s
/-- A hart has run code, with `dbg` the program buffer in Debug Mode: what it could change is free (assumption 7). The locked bytes of the PMP
configuration stay beside free ones. -/
def hartRan (h : Nat) (dbg : Bool) (s : State) : State :=
  let old := (s.hart h).regs
  let s := eventsRan h s
  let s := modHart h (fun x => { x with regs := old.filter fun q => regKept old dbg q.1 }) s
  each (fun n s =>
    let v := (tget (fun _ => none) old n).getD 0
    if (List.range 4).any fun i => decide (128 ≤ wByte v i) then
      let (f, s) := draw 32 s
      hartPut h n (BitVec.ofNat 32 (leNat ((List.range 4).map fun i => BitVec.ofNat 8 (wByte (if 128 ≤ wByte v i then v else f) i)))) s
    else s) [0x3A0, 0x3A1, 0x3A2, 0x3A3] s

/-! ### Harts under debug (R256, R265, R274) -/

/-- A hart of that number exists: a checker only while its pair is split. -/
def hartExists (s : State) (h : Nat) : Bool := h % 2 == 0 || pairMode s (h / 2) == 2
/-- The debug module acts: unlocked at a level, the cores running, the pair not held. -/
def debugOn (s : State) (h : Nat) : Bool :=
  isSet s F.BST_DBG_STAT_LEVEL && coresRun s && hartExists s h && !(s.pair (h / 2)).held
/-- What one debug request did to hart h is done to the other core of a joined pair (R274). -/
def hartSync (h : Nat) (s : State) : State := each (fun c => modHart c fun _ => s.hart h) (hartCores s h) s
/-- dcsr with a cause and a privilege mode (assumption 38). -/
def dcsrWith (d : Word) (cause : Nat) (machine : Bool) : Word :=
  (d &&& 0xFFFFFE3C) ||| BitVec.ofNat 32 (64 * cause + if machine then 3 else 0)
/-- A hart enters debug mode with a cause; its pc and its mode are not the block's, so that they are free (assumption 7). -/
def hartEnter (h cause : Nat) (s : State) : State :=
  let (v, s) := draw 32 s
  let (m, s) := draw 1 s
  hartSync h (modHart h (fun x => { x with
    halted := true, haltPend := false, dpc := v &&& 0xFFFFFFFE, dcsr := dcsrWith x.dcsr cause (m = 1) }) (hartRan h false s))
/-- A hart halts on request. -/
def hartHalt (h : Nat) (s : State) : State := if (s.hart h).halted then s else hartEnter h 3 s
/-- A halt request (R265: held while a rejoin runs its steps). -/
def debugHalt (h : Nat) (s : State) : State :=
  if pairMode s (h / 2) = 3 ∧ ¬ (s.pair (h / 2)).xferDone then modHart (h / 2 * 2) (fun x => { x with haltPend := true }) s else hartHalt h s
/-- DEBUG_HALT. -/
def execDebugHalt (h : Fin 4) (s : State) : Host.Outcome State Fault Refusal := if debugOn s h then done (debugHalt h s) else unmet s
/-- A resume request: the hart runs, or with dcsr.step one instruction and halts again (R274). -/
def debugResume (h : Nat) (s : State) : State :=
  let x := s.hart h
  if ¬ x.halted then s else
  let s := modDbg (fun d => { d with resumeAck := tset (fun _ => false) d.resumeAck h true }) s
  if x.dcsr.getLsbD 2 then hartEnter h 4 s else hartSync h (modHart h (fun x => { x with halted := false }) (hartRan h false s))
/-- DEBUG_RESUME. -/
def execDebugResume (h : Fin 4) (s : State) : Host.Outcome State Fault Refusal :=
  if debugOn s h ∧ (s.hart h).halted then done (debugResume h s) else unmet s
/-- SINGLE_STEP (R274): one instruction of a halted hart; its registers and pc afterwards are free. -/
def execSingleStep (h : Fin 4) (s : State) : Host.Outcome State Fault Refusal :=
  if debugOn s h ∧ (s.hart h).halted then done (hartEnter h 4 s) else unmet s
/-- REJOIN_TRANSFER_COMPLETE (R264): both cores run in step; a held halt request acts now (R265). A pair held by a mismatch does not
complete. -/
def execRejoinTransferComplete (p : PairNo) (cycles : Nat) (s : State) : Host.Outcome State Fault Refusal :=
  if ¬ coresRun s then unmet s else
  if pairMode s p = 3 ∧ ¬ (s.pair p).xferDone ∧ ¬ (s.pair p).held ∧ cycles ≤ 32000 then
    let s := wr (F.BST_PAIR_STAT_XFERT p) cycles (joinHarts p (modPair p (fun x => { x with xferDone := true }) s))
    done (if (s.hart (2 * p)).haltPend then hartHalt (2 * p) s else s)
  else unmet s

/-- A register of a halted hart. A PMP address shows the granularity of 32 bytes by its mode (R251); MEIP alone can be pending, while
mevpend and mevten share a bit (R253). -/
def hartReg (h n : Nat) (s : State) : Word × State :=
  match csrConst h n with
  | some v => (v, s)
  | none =>
    if n = 0x7B1 then ((s.hart h).dpc, s)
    else if n = 0x7B0 then ((s.hart h).dcsr, s)
    else if n = 0x7C0 then ((tget (fun _ => 0) s.bst.mevten h).setWidth 32, s)
    else if n = 0x7C1 then ((tget (fun _ => 0) s.bst.mevpend h).setWidth 32, s)
    else if n = 0x344 then (if tget (fun _ => 0) s.bst.mevten h &&& tget (fun _ => 0) s.bst.mevpend h ≠ 0 then 0x800 else 0, s)
    else if n = 1 ∨ n = 2 then
      let (v, s) := hartRaw h 3 s
      (if n = 1 then v &&& 31 else (v >>> 5) &&& 7, s)
    else if n = 0x7A1 ∨ n = 0x7A2 then
      let (t, s) := hartRaw h 0x7A0 s
      hartRaw h (0x10000 + 16 * t.toNat + (n - 0x7A1)) s
    else if 0x3A0 ≤ n ∧ n ≤ 0x3A3 then
      let (v, s) := hartRaw h n s
      (BitVec.ofNat 32 (leNat ((List.range 4).map fun i => BitVec.ofNat 8 (pmpByte (wByte v i) 0))), s)
    else if 0x3B0 ≤ n ∧ n ≤ 0x3BF then
      let (c, s) := pmpCfg h (n - 0x3B0) s
      let (v, s) := hartRaw h n s
      (if pmpA c = 3 then v ||| 3 else v &&& 0xFFFFFFF8, s)
    else hartRaw h n s
/-- A PMP configuration register written: a locked byte keeps its value (R251). -/
def pmpCfgSet (h n : Nat) (v : Word) (s : State) : State :=
  let (old, s) := hartRaw h n s
  let (f, s) := draw 8 s
  let byte := fun (i : Nat) =>
    let o := pmpByte (wByte old i) 0
    BitVec.ofNat 8 (if 128 ≤ o then o else pmpByte (wByte v i) (f.toNat / 4 ^ i))
  hartPut h n (BitVec.ofNat 32 (leNat ((List.range 4).map byte))) s
/-- A PMP address register written: locked with its region, and by a locked TOR region above it (R251). -/
def pmpAddrSet (h n : Nat) (v : Word) (s : State) : State :=
  let i := n - 0x3B0
  let (c, s) := pmpCfg h i s
  let (d, s) := if i < 15 then pmpCfg h (i + 1) s else (0, s)
  if 128 ≤ c ∨ (128 ≤ d ∧ pmpA d = 1) then s else hartPut h n v s
/-- A write of mstatus: an MPP of another mode leaves a free legal one. -/
def mstatusSet (h : Nat) (v : Word) (s : State) : State :=
  let (f, s) := draw 1 s
  hartPut h 0x300 ((v &&& 0xFFFFE7FF) ||| BitVec.ofNat 32 (0x800 * privLegal (v.toNat / 0x800 % 4) f.toNat)) s
/-- The bits of dcsr that a write changes (assumption 38); its mode field stays machine or user. -/
def dcsrWrite (d v : Word) (f : Nat) : Word := (d &&& 0xFFFF61E8) ||| (v &&& 0x00009E14) ||| BitVec.ofNat 32 (privLegal (v.toNat % 4) f)
/-- A register of a core written by the debug module; software does not set a pending event (R253). -/
def hartSetOne (h n : Nat) (v : Word) (s : State) : State :=
  if (csrConst h n).isSome ∨ n = 0x344 ∨ (0xF11 ≤ n ∧ n ≤ 0xF13) then s
  else if n = 0x7B1 then modHart h (fun x => { x with dpc := v &&& 0xFFFFFFFE }) s
  else if n = 0x7B0 then
    let (f, s) := draw 1 s
    modHart h (fun x => { x with dcsr := dcsrWrite x.dcsr v f.toNat }) s
  else if n = 0x300 then mstatusSet h v s
  else if n = 0x7C0 then s.setBst { s.bst with mevten := tset (fun _ => 0) s.bst.mevten h (v.setWidth 8) }
  else if n = 0x7C1 then
    s.setBst { s.bst with mevpend := tset (fun _ => 0) s.bst.mevpend h (tget (fun _ => 0) s.bst.mevpend h &&& v.setWidth 8) }
  else if n = 1 ∨ n = 2 then
    let (o, s) := hartRaw h 3 s
    hartPut h 3 (if n = 1 then (o &&& 0xE0) ||| (v &&& 31) else (o &&& 31) ||| ((v &&& 7) <<< 5)) s
  else if n = 0x7A0 then (if v.toNat < 4 then hartPut h n v s else s)
  else if n = 0x7A1 ∨ n = 0x7A2 then
    let (t, s) := hartRaw h 0x7A0 s
    hartPut h (0x10000 + 16 * t.toNat + (n - 0x7A1)) v s
  else if 0x3A0 ≤ n ∧ n ≤ 0x3A3 then pmpCfgSet h n v s
  else if 0x3B0 ≤ n ∧ n ≤ 0x3BF then pmpAddrSet h n v s
  else hartPut h n v s
/-- A register written in every core that the request reaches; a write to msigend ends the flush of a pair in lockstep (R253). -/
def hartSet (h n : Nat) (v : Word) (s : State) : State :=
  if n = 0x7C3 then (if lockOn s (h / 2) then msigEnd (h / 2) s else s)
  else if n = 0x7C0 ∨ n = 0x7C1 then each (fun c => hartSetOne c n v) (hartCores s h) s else hartSync h (hartSetOne h n v s)
/-- A cmderr that stands is kept (RISC-V debug 0.13.2; assumption 38). -/
def cmdErr (e : Nat) (s : State) : State := modDbg (fun d => if d.cmderr = 0 then { d with cmderr := e } else d) s
/-- The program buffer runs: the registers afterwards and whether it ends in an exception are free. -/
def runProgbuf (h : Nat) (s : State) : State :=
  let (x, s) := draw 1 s
  let (d, s) := draw 32 s
  let s := hartSync h (modHart h (fun y => { y with dcsr := dcsrWrite y.dcsr d (d.toNat % 2) }) (hartRan h true s))
  if x = 1 then cmdErr 3 s else s
/-- An abstract command on hart h (R274): writes reach both cores of a joined pair, reads return the lead's value.
Without a transfer the command's size and register number stand for nothing (assumption 38). -/
def abstractRun (h : Nat) (c : AbstractCmd) (s : State) : State :=
  if s.bst.dbg.cmderr ≠ 0 then s
  else if ¬ (s.hart h).halted then cmdErr 4 s
  else if c.transfer ∧ (c.size ≠ 2 ∨ 0x1040 ≤ c.regno.toNat) then cmdErr 2 s
  else if c.transfer ∧ c.regno.toNat < 0x1000 ∧ ¬ csrThere c.regno.toNat then cmdErr 3 s
  else
    let s :=
      if ¬ c.transfer then s
      else if c.write then hartSet h c.regno.toNat s.bst.dbg.data0 s
      else let (v, s) := hartReg h c.regno.toNat s; modDbg (fun d => { d with data0 := v }) (hartSync h s)
    if c.postexec then runProgbuf h s else s
/-- ABSTRACT_COMMAND. -/
def execAbstractCommand (h : Fin 4) (cmd : AbstractCmd) (s : State) : Host.Outcome State Fault Refusal :=
  if debugOn s h then done (abstractRun h cmd s) else unmet s

/-! ### The JTAG port (R273 to R278) -/

/-- An instruction selected, with the bytes its data register captures. -/
def selectIr (ir : BitVec 5) (dr : List Byte) (s : State) : State := modDbg (fun d => { d with ir := ir, dr := dr }) s
/-- The bytes of a number's register. -/
def wordBytes (v : Nat) : List Byte := leBytes 4 v
/-- The identification register: the part code in its part-number field (R273). -/
def idcodeOf (s : State) : Nat :=
  1 + 2 * Config.jtagVendor.toNat + 4096 * s.dev.part.code + 2 ^ 28 * Config.jtagVersion.toNat
/-- ZEROISE (R276): every key register is zero and the OTP read port blocked, until the next POWERUP. -/
def zeroise (s : State) : State := wr F.BST_DBG_STAT_ZEROISED 1 (s.setBst { s.bst with se := { cmacKey := 0, keyHash := 0, otpBlocked := true } })
/-- What the security engine reads through its OTP port; blocked, the port gives nothing the spec states (assumption 120). -/
def otpRead (w : Nat) (v : BitVec w) (s : State) : BitVec w × State := if s.bst.se.otpBlocked then draw w s else (v, s)
/-- The port is powered. Rails removed in SLEEP power it again when VCORE reports good or they return. -/
def tapOn (s : State) : Bool := !s.dev.dead && !(s.pwr.railsOff && s.pwr.lowRails.getLsbD 0)
/-- TAP_RESET (R273): TRST_N selects IDCODE. -/
def execTapReset (s : State) : Host.Outcome State Fault Refusal :=
  if tapOn s then done (selectIr 1 (wordBytes (idcodeOf s)) s) else unmet s
/-- IDCODE (R273). -/
def execIdcode (s : State) : Host.Outcome State Fault Refusal :=
  if tapOn s then done (selectIr 1 (wordBytes (idcodeOf s)) s) else unmet s
/-- What the boundary register captures: the pins, which are free here. -/
def captureBsr (n : Nat) (s : State) : List Byte × State :=
  let (x, s) := draw n s
  (leBytes ((n + 7) / 8) x.toNat, s)
/-- SAMPLE_PRELOAD (R273): the pins captured, which are free here, and the boundary register loaded. -/
def execSamplePreload (v : List Bool) (s : State) : Host.Outcome State Fault Refusal :=
  if tapOn s then
    let (d, s) := captureBsr v.length s
    done (modDbg (fun d => { d with bsr := v }) (selectIr 2 d s))
  else unmet s
/-- An instruction that acts on the pins: zeroisation first (R276, R278). Where the security engine does not run, in reset, POWERUP, PARKED,
SLEEP or internal scan, the instruction is selected and does not take effect (assumption 161), so that internal scan ends through POWERUP
alone. -/
def pinIr (ir : BitVec 5) (dr : List Byte) (m : PinMode) (s : State) : State :=
  let s := selectIr ir dr s
  if monitored s then modDbg (fun d => { d with pins := m }) (zeroise s) else s
/-- EXTEST: the boundary register is selected, as for SAMPLE_PRELOAD (R273). -/
def execExtest (s : State) : Host.Outcome State Fault Refusal :=
  if tapOn s then
    let (d, s) := captureBsr s.bst.dbg.bsr.length s
    done (pinIr 4 d .extest s)
  else unmet s
/-- CLAMP: the bypass register is selected (R273). -/
def execClamp (s : State) : Host.Outcome State Fault Refusal := if tapOn s then done (pinIr 5 [0] .clamp s) else unmet s
/-- HIGHZ: the bypass register is selected (R273). -/
def execHighz (s : State) : Host.Outcome State Fault Refusal := if tapOn s then done (pinIr 6 [0] .highz s) else unmet s
/-- SCANEN (R276, R278): at level 2 alone; locked, the instruction is selected and does nothing. -/
def execScanen (s : State) : Host.Outcome State Fault Refusal :=
  if ¬ tapOn s then unmet s
  else if rd s F.BST_DBG_STAT_LEVEL = 2 then done (pinIr 0x18 [] .scan s) else done (selectIr 0x18 [] s)
/-- BYPASS (R273): and every opcode that Table 10.5 does not list. -/
def execBypass (opcode : BitVec 5) (s : State) : Host.Outcome State Fault Refusal :=
  if tapOn s ∧ ¬ [1, 2, 4, 5, 6, 0x10, 0x11, 0x12, 0x18].contains opcode.toNat then done (selectIr opcode [0] s) else unmet s
/-- DTMCS (R273): version 0.13, seven address bits (assumption 38). -/
def execDtmcs (s : State) : Host.Outcome State Fault Refusal :=
  if tapOn s then done (selectIr 0x10 (wordBytes 0x71) s) else unmet s
/-- dmstatus of the selected hart (assumption 38). -/
def dmstatus (s : State) : Nat :=
  let d := s.bst.dbg
  let ex := d.hartsel < 4 && hartExists s d.hartsel
  let held := ex && ((s.pair (d.hartsel / 2)).held || !coresRun s)
  let halted := ex && !held && (s.hart d.hartsel).halted
  let b := fun (i : Nat) (v : Bool) => if v then 3 * 2 ^ i else 0
  2 + 128 + b 8 halted + b 10 (ex && !held && !halted) + b 12 held + b 14 (!ex) + b 16 (ex && tget (fun _ => false) d.resumeAck d.hartsel) +
    b 18 (ex && (s.hart d.hartsel).wasReset)
/-- A read of a debug-module register. -/
def dmRead (s : State) (a : Nat) : Word :=
  let d := s.bst.dbg
  if a = 0x04 then d.data0
  else if a = 0x10 then BitVec.ofNat 32 (b2n d.dmactive + 65536 * d.hartsel)
  else if a = 0x11 then BitVec.ofNat 32 (dmstatus s)
  else if a = 0x40 then
    BitVec.ofNat 32 (maskOf ((List.range 4).filter fun h => hartExists s h && !(s.pair (h / 2)).held && (s.hart h).halted))
  else if a = 0x16 then BitVec.ofNat 32 (1 + 256 * d.cmderr + 2 ^ 24 * 8)
  else if 0x20 ≤ a ∧ a ≤ 0x27 then tget (fun _ => 0) d.progbuf (a - 0x20)
  else 0
/-- A write of dmcontrol. -/
def dmControl (v : Word) (s : State) : State :=
  if ¬ v.getLsbD 0 then modDbg (fun d => { d with dmactive := false, data0 := 0, progbuf := [], cmderr := 0, hartsel := 0, resumeAck := [] }) s
  else
    let h := v.toNat / 65536 % 1024
    let s := modDbg (fun d => { d with dmactive := true, hartsel := h }) s
    let s := if h < 4 ∧ v.getLsbD 28 then modHart h (fun x => { x with wasReset := false }) s else s
    if h < 4 ∧ debugOn s h then
      if v.getLsbD 31 then debugHalt h s
      else if v.getLsbD 30 then debugResume h (modDbg (fun d => { d with resumeAck := tset (fun _ => false) d.resumeAck h false }) s) else s
    else s
/-- A write of a debug-module register. -/
def dmWrite (a : Nat) (v : Word) (s : State) : State :=
  if a = 0x10 then dmControl v s
  else if ¬ s.bst.dbg.dmactive then s
  else if a = 0x04 then modDbg (fun d => { d with data0 := v }) s
  else if a = 0x16 then modDbg (fun d => { d with cmderr := d.cmderr &&& (7 - v.toNat / 256 % 8) }) s
  else if 0x20 ≤ a ∧ a ≤ 0x27 then modDbg (fun d => { d with progbuf := tset (fun _ => 0) d.progbuf (a - 0x20) v }) s
  else if a = 0x17 then
    let h := s.bst.dbg.hartsel
    if v.toNat / 2 ^ 24 ≠ 0 then cmdErr 2 s
    else if h < 4 ∧ debugOn s h then abstractRun h ⟨v.setWidth 16, v.getLsbD 17, v.getLsbD 16, v.getLsbD 18, v.extractLsb' 20 3⟩ s
    else cmdErr 4 s
  else s
/-- DMI (R273, R274): the debug module is inactive until level 1. -/
def execDmi (addr : BitVec 7) (write : Bool) (data : Word) (s : State) : Host.Outcome State Fault Refusal :=
  if ¬ tapOn s then unmet s
  else
    let s := selectIr 0x11 [] s
    if rd s F.BST_DBG_STAT_LEVEL = 0 then done s
    else if write then done (dmWrite addr.toNat data s)
    else done (modDbg (fun d => { d with dmiOut := dmRead s addr.toNat }) s)

/-! ### Unlocking (R275 to R277) -/

/-- AUTH_CAPTURE (R275): a fresh nonce, the part code, the serial; with the security engine in reset or unpowered nothing is captured
(assumption 161). -/
def execAuthCapture (s : State) : Host.Outcome State Fault Refusal :=
  if ¬ tapOn s then unmet s
  else if isSet s F.BST_DBG_STAT_LOCKOUT ∨ ¬ monitored s then done (selectIr 0x12 [] s)
  else
    let (k, s) := draw 256 s
    let s := modDbg (fun d => { d with nonce := some k }) s
    let (n, s) := otpRead 128 s.dev.otp.serial s
    done (selectIr 0x12 (leBytes 32 k.toNat ++ leBytes 2 s.dev.part.code ++ leBytes 16 n.toNat) s)
/-- The verdict of the security engine on an unlock attempt (R275), with the key hash and the serial that OTP gives it. -/
def authOk (s : State) (level : Nat) (key sig : List Byte) : Bool × State :=
  match s.bst.dbg.nonce with
  | none => (false, s)
  | some k =>
    let (h, s) := otpRead 256 s.dev.otp.debugHash s
    let (n, s) := otpRead 128 s.dev.otp.serial s
    let msg := leBytes 32 k.toNat ++ leBytes 2 s.dev.part.code ++ leBytes 16 n.toNat ++ leBytes 1 level
    ((level == 1 || level == 2) && key.length == 64 && decide (sha256 key = h) && ecdsaOk key (sha256 msg) sig, s)
/-- AUTH_UNLOCK (R275 to R277): every success is logged, with DEBUGRUN = 0 as the one entry of class TM that stands for the reaction of
every team at the next mark. -/
def execAuthUnlock (level : BitVec 2) (key sig : List Byte) (s : State) : Host.Outcome State Fault Refusal :=
  if ¬ tapOn s ∨ ¬ monitored s ∨ isSet s F.BST_DBG_STAT_LOCKOUT then unmet s
  else
    let (ok, s) := authOk s level.toNat key sig
    let s := modDbg (fun d => { d with ir := 0x12, nonce := none }) s
    if ok then
      let s := wr F.BST_DBG_STAT_LEVEL level.toNat (zeroise s)
      done (logFault 0x0E0A 0 (if isSet s F.BST_DBG_CFG_DEBUGRUN then 0 else 3) level.toNat s)
    else
      let n := satAdd 3 (rd s F.BST_DBG_STAT_FAILS) 1
      let s := logFault 0x0E0B 0 1 n (wr F.BST_DBG_STAT_FAILS n s)
      done (if n = 3 then wr F.BST_DBG_STAT_LOCKOUT 1 s else s)
/-- DEBUG_TEAM_REACTION (R277): the reaction of every team the part reports, which the entry of the unlock stands for. -/
def debugMark (s : State) : State :=
  if isSet s F.BST_DBG_STAT_LEVEL ∧ ¬ isSet s F.BST_DBG_CFG_DEBUGRUN ∧ ¬ s.bst.dbg.reacted then
    let s := modDbg (fun d => { d with reacted := true }) s
    upto (fun t => teamReact 0x0E0A t) s.nTeams s
  else s

end Sys2Proof.Machine
end

