-- ==== Sys2Proof/Machine/Link.lean ====
section
/-! DEFINITION. Ring links (R282 to R299): training and loss of hops, frames received, forwarded and sent, retransmission and credit,
wrap and unwrap, grants, and cistern packets (R309 to R317). Hop 0 is U (RAI, RBO), hop 1 is D (RAO, RBI); ring 0 is A, ring 1 is B. -/
namespace Sys2Proof.Machine
open Sys2Proof

/-! ### Hops -/

/-- The state of hop h: 0 DOWN, 1 TRAIN, 2 UP. -/
def hopState (s : State) (h : Nat) : Nat := rd s (F.RNG_HOP_STAT_STATE h)
/-- Hop h is UP. -/
def hopUp (s : State) (h : Nat) : Bool := hopState s h == 2
/-- The device is wrapped at hop h. -/
def wrapped (s : State) (h : Nat) : Bool := isSet s (F.RNG_HOP_STAT_WRAPPED h)
/-- The ports of the device's rings work (R286). -/
def ringRuns (s : State) : Bool := ringOn s && portsOn s && (romRing s || (!s.dev.plain && (s.dev.st == .sync || armedOn s)))
/-- A TRAIN block: its type and 48 data bits. -/
def sendTrain (h ty data : Nat) (s : State) : State := sendCtl h 0x99 (ty + 256 * (data % 2 ^ 48)) s
/-- IDENT of this device (R284, R285). -/
def sendIdent (h : Nat) (s : State) : State :=
  sendTrain h 1 (s.devNum + 64 * rd s F.RNG_CFG_NDEVM1 + 4096 * rd s F.RNG_CFG_HEAD + 8192 * rd s F.CFG_STAT_LOADED + 65536 * s.dev.part.code) s
/-- Training of a DOWN hop starts (R285): in steps 1 and 2 EQUALISE asks the neighbour for a preset, which is this side's to choose and free
here. -/
def trainStart (h : Nat) (s : State) : State :=
  if hopState s h = 0 ∧ ¬ (s.hop h).tooLong then
    let (v, s) := draw 5 s
    sendTrain h 5 (v.toNat % 16 % 10 + 16 * (v.toNat / 16))
      (wr (F.RNG_HOP_STAT_STATE h) 1 (modHop h (fun x => { x with exch := 0, exchSum := 0, identSent := false }) s))
  else s
/-- IDENT is sent once in a training, in its step 3 (R284, R285). -/
def identOnce (h : Nat) (s : State) : State :=
  if (s.hop h).identSent then s else sendIdent h (modHop h (fun x => { x with identSent := true }) s)
/-- The hops at a mark: training starts on a DOWN hop (R285, R286; assumption 122), and the ALIGN pairs of the stride have gone out, one every
4,096 block periods of 4.224 SCLK cycles (R284). -/
def trainMark (h : Nat) (s : State) : State :=
  if ¬ ringRuns s then s else
  let s := trainStart h s
  let a := (s.hop h).align + 1000 * s.per
  let s := each (fun (_ : Nat) s => sendCtl h 0x4B 1 (sendCtl h 0x4B 0 s)) (List.range (a / 17301504)) s
  modHop h (fun x => { x with align := a % 17301504 }) s
/-- DELAY_REQ of the next exchange of a hop in training (R52, R285). -/
def askDelay (h : Nat) (s : State) : State :=
  if hopState s h = 1 ∧ (s.hop h).exch < 256 then sendTrain h 2 (s.hop h).exch s else s
/-- The cistern k of ring r. -/
def ringCisNo (r k : Nat) : Nat := 7 * r + k
/-- The cisterns read onto the output of hop h (R296): its own ring's, and the other ring's when that side is wrapped. -/
def cisOnHop (s : State) (h : Nat) : List Nat :=
  (if wrapped s h then [] else (List.range 7).map (ringCisNo (1 - h))) ++ (if wrapped s (1 - h) then (List.range 7).map (ringCisNo h) else [])
/-- The frame of a cistern leaves through a wrap on hop h. -/
def throughWrap (h n : Nat) : Bool := n / 7 != 1 - h || n % 7 == 6
/-- Forwarded traffic rather than the device's own. -/
def forwarded (n : Nat) : Bool := n % 7 == 5 || n % 7 == 6
/-- The credit that hop h reports: the free space of the forward cistern its input feeds, in units of 64 bytes (R293). -/
def hopCredit (s : State) (h : Nat) : Nat :=
  let n := ringCisNo h 5
  let f := (cisSize s n - (s.cis n).count false) / 64
  if f > 0xFFFF then 0xFFFF else f

/-! ### Sending (R291 to R293, R313) -/

/-- The bytes of a frame on the link. -/
def frameLen (p : Pkt) : Nat := 20 + p.body.length
/-- The first packet of a cistern not yet sent: where its read pointer stands (R312). -/
def headPkt (s : State) (n : Nat) : Option (Nat × Pkt) :=
  ((List.range (s.cis n).pkts.length).zip (s.cis n).pkts).find? fun (p : Nat × Pkt) => p.2.sent.isNone && !p.2.freed
/-- The candidates of hop h: cistern, place, packet. A frame to be sent again keeps to the hop that numbered it (R292, R298). -/
def candidates (s : State) (h : Nat) : List (Nat × Nat × Pkt) :=
  (List.range 14).filterMap fun n => match headPkt s n with
    | none => none
    | some (i, p) =>
      match p.again with
      | some (k, _) => if k = h then some (n, i, p) else none
      | none => if (cisOnHop s h).contains n then some (n, i, p) else none
/-- Frames sent on hop h and not acknowledged. -/
def unacked (s : State) (h : Nat) : List Nat :=
  (List.range 14).flatMap fun n => (s.cis n).pkts.filterMap fun p => match p.sent with
    | some (k, q) => if k = h then some q else none
    | none => none
/-- The slot table of the output on hop h (R291). -/
def slotsOf (s : State) (h : Nat) : List Config.Slot := tget (fun _ => []) s.cfg.slots (1 - h)
/-- The time of a frame of so many bytes on the link, in thousandths of an SCLK cycle: START, its data blocks and TERM, two blocks in a period of
5.28 ns (R282, R284, R291). -/
def sendTime (len : Nat) : Nat := ((len + 7) / 8 + 3) / 2 * 4224
/-- The phase of the next slot behind a phase, in this stride or the next. -/
def nextSlot (s : State) (h ph : Nat) : Option Nat :=
  let ps := (slotsOf s h).map (·.phase)
  let least := fun (l : List Nat) => each (fun p (acc : Option Nat) => match acc with
    | none => some p
    | some q => some (min p q)) l none
  match least (ps.filter (ph < ·)) with
  | some p => some p
  | none => (least ps).map (· + s.per)
/-- A class 3 or 4 frame started at a phase ends 16 cycles before the next slot (R291). -/
def spaced (s : State) (h ph : Nat) (p : Pkt) : Bool :=
  match nextSlot s h ph with
  | none => true
  | some q => decide (1000 * ph + sendTime (frameLen p) + 16000 ≤ 1000 * q)
/-- The link's window and its credit cover a class 3 or 4 frame (R292, R293). -/
def linkMay (s : State) (h : Nat) (p : Pkt) : Bool :=
  p.cls < 3 || (decide ((unacked s h).length < 64) && decide ((s.hop h).sentSince + frameLen p ≤ (s.hop h).credit))
/-- The slot of a frame of classes 0 to 2 on an output, by its place in the table: of the entries of its class and its source, a cistern or with
none the cut-through path of the input, which have room for it in this stride, the earliest of its very length, else the earliest (R291;
assumption 155). -/
def ownSlot (s : State) (h : Nat) (src : Option Nat) (p : Pkt) : Option (Nat × Config.Slot) :=
  let l := slotsOf s h
  let room := fun (q : Nat × Config.Slot) => q.2.len - (((s.hop h).slots.filter fun u => u.1 == q.1).map (·.2)).sum
  let es := ((List.range l.length).zip l).filter fun q => q.2.cls == p.cls && q.2.src == src && decide (frameLen p ≤ room q)
  let first := fun (l : List (Nat × Config.Slot)) => each (fun q (acc : Option (Nat × Config.Slot)) => match acc with
    | none => some q
    | some b => if q.2.phase < b.2.phase then some q else some b) l none
  (first (es.filter fun q => q.2.len == frameLen p)).or (first es)
/-- A frame that starts at a phase has missed the window of its slot (R291). -/
def missed (s : State) (h : Nat) (src : Option Nat) (p : Pkt) (ph : Nat) : Bool :=
  p.late || (match ownSlot s h src p with
    | some q => decide (q.2.phase + q.2.win < ph)
    | none => false)
/-- A frame of classes 0 to 2 starts at a phase: its slot is taken, and one that has missed its window is counted, and logged at the limited rate
(R291). -/
def slotTake (h : Nat) (src : Option Nat) (p : Pkt) (ph : Nat) (s : State) : State :=
  let s' := match ownSlot s h src p with
    | some q => if p.late then s else modHop h (fun x => { x with slots := (q.1, frameLen p) :: x.slots }) s
    | none => s
  if missed s h src p ph then logRated 0x0805 (1 - h) 0 p.cls s' else s'
/-- A stride ends: the entries are free for the next, and a reserved frame that still waits has missed its window (R291). -/
def slotsMark (s : State) : State :=
  let s := upto (fun n s => each (fun (q : Nat × Pkt) s =>
    if q.2.cls < 3 ∧ ¬ q.2.freed ∧ (ownSlot s (1 - n / 7) (some n) q.2).isSome then modCis n (fun c => { c with pkts := c.pkts.set q.1 { q.2 with late := true } }) s
    else s) ((List.range (s.cis n).pkts.length).zip (s.cis n).pkts) s) 14 s
  each (fun h => modHop h fun x => { x with slots := [] }) [0, 1] s
/-- A frame may start at a phase outside the slots (R291 to R293, R296): of classes 3 and 4 where it is spaced and covered; of classes 0 to 2 from
the wrap, without a slot of its own, or with its window missed. -/
def mayStart (s : State) (h ph : Nat) (c : Nat × Nat × Pkt) : Bool :=
  if 3 ≤ c.2.2.cls then linkMay s h c.2.2 && spaced s h ph c.2.2
  else throughWrap h c.1 || (ownSlot s h (some c.1) c.2.2).isNone || missed s h (some c.1) c.2.2 ph
/-- Among candidates the first of a class, own and forwarded frames alternating (R291). -/
def pickCls (s : State) (h : Nat) (cs : List (Nat × Nat × Pkt)) (c : Nat) : Option (Nat × Nat × Pkt) :=
  let l := cs.filter fun (p : Nat × Nat × Pkt) => p.2.2.cls == c
  let own := l.find? fun (p : Nat × Nat × Pkt) => !forwarded p.1
  let fwd := l.find? fun (p : Nat × Nat × Pkt) => forwarded p.1
  if (s.hop h).lastOwn.getLsbD c then fwd.or own else own.or fwd
/-- The next frame for hop h at a phase (R291, R292): classes 0 to 2 in their order; then the frame to be sent again with the next sequence, before
any new frame takes a number; then classes 3 and 4. -/
def nextPkt (s : State) (h ph : Nat) : Option (Nat × Nat × Pkt) :=
  let cs := candidates s h
  let ok := cs.filter (mayStart s h ph)
  match ([0, 1, 2].filterMap (pickCls s h ok)).head? with
  | some p => some p
  | none =>
    if cs.any fun (p : Nat × Nat × Pkt) => p.2.2.again.isSome then
      ok.find? fun (p : Nat × Nat × Pkt) => decide (p.2.2.again = some (h, (s.hop h).txSeq))
    else ([3, 4].filterMap (pickCls s h ok)).head?
/-- The packet at a place of a cistern changed. -/
def setPkt (n i : Nat) (p : Pkt) (s : State) : State :=
  modCis n (fun c => { c with pkts := c.pkts.set i p }) s
/-- A frame leaves on hop h: RETX and WRAP set as they apply, numbered and held in classes 3 and 4, released in classes 0 to 2. -/
def linkSend (h n i : Nat) (p : Pkt) (s : State) : State :=
  let x := s.hop h
  let set := fun (f b : Nat) => if f / b % 2 = 0 then f + b else f
  let fl := if throughWrap h n then set p.flags 2 else p.flags
  let fl := if p.retx then set fl 1 else fl
  let num := 3 ≤ p.cls
  let fr := frameBytes p fl (if num then x.txSeq else 0) (hopCredit s h)
  let s := if p.retx then bumpSat (F.RNG_HOP_RETX_RETXCNT h) s else s
  let own := !forwarded n
  let s := modHop h (fun x => { x with
    wire := fr, abort := false, lastOwn := if own then x.lastOwn ||| (1#8 <<< p.cls) else x.lastOwn &&& ~~~(1#8 <<< p.cls),
    txSeq := if num then (x.txSeq + 1) % 65536 else x.txSeq, sentSince := x.sentSince + fr.length }) s
  let s := setPkt n i (if num then { p with sent := some (h, x.txSeq), retx := false, again := none, reread := false } else { p with freed := true }) s
  if p.again.isSome then seqSettle h s else s
/-- A frame waiting to be sent again is released unsent: its number is left out, and RESYNC names the next one, so that the link goes on
(R313; assumption 141). -/
def skipSeq (h : Nat) (p : Pkt) (s : State) : State :=
  match p.again with
  | some (_, q) => resync h (modHop h (fun x => { x with txSeq := (q + 1) % 65536 }) s)
  | none => s
/-- CIS_ECC (R313): an uncorrectable error read while a frame is sent. The frame is reread once, then released unsent. -/
def eccSend (h n i : Nat) (p : Pkt) (s : State) : State :=
  let s := modHop h (fun x => { x with wire := frameBytes p p.flags x.txSeq (hopCredit s h), abort := true }) (wr (F.CIS_STAT_ECCERR n) 1 s)
  if p.reread then cisDrop n (logFault 0x0A03 n 0 2 (skipSeq h p (setPkt n i { p with freed := true, again := none } s)))
  else logFault 0x0A03 n 0 1 (setPkt n i { p with reread := true } s)
/-- A frame of a cistern leaves at a phase (R291). -/
def sendAt (h n i ph : Nat) (p : Pkt) (s : State) : State :=
  linkSend h n i p (if p.cls < 3 ∧ ¬ throughWrap h n then slotTake h (some n) p ph s else s)
/-- LINK_TRANSMIT (R284, R291 to R293, R310 to R313): the next frame of hop h is started at a phase; with none ready the link is filled with
IDLE, which carries the credit. -/
def execLinkTransmit (h : Ring) (t : LinkTx) (s : State) : Host.Outcome State Fault Refusal :=
  let k := h.toNat
  if ¬ (ringRuns s ∧ hopUp s k) then unmet s else
  match nextPkt s k t.ph with
  | none => done (sendCtl k 0x1E (hopCredit s k) s)
  | some (n, i, p) => if t.ecc then done (eccSend k n i p s) else done (sendAt k n i t.ph p s)
/-- RESERVED_SLOT (R291, R313): the frame of a slot's class and cistern leaves at a phase within the slot's window, or late, its own slot or an
earlier one missed; or it is aborted for an uncorrectable error. A frame of the cut-through path leaves as it arrives. -/
def execReservedSlot (h : Ring) (slot : Fin 64) (t : LinkTx) (s : State) : Host.Outcome State Fault Refusal :=
  let k := h.toNat
  if ¬ (ringRuns s ∧ hopUp s k) then unmet s else
  match (slotsOf s k)[slot.val]? with
  | none => unmet s
  | some e =>
    match e.src with
    | none => unmet s
    | some n =>
      match headPkt s n with
      | none => unmet s
      | some (i, p) =>
        let own := missed s k (some n) p t.ph || (ownSlot s k (some n) p).all fun q => q.1 == slot.val
        if p.cls ≠ e.cls ∨ 3 ≤ p.cls ∨ t.ph < e.phase ∨ ¬ (cisOnHop s k).contains n ∨ ¬ own then unmet s
        else if t.ecc then done (eccSend k n i p s)
        else done (sendAt k n i t.ph p s)

/-! ### Acknowledgement (R292, R315, R317) -/

/-- ACK (R292, R312): the frames sent on hop h up to a sequence are released, those that wait to be sent again among them. -/
def ackFrames (h seq : Nat) (s : State) : State :=
  let hit := fun (q : Option (Nat × Nat)) => match q with
    | some (k, q) => k == h && seqLe q seq
    | none => false
  let again := (List.range 14).any fun n => (s.cis n).pkts.any fun p => hit p.again
  let s := modHop h (fun x => { x with timeouts := 0, txSeq := if again ∧ seqLe x.txSeq seq then (seq + 1) % 65536 else x.txSeq }) s
  let s := modPkts (fun _ l => l.map fun p => if hit p.sent || hit p.again then { p with sent := none, again := none, freed := true } else p) s
  if again then seqSettle h s else s
def execAck (h : Ring) (seq : BitVec 16) (s : State) : Host.Outcome State Fault Refusal :=
  if ringRuns s ∧ hopUp s h.toNat then done (ackFrames h.toNat seq.toNat s) else unmet s
/-- NAK (R292). -/
def execNak (h : Ring) (seq : BitVec 16) (s : State) : Host.Outcome State Fault Refusal :=
  if ringRuns s ∧ hopUp s h.toNat then done (rewindFrom h.toNat seq.toNat (bumpSat (F.RNG_HOP_RETX_NAKCNT h.toNat) s)) else unmet s
/-- The oldest frame sent on hop h and not acknowledged. -/
def oldestUnacked (s : State) (h : Nat) : Option Nat :=
  each (fun q acc => match acc with
    | none => some q
    | some b => if seqLe q b then some q else some b) (unacked s h) none
/-- ACK_TIMEOUT (R285, R292): rewound as for a NAK, and counted. -/
def execAckTimeout (h : Ring) (s : State) : Host.Outcome State Fault Refusal :=
  let k := h.toNat
  if ¬ (ringRuns s ∧ hopUp s k) then unmet s else
  match oldestUnacked s k with
  | none => unmet s
  | some q => done (modHop k (fun x => { x with timeouts := x.timeouts + 1 }) (rewindFrom k q s))
/-- RESYNC (R284, R315): the receiver adopts the next sequence. -/
def execResync (h : Ring) (seq : BitVec 16) (s : State) : Host.Outcome State Fault Refusal :=
  if ringRuns s ∧ hopUp s h.toNat then done (modHop h.toNat (fun x => { x with rxSeq := seq.toNat, nakked := false }) s) else unmet s
/-- IDLE (R284, R293): the neighbour's credit. -/
def execIdle (h : Ring) (credit : BitVec 16) (s : State) : Host.Outcome State Fault Refusal :=
  if ringRuns s ∧ hopUp s h.toNat then done (modHop h.toNat (fun x => { x with credit := 64 * credit.toNat, sentSince := 0 }) s) else unmet s
/-- ALIGN (R284): the lanes are deskewed and the block removed; nothing else changes. -/
def execAlign (_h : Ring) (s : State) : Host.Outcome State Fault Refusal := done s

/-! ### Loss, wrap and unwrap (R285, R296 to R298) -/

/-- The cisterns that hop h was sending rewound to their marks (R297): its unacknowledged frames go again, with RETX, by another output. -/
def wrapRewind (h : Nat) (s : State) : State :=
  let on := fun (q : Option (Nat × Nat)) => match q with
    | some (k, _) => k == h
    | none => false
  let hit := fun (p : Pkt) => on p.sent || on p.again
  let s := upto (fun n s => if (s.cis n).pkts.any hit then bumpSat (F.CIS_STAT_REWINDS n) s else s) 14 s
  modPkts (fun _ l => l.map fun p => if hit p then { p with sent := none, retx := true, again := none } else p) s
/-- An UP hop is lost (R284, R285, R296): DOWN, LINK_FAULT sent with its cause where the loss was found here, 0 elsewhere, and the device wrapped
at that side. -/
def hopLost (h cause fault : Nat) (s : State) : State :=
  let s := bumpSat (F.RNG_HOP_ERR_LOSTCNT h) (wr (F.RNG_HOP_STAT_STATE h) 0 s)
  let s := wr (F.RNG_HOP_STAT_UNWPEND h) 0 (modHop h (fun x => { ({} : HopSt) with ctl := x.ctl, wire := x.wire, abort := x.abort, align := x.align }) s)
  let s := if fault = 0 then s else sendCtl h 0x66 fault s
  let s := logFault 0x0801 h 1 cause s
  let s := wrapRewind h s
  if wrapped s h then s
  else logFault 0x0802 h 1 (s.dev.count.toNat % 65536) (wr (F.RNG_HOP_STAT_WRAPPED h) 1 s)
/-- LINK_LOST (R284, R285): block lock lost, no valid block for 2 µs, or four acknowledgement timeouts, which is also the cause of LINK_FAULT. -/
def execLinkLost (h : Ring) (cause : LossCause) (s : State) : Host.Outcome State Fault Refusal :=
  if ¬ (ringRuns s ∧ hopUp s h.toNat) then unmet s else
  match cause with
  | .blockLock => done (hopLost h.toNat 1 1 s)
  | .noBlock => done (hopLost h.toNat 1 2 s)
  | .timeouts => if 4 ≤ (s.hop h.toNat).timeouts then done (hopLost h.toNat 2 3 s) else unmet s
/-- LINK_FAULT (R285): the neighbour has lost its input. -/
def execLinkFault (h : Ring) (_cause : BitVec 4) (s : State) : Host.Outcome State Fault Refusal :=
  if ringRuns s ∧ hopUp s h.toNat then done (hopLost h.toNat 3 0 s) else unmet s
/-- The hop's measured delay and its validity. -/
def hopDelay (s : State) (h : Nat) : Nat := if h = 0 then rd s F.STR_HOPA_HOP else rd s F.STR_HOPB_HOP
/-- HOP_UP (R285): training has ended with the delay measured; above 12,800 units the hop does not go UP. D0 enumerates (R286). -/
def execHopUp (h : Ring) (s : State) : Host.Outcome State Fault Refusal :=
  let k := h.toNat
  if ¬ (ringRuns s ∧ hopState s k = 1 ∧ 256 ≤ (s.hop k).exch) then unmet s
  else if hopDelay s k > 12800 then
    done (logFault 0x0801 k 1 4 (wr (F.RNG_HOP_STAT_STATE k) 0 (modHop k (fun x => { x with tooLong := true, exch := 0, exchSum := 0 }) s)))
  else
    let s := wr (F.RNG_HOP_STAT_STATE k) 2 (modHop k (fun x => { x with
      txSeq := 0, rxSeq := 0, nakked := false, credit := 0, sentSince := 0, timeouts := 0, prop := none, unwrap := none }) s)
    let s := modDev (fun d => { d with hopSeen := true }) s
    done (if isSet s F.RNG_CFG_HEAD then sendTrain k 4 (if k = 0 then 64 else 0) s else s)
/-- HOP_RETRAIN (R285): 100 ms after a refusal for excess delay. -/
def execHopRetrain (h : Ring) (s : State) : Host.Outcome State Fault Refusal :=
  if ringRuns s ∧ (s.hop h.toNat).tooLong then
    done (trainStart h.toNat (modHop h.toNat (fun x => { x with tooLong := false }) s))
  else unmet s
/-- A hop trains or is UP. -/
def hopLive (s : State) (h : Nat) : Bool := ringRuns s && !(s.hop h).tooLong
/-- IDENT (R284, R285): the neighbour's number and string; the delay exchanges begin. -/
def execIdent (h : Ring) (data : BitVec 48) (s : State) : Host.Outcome State Fault Refusal :=
  let k := h.toNat
  if hopLive s k then
    let s := identOnce k (trainStart k s)
    done (askDelay k (wr (F.RNG_HOP_STAT_NEIGH k) (data.toNat % 64) (modHop k (fun x => { x with ident := data.setWidth 32 }) s)))
  else unmet s
/-- EQUALISE (R284, R285): a preset asked of this side's transmitter, and the neighbour's receiver; with it adapted IDENT follows. -/
def execEqualise (h : Ring) (preset : Byte) (adapted : Bool) (s : State) : Host.Outcome State Fault Refusal :=
  let k := h.toNat
  if hopLive s k then
    let s := modHop k (fun x => { x with preset := preset.toNat, adapted := adapted }) (trainStart k s)
    done (if adapted ∧ hopState s k = 1 then identOnce k s else s)
  else unmet s
/-- DELAY_REQ (R52, R284): answered with the exchange number and the turnaround, which the hardware measures and is free here. -/
def execDelayReq (h : Ring) (num : Byte) (s : State) : Host.Outcome State Fault Refusal :=
  let k := h.toNat
  if hopLive s k then
    let (v, s) := draw 24 (trainStart k s)
    done (sendTrain k 3 (num.toNat + 256 * v.toNat) s)
  else unmet s
/-- DELAY_RESP (R52): one of 256 exchanges; half the averaged round trip less the turnaround is the hop delay. Until a new measurement is
complete the register keeps the old one with VALID = 1 (assumption 106). -/
def execDelayResp (h : Ring) (_num : Byte) (roundTrip : Nat) (turnaround : BitVec 24) (s : State) : Host.Outcome State Fault Refusal :=
  let k := h.toNat
  if ¬ hopLive s k ∨ hopState s k = 2 ∨ 256 ≤ (s.hop k).exch then unmet s else
  let s := modHop k (fun x => { x with exch := x.exch + 1, exchSum := x.exchSum + (roundTrip - turnaround.toNat) }) (trainStart k s)
  if (s.hop k).exch = 256 then
    let d := (s.hop k).exchSum / 512
    done (if k = 0 then wr F.STR_HOPA_HOP d (wr F.STR_HOPA_VALID 1 s) else wr F.STR_HOPB_HOP d (wr F.STR_HOPB_VALID 1 s))
  else done (askDelay k s)
/-- A position found (R286): reported, and logged where it differs from DEVNUM. -/
def enumFound (ring pos : Nat) (s : State) : State :=
  let s := if ring = 0 then wr F.RNG_ENUM_POSA pos (wr F.RNG_ENUM_VALIDA 1 s) else wr F.RNG_ENUM_POSB pos (wr F.RNG_ENUM_VALIDB 1 s)
  let ok := (!isSet s F.RNG_ENUM_VALIDA || rd s F.RNG_ENUM_POSA == rd s F.RNG_CFG_DEVNUM) &&
    (!isSet s F.RNG_ENUM_VALIDB || rd s F.RNG_ENUM_POSB == rd s F.RNG_CFG_DEVNUM)
  let s := wrB F.RNG_ENUM_MATCH ok s
  if pos % 64 = rd s F.RNG_CFG_DEVNUM ∨ ¬ isSet s F.CFG_STAT_LOADED then s else logFault 0x0804 0 1 pos s
/-- N as a neighbour with an image gave it in IDENT; without an image the device has no other (R284, R286). -/
def identSize (s : State) (h : Nat) : Option Nat :=
  let w := (s.hop h).ident.toNat
  if bit w 13 then some (w / 64 % 64 + 1) else none
/-- ENUM (R284, R286): the count incremented gives the position and is passed on; the message ends at D0. -/
def execEnum (h : Ring) (count : BitVec 6) (ring : Ring) (s : State) : Host.Outcome State Fault Refusal :=
  let r := ring.toNat
  if ¬ hopLive s h.toNat ∨ h ≠ ring then unmet s
  else if isSet s F.RNG_CFG_HEAD then done (enumFound r 0 s)
  else
    let c := (count.toNat + 1) % 64
    let n := if isSet s F.CFG_STAT_LOADED then some (rd s F.RNG_CFG_NDEVM1 + 1) else identSize s h.toNat
    let s := trainStart h.toNat s
    let s := if r = 0 then enumFound 0 c s else (match n with
      | some n => enumFound 1 ((n + 64 - c) % 64) s
      | none => s)
    done (sendTrain (1 - r) 4 (c + 64 * r) s)
/-- The unwrap of hop h agreed for a stride (R298). -/
def unwrapAgree (h : Nat) (u : Stamp) (s : State) : State :=
  wr (F.RNG_HOP_STAT_UNWPEND h) 1 (wr (F.RNG_HOP_STAT_UNWAT h) (u.toNat % 65536) (modHop h (fun x => { x with unwrap := some u }) s))
/-- UNWRAP_PROPOSE (R298): the other device of an UP hop, SYNCED, confirms; one that has restarted is not wrapped itself. -/
def execUnwrapPropose (h : Ring) (u : BitVec 48) (s : State) : Host.Outcome State Fault Refusal :=
  let k := h.toNat
  if ringRuns s ∧ hopUp s k ∧ isSet s F.STR_SYNCSTAT_SYNCED then done (sendTrain k 7 u.toNat (unwrapAgree k u s)) else unmet s
/-- UNWRAP_CONFIRM (R298): of the stride proposed. -/
def execUnwrapConfirm (h : Ring) (u : BitVec 48) (s : State) : Host.Outcome State Fault Refusal :=
  let k := h.toNat
  if ringRuns s ∧ hopUp s k ∧ (s.hop k).prop = some u then
    done (unwrapAgree k u (modHop k (fun x => { x with prop := none }) s))
  else unmet s
/-- The proposals of the ring-A upstream device of a hop, its hop D, at a mark; one not confirmed within 8 strides is repeated
(R298). The device proposes where it is wrapped at that side, or where the neighbour, which has sent it copies of sync frames, is. -/
def unwrapMark (s : State) : State :=
  let x := s.hop 1
  let due : Bool := match x.prop with
    | none => true
    | some _ => decide ((s.dev.count - x.propAt).toNat ≥ 8)
  if ringRuns s ∧ hopUp s 1 ∧ (wrapped s 1 ∨ x.copied) ∧ isSet s F.STR_SYNCSTAT_SYNCED ∧ x.unwrap.isNone ∧ due then
    let u := s.dev.count + 32
    sendTrain 1 6 u.toNat (modHop 1 (fun x => { x with prop := some u, propAt := s.dev.count }) s)
  else s
/-- RING_UNWRAP (R298): at the mark of stride U the redirected cisterns return to their own output. -/
def execRingUnwrap (h : Ring) (s : State) : Host.Outcome State Fault Refusal :=
  if ¬ ringRuns s then unmet s else
  let k := h.toNat
  if (s.hop k).unwrap = some s.dev.count then
    done (logFault 0x0803 k 0 (s.dev.count.toNat % 65536)
      (wr (F.RNG_HOP_STAT_WRAPPED k) 0 (wr (F.RNG_HOP_STAT_UNWPEND k) 0 (modHop k (fun x => { x with unwrap := none, copied := false }) s))))
  else unmet s

/-! ### Receiving (R288, R289, R292, R303) -/

/-- The header of a received frame as a packet. -/
def parsePkt (b : List Byte) : Pkt :=
  let w := field b 0 4
  { dest := w % 64, src := w / 64 % 64, cls := w / 4096 % 8, flags := w / 32768 % 32, stamp := field b 6 2, stream := field b 8 2,
    body := (b.drop 16).take (w / 1048576) }
/-- The header is good (R288). -/
def headerOk (b : List Byte) : Bool :=
  let w := field b 0 4
  field b 14 2 == crc16 (b.take 14) && decide (w / 1048576 ≤ 2048) && decide (w / 4096 % 8 ≤ 4)
/-- The frame's length and CRC are good. -/
def frameOk (b : List Byte) : Bool :=
  let n := field b 0 4 / 1048576
  b.length == 20 + n && field b (16 + n) 4 == crc32 (b.take (16 + n))
/-- NAK with the expected sequence, for each frame discarded under R288 (R292). -/
def sendNak (h : Nat) (s : State) : State := sendCtl h 0xD2 (s.hop h).rxSeq (modHop h (fun x => { x with nakked := true }) s)
/-- A frame of classes 0 to 2 passed on cut-through to the output of its ring, which it leaves at a phase, held against the slots of that path
(R288, R291); or looped through the wrap cistern (R296). -/
def passOn (ring ph : Nat) (p : Pkt) (abort : Bool) (s : State) : State :=
  let h := 1 - ring
  if wrapped s h then (if abort then s else (cisPut (ringCisNo (1 - ring) 6) p s).1)
  else if hopUp s h then
    let f := frameBytes p p.flags 0 (hopCredit s h)
    let s := slotTake h none p ph s
    modHop h (fun x => { x with wire := f, abort := abort, lastOwn := x.lastOwn &&& ~~~(1#8 <<< p.cls), sentSince := x.sentSince + f.length }) s
  else s
/-- A class 3 or 4 frame into the forward cistern of its ring's output, or the wrap cistern (R288, R296). -/
def storeOn (ring : Nat) (p : Pkt) (s : State) : State :=
  if wrapped s (1 - ring) then (cisPut (ringCisNo (1 - ring) 6) p s).1 else (cisPut (ringCisNo ring 5) p s).1
/-- A reply or a telemetry frame that reached D0: its ring header stripped, GAP copied, queued for the port of PORTB (R303, R314). -/
def toHost (ring : Nat) (p : Pkt) (s : State) : State :=
  let fl := field p.body 3 1
  let fl := if bit p.flags 2 ∧ ¬ bit fl 2 then fl + 4 else fl
  let n := (if bit fl 1 then 19 else 14) + 3 + ring
  (cisPut n { body := p.body.take 3 ++ [BitVec.ofNat 8 fl] ++ p.body.drop 4 } s).1
/-- A good frame taken, passed on, or both (R288). What a taken frame holds acts in the step of its use. A sync frame is passed on by
SYNC_FRAME, which updates its CORR. -/
def routeFrame (ring ph : Nat) (p : Pkt) (s : State) : State :=
  let own := p.dest = s.devNum
  let s := if p.cls ≥ 3 ∧ own ∧ isSet s F.RNG_CFG_HEAD then toHost ring p s else s
  if own ∨ (p.cls = 0 ∧ p.stream = 0) then s
  else if p.cls ≥ 3 then storeOn ring p s else passOn ring ph p false s
/-- The age rule of R288 discards the frame; without an image there is no MAXAGE and no aligned count, and everything is forwarded (R301). -/
def ageDrop (s : State) (p : Pkt) : Bool :=
  isSet s F.CFG_STAT_LOADED && decide (3 ≤ p.cls) && decide ((s.dev.count.toNat % 65536 + 65536 - p.stamp) % 65536 > rd s F.RNG_CFG_MAXAGE)
/-- A frame discarded under those rules, counted (R288). -/
def countDrop (aged : Bool) (p : Pkt) (s : State) : State :=
  let s := if aged then bumpSat F.RNG_DROP_AGED s else bumpSat F.RNG_DROP_UNDELIV s
  if p.dest = 0x3F then s else logRated 0x0806 0 0 (s.reg A.RNG_DROP).toNat s
/-- A frame received on a ring input (R288, R292, R293). -/
def rxFrame (ring : Nat) (b : List Byte) (e : RxEnd) (s : State) : State :=
  let h := ring
  if ¬ headerOk b then sendNak h (bumpSat (F.RNG_HOP_ERR_CRCERR h) s) else
  let p := parsePkt b
  let num := 3 ≤ p.cls
  if e.abort ∨ ¬ frameOk b then
    let s := bumpSat (F.RNG_HOP_ERR_CRCERR h) s
    if num then sendNak h s else if p.dest = s.devNum ∨ p.src = s.devNum then s else passOn ring e.ph p true s
  else
    let s := modHop h (fun x => { x with credit := 64 * field b 10 2, sentSince := 0 }) s
    let seq := field b 4 2
    if num ∧ seq ≠ (s.hop h).rxSeq then (if (s.hop h).nakked then s else sendNak h s)
    else if ageDrop s p ∨ p.src = s.devNum then
      let s := countDrop (ageDrop s p) p s
      if num then sendNak h s else s
    else
      let s := if num then sendCtl h 0x2D seq (modHop h (fun x => { x with rxSeq := (seq + 1) % 65536, nakked := false }) s) else s
      routeFrame ring e.ph p s
/-- RING_FRAME (R284, R287 to R289, R292, R293, R303). -/
def execRingFrame (ring : Ring) (bytes : List Byte) (e : RxEnd) (s : State) : Host.Outcome State Fault Refusal :=
  if ringRuns s ∧ hopUp s ring.toNat then done (rxFrame ring.toNat bytes e s) else unmet s

/-! ### Grants (R294, R295) -/

/-- Units of a frame with a payload (R295). -/
def grantCost (len : Nat) : Nat := (len + 38 + 63) / 64
/-- A class 3 or 4 frame opened for the host draws on the grant; false where the grant does not cover it. Without an image no grant frame fits
the device's own count, and none is asked for (assumption 94). -/
def grantTake (len : Nat) (s : State) : State × Bool :=
  if ¬ ringOn s ∨ romRing s then (s, true) else
  let u := rd s F.RNG_GRANT_USED + grantCost len
  if u ≤ rd s F.RNG_GRANT_GRANT then (wr F.RNG_GRANT_USED u s, true) else (s, false)
/-- GRANT_FRAME (R294, R295): ring A's copy, or ring B's where ring A's is missing; another COUNT is ignored. -/
def execGrantFrame (ring : Ring) (payload : List Byte) (s : State) : Host.Outcome State Fault Refusal :=
  if ringRuns s ∧ field payload 0 4 = s.dev.count.toNat % 2 ^ 32 then
    let g := field payload (4 + 2 * s.devNum) 2
    let n := s.net
    let s := s.setNet (if ring = .a then { n with grantA := some g } else { n with grantB := some g })
    done (wr F.RNG_GRANT_GRANT (match s.net.grantA with
      | some v => v
      | none => g) s)
  else unmet s
/-- The rate code of a port in Gb/s times 2. -/
def portRate2 (s : State) (p : Nat) : Nat :=
  match rd s (F.ETH_P_STAT_RATE p) with
  | 0 => 20
  | 1 => 10
  | 2 => 5
  | _ => 2
/-- cap of R294: per port floor(rate x period / 512 bits). -/
def grantCap (s : State) : Nat :=
  each (fun p acc => if isSet s (F.ETH_P_STAT_LINK p) && !isSet s (F.ETH_P_STAT_PAUSED p) then
    acc + portRate2 s p * s.per * 5 / 4096 else acc) [0, 1] 0
/-- The bytes in cisterns 14 to 23. -/
def ethBacklog (s : State) : Nat := each (fun n acc => acc + (s.cis n).count true) ((List.range 10).map (14 + ·)) 0
/-- SHARE of device d. -/
def shareOf (s : State) (d : Nat) : Nat := rd s (F.RNG_SHARE_SHARE (d / 4)) / 256 ^ (d % 4) % 256
/-- The devices reached (R294): D0 itself, its neighbour on an UP hop, and beyond them, while a hop is UP, those that a ring reaches, which no
rule tells D0 and which is free here (assumption 39). -/
def reached (s : State) : List Nat × State :=
  let (m, s) := draw 64 s
  let n := rd s F.RNG_CFG_NDEVM1
  let on := fun (d : Nat) =>
    d == 0 || (hopUp s 1 && d == 1) || (hopUp s 0 && d == n) || ((hopUp s 0 || hopUp s 1) && d != 1 && d != n && m.getLsbD d)
  ((List.range (n + 1)).filter on, s)
/-- GRANT_FRAME_SEND (R294): D0 computes the grants of the stride and sends them behind the sync frame. -/
def grantMark (s : State) : State :=
  let s := wr F.RNG_GRANT_GRANT 0 (wr F.RNG_GRANT_USED 0 (s.setNet { s.net with grantA := none, grantB := none }))
  if ¬ (ringRuns s ∧ isSet s F.RNG_CFG_HEAD) then s else
  let back := (ethBacklog s + 63) / 64
  let pool := grantCap s * rd s F.RNG_CRCFG_EGRFRAC / 256 - back
  let (ds, s) := reached s
  let sum := each (fun d acc => acc + shareOf s d) ds 0
  let grant := fun d => if ds.contains d ∧ sum ≠ 0 then pool * shareOf s d / sum else 0
  let s := wr F.RNG_POOL_POOL pool (wr F.RNG_POOL_BACK back s)
  let run := if pool = 0 then s.net.poolRun + 1 else 0
  let s := s.setNet { s.net with poolRun := run, poolLogged := if pool = 0 then s.net.poolLogged else false }
  let body := leBytes 4 (s.dev.count.toNat % 2 ^ 32) ++ (List.range 64).flatMap fun d => leBytes 2 (grant d)
  let s := ringSend 1 0 1 body (ringSend 0 0 1 body s)
  wr F.RNG_GRANT_GRANT (grant s.devNum) s
/-- CREDIT_STALL (R294): 64 strides with an empty pool. -/
def execCreditStall (s : State) : Host.Outcome State Fault Refusal :=
  if ¬ portsOn s then unmet s else
  if 64 ≤ s.net.poolRun ∧ ¬ s.net.poolLogged then
    done (logFault 0x0807 0 1 (rd s F.RNG_POOL_BACK) (s.setNet { s.net with poolLogged := true }))
  else unmet s

/-! ### Cistern packets (R311 to R315) -/

/-- PACKET_OPEN (R311, R314): the first word reserved; without room the packet is dropped. -/
def execPacketOpen (n : CisNo) (s : State) : Host.Outcome State Fault Refusal :=
  let k := n.val
  if (s.cis k).opened.isSome ∨ ¬ portsOn s then unmet s
  else if (s.cis k).count (cisEth k) + 16 ≤ cisSize s k then done (modCis k (fun c => { c with opened := some s.dev.count }) s)
  else done (cisDrop k s)
/-- The payload that a packet of cistern k charges to the grant: of the own class 3 and 4 cisterns, and on D0 of its own host frames (R295). -/
def grantLen (s : State) (k : Nat) (bytes : List Byte) : Option Nat :=
  if [3, 4, 10, 11].contains k then some (parsePkt bytes).body.length
  else if isSet s F.RNG_CFG_HEAD ∧ [14, 15, 16, 19, 20, 21].contains k then some bytes.length else none
/-- PACKET_CLOSE (R295, R310, R311, R314): the bytes of the packet with its length word; without room or grant, or with the skid buffer full,
dropped. -/
def execPacketClose (n : CisNo) (bytes : List Byte) (skidFull : Bool) (s : State) : Host.Outcome State Fault Refusal :=
  if ¬ portsOn s then unmet s else
  let k := n.val
  if (s.cis k).opened.isNone then unmet s
  else
    let s := modCis k (fun c => { c with opened := none }) s
    if skidFull then done (cisDrop k s)
    else
      let (s, ok) := match grantLen s k bytes with
        | some l => grantTake l s
        | none => (s, true)
      if ok then done (cisPut k (if cisEth k then { body := bytes } else parsePkt bytes) s).1 else done (cisDrop k s)
/-- CIS_OPEN_TIMEOUT (R311): a packet open for a stride is abandoned. -/
def execCisOpenTimeout (n : CisNo) (s : State) : Host.Outcome State Fault Refusal :=
  if ¬ portsOn s then unmet s else
  let k := n.val
  match (s.cis k).opened with
  | none => unmet s
  | some c =>
    if c = s.dev.count then unmet s
    else done (logFault 0x0A04 k 0 0 (cisDrop k (modCis k (fun c => { c with opened := none }) s)))
/-- CIS_PTR_MISMATCH (R315): the cistern is reset, and a ring output sends RESYNC with its next sequence. -/
def execCisPtrMismatch (n : CisNo) (mask : Byte) (s : State) : Host.Outcome State Fault Refusal :=
  let k := n.val
  if mask = 0 ∨ ¬ portsOn s then unmet s
  else
    let open_ := (s.cis k).opened.isSome
    let s := modCis k (fun _ => {}) s
    let s := if open_ then cisDrop k s else s
    let s := logFault 0x0A01 k 1 mask.toNat (bumpSat (F.CIS_STAT_RESETCNT k) (wr (F.CIS_STAT_PTRERR k) 1 s))
    done (if cisEth k then s else
      let h := if wrapped s (1 - k / 7) then k / 7 else 1 - k / 7
      let s := if hopUp s (1 - h) then seqSettle (1 - h) s else s
      if hopUp s h then resync h s else s)

end Sys2Proof.Machine
end

