-- ==== Sys2Proof/Machine/Sync.lean ====
section
/-! DEFINITION. Stride alignment across a string (R51 to R57): sync frames sent, heard and passed on, holdover, standby and head sources. -/
namespace Sys2Proof.Machine
open Sys2Proof

/-- The timebase is one that aligns to a string: a ring in the image, in SYNC or later. -/
def syncRuns (s : State) : Bool := ringRuns s && s.dev.started && !s.dev.plain
/-- A stride in units of 78.125 ps. -/
def strideUnits (s : State) : Int := 16 * s.per
/-- The signed difference of two counts. -/
def countDiff (a b : Stamp) : Int := (a - b).toInt
/-- The error of this device's mark that a frame implies, and its path delay (R53): positive where the own mark is earlier than the source's
(assumption 99: the spec says signed and gives no sense). -/
def syncErr (s : State) (ring : Nat) (f : SyncFrame) : Int × Nat :=
  let path := f.corr.toNat + hopDelay s ring
  (f.arrival - path - countDiff f.count s.dev.count * strideUnits s, path)
/-- ERR and MAXERR; an error beyond the signed 16 bits of ERR shows as the nearest value it holds (assumption 150). -/
def showErr (e : Int) (s : State) : State :=
  let v := sat 16 e
  let m := rd s F.STR_ALIGNERR_MAXERR
  wrI F.STR_ALIGNERR_ERR v (wr F.STR_ALIGNERR_MAXERR (if m < v.natAbs then v.natAbs else m) s)
/-- The timebase stepped by an error, which becomes 0; what the other ring implied in the stride is measured from the new mark (R54). A
step of a mark that moves breaks the windows that hold it (R62). The observer grid stays where it is (R94), and so the mark moves on it. The strides since a rate-limited
entry stay as many as they were (R401). -/
def stepTo (e : Int) (count : Stamp) (path : Nat) (s : State) : State :=
  let t := 16 * s.per
  let move := fun (x : SyncSeen) => { x with err := x.err - e }
  let c := count + BitVec.ofNat 48 (path / t)
  let δ := c - s.dev.count
  let s := s.setFlt { s.flt with rate := s.flt.rate.map fun (q : Nat × Option Stamp) => (q.1, q.2.map (· + δ)) }
  modDev (fun d => { d with
    count := c, phase := path % t / 16, stepped := if e = 0 then d.stepped else some 0,
    grid := ((d.grid + e + countDiff c d.count * t) % 12800).toNat,
    seenA := d.seenA.map move, seenB := d.seenB.map move, offset := 0, resume := false }) s
/-- Every axis is in a state in which the timebase may step (R56). -/
def allIdle (s : State) : Bool := (axesUsed s).all (axIdle s)
/-- In SYNC: stepped, and aligned after 16 frames in a row within 2 ns (R54). A stride without a frame leaves the run as it is
(assumption 100). -/
def alignSync (e : Int) (count : Stamp) (path : Nat) (s : State) : State :=
  let good := if e.natAbs ≤ 25 then s.dev.good + 1 else 0
  let s := modDev (fun d => { d with good := good, lostLogged := false }) (stepTo e count path s)
  wrB F.STR_SYNCSTAT_SYNCED (16 ≤ good) (wr F.STR_SYNCSTAT_HOLDOVER 0 (wr F.STR_SYNCSTAT_HOLDCNT 0 (wr F.STR_SYNCSTAT_STEP_PEND 0 s)))
/-- In ARMED, SERVICE and RECOVERY (assumption 129: R54 names the first two): slewed, or a step kept pending after a resume beyond 1 µs
(R54, R56). SYNCED returns with the first frame that is followed, before the slew has ended; it is clear while a step is pending
(assumption 101). The data of 0x0105 is the error in ns, rounded to nearest, halves away from zero (assumption 151). -/
def alignRun (e : Int) (count : Stamp) (path : Nat) (s : State) : State :=
  let s := wr F.STR_SYNCSTAT_HOLDOVER 0 (wr F.STR_SYNCSTAT_HOLDCNT 0 (modDev (fun d => { d with lostLogged := false }) s))
  let pend := isSet s F.STR_SYNCSTAT_STEP_PEND
  if pend ∨ (s.dev.resume ∧ e.natAbs > 12800) then
    let ns := sat 32 (Flt.roundAway (e * 5) 64)
    let s := if pend then s else logFault 0x0105 0 1 (trunc 32 ns) (wr F.STR_SYNCSTAT_STEP_PEND 1 s)
    if allIdle s then wr F.STR_SYNCSTAT_SYNCED 1 (wr F.STR_SYNCSTAT_STEP_PEND 0 (stepTo e count path s)) else wr F.STR_SYNCSTAT_SYNCED 0 s
  else
    let (v, s) := draw 32 s
    wr F.STR_SYNCSTAT_SYNCED 1 (modDev (fun d => { d with offset := e, freq := v, resume := false }) s)
/-- The stride's frame used (R54). -/
def alignWith (ringB : Bool) (x : SyncSeen) (path : Nat) (s : State) : State :=
  let s := showErr x.err (wrB F.STR_SYNCSTAT_SRC_B ringB (modDev (fun d => { d with aligned := true }) s))
  if s.dev.st = .sync then alignSync x.err x.count path s else alignRun x.err x.count path s
/-- The path delay shown on a ring. -/
def pathOf (s : State) (ring : Nat) : Nat := if ring = 0 then rd s F.STR_PATHA_PATH else rd s F.STR_PATHB_PATH
/-- A good sync frame heard on a ring: ring A's is used at once, ring B's at the mark where ring A's is missing (R54). The data of 0x0104 is
ring A's error less ring B's, signed (assumption 102). A device that is the source does not align; D0 as the source hands over to a
standby it hears (R56). -/
def syncHear (ring : Nat) (f : SyncFrame) (s : State) : State :=
  let (e, path) := syncErr s ring f
  let s := if ring = 0 then wr F.STR_PATHA_PATH path (wr F.STR_PATHA_VALID 1 s) else wr F.STR_PATHB_PATH path (wr F.STR_PATHB_VALID 1 s)
  let x : SyncSeen := ⟨e, f.count, f.src.toNat, f.stby⟩
  let other := if ring = 0 then s.dev.seenB else s.dev.seenA
  let s := modDev (fun d => if ring = 0 then { d with seenA := some x } else { d with seenB := some x }) s
  let s := match other with
    | some y =>
      let d := e - y.err
      if d.natAbs > 51 then logFault 0x0104 0 1 (trunc 32 (if ring = 0 then d else -d)) s else s
    | none => s
  if isSet s F.STR_SYNCSTAT_SOURCE then
    (if isSet s F.RNG_CFG_HEAD ∧ f.stby then modDev (fun d => { d with handOver := true }) s else s)
  else if ring = 0 then alignWith false x path s else s
/-- The payload of a sync frame (R51). -/
def syncBody (count : Stamp) (src : Nat) (stby : Bool) (corr : Nat) : List Byte :=
  leBytes 6 count.toNat ++ leBytes 1 src ++ leBytes 1 (b2n stby) ++ leBytes 4 corr ++ [0, 0, 0, 0]
/-- A sync frame passed on (R51, R53): CORR grows by the residence, which is free here, and the delay of the link it came by; the header
stays. A hop that is wrapped gets a copy in TRAIN blocks (R298). -/
def syncPass (ring : Nat) (f : SyncFrame) (s : State) : State :=
  let (v, s) := draw 32 s
  let corr := (f.corr.toNat + hopDelay s ring + v.toNat) % 2 ^ 32
  let p : Pkt := { dest := 0x3F, src := f.src.toNat, cls := 0, flags := f.flags.toNat, stamp := f.count.toNat % 65536, stream := 0, body := syncBody f.count f.src.toNat f.stby corr }
  let s := passOn ring ((f.arrival + v.toNat) / 16).toNat p (!f.crcOk) s
  if ¬ f.crcOk then s else
  each (fun h s => if wrapped s h ∧ 1 ≤ hopState s h then
    sendTrain h 9 (corr + 2 ^ 32 * f.src.toNat + 2 ^ 38 * b2n f.stby) (sendTrain h 8 f.count.toNat s) else s) [0, 1] s
/-- SYNC_FRAME (R51, R53, R54); without an image it is passed on and not heard (R37, R301). -/
def execSyncFrame (ring : Ring) (f : SyncFrame) (s : State) : Host.Outcome State Fault Refusal :=
  if ¬ (ringRuns s ∧ hopUp s ring.toNat) then unmet s
  else if f.src.toNat = s.devNum then done s
  else
    let s := syncPass ring.toNat f s
    done (if f.crcOk ∧ syncRuns s then syncHear ring.toNat f s else s)
/-- SYNC_COPY0 (R298): the COUNT of a sync frame that a neighbour passes on. -/
def execSyncCopy0 (h : Ring) (count : BitVec 48) (s : State) : Host.Outcome State Fault Refusal :=
  if hopLive s h.toNat then done (modHop h.toNat (fun x => { x with copy0 := some count, copied := true }) s) else unmet s
/-- SYNC_COPY1 (R298): the rest of the copy; a device that is not synced aligns to it. -/
def execSyncCopy1 (h : Ring) (f : SyncFrame) (s : State) : Host.Outcome State Fault Refusal :=
  let k := h.toNat
  match (s.hop k).copy0 with
  | none => unmet s
  | some c =>
    if ¬ hopLive s k then unmet s else
    let s := modHop k (fun x => { x with copy0 := none }) s
    done (if isSet s F.STR_SYNCSTAT_SYNCED ∨ ¬ syncRuns s then s else syncHear k { f with count := c } s)
/-- SYNC_FRAME_SEND (R51): the source's frame on both rings at its mark. -/
def syncSend (s : State) : State :=
  if syncRuns s ∧ isSet s F.STR_SYNCSTAT_SOURCE then
    let stby := !isSet s F.RNG_CFG_HEAD
    let b := syncBody s.dev.count s.devNum stby 0
    ringSend 1 0 0 b (ringSend 0 0 0 b s)
  else s
/-- SYNC_LOST (R56): 16 holdover strides in a row. The data is the field ERR as the register holds it, its upper half 0 (assumption 103). -/
def execSyncLost (s : State) : Host.Outcome State Fault Refusal :=
  if ¬ syncRuns s then unmet s else
  if 16 ≤ rd s F.STR_SYNCSTAT_HOLDCNT ∧ isSet s F.STR_SYNCSTAT_HOLDOVER ∧ ¬ s.dev.lostLogged then
    let s := logFault 0x0103 0 1 (rd s F.STR_ALIGNERR_ERR) (modDev (fun d => { d with lostLogged := true }) s)
    done (each (fun a s => if axType s a = 6 ∨ axType s a = 7 then spanLost a 3 s else s) (axesUsed s) s)
  else unmet s
/-- The device becomes the source: aligned and out of holdover, with nothing pending (R56). SRC_B keeps what it showed (assumption 165). -/
def becomeSource (s : State) : State :=
  wr F.STR_SYNCSTAT_SOURCE 1 s |> wr F.STR_SYNCSTAT_HOLDOVER 0 |> wr F.STR_SYNCSTAT_HOLDCNT 0 |> wr F.STR_SYNCSTAT_SYNCED 1
    |> wr F.STR_SYNCSTAT_STEP_PEND 0 |> modDev fun d => { d with resume := false, lostLogged := false }
/-- SOURCE_TAKEOVER (R56): the standby in holdover for 8 strides continues the count as the source. -/
def execSourceTakeover (s : State) : Host.Outcome State Fault Refusal :=
  if syncRuns s ∧ isSet s F.STR_SYNCCFG_STBY_EN ∧ rd s F.STR_SYNCCFG_STBY_DEV = s.devNum ∧ 8 ≤ rd s F.STR_SYNCSTAT_HOLDCNT ∧
      ¬ isSet s F.STR_SYNCSTAT_SOURCE then
    done (syncSend (logFault 0x0106 s.devNum 1 (s.dev.count.toNat % 2 ^ 32) (becomeSource s)))
  else unmet s
/-- D0_BECOMES_SOURCE (R56): after 64 strides without a frame with a hop UP, or 20 ms without a hop going UP. -/
def execD0BecomesSource (s : State) : Host.Outcome State Fault Refusal :=
  if syncRuns s ∧ isSet s F.RNG_CFG_HEAD ∧ s.dev.st == .sync ∧ s.dev.running ∧ ¬ isSet s F.STR_SYNCSTAT_SOURCE ∧
      (64 ≤ s.dev.noSync ∨ (¬ s.dev.hopSeen ∧ 20 * 800000 ≤ s.dev.syncStrides * s.per)) then
    done (syncSend (becomeSource s))
  else unmet s
/-- SYNC_RETRY (R56, R57). -/
def execSyncRetry (ring : Ring) (s : State) : Host.Outcome State Fault Refusal :=
  if ringRuns s ∧ s.dev.st == .sync then
    let n := (if ring = .a then s.dev.retryA else s.dev.retryB) + 1
    done (logFault 0x0107 ring.toNat 0 n (modDev (fun d => if ring = .a then { d with retryA := n } else { d with retryB := n }) s))
  else unmet s
/-- A stride that ends without a sync frame is a holdover stride (R56), also before the first alignment; the source, which sends the frames, makes
none (assumption 104). SRC_B keeps what it showed (assumption 165). -/
def holdMark (s : State) : State :=
  if isSet s F.STR_SYNCSTAT_SOURCE ∨ ¬ s.dev.running then s
  else if s.dev.seenA.isSome ∨ s.dev.seenB.isSome then s
  else bumpSat F.STR_SYNCSTAT_HOLDCNT (wr F.STR_SYNCSTAT_HOLDOVER 1 (wr F.STR_SYNCSTAT_SYNCED 0 (modDev (fun d => { d with resume := true }) s)))
/-- The mark is one of a timebase that began in SYNC (R37): the first of them may fall in ARMED where SYNC was left at once (R34). -/
def timebase (s : State) : Bool :=
  match s.dev.st with
  | .sync => true
  | .armed | .service => !s.dev.plain
  | _ => false
/-- The stride's sync frames at its end (R54, R56). The first mark in SYNC begins the first stride and ends none (assumption 105). -/
def syncMark (s : State) : State :=
  if ¬ ringOn s then (if timebase s then wr F.STR_SYNCSTAT_SYNCED 1 s else s)
  else if ¬ syncRuns s then s
  else
    let s := match s.dev.aligned, s.dev.seenB with
      | false, some x => if isSet s F.STR_SYNCSTAT_SOURCE then s else alignWith true x (pathOf s 1) s
      | _, _ => s
    let s := if s.dev.handOver then
      wr F.STR_SYNCSTAT_SOURCE 0 (modDev (fun d => { d with handOver := false, resume := true }) s) else s
    let s := holdMark s
    let seen := s.dev.seenA.isSome || s.dev.seenB.isSome
    let up := hopUp s 0 || hopUp s 1
    let s := wrB F.STR_PATHA_VALID s.dev.seenA.isSome (wrB F.STR_PATHB_VALID s.dev.seenB.isSome s)
    let o := s.dev.offset
    modDev (fun d => { d with
      noSync := if seen || !up || !d.running then 0 else d.noSync + 1,
      syncStrides := if d.st == .sync && d.running then d.syncStrides + 1 else d.syncStrides,
      seenA := none, seenB := none, aligned := false, offset := if o > 8 then o - 8 else if o < -8 then o + 8 else 0 }) s

end Sys2Proof.Machine
end

