-- ==== Sys2Proof/Machine/Bus.lean ====
section
/-! DEFINITION. Field buses (R321 to R341): the CAN FD channels, the SENT receivers and the LIN channels. -/
namespace Sys2Proof.Machine
open Sys2Proof

/-- The field-bus controllers run (R321). -/
def busOn (s : State) : Bool := s.bus.on && armedOn s
/-- STR_COUNT[15:0]. -/
def stamp16 (s : State) : Nat := s.dev.count.toNat % 65536
/-- A field-bus event of an object with IRQEN (R322). -/
def busEvent (en : Fld) (s : State) : State := if isSet s en then coreEvent 5 s else s

/-! ### CAN FD (R323 to R332) -/

/-- Channel c beyond its registers. -/
def State.can (s : State) (c : Nat) : CanCh := tget (fun _ => {}) s.bus.can c
/-- The state with channel c changed. -/
def modCan (c : Nat) (f : CanCh → CanCh) (s : State) : State :=
  s.setBus { s.bus with can := tset (fun _ => {}) s.bus.can c (f (s.can c)) }
/-- Mailbox m of channel c beyond its registers. -/
def State.mbox (s : State) (c m : Nat) : Mbox := tget (fun _ => {}) s.bus.mb (32 * c + m)
/-- The state with a mailbox changed. -/
def modMbox (c m : Nat) (f : Mbox → Mbox) (s : State) : State :=
  s.setBus { s.bus with mb := tset (fun _ => {}) s.bus.mb (32 * c + m) (f (s.mbox c m)) }
/-- Channel c runs (R321). -/
def canOn (s : State) (c : Nat) : Bool := busOn s && isSet s (F.CAN_CH_CFG_EN c)
/-- Channel c is bus-off. -/
def canOff (s : State) (c : Nat) : Bool := rd s (F.CAN_CH_STAT_ESTATE c) == 2
/-- CYCLE of R325 in strides. -/
def canCycle (s : State) (c : Nat) : Nat := rd s (F.CAN_CH_CFG_CYCLE c) + 1
/-- The mailbox that cell (y, sl) names. -/
def canCell (s : State) (c y sl : Nat) : Option Nat :=
  let w := 8 * y + sl / 4
  if isSet s (F.CAN_CH_CELL_EN c w (sl % 4)) then some (rd s (F.CAN_CH_CELL_MB c w (sl % 4))) else none
/-- Data bytes of a DLC (ISO 11898-1). -/
def canLen (fdf : Bool) (dlc : Nat) : Nat :=
  if dlc ≤ 8 then dlc else if ¬ fdf then 8 else
  match dlc with
  | 9 => 12
  | 10 => 16
  | 11 => 20
  | 12 => 24
  | 13 => 32
  | 14 => 48
  | _ => 64
/-- The data bytes of a mailbox, `n` of them. -/
def mbBytes (s : State) (c m n : Nat) : List Byte :=
  ((List.range 16).flatMap fun i => leBytes 4 (s.reg (A.CAN_MB_DATA c m i)).toNat).take n
/-- Bytes written into the data words of a mailbox; the bytes past them keep what they held. -/
def mbStore (c m : Nat) (bs : List Byte) (s : State) : State :=
  let all := bs ++ (mbBytes s c m 64).drop bs.length
  upto (fun i s => s.setReg (A.CAN_MB_DATA c m i) (BitVec.ofNat 32 (field all (4 * i) 4))) 16 s
/-- The place of a mailbox's frame in arbitration, lowest first: base before extended at equal leading bits (R327). -/
def mbKey (s : State) (c m : Nat) : Nat :=
  let id := rd s (F.CAN_MB_ID_ID c m)
  if isSet s (F.CAN_MB_CFG_IDE c m) then (id / 2 ^ 18) * 2 ^ 20 + 2 ^ 19 + id % 2 ^ 18 else id % 2 ^ 11 * 2 ^ 20
/-- The pending event frame that goes next (R327); without a partner one attempted in this stride waits (R331). -/
def nextEvent (s : State) (c : Nat) : Option Nat :=
  each (fun m acc =>
    if isSet s (F.CAN_MB_STAT_PEND c m) ∧ ¬ (isSet s (F.CAN_CH_STAT_NOPART c) ∧ (s.mbox c m).tried) then
      match acc with
      | none => some m
      | some b => if mbKey s c m < mbKey s c b then some m else some b
    else acc) (List.range 32) none
/-- The content that mailbox m has committed: its transmit shadow (R328). -/
def mbShadow (s : State) (c m : Nat) : BitVec 4 × List Byte :=
  match (s.mbox c m).shadow with
  | some p => p
  | none => (0, [])
/-- A frame of mailbox m with content `sh` as it goes on the bus (R328); ESI recessive while error passive (Table 12.1). -/
def mbFrame (s : State) (c m : Nat) (sh : BitVec 4 × List Byte) : CanData :=
  let rtr := isSet s (F.CAN_MB_CFG_RTR c m)
  { id := BitVec.ofNat 29 (rd s (F.CAN_MB_ID_ID c m)), ide := isSet s (F.CAN_MB_CFG_IDE c m), fdf := isSet s (F.CAN_MB_CFG_FDF c m),
    brs := isSet s (F.CAN_MB_CFG_BRS c m), esi := rd s (F.CAN_CH_STAT_ESTATE c) == 1, rtr := rtr, dlc := sh.1,
    data := if rtr then [] else sh.2 }
/-- A transmission begins on an idle bus: the slot frame ahead of every event frame (R326, R327). -/
def canStart (c : Nat) (s : State) : State :=
  let x := s.can c
  if x.tx.isSome ∨ x.busy ∨ canOff s c then s else
  match x.queued with
  | some q => modCan c (fun x => { x with tx := some q.mb, txSlot := true, slotOver := false, wire := some (mbFrame s c q.mb (q.dlc, q.data)) }) s
  | none => match nextEvent s c with
    | some m => modCan c (fun x => { x with tx := some m, txSlot := false, wire := some (mbFrame s c m (mbShadow s c m)) })
        (modMbox c m (fun b => { b with tried := true }) s)
    | none => s
/-- CAN_SLOT_MISSED: a slot frame expires (R326). -/
def expire (c : Nat) (q : SlotFrame) (s : State) : State :=
  let s := wr (F.CAN_MB_STAT_EXPIRED c q.mb) 1 (wr (F.CAN_CH_FLT_MISSED c) 1 (bumpSat (F.CAN_CH_CNT_MISSCNT c) s))
  busEvent (F.CAN_MB_CFG_IRQEN c q.mb) (logRated 0x0904 c 0 (q.mb + 256 * q.slot + 65536 * q.cycle) s)
/-- The queued slot frame expires. -/
def slotExpire (c : Nat) (s : State) : State :=
  match (s.can c).queued with
  | none => s
  | some q => expire c q (modCan c (fun x => { x with queued := none, slotOver := false }) s)
/-- The open slot ends: a slot frame in transmission is completed, another expires (R326). -/
def slotEnd (c : Nat) (s : State) : State :=
  let x := s.can c
  let s := modCan c (fun x => { x with slot := none }) s
  match x.next with
  | some q => expire c q (modCan c (fun x => { x with next := none }) s)
  | none =>
    if x.queued.isNone then s
    else if x.tx.isSome ∧ x.txSlot then modCan c (fun x => { x with slotOver := true }) s
    else slotExpire c s
/-- CAN_SLOT_BEGIN (R325, R326): the preceding slot has ended; `busy` says that another node's frame is on the bus. -/
def execCanSlotBegin (c : Fin 8) (sl : Fin 32) (busy : Bool) (s : State) : Host.Outcome State Fault Refusal :=
  match (s.can c).cycle with
  | none => unmet s
  | some y =>
    if ¬ (canOn s c ∧ isSet s (F.CAN_CH_SLOT_EN c sl)) then unmet s else
    let s := modCan c (fun x => { x with slot := some sl.val, busy := if x.tx.isSome then x.busy else busy }) (slotEnd c s)
    match canCell s c y sl with
    | none => done s
    | some m =>
      if isSet s (F.CAN_MB_STAT_VALID c m) ∧ ¬ (isSet s (F.CAN_MB_CFG_FRESHONLY c m) ∧ ¬ (s.mbox c m).fresh) then
        let q : SlotFrame := { mb := m, slot := sl.val, cycle := y, dlc := (mbShadow s c m).1, data := (mbShadow s c m).2 }
        -- A frame of the slot before still in transmission keeps its place until it ends.
        if (s.can c).slotOver then done (modCan c (fun x => { x with next := some q }) s)
        else done (canStart c (modCan c (fun x => { x with queued := some q }) s))
      else done (bumpSat (F.CAN_CH_CNT_EMPTYCNT c) s)
/-- CAN_SLOT_MISSED (R326): the open slot ends. -/
def execCanSlotMissed (c : Fin 8) (s : State) : Host.Outcome State Fault Refusal :=
  if canOn s c ∧ ((s.can c).queued.isSome ∨ (s.can c).next.isSome) then done (canStart c (slotEnd c s)) else unmet s
/-- The cycle that a mark begins, and the attempts of the new stride (R325, R331). -/
def canMark (c : Nat) (s : State) : State :=
  if ¬ canOn s c then s else
  let n := s.dev.count.toNat
  let s := if n % canCycle s c = 0 then
    modCan c (fun x => { x with cycle := some (n / canCycle s c % 16) }) (slotEnd c s) else s
  let s := upto (fun m s => if (s.mbox c m).tried then modMbox c m (fun b => { b with tried := false }) s else s) 32 s
  canStart c s
/-- A commit takes effect (R328). -/
def mbCommit (c m : Nat) (dlc : BitVec 4) (bs : List Byte) (s : State) : State :=
  let s := wr (F.CAN_MB_STAT_VALID c m) 1 (modMbox c m (fun b => { b with shadow := some (dlc, bs), fresh := true, later := none }) s)
  if rd s (F.CAN_MB_CFG_KIND c m) = 2 then wr (F.CAN_MB_STAT_PEND c m) 1 s else s
/-- COMMIT of a transmit mailbox, from its DLC and data (R328). -/
def mbCommitNow (c m : Nat) (s : State) : State :=
  let k := rd s (F.CAN_MB_CFG_KIND c m)
  if ¬ (canOn s c ∧ isSet s (F.CAN_MB_CFG_EN c m) ∧ (k = 1 ∨ k = 2)) then s else
  let dlc := rd s (F.CAN_MB_CTRL_DLC c m)
  let bs := mbBytes s c m (canLen (isSet s (F.CAN_MB_CFG_FDF c m)) dlc)
  if (s.can c).tx = some m then modMbox c m (fun b => { b with later := some (BitVec.ofNat 4 dlc, bs) }) s
  else canStart c (mbCommit c m (BitVec.ofNat 4 dlc) bs s)
/-- CANCEL of an event mailbox (R327). -/
def mbCancelNow (c m : Nat) (s : State) : State :=
  if ¬ (canOn s c ∧ rd s (F.CAN_MB_CFG_KIND c m) = 2) then s
  else if (s.can c).tx = some m then modMbox c m (fun b => { b with cancel := true }) s
  else wr (F.CAN_MB_STAT_PEND c m) 0 s
/-- CAN_COMMIT (R322, R328): `busy` says that another node's frame is on the bus. -/
def execCanCommit (who : Requestor) (c : Fin 8) (m : Fin 32) (dlc : BitVec 4) (busy : Bool) (s : State) : Host.Outcome State Fault Refusal :=
  if ¬ fromCore s who then unmet s else
  let s := modCan c (fun x => { x with busy := if x.tx.isSome then x.busy else busy }) s
  done (mbCommitNow c m (wr (F.CAN_MB_CTRL_DLC c m) dlc.toNat s))
/-- CAN_CANCEL (R322, R327). -/
def execCanCancel (who : Requestor) (c : Fin 8) (m : Fin 32) (s : State) : Host.Outcome State Fault Refusal :=
  if fromCore s who then done (mbCancelNow c m s) else unmet s

/-- CAN_BUS_OFF (R330, R332): the transmission fails; pending frames and an open slot's frame stay. -/
def canBusOff (c : Nat) (s : State) : State :=
  let s := bumpSat (F.CAN_CH_FLT_BOCNT c) (wr (F.CAN_CH_FLT_BUSOFF c) 1 (wr (F.CAN_CH_STAT_ESTATE c) 2 (wr (F.CAN_CH_STAT_RECSEQ c) 0 s)))
  logFault 0x0901 c 1 (rd s (F.CAN_CH_FLT_BOCNT c)) s
/-- CAN_PASSIVE (R330). -/
def canPassive (c tec rec : Nat) (s : State) : State :=
  logFault 0x0902 c 0 (tec + 256 * rec) (wr (F.CAN_CH_FLT_PASSIVE c) 1 (wr (F.CAN_CH_STAT_ESTATE c) 1 s))
/-- New error counters and what follows from them (R330). -/
def canErr (c tec rec : Nat) (s : State) : State :=
  let t := if tec > 255 then 255 else tec
  let r := if rec > 255 then 255 else rec
  let was := rd s (F.CAN_CH_STAT_ESTATE c)
  let s := wr (F.CAN_CH_STAT_TEC c) t (wr (F.CAN_CH_STAT_REC c) r (wrB (F.CAN_CH_STAT_EWARN c) (decide (96 ≤ t) || decide (96 ≤ r)) s))
  if tec > 255 then canBusOff c s
  else if t > 127 ∨ r > 127 then (if was = 0 then canPassive c t r s else s)
  else wr (F.CAN_CH_STAT_ESTATE c) 0 s
/-- n events of one error that each raise TEC by 8, one after the other: each threshold on the way acts, until bus-off (R330). -/
def canTxErrs (c : Nat) : Nat → State → State
  | 0, s => s
  | n + 1, s => canTxErrs c n (if canOff s c then s else canErr c (rd s (F.CAN_CH_STAT_TEC c) + 8) (rd s (F.CAN_CH_STAT_REC c)) s)
/-- CAN_NO_PARTNER (R331): one more acknowledgement error in a row; the limit sets NOPART. -/
def canNoAck (c m : Nat) (s : State) : State :=
  let n := (s.can c).ackRun + 1
  let s := modCan c (fun x => { x with ackRun := n }) s
  if n = rd s (F.CAN_CH_CFG_LONE_LIMIT c) then
    logFault 0x0903 c 1 m (wr (F.CAN_CH_FLT_NOPARTNER c) 1 (wr (F.CAN_CH_STAT_NOPART c) 1 s))
  else s
/-- A transmission of mailbox m ends (R327, R328): the held commit and cancel take effect; a slot that began meanwhile queues its frame. -/
def txEnd (c m : Nat) (sent : Bool) (s : State) : State :=
  let x := s.can c
  let b := s.mbox c m
  let s := modCan c (fun x => { x with tx := none, txSlot := false, slotOver := false }) s
  let s := if sent then modMbox c m (fun b => { b with fresh := false }) s else s
  let s := if ¬ x.txSlot ∧ (sent ∨ b.cancel) then wr (F.CAN_MB_STAT_PEND c m) 0 s else s
  let s := modMbox c m (fun b => { b with cancel := false }) s
  let s := match b.later with
    | some (d, bs) => mbCommit c m d bs s
    | none => s
  let s := if x.txSlot ∧ sent then modCan c (fun x => { x with queued := none }) s
    else if x.txSlot ∧ x.slotOver then slotExpire c s else s
  match x.next with
  | some q => if (s.can c).queued.isNone then modCan c (fun x => { x with queued := some q, next := none }) s else s
  | none => s
/-- The attempt of a slot frame without a partner is the only one of its slot (R331). -/
def loneAttempt (c : Nat) (s : State) : State :=
  if isSet s (F.CAN_CH_STAT_NOPART c) ∧ (s.can c).txSlot then modCan c (fun x => { x with slotOver := true }) s else s
/-- CAN_TRANSMISSION_END (R324, R326, R327, R330, R331): the outcome, and the next frame. Each bit error in the flag behind the frame, and each
long dominant run behind that flag, raises TEC by 8 more (ISO 11898-1). `tdcv` is the delay measured in an FD frame with
the bit rate switch. -/
def execCanTransmissionEnd (c : Fin 8) (res : CanTxResult) (tdcv : BitVec 7) (s : State) : Host.Outcome State Fault Refusal :=
  let x := s.can c
  match x.tx with
  | none => unmet s
  | some m =>
    if ¬ canOn s c then unmet s else
    let tec := rd s (F.CAN_CH_STAT_TEC c)
    let rec_ := rd s (F.CAN_CH_STAT_REC c)
    let s := if res ≠ .lostArbitration ∧ isSet s (F.CAN_CH_DBT_TDCEN c) ∧ isSet s (F.CAN_MB_CFG_BRS c m) ∧ isSet s (F.CAN_MB_CFG_FDF c m) then
      wr (F.CAN_CH_TDCV_TDCV c) tdcv.toNat s else s
    match res with
    | .ok more =>
      let s := wr (F.CAN_MB_STAT_TXOK c m) 1 (wr (F.CAN_MB_STAT_STAMP c m) (stamp16 s) (bumpWrap (F.CAN_CH_CNT2_TXOKCNT c) s))
      let s := wr (F.CAN_CH_STAT_NOPART c) 0 (modCan c (fun x => { x with ackRun := 0 }) s)
      let s := busEvent (F.CAN_MB_CFG_IRQEN c m) (canTxErrs c more (canErr c (tec - 1) rec_ s))
      done (canStart c (txEnd c m true s))
    | .lostArbitration => done (modCan c (fun x => { x with busy := true }) (txEnd c m false (loneAttempt c s)))
    | .ackError dom more =>
      let s := canNoAck c m s
      let s := loneAttempt c s
      let s := if rd s (F.CAN_CH_STAT_ESTATE c) = 1 ∧ ¬ dom then s else canErr c (tec + 8) rec_ s
      done (canStart c (txEnd c m false (canTxErrs c more s)))
    | .arbStuff more => done (canStart c (txEnd c m false (canTxErrs c more (loneAttempt c s))))
    | .error more => done (canStart c (txEnd c m false (canTxErrs c (1 + more) (loneAttempt c s))))
/-- CAN_BUS_OFF_RECOVERY (R332): sequences of 11 recessive bits counted so far; the 128th ends bus-off. -/
def execCanBusOffRecovery (c : Fin 8) (seqs : Fin 129) (s : State) : Host.Outcome State Fault Refusal :=
  if ¬ (canOn s c ∧ canOff s c ∧ rd s (F.CAN_CH_STAT_RECSEQ c) ≤ seqs) then unmet s else
  let s := wr (F.CAN_CH_STAT_RECSEQ c) seqs.val s
  if seqs.val < 128 then done s
  else done (canStart c (modCan c (fun x => { x with ackRun := 0, busy := false }) (canErr c 0 0 (wr (F.CAN_CH_STAT_ESTATE c) 0 s))))
/-- A frame in the visible copy of a receive mailbox (R329). -/
def mbVisible (c m : Nat) (f : CanData) (st : Nat) (s : State) : State :=
  let s := mbStore c m f.data s
  let s := wr (F.CAN_MB_RXID_ID c m) f.id.toNat (wrB (F.CAN_MB_RXID_IDE c m) f.ide s)
  let s := wr (F.CAN_MB_STAT_RXDLC c m) f.dlc.toNat (wrB (F.CAN_MB_STAT_RXFDF c m) f.fdf (wrB (F.CAN_MB_STAT_RXBRS c m) f.brs s))
  let s := wrB (F.CAN_MB_STAT_RXESI c m) f.esi (wrB (F.CAN_MB_STAT_RXRTR c m) f.rtr (wr (F.CAN_MB_STAT_STAMP c m) st s))
  busEvent (F.CAN_MB_CFG_IRQEN c m) (wr (F.CAN_MB_STAT_RXNEW c m) 1 s)
/-- Mailbox m takes a received frame (R329). -/
def mbTakes (s : State) (c : Nat) (f : CanData) (m : Nat) : Bool :=
  isSet s (F.CAN_MB_CFG_EN c m) && rd s (F.CAN_MB_CFG_KIND c m) == 3 &&
  ((f.id.toNat ^^^ rd s (F.CAN_MB_ID_ID c m)) &&& rd s (F.CAN_MB_MASK_MASK c m)) == 0 &&
  isSet s (F.CAN_MB_CFG_IDE c m) == f.ide && (!f.fdf || isSet s (F.CAN_MB_CFG_FDF c m)) && (!f.rtr || isSet s (F.CAN_MB_CFG_RTR c m))
/-- CAN_RX_OVERRUN (R329): a pending frame has been replaced. -/
def mbOverrun (c m : Nat) (s : State) : State :=
  logFault 0x0905 c 0 m (wr (F.CAN_CH_FLT_RXOVR c) 1 (wr (F.CAN_MB_STAT_OVR c m) 1 s))
/-- REC after a good reception (ISO 11898-1): less one, or from above 127 a value between 119 and 127, which is free. -/
def recGood (c : Nat) (s : State) : State :=
  let r := rd s (F.CAN_CH_STAT_REC c)
  let tec := rd s (F.CAN_CH_STAT_TEC c)
  if r > 127 then
    let (v, s) := draw 8 s
    canErr c tec (119 + v.toNat % 9) s
  else canErr c tec (r - 1) s
/-- CAN_FRAME_RECEIVED (R329): the frame goes to the first mailbox that takes it; the bus is then idle. -/
def execCanFrameReceived (c : Fin 8) (f : CanData) (s : State) : Host.Outcome State Fault Refusal :=
  if ¬ canOn s c ∨ canOff s c ∨ (s.can c).tx.isSome then unmet s else
  let s := recGood c (modCan c (fun x => { x with busy := false }) s)
  let s := match (List.range 32).find? (mbTakes s c f) with
    | none => bumpSat (F.CAN_CH_CNT2_RXDISC c) s
    | some m =>
      if ¬ isSet s (F.CAN_MB_STAT_RXNEW c m) then mbVisible c m f (stamp16 s) s
      else
        let lost := (s.mbox c m).pend.isSome
        let s := modMbox c m (fun b => { b with pend := some (f, BitVec.ofNat 16 (stamp16 s)) }) s
        busEvent (F.CAN_MB_CFG_IRQEN c m) (if lost then mbOverrun c m s else s)
  done (canStart c s)
/-- RXNEW cleared: a pending frame moves to the visible copy (R329). -/
def rxnewClear (c m : Nat) (s : State) : State :=
  let s := wr (F.CAN_MB_STAT_RXNEW c m) 0 s
  match (s.mbox c m).pend with
  | none => s
  | some (f, st) => mbVisible c m f st.toNat (modMbox c m (fun b => { b with pend := none }) s)
/-- RXNEW_CLEAR (R329). -/
def execRxnewClear (c : Fin 8) (m : Fin 32) (s : State) : Host.Outcome State Fault Refusal :=
  if ¬ coresRun s then unmet s else
  if isSet s (F.CAN_MB_STAT_RXNEW c m) then done (rxnewClear c m s) else unmet s
/-- REC raised by d (R330). -/
def canRxErr (c d : Nat) (s : State) : State := canErr c (rd s (F.CAN_CH_STAT_TEC c)) (rd s (F.CAN_CH_STAT_REC c) + d) s
/-- CAN_RECEIVE_ERROR (R330): REC rises by 1 for an error detected, then by 8 for each event of its error flag that says so (ISO 11898-1); the bus
is idle behind it. -/
def execCanReceiveError (c : Fin 8) (e : CanRxError) (s : State) : Host.Outcome State Fault Refusal :=
  if ¬ canOn s c ∨ canOff s c ∨ (s.can c).tx.isSome then unmet s else
  let s := if e.detected then canRxErr c 1 s else s
  done (canStart c (modCan c (fun x => { x with busy := false }) (upto (fun _ s => canRxErr c 8 s) e.eights s)))

/-! ### SENT (R333 to R335) -/

/-- Receiver r beyond its registers. -/
def State.sentRx (s : State) (r : Nat) : SentRx := tget (fun _ => {}) s.bus.sent r
/-- The state with receiver r changed. -/
def modSent (r : Nat) (f : SentRx → SentRx) (s : State) : State :=
  s.setBus { s.bus with sent := tset (fun _ => {}) s.bus.sent r (f (s.sentRx r)) }
/-- Receiver r runs (R321). -/
def sentOn (s : State) (r : Nat) : Bool := busOn s && isSet s (F.SENT_RX_CFG_EN r)
/-- The measured ticks of a pulse, to the nearest (assumption 40). -/
def sentTicks (cal p : Nat) : Nat := if cal = 0 then 0 else (112 * p + cal) / (2 * cal)
/-- The CRC-4 of SAE J2716 over nibbles: x^4 + x^3 + x^2 + 1 from 5, with the added zero nibble of the recommended form or without. -/
def sentCrc (legacy : Bool) (ns : List Nat) : Nat :=
  let step := fun (c : Nat) (n : Nat) => crcFwd 4 0xD (msbBits 0 4) c ^^^ n
  let c := ns.foldl step 5
  if legacy then c else step c 0
/-- The CRC-6 of an enhanced serial message: x^6 + x^4 + x^3 + 1 from 0x15 over the 24 bits and six zeros (SAE J2716). -/
def sentCrc6 (bits : List Bool) : Nat :=
  let step := fun (c : Nat) (b : Bool) => (c * 2 + b2n b) % 64 ^^^ (if bit c 5 then 0x19 else 0)
  (bits ++ List.replicate 6 false).foldl step 0x15
/-- The number that bits spell, first bit most significant. -/
def bitsNat (l : List Bool) : Nat := l.foldl (fun a b => 2 * a + b2n b) 0
/-- A serial message that the frames so far complete: type, identifier, data, and whether its CRC is correct (R334). -/
def sentMsg (smode : Nat) (l : List (Bool × Bool)) : Option (Nat × Nat × Nat × Bool) :=
  let sh := l.drop (l.length - 16)
  let en := l.drop (l.length - 18)
  let b2 := en.map (·.1)
  let b3 := en.map (·.2)
  if smode = 2 ∧ en.length = 18 ∧ b3.take 7 = [true, true, true, true, true, true, false] ∧ (b3.drop 12).take 1 = [false] ∧ b3.drop 17 = [false] then
    let crcOk := bitsNat (b2.take 6) == sentCrc6 (((en.drop 6).map fun (p : Bool × Bool) => [p.1, p.2]).flatten)
    let hi := bitsNat ((b3.drop 8).take 4)
    let lo := bitsNat ((b3.drop 13).take 4)
    let d := bitsNat (b2.drop 6)
    if (b3.drop 7).take 1 = [true] then some (3, hi, 4096 * lo + d, crcOk) else some (2, 16 * hi + lo, d, crcOk)
  else if 1 ≤ smode ∧ sh.length = 16 ∧ sh.map (·.2) = true :: List.replicate 15 false then
    let v := bitsNat (sh.map (·.1))
    some (1, v / 4096, v / 16 % 256, v % 16 == sentCrc false [v / 4096, v / 256 % 16, v / 16 % 16])
  else none
/-- The serial bits of a valid frame, and the message they complete (R334). -/
def sentSerial (r status : Nat) (s : State) : State :=
  let l := (s.sentRx r).nibs ++ [(bit status 2, bit status 3)]
  let l := l.drop (l.length - 18)
  match sentMsg (rd s (F.SENT_RX_CFG_SMODE r)) l with
  | none => modSent r (fun x => { x with nibs := l }) s
  | some (ty, id, d, ok) =>
    let s := modSent r (fun x => { x with nibs := [] }) s
    if ok then bumpWrap (F.SENT_RX_SMSG_SEQ r) (wr (F.SENT_RX_SMSG_TYPE r) ty (wr (F.SENT_RX_SMSG_ID r) id (wr (F.SENT_RX_SMSG_DATA r) d s)))
    else wr (F.SENT_RX_FLT_SCRC r) 1 s
/-- The calibration check of R334: 56 ticks within 20 % of TICK, and within 1/64 of the last valid pulse, from which the first frame after
start or after a timeout is exempt. -/
def sentCalOk (s : State) (r : Nat) (f : SentFrame) : Bool :=
  let nom := 448 * rd s (F.SENT_RX_CFG_TICK r)
  let near := match (s.sentRx r).lastCal with
    | none => true
    | some p => (s.sentRx r).first || (decide (64 * (f.cal - p) ≤ p) && decide (64 * (p - f.cal) ≤ p))
  decide (5 * (f.cal - nom) ≤ nom) && decide (5 * (nom - f.cal) ≤ nom) && near
/-- SENT_FAILED (R335). -/
def sentFailed (r : Nat) (s : State) : State :=
  let s := wr (F.SENT_RX_FLT_FAILED r) 1 (wr (F.SENT_RX_FAST_VALID r) 0 s)
  logFault 0x0906 r 1 (rd s ⟨A.SENT_RX_FLT r, 0, 6⟩) s
/-- An invalid frame (R335). -/
def sentBad (r : Nat) (flag : Fld) (s : State) : State :=
  let s := bumpSat (F.SENT_RX_FLT_ERRCNT r) (wr flag 1 (modSent r (fun x => { x with errRun := x.errRun + 1, nibs := [] }) s))
  if (s.sentRx r).errRun = rd s (F.SENT_RX_CFG_ERRLIM r) then sentFailed r s else s
/-- A valid frame (R334): its nibbles are status, data and CRC. A tick that is no whole number of 12.5 ns is measured to one of its
neighbours, which the spec leaves open. -/
def sentGood (r cal : Nat) (ns : List Nat) (s : State) : State :=
  let (v, s) := draw 1 s
  let tick := if cal % 56 = 0 then cal / 56 else cal / 56 + v.toNat
  let d := ((ns.drop 1).take (rd s (F.SENT_RX_CFG_NNIB r))).foldl (fun a n => 16 * a + n) 0
  let s := wr (F.SENT_RX_FAST_DATA r) d (wr (F.SENT_RX_FAST_STATUS r) (ns.headD 0) (wr (F.SENT_RX_FAST_VALID r) 1 s))
  let s := modSent r (fun x => { x with errRun := 0, timedOut := false, liveStamp := stamp16 s, liveTick := tick }) s
  sentSerial r (ns.headD 0) s
/-- SENT_FRAME (R333 to R335): the first failing check decides. -/
def execSentFrame (r : Fin 12) (f : SentFrame) (s : State) : Host.Outcome State Fault Refusal :=
  if ¬ sentOn s r then unmet s else
  let ts := f.nibs.map (sentTicks f.cal)
  let ns := ts.map (· - 12)
  let nn := rd s (F.SENT_RX_CFG_NNIB r)
  let calOk := sentCalOk s r f
  let s := modSent r (fun x => { x with first := false }) s
  let s1 := modSent r (fun x => { x with lastCal := some f.cal }) s
  let s := if ¬ calOk then sentBad r (F.SENT_RX_FLT_CAL r) s
    else if ¬ ts.all (fun t => decide (12 ≤ t) && decide (t ≤ 27)) ∨ ts.length ≠ 2 + nn ∨ f.pause ≠ isSet s (F.SENT_RX_CFG_PAUSE r) then
      sentBad r (F.SENT_RX_FLT_NIBBLE r) s1
    else if (ns.drop (1 + nn)).headD 0 ≠ sentCrc (isSet s (F.SENT_RX_CFG_CRCLEG r)) ((ns.drop 1).take nn) then sentBad r (F.SENT_RX_FLT_CRC r) s1
    else sentGood r f.cal ns s1
  done (busEvent (F.SENT_RX_CFG_IRQEN r) s)
/-- SENT_TIMEOUT (R335): no valid frame for TOUT ms. -/
def execSentTimeout (r : Fin 12) (s : State) : Host.Outcome State Fault Refusal :=
  if ¬ sentOn s r ∨ (s.sentRx r).timedOut then unmet s else
  let s := wr (F.SENT_RX_FLT_TIMEOUT r) 1 (wr (F.SENT_RX_FLT_FAILED r) 1 (wr (F.SENT_RX_FAST_VALID r) 0 s))
  let s := modSent r (fun x => { x with timedOut := true, first := true, nibs := [] }) s
  done (busEvent (F.SENT_RX_CFG_IRQEN r) (logFault 0x0907 r 1 0 s))
/-- A read of FAST latches STAMP (R334). -/
def sentLatch (r : Nat) (s : State) : State :=
  wr (F.SENT_RX_STAMP_STAMP r) (s.sentRx r).liveStamp (wr (F.SENT_RX_STAMP_TICKM r) (s.sentRx r).liveTick s)
/-- SENT_FAST_READ (R334). -/
def execSentFastRead (r : Fin 12) (s : State) : Host.Outcome State Fault Refusal :=
  if ¬ coresRun s then unmet s else
  done (sentLatch r s)

/-! ### LIN (R336 to R338) -/

/-- Channel l beyond its registers. -/
def State.lin (s : State) (l : Nat) : LinCh := tget (fun _ => {}) s.bus.lin l
/-- The state with channel l changed. -/
def modLin (l : Nat) (f : LinCh → LinCh) (s : State) : State :=
  s.setBus { s.bus with lin := tset (fun _ => {}) s.bus.lin l (f (s.lin l)) }
/-- Channel l runs (R321). -/
def linOn (s : State) (l : Nat) : Bool := busOn s && isSet s (F.LIN_CH_CFG_EN l)
/-- The protected identifier: the frame identifier with its two parity bits (ISO 17987). -/
def linPid (id : Nat) : Nat :=
  let b := fun (i : Nat) => b2n (bit id i)
  id + 64 * ((b 0 + b 1 + b 2 + b 4) % 2) + 128 * ((b 1 + b 3 + b 4 + b 5 + 1) % 2)
/-- The checksum of ISO 17987 over bytes: an inverted sum with end-around carry. -/
def linSum (bs : List Byte) : Byte :=
  let step := fun (a : Nat) (b : Byte) => let t := a + b.toNat; if t > 255 then t - 255 else t
  BitVec.ofNat 8 (255 - bs.foldl step 0)
/-- The checksum of an entry's data: classic for 0x3C and 0x3D whatever CHK says (R336). -/
def linCheck (s : State) (l e : Nat) (data : List Byte) : Byte :=
  let id := rd s (F.LIN_CH_ENT_FID l e)
  if isSet s (F.LIN_CH_ENT_CHK l e) ∧ id ≠ 0x3C ∧ id ≠ 0x3D then linSum (BitVec.ofNat 8 (linPid id) :: data) else linSum data
/-- Data bytes of an entry (R337). -/
def linLen (s : State) (l e : Nat) : Nat := rd s (F.LIN_CH_ENT_LEN l e) + 1
/-- The pair of data words in force for an entry. -/
def linPair (s : State) (l e : Nat) : Word × Word := tget (fun _ => (0, 0)) (s.lin l).pairs e
/-- The entry that starts, where one is due at this mark: entry 0 first, then the next once DUR ms have passed (R337). -/
def linDue (s : State) (l : Nat) : Option Nat :=
  let x := s.lin l
  if ¬ x.started then some 0
  else
    let e := rd s (F.LIN_CH_STAT_ENTRY l)
    if s.strides (1000 * rd s (F.LIN_CH_ENT_DUR l e)) ≤ (s.dev.count - x.at_).toNat then
      some (if e = rd s (F.LIN_CH_CFG_NENT l) then 0 else e + 1)
    else none
/-- The break of channel l in bits (R337). -/
def linBrk (s : State) (l : Nat) : Nat := rd s (F.LIN_CH_CFG_BRK l) + 13
/-- LIN_ENTRY_START (R337): a break of BRK bits, its delimiter of one bit, the sync byte and the protected identifier, and the data and checksum of a
publish entry. -/
def execLinEntryStart (l : Fin 4) (s : State) : Host.Outcome State Fault Refusal :=
  match linDue s l with
  | none => unmet s
  | some e =>
    if ¬ linOn s l then unmet s else
    let p := linPair s l e
    let data := (leBytes 4 p.1.toNat ++ leBytes 4 p.2.toNat).take (linLen s l e)
    let sub := isSet s (F.LIN_CH_ENT_DIR l e)
    let bytes := [0x55, BitVec.ofNat 8 (linPid (rd s (F.LIN_CH_ENT_FID l e)))] ++ (if sub then [] else data ++ [linCheck s l e data])
    done (wr (F.LIN_CH_STAT_ENTRY l) e (modLin l (fun x => { x with started := true, at_ := s.dev.count, openRsp := true, brk := linBrk s l, delim := 1, sent := bytes }) s))
/-- LIN_FRAME_ERROR (R338): causes 1 framing, 2 checksum, 3 bit. -/
def linError (l e cause : Nat) (flag : Fld) (s : State) : State :=
  let s := bumpSat (F.LIN_CH_FLT_ERRCNT l) (wr flag 1 (wr (F.LIN_CH_MB_MBSTAT_ERR l e) 1 s))
  logFault 0x0909 l 0 (e + 256 * cause) s
/-- LIN_RESPONSE (R338): the data bytes and the checksum received, a framing error, or a byte sent that read back differently. -/
def execLinResponse (l : Fin 4) (bytes : List Byte) (framing bitErr : Bool) (s : State) : Host.Outcome State Fault Refusal :=
  let e := rd s (F.LIN_CH_STAT_ENTRY l)
  if ¬ (linOn s l ∧ (s.lin l).openRsp ∧ (bitErr ∨ isSet s (F.LIN_CH_ENT_DIR l e))) then unmet s else
  let n := linLen s l e
  let s := modLin l (fun x => { x with openRsp := false }) s
  if bitErr then done (busEvent (F.LIN_CH_CFG_IRQEN l) (linError l e 3 (F.LIN_CH_FLT_BITERR l) s)) else
  let s := wr (F.LIN_CH_MB_MBSTAT_NORESP l e) 0 (wr (F.LIN_CH_MB_MBSTAT_NRRUN l e) 0 s)
  let s := if framing ∨ bytes.length ≠ n + 1 then linError l e 1 (F.LIN_CH_FLT_FRAMING l) s
    else if bytes.drop n ≠ [linCheck s l e (bytes.take n)] then linError l e 2 (F.LIN_CH_FLT_CHKSUM l) s
    else
      let old := leBytes 4 (s.reg (A.LIN_CH_MB_DATA0 l e)).toNat ++ leBytes 4 (s.reg (A.LIN_CH_MB_DATA1 l e)).toNat
      let all := bytes.take n ++ old.drop n
      let s := wr (F.LIN_CH_MB_DATA0_DATA l e) (field all 0 4) (wr (F.LIN_CH_MB_DATA1_DATA l e) (field all 4 4) s)
      wr (F.LIN_CH_MB_MBSTAT_NEW l e) 1 (wr (F.LIN_CH_MB_MBSTAT_ERR l e) 0 (wr (F.LIN_CH_MB_MBSTAT_STAMP l e) (stamp16 s) s))
  done (busEvent (F.LIN_CH_CFG_IRQEN l) s)
/-- LIN_NO_RESPONSE (R338): no start bit within the limit. -/
def execLinNoResponse (l : Fin 4) (s : State) : Host.Outcome State Fault Refusal :=
  let e := rd s (F.LIN_CH_STAT_ENTRY l)
  if ¬ (linOn s l ∧ (s.lin l).openRsp ∧ isSet s (F.LIN_CH_ENT_DIR l e)) then unmet s else
  let s := modLin l (fun x => { x with openRsp := false }) s
  let s := wr (F.LIN_CH_MB_MBSTAT_NORESP l e) 1 (wr (F.LIN_CH_MB_MBSTAT_ERR l e) 0 (bumpSat (F.LIN_CH_MB_MBSTAT_NRRUN l e) (bumpSat (F.LIN_CH_STAT_NRCNT l) s)))
  let s := if rd s (F.LIN_CH_MB_MBSTAT_NRRUN l e) = rd s (F.LIN_CH_CFG_NRLIM l) then
    logFault 0x0908 l 1 e (wr (F.LIN_CH_FLT_NORESP l) 1 s) else s
  done (busEvent (F.LIN_CH_CFG_IRQEN l) s)
/-- DATA1 of a publish entry written: the held pair takes effect (R337). -/
def linPairWrite (l e : Nat) (v : Word) (s : State) : State :=
  if isSet s (F.LIN_CH_ENT_DIR l e) then s else
  let s := wrW (F.LIN_CH_MB_DATA1_DATA l e) v s
  modLin l (fun x => { x with pairs := tset (fun _ => (0, 0)) x.pairs e (s.reg (A.LIN_CH_MB_DATA0 l e), v) }) s
/-- LIN_DATA1_WRITE (R322, R337). -/
def execLinData1Write (who : Requestor) (l : Fin 4) (e : Fin 32) (v : Word) (s : State) : Host.Outcome State Fault Refusal :=
  if fromCore s who then done (linPairWrite l e v s) else unmet s

/-- The field-bus controllers start at entry into ARMED (R321). -/
def busStart (s : State) : State := s.setBus { ({} : Bus) with on := true }
/-- What a mark does on the field buses (R325, R331). -/
def busMark (s : State) : State := if busOn s then upto (fun c => canMark c) 8 s else s

end Sys2Proof.Machine
end

