-- ==== Sys2Proof/Machine/Checks.lean ====
section
/-! DEFINITION. The load checks (R46, R79, R109, R143, R168, R196, R222, R248, R279, R318, R339, R361 and the resource checks of R5), evaluated
on the state with the image placed; a failing check is its number and the index it names. -/
namespace Sys2Proof.Machine
open Sys2Proof

/-- The first failing check: its number and index. -/
abbrev Fail := Option (Nat × Nat)
/-- Check `n` over the indices of a list, lowest first. -/
def chk (n : Nat) (idx : List Nat) (ok : Nat → Bool) : Fail := (idx.find? fun i => !ok i).map fun i => (n, i)
/-- The first failure of a list. -/
def firstOf (l : List Fail) : Fail := l.findSome? id
/-- A list without repeats. -/
def distinct : List Nat → Bool
  | [] => true
  | x :: xs => !xs.contains x && distinct xs
/-- Implication of Bools. -/
def imp (a b : Bool) : Bool := !a || b

/-! ### Static figures of the image (R40 to R43, R115, R203) -/

/-- Cost items of axis a (Table 5.1); a spanned partner has no item of its own but those its bits name. -/
def axisCost (s : State) (a : Nat) : Nat :=
  let ty := axType s a
  let it := fun (f : Nat → Fld) (c : Nat) => if isSet s (f a) then c else 0
  if ty = 0 then 0 else
  (if ty = 1 ∨ ty = 2 ∨ ty = 6 ∨ isSet s (F.LE_AX_CFG_POSEN a) then 64 else 0) + it F.LE_AX_CFG_PLEN 32 + it F.LE_AX_CFG_SPDEN 32 +
  it F.LE_AX_CFG_GSEN 48 + it F.LE_AX_CFG_SLEN 120 + it F.LE_AX_CFG_FWEN 40 +
  (match ty with
    | 1 => 288
    | 2 => 416
    | 6 => 832
    | 7 => 0
    | _ => 96)
/-- K_t (R41, R115). -/
def teamCost (s : State) (t : Nat) : Nat :=
  if (teamAxes s t).isEmpty then 0 else each (fun a acc => acc + axisCost s a) (teamAxes s t) 64
/-- The role of a channel enters D_t (Table 3.2). -/
def entersD (s : State) (n : Nat) : Bool := let r := rd s (F.SNS_CH_CFG_ROLE n); r == 1 || r == 2 || r == 3 || r == 4 || r == 7
/-- The channels of team t. -/
def teamChans (t : Nat) : List Nat := (List.range 24).map (24 * t + ·)
/-- The peer's half of a spanned axis. -/
def spanPeer (s : State) (a : Nat) : Config.SpanPeer := Config.spanPeer (rd s (F.LE_AX_SPAN_PDEV a)) (rd s (F.LE_AX_SPAN_PAXIS a))
/-- D_t (R40, R140); half a cycle counts whole (assumption 42). -/
def teamD (s : State) (t : Nat) : Nat :=
  let d := each (fun n acc => if entersD s n then max acc ((chanDiv s n * 3 * osrM s n + 1) / 2 + 32) else acc) (teamChans t) 0
  each (fun a acc => if axType s a = 6 then max acc ((spanPeer s a).dly + 320) else acc) (teamAxes s t) d
/-- L_t (R41). -/
def teamL (s : State) (t : Nat) : Nat := teamD s t + teamCost s t + 64
/-- C_t (R42). -/
def teamC (s : State) (t : Nat) : Nat := rd s (F.STR_TEAM_CFG_SPHASE t) + teamL s t
/-- n of R43 and half a carrier period, which is whole. -/
def carN (s : State) (t : Nat) : Nat := 2 ^ rd s (F.STR_TEAM_CFG_CARMUL t)
def halfCarrier (s : State) (t : Nat) : Nat := s.per / (2 * carN s t)
/-- U_t: the first update point at or after C_t (R43). -/
def teamU (s : State) (t : Nat) : Nat := let h := halfCarrier s t; if h = 0 then 0 else (teamC s t + h - 1) / h * h
/-- B of R203. -/
def smcCost (s : State) : Nat :=
  let ax := each (fun a acc => if rd s (F.SAF_AX_TMCFG_MODE a) = 0 then acc else
    match axType s a with
    | 1 | 3 => acc + 32
    | 2 | 6 | 7 => acc + 48
    | _ => acc) (List.range s.nAxes) 0
  let cn := ((List.range 32).filter fun c => isSet s (F.GRP_CONN_CFG_EN c) && !isSet s (F.GRP_CONN_CFG_TX c)).length
  200 + ax + 16 * cn

/-! ### Resources (R5) -/

/-- The bits of a list of fields with an access. -/
def accMask (ok : Acc → Bool) : List (Nat × Nat × Acc) → Word
  | [] => 0
  | (lo, w, a) :: fs => (if ok a then ((1#32 <<< w) - 1#32) <<< lo else 0) ||| accMask ok fs
/-- The bits of a register's IMG fields. -/
def imgMask (o : Nat) : Word := match findReg o with
  | some (r, _) => accMask (· == .img) r.flds
  | none => 0
/-- The registers of a leg, a sense channel, a modulator clock, an axis and a team. -/
def ownRegs : List (Nat × List RegId) :=
  [(0, [.MOD_LEG_CFG, .MOD_LEG_TIM, .MOD_LEG_REF, .MOD_LEG_FLT, .MOD_LEG_CNT, .MOD_LEG_DUTY]),
   (1, [.SNS_CH_CFG, .SNS_CH_PAIR, .SNS_CH_LSB, .SNS_CH_FS, .SNS_CH_GAIN, .SNS_CH_OFS, .SNS_CH_TRIM, .SNS_CH_FTHPH, .SNS_CH_FTHPL, .SNS_CH_FTHR,
     .SNS_CH_LIM, .SNS_CH_RES, .SNS_CH_RAW, .SNS_CH_STAT]),
   (2, [.SNS_MCLK_CFG]),
   (3, [.LE_AX_CFG, .LE_AX_LEGS, .LE_AX_MOTOR, .LE_AX_GS, .LE_AX_SPAN, .LE_AX_STAT, .LE_AX_FLT, .LE_AX_SPANSTAT, .LE_AX_MODE, .LE_AX_STATE,
     .LE_AX_COMM, .LE_AX_SFLT, .MOD_AX_CFG, .MOD_AX_STAT, .SAF_AX_TMCFG, .SAF_AX_TMSTAT, .SAF_AX_TMVAL, .SAF_AX_FLT]),
   (4, [.STR_TEAM_CFG, .STR_TEAM_CMT, .STR_TEAM_UPD, .LE_TEAM_LAT, .LE_TEAM_DLY, .LE_TEAM_COST, .LE_TEAM_STAT, .MOD_TEAM_CFG, .MOD_TEAM_STAT,
     .MOD_TEAM_MINP, .MOD_DSPI_CFG, .MOD_DSPI_STAT])]
/-- The resource whose own register lies at an offset, by kind and number (R5): 0 leg, 1 sense channel, 2 modulator clock, 3 axis, 4 team.
An LE register of an axis has its team and its place in the team as indices. -/
def regOwner (o : Nat) : Option (Nat × Nat) :=
  match findReg o with
  | none => none
  | some (r, is) => (ownRegs.find? fun (k : Nat × List RegId) => k.2.contains r.id).map fun (k : Nat × List RegId) =>
    (k.1, match is with
      | [t, a] => 4 * t + a
      | _ => is.headD 0)
/-- A pair of the REG section writes a non-zero value into an IMG field of a resource: one of its own registers, or an axis's sub-field of
PWR_SAGPOLi (R5). -/
def pairUses (pairs : List (Nat × Word)) (kind n : Nat) : Bool := pairs.any fun (q : Nat × Word) =>
  (regOwner q.1 == some (kind, n) && (q.2 &&& imgMask q.1) != 0) ||
  (kind == 3 && q.1 == (F.PWR_SAGPOL_POL n).off && getFld q.2 (F.PWR_SAGPOL_POL n).lo (F.PWR_SAGPOL_POL n).w != 0)
/-- An address of a telemetry signal lies in a register of the resource, or in the loop-engine memory of a team (R5). -/
def addrUses (w : Word) (kind n : Nat) : Bool :=
  (w.toNat / 0x1000000 == 0x40 && regOwner (w.toNat % 0x1000000 / 4 * 4) == some (kind, n)) || (kind == 4 && w.toNat / 0x40000 == 0x800 + n)
/-- A signal of an enabled telemetry stream names the resource; the image places no list for a stream with EN = 0 (R5; assumption 156). -/
def telUses (s : State) (kind n : Nat) : Bool := (List.range 32).any fun k =>
  isSet s (F.ETH_TEL_CFG_EN k) && (tget (fun _ => []) s.cfg.tel k).any fun w => addrUses w kind n
/-- The safe inputs whose MASK names teams. -/
def teamMasks (s : State) (t : Nat) : Bool := (List.range 16).any fun n =>
  (rd s (F.SAF_SI_CFG_FUNC n) == 1 || rd s (F.SAF_SI_CFG_FUNC n) == 2) && rdBit s (F.SAF_SI_CFG_MASK n) t
/-- An entry of the identity table: its bytes (Table 13.9). -/
def identEntry (s : State) (k : Nat) : List Byte := (s.cfg.ident.drop (40 * k)).take 40
/-- The number of entries of the identity table. -/
def identCount (s : State) : Nat := let n := s.cfg.ident.length / 40; if n > 64 then 64 else n
/-- AXMASK of an entry. -/
def identMask (s : State) (k : Nat) : Nat := field (identEntry s k) 0x20 4
/-- A field or a section of the image refers to a resource (R5). A field that names a resource refers to it whether or not the field's enable
is set (assumption 97). -/
def refersTo (s : State) (lem gdrv : List Nat) (kind n : Nat) : Bool :=
  match kind with
  | 0 =>
    ((List.range 192).any fun c => (rd s (F.SNS_CH_CFG_ROLE c) == 1 || rd s (F.SNS_CH_CFG_ROLE c) == 2) && rd s (F.SNS_CH_CFG_OBJ c) == n) ||
    gdrv.any fun t => (List.range (rd s (F.MOD_DSPI_CFG_CHAIN t))).any fun i =>
      12 * t + Config.gdrvLeg (tget (fun _ => []) s.cfg.gdrv t) i == n
  | 1 =>
    ((List.range 192).any fun c => rd s (F.SNS_CH_PAIR_PARTNER c) == n) ||
    ((List.range 32).any fun k =>
      rd s (F.SNS_KSET_CFG_CHA k) == n || rd s (F.SNS_KSET_CFG_CHB k) == n || rd s (F.SNS_KSET_CFG_CHC k) == n) ||
    ((List.range 32).any fun a => rd s (F.LE_AX_MOTOR_TEMPCH a) == n) ||
    ((s.cfg.cal.drop (12 * n)).take 12).any (· != 0)
  | 2 => false
  | 3 => rd s (F.PWR_SAGPOL_POL n) != 0 ||
    ((List.range 32).any fun k => rdBit s (F.STR_TASK_AXES_AXES k) n) ||
    ((List.range (identCount s)).any fun k => bit (identMask s k) n) ||
    ((List.range 8).any fun b => rd s (F.SAF_SB_CFG_AXLINK b) == n) ||
    ((List.range 4).any fun g => rd s (F.GRP_G_AX_AX0 g) == n || rd s (F.GRP_G_AX_AX1 g) == n) ||
    ((List.range 32).any fun a => rd s (F.LE_AX_CFG_LINK a) == n || rd s (F.LE_AX_SPAN_PAXIS a) == n) ||
    ((List.range 4).any fun g => rd s (F.LE_DCL_DCFG_DAX g) == n)
  | _ => lem.contains n || gdrv.contains n || teamMasks s n
/-- The image assigns a resource of a team (R5): kind 0 leg, 1 sense channel, 2 modulator clock, 3 axis, 4 team. -/
def assigned (s : State) (pairs : List (Nat × Word)) (lem gdrv : List Nat) (kind n : Nat) : Bool :=
  pairUses pairs kind n || telUses s kind n || refersTo s lem gdrv kind n
/-- Check 2 of step 5: a resource of a team the part does not report. Of several, the lowest kind is reported, and of it the lowest number
(assumption 128: R347 orders the indices of step 7 only). -/
def checkRes (s : State) (pairs : List (Nat × Word)) (lem gdrv : List Nat) : Fail :=
  let lim := fun (kind : Nat) => (match kind with
    | 0 => (12, 96)
    | 1 => (24, 192)
    | 2 => (3, 24)
    | 3 => (4, 32)
    | _ => (1, 8) : Nat × Nat)
  firstOf ((List.range 5).map fun kind =>
    let l := lim kind
    (((List.range l.2).drop (l.1 * s.nTeams)).find? (assigned s pairs lem gdrv kind)).map fun n => (2, 4096 * kind + n))

/-! ### Table 2.1 -/

/-- The teams that own an axis. -/
def usedTeams (s : State) : List Nat := (List.range s.nTeams).filter fun t => !(teamAxes s t).isEmpty
/-- A task's definition is valid (R47): no axis of another task, an axis of its own, a reaction where it is safety-relevant. -/
def taskOk (s : State) (k : Nat) : Bool :=
  if ¬ isSet s (F.STR_TASK_CFG_USED k) then true else
  let ax := rd s (F.STR_TASK_AXES_AXES k)
  ax != 0 && decide (rd s (F.STR_TASK_CFG_PERIOD k) ≤ 6) && rd s (F.STR_TASK_CFG_REACT k) != 3 &&
  imp (isSet s (F.STR_TASK_CFG_SAFETY k)) (isSet s (F.STR_TASK_CFG_REACT k)) &&
  (List.range 32).all fun j => j == k || imp (isSet s (F.STR_TASK_CFG_USED j)) (rd s (F.STR_TASK_AXES_AXES j) &&& ax == 0)
/-- The checks of Table 2.1. Check 6 is one of the device and looks at every team, with an axis or not; it reports the number
of the team at fault (assumption 138). -/
def checksTiming (s : State) : Fail :=
  let p := s.per
  let ts := usedTeams s
  let a := rd s F.STR_APHASE_A
  let i := rd s F.STR_IPHASE_I
  firstOf [
    chk 1 [0] fun _ => decide (8000 ≤ p) && decide (p ≤ 160000) && p % 8 == 0,
    chk 2 ts fun t => decide (teamCost s t ≤ 2240),
    chk 3 ts fun t => rd s (F.STR_TEAM_CFG_CARMUL t) != 3 && decide (rd s (F.STR_TEAM_CFG_SPHASE t) < p),
    chk 4 ts fun t => decide (teamC s t ≤ p),
    chk 5 ts fun t => decide (80 ≤ teamU s t - teamC s t),
    chk 6 (List.range s.nTeams) fun t => decide (a + 256 ≤ p) && (let x := rd s (F.STR_TEAM_CFG_SPHASE t); !(decide (a ≤ x) && decide (x < a + 256))),
    chk 7 (0 :: ts) fun t => decide (a + 256 ≤ i) && decide (i + 960 ≤ p) && imp (ts.contains t) (decide (max i (teamC s t) + 960 ≤ p)),
    chk 8 ts fun t => (teamAxes s t).all fun x =>
      let q := spanPeer s x
      let same := rd s (F.STR_TEAM_CFG_SPHASE t) == q.sphase && rd s (F.STR_TEAM_CFG_CARMUL t) == q.carmul && teamU s t == q.uphase
      imp (axType s x == 6 || axType s x == 7) same && imp (axType s x == 6) (decide (teamC s t + 320 + 80 ≤ teamU s t)),
    chk 9 (List.range 32) (taskOk s)]

/-! ### Table 3.4 -/

/-- The object of a channel is valid for its role (Table 3.2). -/
def objOk (s : State) (n : Nat) : Bool :=
  let o := rd s (F.SNS_CH_CFG_OBJ n)
  match rd s (F.SNS_CH_CFG_ROLE n) with
  | 1 | 2 => o / 12 == n / 24
  | 3 | 4 => decide (o < 4)
  | 5 | 6 => decide (o < 16)
  | _ => true
/-- Two channels share clock and main OSR. -/
def sameClk (s : State) (m n : Nat) : Bool := m / 8 == n / 8 && osrM s m == osrM s n
/-- R64 for group g. -/
def dclOk (s : State) (g : Nat) : Bool :=
  let cs := roleChans s 3 g
  decide (2 ≤ cs.length) && (List.range s.nTeams).all fun t => imp ((teamAxes s t).any fun a => rd s (F.LE_AX_CFG_DCL a) == g) (cs.any (· / 24 == t))
/-- The pair of channel n is well formed (R76). -/
def pairOk (s : State) (n : Nat) : Bool :=
  if ¬ isSet s (F.SNS_CH_PAIR_PAIREN n) then true else
  let m := rd s (F.SNS_CH_PAIR_PARTNER n)
  m != n && isSet s (F.SNS_CH_PAIR_PAIREN m) && rd s (F.SNS_CH_PAIR_PARTNER m) == n && m / 24 == n / 24 && sameClk s m n &&
  rd s (F.SNS_CH_CFG_ROLE m) == rd s (F.SNS_CH_CFG_ROLE n) && rd s (F.SNS_CH_CFG_OBJ m) == rd s (F.SNS_CH_CFG_OBJ n) &&
  rd s (F.SNS_CH_LSB_LSB m) == rd s (F.SNS_CH_LSB_LSB n) && isSet s (F.SNS_CH_PAIR_PRIMARY m) != isSet s (F.SNS_CH_PAIR_PRIMARY n)
/-- A Kirchhoff set names the ROLE 1 channels of the three legs of one winding set (R75). -/
def ksetOk (s : State) (k : Nat) : Bool :=
  if ¬ isSet s (F.SNS_KSET_CFG_EN k) then true else
  let c := [rd s (F.SNS_KSET_CFG_CHA k), rd s (F.SNS_KSET_CFG_CHB k), rd s (F.SNS_KSET_CFG_CHC k)]
  let a := c.headD 0
  let legs := c.map fun n => rd s (F.SNS_CH_CFG_OBJ n)
  (c.all fun n => decide (n < 192) && rd s (F.SNS_CH_CFG_ROLE n) == 1 && sameClk s a n && rd s (F.SNS_CH_LSB_LSB a) == rd s (F.SNS_CH_LSB_LSB n)) &&
  ((teamAxes s (a / 24)).any fun x =>
    let l := axLegs s x
    let ty := axType s x
    (ty == 1 || ty == 2 || ty == 6 || ty == 7) && distinct legs &&
    (legs.all (l.take 3).contains || (decide (3 < l.length) && legs.all ((l.drop 3).take 3).contains)))
/-- The checks of Table 3.4. Checks 1 and 5 try one kind of index whole before the other: clocks, then channels; channels, then interfaces
(assumption 139). -/
def checksSense (s : State) : Fail :=
  let ch := usedChans s
  firstOf [
    chk 1 (List.range 24) fun k => let d := rd s (F.SNS_MCLK_CFG_DIV k); d == 0 || (decide (20 ≤ d) && decide (d ≤ 160)),
    chk 1 ch fun n => chanDiv s n != 0,
    chk 2 (List.range 24) fun k => let d := rd s (F.SNS_MCLK_CFG_DIV k); imp (d != 0) (s.per % d == 0),
    chk 3 (List.range s.nTeams) fun t => (teamChans t).all fun n => imp (entersD s n) (rd s (F.STR_TEAM_CFG_SPHASE t) % chanDiv s n == 0),
    chk 4 ch fun n => let m := rd s (F.SNS_CH_CFG_MOSR n); let c := rd s (F.SNS_CH_CFG_CAPDLY n)
      decide (2 ≤ m) && decide (m ≤ 32) && decide (c ≤ 19) && decide (c < chanDiv s n),
    chk 5 ch (objOk s),
    chk 5 (List.range 16) fun n => imp (rd s (F.POS_IF_CFG_MODE n) == 4) (match roleChans s 5 n, roleChans s 6 n with
      | [a], [b] => sameClk s a b
      | _, _ => false),
    chk 6 (List.range 4) fun g => imp (isSet s (F.SNS_DCL_CFG_EN g)) (dclOk s g),
    chk 7 ch (pairOk s),
    chk 8 (List.range 32) (ksetOk s),
    chk 9 ch fun n =>
      let f := rd s (F.SNS_CH_CFG_FTGT n)
      let r := rd s (F.SNS_CH_CFG_ROLE n)
      imp (f == 1 || f == 2) (r == 1) && imp (f == 3) (r == 4) &&
      imp (r == 1 || r == 4) (Flt.lt (rdW s (F.SNS_CH_FTHPL_FTHPL n)) (rdW s (F.SNS_CH_FTHPH_FTHPH n)))]

/-! ### Table 4.5 -/

/-- The position checks. In check 1 the user of an interface that is off is named, axis or compare unit, and the lowest number of the three
kinds of index comes first; an interface that is off and in no use meets checks 2, 5 and 6 whatever its fields hold (R109; assumption 154). -/
def checksPosition (s : State) : Fail :=
  let all := List.range 16
  let m := fun (n : Nat) => rd s (F.POS_IF_CFG_MODE n)
  let used := all.filter fun n => m n != 0
  let cpr := fun (n : Nat) => rd s (F.POS_IF_CPR_CPR n)
  firstOf [
    chk 1 (List.range 32) fun i => imp (decide (i < 16)) (decide (m i ≤ 4)) &&
      imp ((axesUsed s).contains i && isSet s (F.LE_AX_CFG_POSEN i)) (m (rd s (F.LE_AX_CFG_POSIF i)) != 0) &&
      imp (isSet s (F.POS_CMP_CFG_EN i)) (m (rd s (F.POS_CMP_CFG_IF i)) != 0),
    chk 2 used fun n => decide (1 ≤ cpr n) && decide (cpr n ≤ 2 ^ 24) && (match m n with
      | 1 => cpr n % 4 == 0
      | 2 => cpr n % 6 == 0
      | 3 => cpr n == 2 ^ min (rd s (F.POS_IF_SSI1_STBITS n)) 24
      | _ => cpr n == 2 ^ rd s (F.POS_IF_RES1_RESBITS n) * rd s (F.POS_IF_RES1_RPOLE n)),
    chk 3 (used.filter fun n => m n == 3) fun n =>
      let div := rd s (F.POS_IF_SSI0_CLKDIV n)
      let w := rd s (F.POS_IF_SSI0_WLEN n)
      let mt := rd s (F.POS_IF_SSI1_MTBITS n)
      let st := rd s (F.POS_IF_SSI1_STBITS n)
      let c := rd s (F.POS_IF_SSI1_CRCLEN n)
      let tout := rd s (F.POS_IF_SSI1_TOUT n)
      let e := rd s (F.POS_IF_SSI1_ERRPOS n)
      decide (8 ≤ div) && decide (8 ≤ w) && decide (w ≤ 48) && decide (mt ≤ 16) && decide (1 ≤ st) && decide (st ≤ 32) && decide (mt + st + c ≤ w) &&
      (c == 0 || (decide (3 ≤ c) && decide (c ≤ 16))) && imp (isSet s (F.POS_IF_SSI0_ERREN n)) (decide (c ≤ e) && decide (e < w - mt - st)) &&
      decide (rd s (F.POS_IF_SSI0_SDLY n) < 10 * div) && decide (1 ≤ tout) &&
      decide ((rd s (F.POS_IF_SSI0_SKIP n) + w + 1) * div + 80 * tout ≤ 80 * rd s (F.POS_IF_SSI3_RPER n)),
    chk 4 (used.filter fun n => m n == 4) fun n =>
      let d := rd s (F.POS_IF_RES0_EXCDIV n)
      let p := rd s (F.POS_IF_RES1_RPOLE n)
      let b := rd s (F.POS_IF_RES1_RESBITS n)
      decide (625 ≤ d) && decide (d ≤ 6250) && decide (1 ≤ p) && decide (p ≤ 8) && decide (10 ≤ b) && decide (b ≤ 16) &&
      decide (rd s (F.POS_IF_RES1_AMPLO n) < rd s (F.POS_IF_RES1_AMPHI n)) &&
      (roleChans s 5 n ++ roleChans s 6 n).all fun c => decide (16 * osrM s c * chanDiv s c ≤ 32 * d),
    chk 5 used fun n => let bw := rd s (F.POS_IF_OBS_BW n)
      decide (50 ≤ bw) && decide (bw ≤ 4000) && isSet s (F.POS_IF_OBS_REST n) && decide (2 ≤ rd s (F.POS_IF_ELIM_ELIM n)) &&
      isSet s (F.POS_IF_FLTCFG_BADLIM n) && isSet s (F.POS_IF_FLTCFG_SEQLIM n) && isSet s (F.POS_IF_FLTCFG_AMPQ n) &&
      isSet s (F.POS_IF_FLTCFG_OBSQ n) && isSet s (F.POS_IF_FLTCFG_HALLQ n),
    chk 6 used fun n => let z := rd s (F.POS_IF_CFG_ZMODE n)
      decide (z ≤ 2) && imp (z != 0) (decide (rd s (F.POS_IF_ZOFS_ZOFS n) < cpr n)),
    chk 7 (axesUsed s) fun a => let n := rd s (F.LE_AX_CFG_POSIF a)
      imp (isSet s (F.LE_AX_CFG_POSEN a) && m n == 4 && decide (1 < rd s (F.POS_IF_RES1_RPOLE n)))
        (rd s (F.LE_AX_MOTOR_POLEP a) % rd s (F.POS_IF_RES1_RPOLE n) == 0)]

/-! ### Tables 5.9 and 7.5 -/

/-- NLEG of a TYPE (Table 5.2). -/
def typeLegs (ty : Nat) : Nat :=
  match ty with
  | 1 => 3
  | 2 | 6 | 7 => 6
  | 3 | 5 => 2
  | 4 => 1
  | _ => 0
/-- A machine axis of TYPE 1, 2 or 6. -/
def isMach (ty : Nat) : Bool := ty == 1 || ty == 2 || ty == 6
/-- The phase-current channels of a leg (R117). -/
def phaseChans (s : State) (leg : Nat) : List Nat :=
  (roleChans s 1 leg).filter fun n => !isSecondary s n
/-- R117 for axis a; an axis of TYPE 3, 4 or 5 has one phase-current channel on LEG0 (assumption 171). -/
def currentsOk (s : State) (a : Nat) : Bool :=
  let l := axLegs s a
  let ty := axType s a
  let set := fun (x : List Nat) => decide (2 ≤ (x.filter fun n => !(phaseChans s n).isEmpty).length)
  imp (isMach ty) (l.all fun n => decide ((phaseChans s n).length ≤ 1)) &&
  imp (isMach ty || ty == 7) (set (l.take 3) && imp (ty != 1) (set (l.drop 3))) &&
  imp (ty == 3 || ty == 4 || ty == 5) ((phaseChans s (l.headD 0)).length == 1)
/-- Node positions strictly rising. -/
def rising : List F32 → Bool
  | x :: y :: l => Flt.lt x y && rising (y :: l)
  | _ => true
/-- Positive. -/
def pos (x : F32) : Bool := Flt.finite x && Flt.lt 0 x
/-- At least 0. -/
def nonneg (x : F32) : Bool := Flt.finite x && Flt.le 0 x
/-- From lo to hi. -/
def inRange (lo x hi : F32) : Bool := Flt.finite x && Flt.le lo x && Flt.le x hi
/-- The grid nodes of axis a that are in use (R119, R134). -/
def gridNodes (s : State) (a : Nat) : List Nat :=
  if isSet s (F.LE_AX_CFG_GSEN a) then
    (List.range (rd s (F.LE_AX_GS_NY a))).flatMap fun y => (List.range (rd s (F.LE_AX_GS_NX a))).map fun x => 32 * (8 * y + x)
  else [0]
/-- Check 7 of Table 5.9. -/
def paramsOk (s : State) (a : Nat) : Bool :=
  let ty := axType s a
  let p := prm s a
  let mach1 := rd s (F.LE_AX_CFG_MACH a) == 1
  let pi := !isSet s (F.LE_AX_CFG_LAW a)
  if ty = 0 ∨ ty = 7 then true else
  ((gridNodes s a).all fun o =>
    if isMach ty then
      imp pi (pos (p o) && pos (p (o + 4)) && pos (p (o + 8)) && pos (p (o + 12))) && pos (p (o + 16)) && pos (p (o + 20)) && pos (p (o + 28)) &&
      (if mach1 then nonneg (p (o + 24)) else pos (p (o + 24)))
    else pos (p (o + 8)) && pos (p (o + 12)) && pos (p (o + 20)) && pos (p (o + 28))) &&
  imp (isSet s (F.LE_AX_CFG_GSEN a)) ((List.range 8).all fun i =>
    imp (decide (i < rd s (F.LE_AX_GS_NX a))) (Flt.finite (p (0x800 + 4 * i))) && imp (decide (i < rd s (F.LE_AX_GS_NY a))) (Flt.finite (p (0x820 + 4 * i)))) &&
  pos (p 0x840) && imp (pi || !isMach ty) (pos (p 0x854)) &&
  imp (isMach ty) (imp pi (pos (p 0x850)) && imp (!pi) (inRange (Flt.ofRat 1 10) (p 0x858) Flt.one)) &&
  pos (p 0x888) &&
  imp (isMach ty || ty == 3) (nonneg (p 0x844) && Flt.finite (p 0x848) && Flt.le (p 0x848) 0 && Flt.finite (p 0x84C)) &&
  imp (isSet s (F.LE_AX_CFG_FWEN a)) (pos (p 0x85C) && inRange (Flt.ofRat 8 10) (p 0x860) Flt.one &&
    (if mach1 then inRange (Flt.ofRat 5 100) (p 0x864) Flt.one else Flt.finite (p 0x864) && Flt.le (p 0x864) 0)) &&
  imp (isMach ty && mach1) (Flt.finite (p 0x868) && Flt.finite (p 0x86C)) &&
  imp (isSet s (F.LE_AX_CFG_SPDEN a)) (pos (p 0x870) && pos (p 0x874) && pos (p 0x878) && Flt.finite (p 0x87C)) &&
  imp (isSet s (F.LE_AX_CFG_PLEN a)) (pos (p 0x884) && pos (p 0x880) && pos (p 0x88C) && pos (p 0x890)) &&
  imp (ty == 3) (Flt.finite (p 0x898) && Flt.finite (p 0x89C)) &&
  imp (ty == 2 || ty == 6) (pos (p 0x8A0) && pos (p 0x8A4) && pos (p 0x8A8))
def checksLoop (s : State) : Fail :=
  let all := List.range s.nAxes
  let ax := axesUsed s
  let ty := axType s
  let en := fun (f : Nat → Fld) (a : Nat) => isSet s (f a)
  firstOf [
    chk 1 all fun a =>
      let l := axLegs s a
      decide (ty a ≤ 7) && rd s (F.LE_AX_LEGS_NLEG a) == typeLegs (ty a) && l.all (fun n => n / 12 == a / 4) && distinct l &&
      (teamAxes s (a / 4)).all fun b => b == a || (axLegs s b).all fun n => !l.contains n,
    chk 2 ax fun a => let m := rd s (F.LE_AX_CFG_MACH a)
      imp (isMach (ty a)) (decide (m ≤ 1)) && imp (ty a == 3) (m == 2) && imp (en F.LE_AX_CFG_LAW a) (isMach (ty a)),
    chk 3 ax fun a => currentsOk s a && dclOk s (rd s (F.LE_AX_CFG_DCL a)),
    chk 4 ax fun a =>
      let src := en F.LE_AX_CFG_POSEN a || en F.LE_AX_CFG_SLEN a
      imp (isMach (ty a)) src && imp (en F.LE_AX_CFG_SPDEN a || en F.LE_AX_CFG_PLEN a) src &&
      imp (en F.LE_AX_CFG_PLEN a) (en F.LE_AX_CFG_SPDEN a) && imp (en F.LE_AX_CFG_FWEN a || en F.LE_AX_CFG_SLEN a) (isMach (ty a)),
    chk 5 ax fun a =>
      imp (isMach (ty a) && rd s (F.LE_AX_CFG_MACH a) == 1)
        (let e := rd s (F.LE_AX_CFG_LINK a); e / 4 == a / 4 && decide (a < e) && (ty e == 4 || ty e == 5)) &&
      imp (ty a == 4 || ty a == 5) (((teamAxes s (a / 4)).filter fun b => exciterOf s b == some a).length == 1),
    chk 6 ax fun a =>
      let nx := rd s (F.LE_AX_GS_NX a)
      let ny := rd s (F.LE_AX_GS_NY a)
      decide (1 ≤ nx) && decide (nx ≤ 8) && decide (1 ≤ ny) && decide (ny ≤ 8) &&
      rising ((List.range nx).map fun i => prm s a (0x800 + 4 * i)) && rising ((List.range ny).map fun i => prm s a (0x820 + 4 * i)) &&
      imp (rd s (F.LE_AX_GS_VARX a) == 3 || rd s (F.LE_AX_GS_VARY a) == 3) (en F.LE_AX_MOTOR_TEMPEN a),
    chk 7 ax (paramsOk s),
    chk 8 ax fun a => let p := rd s (F.LE_AX_MOTOR_POLEP a)
      imp (isMach (ty a)) (decide (1 ≤ p) && decide (p ≤ 64)),
    chk 9 ax fun a =>
      let q := spanPeer s a
      let d := rd s F.RNG_CFG_DEVNUM
      let n := rd s F.RNG_CFG_NDEVM1 + 1
      let nb := rd s (F.LE_AX_SPAN_PDEV a)
      imp (ty a == 6) (q.typ == 7 && nb == (d + 1) % n) && imp (ty a == 7) (q.typ == 6 && (nb + 1) % n == d) &&
      imp (ty a == 6 || ty a == 7) (q.dev == d && q.axis == a),
    chk 10 ax fun a =>
      let p := prm s a
      let imax := p 0x840
      let cur := fun (o : Nat) => pos (p o) && Flt.le (p o) imax
      let ta := (p 0x8D4).toNat
      imp (en F.LE_AX_CFG_SLEN a) ((axLegs s a).all (fun n => !(roleChans s 2 n).isEmpty) && pos (p 0x8AC) && pos (p 0x8B0) && pos (p 0x8B8) &&
        pos (p 0x8CC) && inRange (Flt.ofRat 2 100) (p 0x8B4) (Flt.ofRat 1 2) && Flt.finite (p 0x8C0) && Flt.le (p 0x8B8) (p 0x8C0) &&
        cur 0x8C4 && cur 0x8C8 && cur 0x8D0 && decide (10 ≤ ta) && decide (ta ≤ 5000) &&
        decide (1000 * Flt.key (p 0x8B8) ≤ (((p 0x8D8).toNat : Int) - 2 - ta) * Flt.key (p 0x8CC))),
    chk 11 ax fun a =>
      let p := prm s a
      let src := (p 0x8EC).toNat
      let ta := (p 0x8D4).toNat
      imp (isMach (ty a) && en F.LE_AX_CFG_POSEN a) (decide (src ≤ 2) && pos (p 0x8C4) && Flt.le (p 0x8C4) (p 0x840) && decide (10 ≤ ta) && decide (ta ≤ 5000) &&
        decide (ta + 100 ≤ (p 0x8D8).toNat) &&
        imp (src == 0) ((List.range (identCount s)).any fun k => field (identEntry s k) 4 2 == 3 && bit (identMask s k) a)),
    chk 12 ax fun a => let p := prm s a
      nonneg (p 0x8E0) && nonneg (p 0x8E4) && Flt.le (p 0x8E4) (p 0x8E0) && decide ((p 0x8E8).toNat ≤ 1),
    chk 13 ax fun a => imp (isMach (ty a) && rd s (F.LE_AX_CFG_MACH a) == 1) (pos (prm s a 0x868)),
    chk 14 (List.range 4) fun g => imp (isSet s (F.LE_DCL_DCFG_EN g)) (
      let path := rd s (F.LE_DCL_DCFG_PATH g)
      let td := rd s (F.LE_DCL_DCFG_TDCHMAX g)
      let x := rd s (F.LE_DCL_DCFG_DAX g)
      path != 0 && pos (rdW s (F.LE_DCL_DTGT_VDCTGT g)) && decide (100 ≤ td) && decide (td ≤ 10000) &&
      imp (bit path 1) (isMach (ty x) && rd s (F.LE_AX_CFG_DCL x) == g && en F.LE_AX_CFG_POSEN x && pos (prm s x 0x8F4) &&
        Flt.le (prm s x 0x8F4) (prm s x 0x840) && pos (prm s x 0x8F8))),
    chk 15 (List.range 4) fun g => imp (isSet s (F.LE_DCL_DCFG_TRGCRASH g))
      ((List.range 16).any fun n => isSet s (F.SAF_SI_CFG_EN n) && rd s (F.SAF_SI_CFG_FUNC n) == 3 && rdBit s (F.SAF_SI_CFG_MASK n) g)]

/-! ### Table 6.3 -/

def checksMod (s : State) : Fail :=
  let legs := (List.range (12 * s.nTeams)).filter fun n => (legAxis s n).isSome
  firstOf [
    chk 1 legs fun n => let d := rd s (F.MOD_LEG_CFG_DT n); decide (256 ≤ d) && decide (d ≤ 64000),
    chk 2 ((List.range (12 * s.nTeams)).filter fun n => isSet s (F.MOD_LEG_CFG_BOOT n)) fun n =>
      let r := rd s (F.MOD_LEG_REF_TREF n)
      let p := rd s (F.MOD_LEG_REF_TPRE n)
      decide (160 ≤ r) && decide (r ≤ 4000) && decide (1 ≤ p) && decide (p ≤ 8000) && decide (rd s (F.MOD_LEG_TIM_MINPW n) ≤ 16 * r) &&
      decide ((16 * r + rd s (F.MOD_LEG_CFG_DT n)) * (2 * carN s (n / 12)) ≤ 16 * s.per),
    chk 3 ((axesUsed s).filter fun a => isMach (axType s a)) fun a => let m := rd s (F.MOD_AX_CFG_MMAX a)
      decide (16384 ≤ m) && decide (m ≤ if isSet s (F.MOD_AX_CFG_OVM a) then 41721 else 37837),
    chk 4 (axesUsed s) fun a => let p := rd s (F.MOD_AX_CFG_LFPOL a); decide (p ≤ 3) && imp (p == 3) (axType s a == 2),
    chk 5 (usedTeams s) fun t => isSet s (F.MOD_TEAM_CFG_ILKLIM t) && isSet s (F.MOD_TEAM_CFG_ILKWIN t),
    chk 6 (List.range s.nTeams) fun t => imp (isSet s (F.MOD_DSPI_CFG_EN t)) (
      let c := rd s (F.MOD_DSPI_CFG_CHAIN t)
      let g := tget (fun _ => []) s.cfg.gdrv t
      decide (4 ≤ rd s (F.MOD_DSPI_CFG_DIV t)) && decide (1 ≤ c) && decide (c ≤ 24) && decide (7 ≤ rd s (F.MOD_DSPI_CFG_WBITS t)) &&
      Config.gdrvOk g && decide (Config.gdrvCount g ≤ 256) && (List.range c).all fun i => decide (Config.gdrvLeg g i < 12))]

/-! ### Table 8.5 -/

/-- The tasks that own axis a and are safety-relevant. -/
def safetyOwned (s : State) (a : Nat) : Bool :=
  (List.range 32).any fun k => isSet s (F.STR_TASK_CFG_USED k) && isSet s (F.STR_TASK_CFG_SAFETY k) && rdBit s (F.STR_TASK_AXES_AXES k) a
/-- Axis a is a slot axis of a group (R227). -/
def slotAxis (s : State) (a : Nat) : Bool := (List.range 4).any fun g =>
  isSet s (F.GRP_G_CFG_EN g) && ((isSet s (F.GRP_G_AX_AX0EN g) && rd s (F.GRP_G_AX_AX0 g) == a) || (isSet s (F.GRP_G_AX_AX1EN g) && rd s (F.GRP_G_AX_AX1 g) == a))
/-- The mask of a safe input fits its function (R215). -/
def siMaskOk (s : State) (n : Nat) : Bool :=
  (List.range 8).all fun i => imp (rdBit s (F.SAF_SI_CFG_MASK n) i) (match rd s (F.SAF_SI_CFG_FUNC n) with
    | 1 | 2 => decide (i < s.nTeams)
    | 3 => decide (i < 4) && isSet s (F.LE_DCL_DCFG_EN i) && isSet s (F.LE_DCL_DCFG_TRGCRASH i)
    | 4 => isSet s (F.SAF_SB_CFG_EN i)
    | _ => true)
def checksSafety (s : State) : Fail :=
  let mon := (List.range s.nAxes).filter fun a => rd s (F.SAF_AX_TMCFG_MODE a) != 0
  firstOf [
    chk 1 ((List.range 16).filter fun n => isSet s (F.SAF_SI_CFG_EN n)) fun n =>
      let f := rd s (F.SAF_SI_CFG_FILT n)
      let d := rd s (F.SAF_SI_CFG_TDISC n)
      decide (1 ≤ f) && decide (f ≤ 20) && decide (5 ≤ d) && decide (d ≤ 500) && decide (rd s (F.SAF_SI_CFG_FUNC n) ≤ 4) && siMaskOk s n,
    chk 2 ((List.range 8).filter fun n => isSet s (F.SAF_SB_CFG_EN n)) fun n =>
      let t := rd s (F.SAF_SB_CFG_TPER n)
      let p := rd s (F.SAF_SB_CFG_TPULSE n)
      decide (1 ≤ t) && decide (t ≤ 60) && decide (100 ≤ p) && decide (p ≤ 1000) &&
      imp (isSet s (F.SAF_SB_CFG_AXEN n)) (axType s (rd s (F.SAF_SB_CFG_AXLINK n)) != 0),
    chk 3 mon fun a =>
      let m := rd s (F.SAF_AX_TMCFG_MODE a)
      let d := rd s (F.SAF_AX_TMCFG_TMDT a)
      let c := rd s (F.SAF_AX_TMCFG_CONN a)
      let ty := axType s a
      decide (m ≤ 2) && decide (1 ≤ d) && decide (d ≤ 50) && isSet s (F.SAF_AX_TMCFG_TMWIN a) &&
      imp (m == 1) (decide (c < 32) && isSet s (F.GRP_CONN_CFG_EN c) && !isSet s (F.GRP_CONN_CFG_TX c) &&
        (slotAxis s a || decide ((tmPrm s a 0x25C).toNat + 4 ≤ rd s (F.GRP_CONN_TOL_LEN c)))) &&
      (isMach ty || ty == 3 || (ty == 7 && m == 2)),
    chk 4 mon fun a =>
      let w := tmPrm s a
      let v := (w 0x264).toNat
      (List.range 150).all (fun i => Flt.finite (w (4 * i))) && Flt.finite (w 0x268) &&
      rising ((List.range 8).map fun i => w (4 * i)) && rising ((List.range 8).map fun i => w (0x20 + 4 * i)) && pos (w 0x240) && pos (w 0x250) &&
      imp (axType s a == 3) (pos (w 0x254)) && decide (1 ≤ v) && decide (v ≤ 3) && imp (v == 2) (!hasBoot s a),
    chk 5 mon fun a => (tmPrm s a 0x260).toNat == rd s (F.LE_AX_MOTOR_POLEP a) && tmPrm s a 0x268 == prm s a 0x8E0,
    chk 6 (List.range s.nAxes) fun a => imp (safetyOwned s a) (rd s (F.SAF_AX_TMCFG_MODE a) != 0),
    chk 7 [0] fun _ => decide (smcCost s ≤ s.per * 792 / 10000)]

/-! ### Table 9.6 -/

/-- TMWIN covers 2 strides beyond the ramp time of axis a, from TMAXN to TMAXP at RATE (R247; assumption 118). -/
def coversRamp (s : State) (a : Nat) : Bool :=
  decide ((Flt.key (prm s a 0x844) - Flt.key (prm s a 0x848)) * 800000000 ≤
    ((rd s (F.SAF_AX_TMCFG_TMWIN a) : Int) - 2) * s.per * Flt.key (prm s a 0x888))
def checksGroup (s : State) : Fail :=
  let gs := (List.range 4).filter fun g => isSet s (F.GRP_G_CFG_EN g)
  let n := fun (g : Nat) => if isSet s (F.GRP_G_CFG_TRIPLEX g) then 3 else 2
  let dev := fun (g r : Nat) => match r with
    | 0 => rd s (F.GRP_G_MEM_DEV0 g)
    | 1 => rd s (F.GRP_G_MEM_DEV1 g)
    | _ => rd s (F.GRP_G_MEM_DEV2 g)
  let mc := fun (g r : Nat) => match r with
    | 0 => rd s (F.GRP_G_CONN_MC0 g)
    | 1 => rd s (F.GRP_G_CONN_MC1 g)
    | _ => rd s (F.GRP_G_CONN_MC2 g)
  let gid := fun (g : Nat) => rd s (F.GRP_G_CFG_GID g)
  let ranks := fun (g : Nat) => List.range (n g)
  let slots := fun (g : Nat) => (if isSet s (F.GRP_G_AX_AX0EN g) then [rd s (F.GRP_G_AX_AX0 g)] else []) ++
    (if isSet s (F.GRP_G_AX_AX1EN g) then [rd s (F.GRP_G_AX_AX1 g)] else [])
  let en := fun (c : Nat) => isSet s (F.GRP_CONN_CFG_EN c)
  let tx := fun (c : Nat) => isSet s (F.GRP_CONN_CFG_TX c)
  let path := fun (c : Nat) => rd s (F.GRP_CONN_CFG_PATH c)
  let own := rd s F.RNG_CFG_DEVNUM
  let nd := rd s F.RNG_CFG_NDEVM1
  let member := fun (c : Nat) => gs.any fun g => (ranks g).any fun r => mc g r == c
  let hosted := fun (c : Nat) => gs.any fun g => isSet s (F.GRP_G_CONN_HEN g) && rd s (F.GRP_G_CONN_HC g) == c
  firstOf [
    chk 1 gs fun g => decide (rd s (F.GRP_G_CFG_RANK g) < n g) && distinct ((ranks g).map (dev g)) && decide (gid g ≤ 127) &&
      gs.all fun h => h == g || gid h != gid g,
    chk 2 gs fun g => let t := rd s (F.GRP_G_TIM_TRAMP g)
      decide (1 ≤ t) && decide (t ≤ 10000) && isSet s (F.GRP_G_TIM_SHCNT g) && pos (rdW s (F.GRP_G_SHTOL_SHTOL g)) &&
      pos (rdW s (F.GRP_G_REDTQ_REDTQ g)) && pos (rdW s (F.GRP_G_REDRATE_REDRATE g)),
    chk 3 gs fun g => slots g != [] && (slots g).all fun a =>
      (isMach (axType s a) || axType s a == 3) && safetyOwned s a && ((gs.flatMap slots).filter (· == a)).length == 1 &&
      (ranks g).any (fun r => mc g r == rd s (F.SAF_AX_TMCFG_CONN a)) && imp (rd s (F.SAF_AX_TMCFG_MODE a) == 1) (coversRamp s a),
    chk 4 gs fun g => distinct ((ranks g).map (mc g)) && (ranks g).all (fun r =>
        let c := mc g r
        en c && path c == 0 && rd s (F.GRP_CONN_TOL_CONS c) == 0x80 + gid g &&
        (if r = rd s (F.GRP_G_CFG_RANK g) then tx c else !tx c && rd s (F.GRP_CONN_CFG_PROD c) == dev g r)) &&
      imp (n g == 2) (isSet s (F.GRP_G_CONN_HEN g) && path (rd s (F.GRP_G_CONN_HC g)) == 1 && !tx (rd s (F.GRP_G_CONN_HC g))),
    chk 5 ((List.range 32).filter en) fun c =>
      let len := rd s (F.GRP_CONN_TOL_LEN c)
      let cons := rd s (F.GRP_CONN_TOL_CONS c)
      let prod := rd s (F.GRP_CONN_CFG_PROD c)
      let grp := member c || hosted c
      isSet s (F.GRP_CONN_CFG_SPLIM c) && isSet s (F.GRP_CONN_CFG_WDT c) && decide (len ≤ 64) && imp (path c == 0) (ringOn s) && imp (path c == 1) (!tx c) &&
      imp (path c == 0) (decide (prod ≤ nd) && (prod == own) == tx c) &&
      imp (!grp) (if tx c then decide (cons ≤ nd) && cons != own else cons == own) &&
      imp (member c) (len == 64) && imp (hosted c) (len == 8) && imp grp (rd s (F.GRP_CONN_CFG_CREACT c) == 0),
    chk 6 gs fun g => decide (rd s F.STR_APHASE_A + rd s (F.GRP_G_CFG_GLAT g) + 160 ≤ s.per)]

/-! ### Tables 10.6, 11.10 and 12.2 -/

/-- Where the transfer area of pair p begins (R264). -/
def xferArea (p : Nat) : Nat := 0x105FFC00 + 0x200 * p
/-- Check 3 of Table 10.6 takes the placed APP sections: address and length. -/
def checksCore (s : State) (apps : List (Nat × Nat)) : Fail :=
  firstOf [
    chk 1 [0, 1] fun p => imp (isSet s (F.BST_PAIR_CFG_SPLITINIT p)) (isSet s (F.BST_PAIR_CFG_SPLITEN p)),
    chk 2 [0, 1] fun p => let v := rd s (F.BST_PAIR_VEC_SPLITVEC p)
      imp (isSet s (F.BST_PAIR_CFG_SPLITEN p)) (decide (0x10000000 ≤ v) && decide (v < 0x105FFC00) && v % 4 == 0),
    chk 3 [0, 1] fun p => apps.all fun (x : Nat × Nat) => decide (x.1 + x.2 ≤ xferArea p) || decide (xferArea p + 0x200 ≤ x.1)]

/-- The application-core map lets the fabric read an address (Table 1.6, R20). The memories are complete on every part (R2). -/
def fabricReads (a : Nat) : Bool :=
  let inR := fun (lo hi : Nat) => decide (lo ≤ a) && decide (a ≤ hi)
  let le := a % 0x40000
  inR 0 0xFFFF || inR 0x10000000 0x105FFFFF ||
  (inR 0x20000000 0x201FFFFF && ((decide (0x8000 ≤ le) && decide (le < 0x30000)) || (decide (0x3F000 ≤ le) && decide (le < 0x3F400)))) ||
  inR 0x30000000 0x3017FFFF || inR 0x40000000 0x40FFFFFF || inR 0x50000000 0x5007FFFF || inR 0x60000000 0x60000FFF
/-- No two windows of a slot table overlap. -/
def windowsApart : List Config.Slot → Bool
  | [] => true
  | e :: l => (l.all fun f => decide (e.phase + e.win ≤ f.phase) || decide (f.phase + f.win ≤ e.phase)) && windowsApart l
/-- Check 2 on the slot table of one output (R291, R318): its entries within the stride, apart, of classes 0 to 2, each window long enough for its
frame, and on D0 a class 0 slot of its own at PHASE 0, the sync slot. -/
def slotsOk (head : Bool) (per : Nat) (t : List Config.Slot) : Bool :=
  t.all (fun e => decide (e.phase + e.win ≤ per) && decide (e.cls ≤ 2) && decide (sendTime e.len ≤ 1000 * e.win)) && windowsApart t &&
  imp (head && t != []) (t.any fun e => e.cls == 0 && e.src.isSome && e.phase == 0)
def checksNet (s : State) : Fail :=
  let d := rd s F.RNG_CFG_DEVNUM
  let nd := rd s F.RNG_CFG_NDEVM1
  let head := isSet s F.RNG_CFG_HEAD
  firstOf [
    chk 1 [0] fun _ => imp (ringOn s) (decide (1 ≤ nd) && decide (d ≤ nd) && head == (d == 0) && isSet s F.RNG_CFG_MAXAGE && rd s F.RNG_CFG_ROUTE != 3),
    chk 2 [0, 1] fun r => slotsOk (isSet s F.RNG_CFG_HEAD) s.per (tget (fun _ => []) s.cfg.slots r),
    chk 3 [0] fun _ => imp head (isSet s F.RNG_CRCFG_EGRFRAC &&
      (List.range (nd + 1)).any fun i => rd s (F.RNG_SHARE_SHARE (i / 4)) / 256 ^ (i % 4) % 256 != 0),
    chk 4 [0, 1] fun p => imp (isSet s (F.ETH_P_CFG_EN p)) (isSet s (F.ETH_P_CFG_RATES p) && !bit (rd s (F.ETH_P_MACL_MAC p)) 0 &&
      imp (isSet s (F.ETH_P_CFG_VLANEN p)) (let v := rd s (F.ETH_P_CFG_VID p); decide (1 ≤ v) && decide (v ≤ 4094))),
    chk 5 ((List.range 32).filter fun k => isSet s (F.ETH_TEL_CFG_EN k)) fun k =>
      let r := rd s (F.ETH_TEL_CFG_ROUTE k)
      decide (rd s (F.ETH_TEL_CFG_KOFS k) ≤ rd s (F.ETH_TEL_CFG_KM1 k)) && decide (r ≤ 5) && imp (decide (r ≤ 2)) (ringOn s) &&
      (tget (fun _ => []) s.cfg.tel k).all fun w => w.toNat % 4 == 0 && fabricReads w.toNat,
    chk 6 [0] fun _ => isSet s F.ETH_AUTH_FWIN]

/-- OFS of the enabled slots of channel c, in slot order. -/
def slotOffs (s : State) (c : Nat) : List Nat :=
  ((List.range 32).filter fun i => isSet s (F.CAN_CH_SLOT_EN c i)).map fun i => rd s (F.CAN_CH_SLOT_OFS c i)
/-- Strictly rising. -/
def strict : List Nat → Bool
  | x :: y :: l => decide (x < y) && strict (y :: l)
  | _ => true
/-- Table 12.2. Mailbox m of channel c has index 32 c + m and entry e of channel l index 32 l + e; the channels of check 5 come before the entries
(DESIGN CHOICE, assumption 142). -/
def checksBus (s : State) : Fail :=
  let ch := (List.range 8).filter fun c => isSet s (F.CAN_CH_CFG_EN c)
  let lin := (List.range 4).filter fun l => isSet s (F.LIN_CH_CFG_EN l)
  firstOf [
    chk 1 ch fun c =>
      let f := fun (x : Nat → Fld) => rd s (x c) + 1
      decide (80 ≤ f F.CAN_CH_NBT_BRP * (1 + f F.CAN_CH_NBT_TSEG1 + f F.CAN_CH_NBT_TSEG2)) &&
      decide (10 ≤ f F.CAN_CH_DBT_DBRP * (1 + f F.CAN_CH_DBT_DTSEG1 + f F.CAN_CH_DBT_DTSEG2)) &&
      decide (2 ≤ f F.CAN_CH_NBT_TSEG1) && decide (f F.CAN_CH_NBT_SJW ≤ f F.CAN_CH_NBT_TSEG2) && decide (f F.CAN_CH_DBT_DSJW ≤ f F.CAN_CH_DBT_DTSEG2) &&
      imp (isSet s (F.CAN_CH_DBT_TDCEN c)) (decide (f F.CAN_CH_DBT_DBRP ≤ 2)) && isSet s (F.CAN_CH_CFG_LONE_LIMIT c),
    chk 2 (List.range 8) fun c => strict (slotOffs s c) && (slotOffs s c).all (fun o => decide (800 * o < canCycle s c * s.per)) &&
      (List.range 16).all fun y => (List.range 32).all fun sl => match canCell s c y sl with
        | none => true
        | some m => isSet s (F.CAN_MB_CFG_EN c m) && rd s (F.CAN_MB_CFG_KIND c m) == 1 && isSet s (F.CAN_CH_SLOT_EN c sl),
    chk 3 (List.range 256) fun i =>
      let c := i / 32
      let m := i % 32
      let k := rd s (F.CAN_MB_CFG_KIND c m)
      let fdf := isSet s (F.CAN_MB_CFG_FDF c m)
      imp (isSet s (F.CAN_MB_CFG_EN c m)) (k != 0) && imp fdf (isSet s (F.CAN_CH_CFG_FDEN c)) && imp (isSet s (F.CAN_MB_CFG_BRS c m)) (fdf && isSet s (F.CAN_CH_CFG_BRSEN c)) &&
      imp (isSet s (F.CAN_MB_CFG_RTR c m)) (!fdf) && imp (!isSet s (F.CAN_MB_CFG_IDE c m)) (decide (rd s (F.CAN_MB_ID_ID c m) < 2048)) &&
      imp (k == 1 || k == 2) (rd s (F.CAN_MB_MASK_MASK c m) == 0),
    chk 4 ((List.range 12).filter fun r => isSet s (F.SENT_RX_CFG_EN r)) fun r =>
      let t := rd s (F.SENT_RX_CFG_TICK r)
      let n := rd s (F.SENT_RX_CFG_NNIB r)
      decide (30 ≤ t) && decide (t ≤ 900) && decide (1 ≤ n) && decide (n ≤ 6) && decide (rd s (F.SENT_RX_CFG_SMODE r) ≤ 2) &&
      isSet s (F.SENT_RX_CFG_ERRLIM r) && isSet s (F.SENT_RX_CFG_TOUT r),
    chk 5 lin fun l => let b := rd s (F.LIN_CH_CFG_BITCYC l)
      decide (4000 ≤ b) && decide (b ≤ 80000) && isSet s (F.LIN_CH_CFG_NRLIM l),
    chk 5 (lin.flatMap fun l => (List.range (rd s (F.LIN_CH_CFG_NENT l) + 1)).map (32 * l + ·)) fun i =>
      let l := i / 32
      let e := i % 32
      decide (14 * (linBrk s l + 21 + 10 * (linLen s l e + 1)) * rd s (F.LIN_CH_CFG_BITCYC l) ≤ 10 * 80000 * rd s (F.LIN_CH_ENT_DUR l e)) &&
      decide (rd s (F.LIN_CH_ENT_FID l e) ≤ 0x3D)]

/-! ### R361 -/

/-- The calibration entry of channel n in the CAL section (R358): FS, OFS, REC, CIDX. -/
def calEntry (s : State) (n : Nat) : Nat × Nat × Nat × Nat :=
  let b := (s.cfg.cal.drop (12 * n)).take 12
  (field b 0 4, field b 4 4, field b 8 1, field b 9 1)
def checksIdent (s : State) : Fail :=
  let ks := List.range (identCount s)
  let cls := fun (k : Nat) => field (identEntry s k) 4 2
  let place := fun (k : Nat) => field (identEntry s k) 0 2
  let obj := fun (k : Nat) => field (identEntry s k) 0x24 1
  firstOf [
    chk 1 ks fun k =>
      let b := field (identEntry s k) 0 1
      let a := field (identEntry s k) 1 1
      decide (b < 8) && isSet s (F.IDM_BUS_CFG_EN b) && decide (0x50 ≤ a) && decide (a ≤ 0x57) && ks.all fun j => j == k || place j != place k,
    chk 2 ks fun k => decide (1 ≤ cls k) && decide (cls k ≤ 4) && decide (field (identEntry s k) 2 1 ≤ 2),
    chk 3 ks fun k => (List.range 32).all fun a => imp (bit (identMask s k) a) (axType s a != 0),
    chk 4 ((usedChans s).filter fun n => !isSet s (F.SNS_CH_CFG_CALSRC n)) fun n =>
      let (_, _, k, i) := calEntry s n
      decide (k < identCount s) && (match cls k with
        | 1 => decide (i < 16)
        | 2 => decide (i < 23)
        | 4 => decide (i < 2)
        | _ => false),
    chk 5 ((axesUsed s).filter fun a => isMach (axType s a) && isSet s (F.LE_AX_CFG_POSEN a) && (prm s a 0x8EC) == 0) fun a =>
      (ks.filter fun k => cls k == 3 && bit (identMask s k) a).length == 1,
    chk 6 (ks.filter fun k => cls k == 4) fun k => decide (obj k < 16) && rd s (F.POS_IF_CFG_MODE (obj k)) != 0 &&
      ks.all fun j => j == k || cls j != 4 || obj j != obj k]

end Sys2Proof.Machine
end

