-- ==== Sys2Proof/Machine/Load.lean ====
section
/-! DEFINITION. Configuration image, identity and start-up (R342 to R367): the image in flash, its verification and placement, bank choice,
identity records, gate-driver configuration, and the way from LOAD over IDENTIFY and SYNC to ARMED. -/
namespace Sys2Proof.Machine
open Sys2Proof

/-! ### The image (R343 to R347) -/

/-- What a flash byte that nothing has programmed reads as (R352; assumption 5). -/
def flashReset (_ : Nat) : Byte := 0xFF
/-- Where bank b of port p begins in the model's flash (R343). -/
def bankBase (b p : Nat) : Nat := 0x1000000 * p + 0x800000 * b
/-- Bytes of the copy in bank b of port p. -/
def imgBytes (s : State) (b p o n : Nat) : List Byte := tgetList flashReset s.cfg.flash (bankBase b p + o) n
/-- A little-endian number of the copy. -/
def imgNum (s : State) (b p o n : Nat) : Nat := leNat (imgBytes s b p o n)
/-- LEN of the copy's header. -/
def imgLen (s : State) (b p : Nat) : Nat := imgNum s b p 0x0C 4
/-- SEQ of the copy's header. -/
def imgSeq (s : State) (b p : Nat) : Nat := imgNum s b p 0x08 4
/-- Step 1 of R347: MAGIC, FVER and LEN; LEN covers at least the header. -/
def sane (s : State) (b p : Nat) : Bool :=
  let n := imgLen s b p
  imgNum s b p 0 4 == 0x4E595747 && imgNum s b p 4 2 == 1 && decide (0x40 ≤ n) && decide (n ≤ 0x7FFFC0) && n % 4 == 0
/-- A row of the section table (R345). -/
structure Sec where
  typ : Nat
  arg : Nat
  ofs : Nat
  len : Nat
  dest : Nat
  deriving DecidableEq, Repr
/-- NSEC and STOFS of the copy. -/
def imgNsec (s : State) (b p : Nat) : Nat := imgNum s b p 0x18 2
def imgStofs (s : State) (b p : Nat) : Nat := imgNum s b p 0x1C 4
/-- The section table, at most 64 rows. -/
def imgSecs (s : State) (b p : Nat) : List Sec :=
  (List.range (min (imgNsec s b p) 64)).map fun i =>
    let o := imgStofs s b p + 16 * i
    ⟨imgNum s b p o 2, imgNum s b p (o + 2) 2, imgNum s b p (o + 4) 4, imgNum s b p (o + 8) 4, imgNum s b p (o + 12) 4⟩
/-- The sections of a type. -/
def secsOf (s : State) (b p typ : Nat) : List Sec := (imgSecs s b p).filter fun x => x.typ == typ
/-- The bytes of a section. -/
def secBytes (s : State) (b p : Nat) (x : Sec) : List Byte := imgBytes s b p x.ofs x.len
/-- The bytes of the section of a type and ARG, empty without one. -/
def secArg (s : State) (b p typ arg : Nat) : List Byte :=
  match (secsOf s b p typ).find? fun x => x.arg == arg with
  | some x => secBytes s b p x
  | none => []
/-- The pairs of the REG section. -/
def regPairs (s : State) (b p : Nat) : List (Nat × Word) :=
  (secsOf s b p 2).flatMap fun x => (List.range (x.len / 8)).map fun i =>
    (imgNum s b p (x.ofs + 8 * i) 4, BitVec.ofNat 32 (imgNum s b p (x.ofs + 8 * i + 4) 4))

/-- The IMG fields of a register written by a pair of the REG section (R346). -/
def placeReg (o : Nat) (v : Word) (s : State) : State :=
  let m := imgMask o
  if m = 0 then s else s.setReg o ((s.reg o &&& ~~~m) ||| (v &&& m))
/-- The torque-monitor blocks of the safety section, in safety-island SRAM (R221). -/
def placeBlocks (sec : List Byte) (s : State) : State :=
  let put := fun (a : Nat) (t : Tbl Byte) =>
    upto (fun i t => tsetList (fun _ => 0) t (1024 * a + 4 * i) (leBytes 4 (Config.tmBlock sec a (4 * i)).toNat)) 256 t
  s.setSaf { s.saf with blocks := each (fun a t => if rd s (F.SAF_AX_TMCFG_MODE a) = 0 then t else put a t) (List.range s.nAxes) [] }
/-- The sections placed (R346, R372): registers, IMG fields that no pair names at 0, memories, the safety section with the sag policies it holds, also
of an axis that the part does not have, which R5 refuses, and what the units take later. -/
def placeWith (pol : Nat → BitVec 2) (b p : Nat) (s : State) : State :=
  let s := each (fun (q : Nat × Word) s => s.setReg q.1 (q.2 &&& ~~~imgMask q.1)) s.regs s
  let s := each (fun (q : Nat × Word) s => placeReg q.1 q.2 s) (regPairs s b p) s
  let s := each (fun (x : Sec) s => wrBytes x.dest (secBytes s b p x) s) (secsOf s b p 3) s
  let s := each (fun (x : Sec) s => wrBytes (leBase x.arg + x.dest) (secBytes s b p x) s) (secsOf s b p 4) s
  let safety := secArg s b p 5 0
  let s := each (fun a s => wr (F.PWR_SAGPOL_POL a) (pol a).toNat s) (List.range 32) s
  let s := placeBlocks safety s
  let start := secArg s b p 11 0
  let s := s.setBst { s.bst with entry0 := BitVec.ofNat 32 (field start 0 4), entry1 := BitVec.ofNat 32 (field start 4 4) }
  let seq : Word := BitVec.ofNat 32 (imgSeq s b p)
  let tbl := fun (typ n : Nat) => upto (fun i t => tset (fun _ => ([] : List Byte)) t i (secArg s b p typ i)) n []
  s.setCfg { s.cfg with
    safety := safety, cal := secArg s b p 6 0, ident := secArg s b p 7 0, gdrv := tbl 8 8, phy := tbl 10 2,
    slots := upto (fun r t => if (secsOf s b p 9).any (fun x => x.arg == r) then
      tset (fun _ => ([] : List Config.Slot)) t r ((Config.slotTable (secArg s b p 9 r)).take 64) else t) 2 [],
    tel := upto (fun k t => if isSet s (F.ETH_TEL_CFG_EN k) then tset (fun _ => ([] : List Word)) t k
      ((List.range (rd s (F.ETH_TEL_CFG_NSIGM1 k) + 1)).map fun i => Config.telSignal seq k i) else t) 32 [] }
/-- The sections placed, with the sag policies of the safety section (assumption 11). -/
def place (b p : Nat) (s : State) : State := placeWith (Config.sagPol (secArg s b p 5 0)) b p s

/-! ### Verification (R347, R349, R350) -/

/-- Two ranges of addresses overlap. -/
def overlap (a n b m : Nat) : Bool := decide (a < b + m) && decide (b < a + n)
/-- No two ranges of a list overlap. -/
def apart : List (Nat × Nat) → Bool
  | [] => true
  | (a, n) :: l => (l.all fun (q : Nat × Nat) => !overlap a n q.1 q.2) && apart l
/-- ARG of a section type is in its range (Table 13.2). -/
def argOk (x : Sec) : Bool :=
  match x.typ with
  | 1 | 2 | 3 | 5 | 6 | 7 | 11 => x.arg == 0
  | 4 | 8 => decide (x.arg < 8)
  | 9 | 10 => decide (x.arg < 2)
  | _ => false
/-- The counts of Table 13.2. -/
def countsOk (l : List Sec) : Bool :=
  let n := fun (t : Nat) => (l.filter fun x => x.typ == t).length
  let per := fun (t a : Nat) => (l.filter fun x => x.typ == t && x.arg == a).length
  n 1 == 1 && n 2 == 1 && decide (1 ≤ n 3) && decide (n 3 ≤ 32) && n 5 == 1 && decide (n 6 ≤ 1) && decide (n 7 ≤ 1) && n 11 == 1 &&
  (List.range 8).all (fun t => decide (per 4 t ≤ 8) && decide (per 8 t ≤ 1)) && (List.range 2).all fun r => decide (per 9 r ≤ 1) && decide (per 10 r ≤ 1)
/-- An address lies in an APP section and is 2-byte aligned. -/
def entryOk (l : List Sec) (v : Nat) : Bool := v % 2 == 0 && l.any fun x => x.typ == 3 && decide (x.dest ≤ v) && decide (v < x.dest + x.len)
/-- The format checks of Table 13.5; they name no index. -/
def checksFormat (s : State) (b p : Nat) : Fail :=
  let l := imgSecs s b p
  let len := imgLen s b p
  let st := imgStofs s b p
  let n := imgNsec s b p
  let app := l.filter fun x => x.typ == 3
  let start := secArg s b p 11 0
  let saf := secArg s b p 5 0
  firstOf [
    chk 1 [0] fun _ => imgNum s b p 6 2 == 0 && imgNum s b p 0x1A 2 == 0 && (imgBytes s b p 0x20 32).all (· == 0),
    chk 2 [0] fun _ => st % 4 == 0 && decide (0x40 ≤ st) && decide (1 ≤ n) && decide (n ≤ 64) && decide (st + 16 * n ≤ len),
    chk 3 [0] fun _ => l.all (fun x => x.ofs % 4 == 0 && x.len % 4 == 0 && decide (st + 16 * n ≤ x.ofs) && decide (x.ofs + x.len ≤ len)) &&
      apart (l.map fun x => (x.ofs, x.len)),
    chk 4 [0] fun _ => l.all (fun x => argOk x && imp (x.typ == 1) (x.len == 64) && imp (x.typ == 11) (x.len == 8)) && countsOk l,
    chk 5 [0] fun _ => app.all (fun x => decide (0x10000000 ≤ x.dest) && decide (x.dest + x.len ≤ 0x10600000)) &&
      apart (app.map fun x => (x.dest, x.len)) && l.all fun x => imp (x.typ == 4) (decide (x.arg < s.nTeams) && decide (x.dest + x.len ≤ 0x30000)),
    chk 6 [0] fun _ => (l.all fun x => imp (x.typ == 2) (x.len % 8 == 0)) && (regPairs s b p).all fun (q : Nat × Word) =>
      q.1 % 4 == 0 && imgMask q.1 != 0 && (q.2 &&& ~~~imgMask q.1) == 0,
    chk 7 [0] fun _ => entryOk l (field start 0 4) && (field start 4 4 == 0 || entryOk l (field start 4 4)),
    chk 8 [0] fun _ => decide (4 ≤ saf.length) && crc32 (saf.take (saf.length - 4)) == field saf (saf.length - 4) 4]
/-- The load checks of the chapters, in the order of their REASON codes, on the placed image. -/
def checksLoad (s : State) (apps : List (Nat × Nat)) : Option (Nat × Nat × Nat) :=
  let r := fun (n : Nat) (f : Fail) => f.map fun q => (n, q)
  [r 8 (checksTiming s), r 9 (checksSense s), r 10 (checksPosition s), r 11 (checksLoop s), r 12 (checksMod s), r 13 (checksSafety s),
    r 14 (checksGroup s), r 15 (checksCore s apps), r 16 (checksNet s), r 17 (checksBus s), r 18 (checksIdent s)].findSome? id
/-- Steps 1 to 4 of R347, a read error counting between the header and the CRC (Table 13.4): the reason of the first that fails. -/
def verifyKeys (s : State) (b p : Nat) (err : Bool) : Option Nat :=
  let len := imgLen s b p
  let key := match secsOf s b p 1 with
    | x :: _ => secBytes s b p x
    | [] => []
  let body := imgBytes s b p 0 len
  if !sane s b p then some 1
  else if err then some 2
  else if crc32 (body.drop 0x18) ≠ imgNum s b p 0x14 4 then some 3
  else if sha256 key ≠ s.bst.se.keyHash then some 4
  else if !ecdsaOk key (sha256 body) (imgBytes s b p len 64) then some 5
  else none
/-- Step 5 of R347: part code, silicon revision, resources, with CHECK and INDEX (R349). -/
def verifyPart (s t : State) (b p : Nat) : Fail :=
  let part := imgNum s b p 0x10 2
  let min := imgNum s b p 0x12 1
  let args := fun (typ : Nat) => (secsOf s b p typ).map fun x => x.arg
  if part ≠ s.dev.part.code then some (1, part)
  else if s.dev.rev.toNat < min then some (3, 256 * s.dev.rev.toNat + min)
  else checkRes t (regPairs s b p) (args 4) (args 8)
/-- The verification of a copy (R347): REASON, CHECK and INDEX, and the state with the image placed. -/
def verifyLoad (b p : Nat) (err : Bool) (s : State) : (Nat × Nat × Nat) × State :=
  match verifyKeys s b p err with
  | some r => ((r, 0, 0), s)
  | none =>
    let t := place b p s
    let apps := (secsOf s b p 3).map fun x => (x.dest, x.len)
    match verifyPart s t b p, checksFormat s b p, checksLoad t apps with
    | some q, _, _ => ((6, q), s)
    | none, some q, _ => ((7, q), s)
    | none, none, some q => (q, s)
    | none, none, none => ((0, 0, 0), t)

/-! ### Bank choice (R348) -/

/-- newer(a, b) of R348. -/
def newer (a b : Nat) : Bool := a != b && decide ((a + 2 ^ 32 - b) % 2 ^ 32 < 2 ^ 31)
/-- SEQ of the header that orders bank b. -/
def hdrSeq (s : State) (p1 : Bool) (b : Nat) : Option Nat :=
  if sane s b 0 then some (imgSeq s b 0) else if p1 && sane s b 1 then some (imgSeq s b 1) else none
/-- The order of the banks. -/
def bankOrder (a b : Option Nat) : List Nat :=
  match a, b with
  | none, _ => [1, 0]
  | some _, none => [0, 1]
  | some x, some y => if newer y x then [1, 0] else [0, 1]
/-- The copies in the order in which they are tried: bank and port. -/
def copyOrder (s : State) (p1 : Bool) : List (Nat × Nat) :=
  (bankOrder (hdrSeq s p1 0) (hdrSeq s p1 1)).flatMap fun b => if p1 then [(b, 0), (b, 1)] else [(b, 0)]
/-- The outcome of a copy reported for its bank (R349). -/
def showRes (b : Nat) (q : Nat × Nat × Nat) (s : State) : State :=
  if b = 0 then wr F.CFG_BANKA_RES_REASON q.1 (wr F.CFG_BANKA_RES_CHECK q.2.1 (wr F.CFG_BANKA_RES_INDEX q.2.2 s))
  else wr F.CFG_BANKB_RES_REASON q.1 (wr F.CFG_BANKB_RES_CHECK q.2.1 (wr F.CFG_BANKB_RES_INDEX q.2.2 s))
/-- The copies tried in turn (R348): the bank and port of the one that loads, if any. Each refusal is logged as it comes, before the next copy
is read. -/
def tryCopies (errs : List Nat) : List (Nat × Nat) → State → State × Option (Nat × Nat)
  | [], s => (s, none)
  | (b, p) :: l, s =>
    match verifyLoad b p (errs.contains (b + 2 * p)) s with
    | ((0, _), t) => (showRes b (0, 0, 0) t, some (b, p))
    | (q, _) =>
      tryCopies errs l (flushLog (logFault 0x0B01 (b + 2 * p) 1 (q.1 + 256 * (q.2.1 % 256) + 65536 * (q.2.2 % 65536)) (showRes b q s)))

/-- The static figures reported (R41 to R43, R115, R140, R203). -/
def showFigures (s : State) : State :=
  let s := each (fun t s => wr (F.LE_TEAM_LAT_LAT t) (teamL s t) s |> wr (F.LE_TEAM_DLY_D t) (teamD s t) |> wr (F.LE_TEAM_COST_K t) (teamCost s t)
    |> wr (F.STR_TEAM_CMT_CPHASE t) (teamC s t) |> wr (F.STR_TEAM_UPD_UPHASE t) (teamU s t)) (usedTeams s) s
  wr F.SAF_SMCBUD_COST (smcCost s) s
/-- An axis takes a commutation offset from its identity record or its parameter block (R171, R173). -/
def usesOfs (s : State) (a src : Nat) : Bool := isMach (axType s a) && isSet s (F.LE_AX_CFG_POSEN a) && (prm s a 0x8EC).toNat == src
/-- The configured offset of an axis put in force. -/
def configOfs (a : Nat) (o : Word) (s : State) : State :=
  wrW (F.LE_AX_COMM_OFS a) o (wr (F.LE_AX_STATE_OFSVALID a) 1 (modAx a (fun x => { x with cfgOfs := some o }) s))
/-- The end of LOAD with an image (R346, R348): what is reported, and entry into IDENTIFY. -/
def loaded (b p : Nat) (s : State) : State :=
  let s := wr F.CFG_STAT_LOADED 1 s |> wr F.CFG_STAT_BANK b |> wr F.CFG_STAT_PORT p |> wr F.CFG_SEQ_SEQ (imgSeq s b p) |> wr F.CFG_LEN_LEN (imgLen s b p)
  let s := if p = 1 then logFault 0x0B03 b 1 0 s else s
  let s := showFigures s
  let s := upto (fun g s => wr (F.SNS_DCL_STAT_NCH g) (roleChans s 3 g).length s) 4 s
  let s := each (fun a s => if usesOfs s a 1 then configOfs a (prm s a 0x8F0) s else s) (axesUsed s) s
  let s := upto (fun k s => if k < identCount s then wr (F.IDM_REC_STAT_USED k) 1 s else s) 64 s
  let s := each (fun t s => if isSet s (F.MOD_DSPI_CFG_EN t) ∧ Config.gdrvCount (tget (fun _ => []) s.cfg.gdrv t) = 0 then wr (F.MOD_DSPI_STAT_DONE t) 1 s else s)
    (List.range s.nTeams) s
  setSt .identify s
/-- The end of LOAD without an image (R34, R37, R348). -/
def noImage (s : State) : State := setSt .armed (plainTimebase (logFault 0x0B02 0 1 0 (wr F.CFG_STAT_NOIMAGE 1 s)))
/-- PROTO and CLK of the fastest declared mode (R343): a transfer on both edges counts twice, and of two equally fast modes the spec prefers
none, so that `dbl` is free. Without a declared mode the port stays as it started. -/
def xspiMode (m : BitVec 6) (dbl : Bool) : Nat × Nat :=
  let has := fun (i : Nat) => m.getLsbD i
  if has 5 then (2, 2)
  else if has 4 && (dbl || !has 2) then (2, 1) else if has 2 then (1, 2)
  else if has 3 && (dbl || !has 1) then (2, 0) else if has 1 then (1, 1)
  else if has 0 then (1, 0) else (0, 0)
/-- What LOAD shows before it tries a copy (R343, R348): the mode of XSPI0, whether port 1 is present, the time, and the sequence numbers of the headers. -/
def loadShown (r : LoadResult) (s : State) : State :=
  let (v, s) := draw 1 s
  let q := xspiMode r.modes (v == 1)
  let s := wrB F.CFG_XSPI_P1PRES r.p1 s |> wr F.CFG_XSPI_PROTO q.1 |> wr F.CFG_XSPI_CLK q.2 |> wr F.CFG_STAT_LOADT r.dur.toNat
  wr F.CFG_BANKA_SEQ_SEQ ((hdrSeq s r.p1 0).getD 0) s |> wr F.CFG_BANKB_SEQ_SEQ ((hdrSeq s r.p1 1).getD 0)
/-- The copies tried in order: the state that is left, and the bank and port of the one that loads. -/
def loadTried (r : LoadResult) (s : State) : State × Option (Nat × Nat) := tryCopies r.readErr (copyOrder s r.p1) (loadShown r s)
/-- LOAD_COMPLETE (R343, R348). An uncorrectable error of the boot ROM, from which the loader runs, is of class DV (Table 1.5, R401). -/
def execLoadComplete (r : LoadResult) (s : State) : Host.Outcome State Fault Refusal :=
  if s.dev.st ≠ .load then unmet s else
  match r.romErr with
  | some o => done (dvFault 0x0F03 28 o.toNat s)
  | none =>
  match loadTried r s with
  | (s, some (b, p)) => done (loaded b p s)
  | (s, none) => done (noImage s)

/-! ### Identity memories (R355 to R360) -/

/-- The bytes of record k as read. -/
def recBytes (s : State) (k : Nat) : List Byte := (List.range 64).flatMap fun i => leBytes 4 (rd s (F.IDM_REC_DATA_DATA k i))
/-- The record's own CRC is right. -/
def recCrc (r : List Byte) : Bool := crc32 (r.take 0xFC) == field r 0xFC 4
/-- The uses of record k by its class hold (Table 13.8). -/
def recUses (s : State) (k : Nat) (r : List Byte) : Bool :=
  let as := bitsOf (identMask s k) 32
  let n := field (identEntry s k) 0x24 1
  let cal := fun (o w : Nat) => field r (0x3C + o) w
  match field r 4 2 with
  | 1 => as.all fun a => (axLegs s a).all fun l => decide (cal 0x0C 4 ≤ rd s (F.MOD_LEG_CFG_DT l))
  | 3 => as.all fun a => cal 0 1 == rd s (F.LE_AX_MOTOR_POLEP a) && (match axType s a with
    | 1 => cal 1 1 == 1
    | 2 => cal 1 1 == 2
    | 6 => cal 1 1 == 4
    | _ => true)
  | 4 => cal 0 1 == rd s (F.POS_IF_CFG_MODE n) && cal 4 4 == rd s (F.POS_IF_CPR_CPR n) &&
    imp (cal 0 1 == 4) (cal 2 1 == rd s (F.POS_IF_RES1_RPOLE n) && cal 3 1 == rd s (F.POS_IF_RES1_RESBITS n))
  | _ => true
/-- RSN of a record that answered (R359, Table 13.10). -/
def recJudge (s : State) (k : Nat) (r : List Byte) : Nat :=
  let e := identEntry s k
  let m := field e 2 1
  if field r 0 4 ≠ 0x3152494D then 3
  else if !recCrc r ∨ 192 < field r 0x30 2 then 4
  else if field r 4 2 ≠ field e 4 2 then 5
  else if m ≤ 1 ∧ field r 6 2 ≠ field e 6 2 then 6
  else if m = 0 ∧ (r.drop 8).take 24 ≠ (e.drop 8).take 24 then 7
  else if !recUses s k r then 8
  else 1
/-- A read of record k stored and judged: none did not answer. -/
def recRead (k : Nat) (answer : Option (List Byte)) (s : State) : State :=
  let r := (answer.getD []).take 256
  let s := upto (fun i s => wr (F.IDM_REC_DATA_DATA k i) (field r (4 * i) 4) s) 64 s
  let rsn := match answer with
    | some r => recJudge s k r
    | none => 2
  wr (F.IDM_REC_STAT_RSN k) rsn (wr (F.IDM_REC_STAT_CLASS k) (field r 4 2) s)
/-- A record that does not pass, once that is final (R360): its axes are disabled, the failure is logged. -/
def recFail (k : Nat) (s : State) : State :=
  let as := bitsOf (identMask s k) 32
  let e := identEntry s k
  let s := axFault false 0x0B04 k (rd s (F.IDM_REC_STAT_RSN k) + 16 * field e 0 1 + 256 * field e 1 1) 7 as s
  each (fun a s => setLock a 1 s) as s
/-- Record k may be read once more: it did not answer or failed its CRC (R355). -/
def mayReread (s : State) (k : Nat) : Bool :=
  !isSet s (F.IDM_REC_STAT_REREAD k) && (rd s (F.IDM_REC_STAT_RSN k) == 2 || (decide (3 ≤ rd s (F.IDM_REC_STAT_RSN k)) && !recCrc (recBytes s k)))
/-- The first `n` entries on a bus have been read. -/
def busRead (s : State) (bus n : Nat) : Bool :=
  (List.range n).all fun j => imp (field (identEntry s j) 0 1 == bus) (rd s (F.IDM_REC_STAT_RSN j) != 0)
/-- A record of a bus in fast mode that takes longer than 6.0 ms counts as no answer (R355, R417; assumption 143). -/
def recLate (s : State) (bus : Nat) (t : ReadTime) : Bool := isSet s (F.IDM_BUS_CFG_FAST bus) && decide (6000 < t.endUs - t.startUs)
/-- IDENTITY_READ (R355, R359, R360, R417): the read of record k over a time after entry into IDENTIFY. -/
def execIdentityRead (k : Fin 64) (answer : Option (List Byte)) (t : ReadTime) (s : State) : Host.Outcome State Fault Refusal :=
  let k := k.val
  let bus := field (identEntry s k) 0 1
  let at_ := tget (fun _ => 0) s.cfg.busEnd bus
  let go := fun (s : State) => recRead k (if recLate s bus t then none else answer)
    (s.setCfg { s.cfg with busEnd := tset (fun _ => 0) s.cfg.busEnd bus t.endUs })
  if s.dev.st ≠ .identify ∨ ¬ k < identCount s ∨ t.startUs < at_ ∨ t.endUs < t.startUs then unmet s
  else if rd s (F.IDM_REC_STAT_RSN k) = 0 then
    if busRead s bus k then
      let s := go s
      done (if rd s (F.IDM_REC_STAT_RSN k) = 1 ∨ mayReread s k then s else recFail k s)
    else unmet s
  else if mayReread s k ∧ busRead s bus (identCount s) ∧ t.endUs ≤ 50000 then
    let s := wr (F.IDM_REC_STAT_REREAD k) 1 (go s)
    if rd s (F.IDM_REC_STAT_RSN k) = 1 then done (logFault 0x0B05 k 0 1 s) else done (recFail k (logFault 0x0B05 k 0 2 s))
  else unmet s

/-! ### Gate-driver configuration (R166) -/

/-- The chain positions whose read-back fails: all of them for a frame of ones or zeros. -/
def dspiBad (s : State) (t : Nat) (want mask got : List Word) : List Nat :=
  let n := rd s (F.MOD_DSPI_CFG_CHAIN t)
  let ones := 2 ^ (rd s (F.MOD_DSPI_CFG_WBITS t) + 1) - 1
  let w := fun (l : List Word) (i : Nat) => l.getD i 0
  if (List.range n).all (fun i => (w got i).toNat == 0) || (List.range n).all (fun i => (w got i).toNat == ones) then List.range n
  else (List.range n).filter fun i => (w got i &&& w mask i) != (w want i &&& w mask i)
/-- A third mismatch: FAIL, FIDX, fault 0x0507, and the axes of the failed positions disabled. -/
def dspiFail (t idx : Nat) (bad : List Nat) (s : State) : State :=
  let sec := tget (fun _ => []) s.cfg.gdrv t
  let as := nub (bad.flatMap fun i => (legAxis s (12 * t + Config.gdrvLeg sec i)).toList)
  let s := wr (F.MOD_DSPI_STAT_FAIL t) 1 (wr (F.MOD_DSPI_STAT_FIDX t) idx s)
  each (fun a s => setLock a 3 s) as (axFaultAll false 0x0507 t idx 7 as s)
/-- The list goes on behind transaction `idx`. -/
def dspiNext (t idx : Nat) (s : State) : State :=
  let s := modTeam t (fun x => { x with dspiIdx := idx + 1, dspiTry := 0 }) s
  if Config.gdrvCount (tget (fun _ => []) s.cfg.gdrv t) ≤ idx + 1 then wr (F.MOD_DSPI_STAT_DONE t) 1 s else s
/-- DSPI_TRANSACTION (R166). -/
def execDspiTransaction (t : TeamNo) (readback : List Word) (s : State) : Host.Outcome State Fault Refusal :=
  let t := t.val
  let idx := (s.team t).dspiIdx
  if s.dev.st ≠ .identify ∨ ¬ isSet s (F.MOD_DSPI_CFG_EN t) ∨ isSet s (F.MOD_DSPI_STAT_DONE t) then unmet s else
  match Config.gdrvRead (tget (fun _ => []) s.cfg.gdrv t) idx with
  | none => done (dspiNext t idx s)
  | some (want, mask) =>
    let bad := dspiBad s t want mask readback
    if bad.isEmpty then done (dspiNext t idx s)
    else if (s.team t).dspiTry < 2 then
      done (bumpSat (F.MOD_DSPI_STAT_RETRY t) (modTeam t (fun x => { x with dspiTry := x.dspiTry + 1 }) s))
    else done (dspiNext t idx (dspiFail t idx bad s))

/-! ### The end of IDENTIFY and of SYNC -/

/-- Where calibration entry i stands in a record of a class (Table 13.8). -/
def calOfs (cls i : Nat) : Nat := 0x3C + (match cls with
  | 1 => 0x40 + 8 * i
  | 2 => 0x08 + 8 * i
  | _ => 0x10 + 8 * i)
/-- The calibration of channel n at the end of IDENTIFY (R69, R360). -/
def calChan (n : Nat) (s : State) : State :=
  let (fs, ofs, k, i) := calEntry s n
  if isSet s (F.SNS_CH_CFG_CALSRC n) then applyCal n (BitVec.ofNat 32 fs) (sext 32 ofs) s
  else if rd s (F.IDM_REC_STAT_RSN k) = 1 then
    let r := recBytes s k
    let o := calOfs (field r 4 2) i
    applyCal n (BitVec.ofNat 32 (field r o 4)) (sext 32 (field r (o + 4) 4)) s
  else each (fun a s => setLock a 2 s) (chanAxes s n) (modChan n (fun c => { c with uncal := true }) s)
/-- The commutation offset of an axis with OFSSRC 0 from its motor's record (R173, R360). -/
def recOfs (a : Nat) (s : State) : State :=
  let own := (List.range (identCount s)).find? fun k => field (identEntry s k) 4 2 == 3 && bit (identMask s k) a
  match own with
  | some k => if usesOfs s a 0 ∧ rd s (F.IDM_REC_STAT_RSN k) = 1 then configOfs a (BitVec.ofNat 32 (field (recBytes s k) (0x3C + 4) 4)) s else s
  | none => s
/-- The stride timebase starts at entry into SYNC (R37). -/
def startTimebase (s : State) : State :=
  modDev (fun d => { d with started := true, running := false, plain := false, count := 0, phase := 0, good := 0, noSync := 0, syncStrides := 0, hopSeen := false }) s
/-- IDENTIFY_COMPLETE (R69, R286, R300, R355, R360): every record has been read, every gate-driver list is complete, MDIO has run the lists of the
ports in use, and the ring ports start training. -/
def execIdentifyComplete (s : State) : Host.Outcome State Fault Refusal :=
  let ks := List.range (identCount s)
  let dspi := (List.range s.nTeams).all fun t => imp (isSet s (F.MOD_DSPI_CFG_EN t)) (isSet s (F.MOD_DSPI_STAT_DONE t))
  if s.dev.st ≠ .identify ∨ ¬ dspi ∨ ¬ ks.all (fun k => rd s (F.IDM_REC_STAT_RSN k) != 0) then unmet s else
  let s := each (fun k s => if mayReread s k then recFail k s else s) ks s
  let s := each calChan (usedChans s) s
  let s := each recOfs (axesUsed s) s
  let s := s.setNet { s.net with
    mdio := upto (fun p t => if isSet s (F.ETH_P_CFG_EN p) then tset (fun _ => []) t p (tget (fun _ => []) s.cfg.phy p) else t) 2 s.net.mdio }
  let s := setSt .sync (startTimebase s)
  done (if ringRuns s then each trainStart [0, 1] s else s)

/-- The hop delay of a spanned axis at the end of SYNC (R140). -/
def spanHop (a : Nat) (s : State) : State :=
  let d := if axType s a = 6 then rd s F.STR_HOPB_HOP else rd s F.STR_HOPA_HOP
  if (axType s a = 6 ∨ axType s a = 7) ∧ 2560 < d then axFault false 0x0406 a d 7 [a] (wr (F.LE_AX_FLT_SPANHOP a) 1 s) else s
/-- The device number against the group's for the own rank (R225). -/
def groupPosition (g : Nat) (s : State) : State :=
  if isSet s (F.GRP_G_CFG_EN g) ∧ grpDev s g (grpRank s g) ≠ s.devNum then
    axFault false 0x070F g s.devNum 7 ((grpSlots s g).map Prod.snd) (wr (F.GRP_G_FLT_POSITION g) 1 (modGroup g (fun x => { x with off := true }) s))
  else s
/-- Entry into ARMED under an image (R34, R180, R321, R360); the first half period of a resolver begins with no result (R90, R91). The
observer's grid starts here, and where the last mark lies on it is free (R94; assumption 149). -/
def enterArmed (s : State) : State :=
  let (v, s) := draw 14 s
  let s := setSt .armed (modDev (fun d => { d with grid := v.toNat % 12800, wasArmed := true }) s)
  let s := upto (fun n => modIfc n fun x => { x with sinRes := [], cosRes := [], halves := 0 }) 16 s
  let s := each (fun a s => if s.lock a = 0 then wr (F.LE_AX_STATE_STATE a) 0 s else toLocked a (s.lock a) s) (axesUsed s) s
  let s := each spanHop (axesUsed s) s
  busStart (upto groupPosition 4 s)
/-- The device is aligned (R34, R54, R56, R286). -/
def syncReady (s : State) : Bool :=
  !ringOn s ||
  ((decide (16 ≤ s.dev.good) || (isSet s F.STR_SYNCSTAT_SOURCE && isSet s F.STR_SYNCSTAT_SYNCED)) &&
    imp (isSet s F.RNG_ENUM_VALIDA || isSet s F.RNG_ENUM_VALIDB) (isSet s F.RNG_ENUM_MATCH))
/-- SYNC_ALIGNED (R34, R54). -/
def execSyncAligned (s : State) : Host.Outcome State Fault Refusal :=
  if s.dev.st = .sync ∧ syncReady s then done (enterArmed s) else unmet s

/-! ### The end of an NVM operation (R351, R352) -/

/-- The ports an operation writes. -/
def nvmPorts (s : State) : List Nat := if isSet s F.CFG_XSPI_P1PRES then [0, 1] else [0]
/-- The state with flash bytes written. -/
def wrFlash (a : Nat) (bs : List Byte) (s : State) : State := s.setCfg { s.cfg with flash := tsetList flashReset s.cfg.flash a bs }
/-- The bytes that an operation leaves when it ends well. -/
def nvmBytes (op : NvmOp) : List Byte := if op.mop = 1 then List.replicate op.len 0xFF else op.data
/-- Bytes of a unit of REMAIN: a 64 KB block, or a word. -/
def nvmUnit (op : NvmOp) : Nat := if op.mop = 1 then 0x10000 else 4
/-- The blocks or words still to do on the ports written, at a unit of a port (R351, Table 13.14; assumption 54). -/
def nvmLeft (s : State) (op : NvmOp) (port : Bool) (unit : Nat) : Nat :=
  (op.len / nvmUnit op) * ((nvmPorts s).length - b2n port) - unit
/-- The operation's fault and status: FCODE, and the offset of the failing unit. -/
def nvmFail (op : NvmOp) (fcode at_ : Nat) (s : State) : State :=
  let s := wr F.CFG_NVM_BUSY 0 s |> wr F.CFG_NVM_FAIL 1 |> wr F.CFG_NVM_FCODE fcode
  logFault 0x0B06 op.mop 1 (fcode % 256 + 256 * at_) (s.setCfg { s.cfg with op := none })
/-- The verification of a header write (R347 steps 1 to 5) on every port written. -/
def nvmVerified (b : Nat) (s : State) : Bool :=
  (nvmPorts s).all fun p => (verifyKeys s b p false).isNone && (verifyPart s (place b p s) b p).isNone
/-- The failures an operation can meet while it writes (R351, Table 13.14): an xSPI error, a readback mismatch of a program, a block not erased. A
header that does not verify shows when it has been written. -/
def nvmFcode (op : NvmOp) (f : Nat) : Bool := f == 1 || (op.mop == 2 && f == 2) || (op.mop == 1 && f == 3)
/-- A unit of an operation on a port that it writes (R351). -/
def nvmHas (s : State) (op : NvmOp) (port : Bool) (unit : Nat) : Bool :=
  decide (unit < op.len / nvmUnit op) && (nvmPorts s).contains (b2n port)
/-- The first n bytes of an operation written on a port. -/
def nvmPut (op : NvmOp) (p n : Nat) (s : State) : State := wrFlash (bankBase op.bank p + op.ofs) ((nvmBytes op).take n) s
/-- The whole operation written on every port in use (R351). -/
def nvmWritten (op : NvmOp) (s : State) : State := each (fun p s => nvmPut op p op.len s) (nvmPorts s) s
/-- NVM_OP_COMPLETE (R351): a failure leaves the units before it done, and at it the bytes held. VERIFIED tells of the last header write
(Table 13.14). -/
def execNvmOpComplete (res : NvmEnd) (s : State) : Host.Outcome State Fault Refusal :=
  match s.cfg.op with
  | none => unmet s
  | some op =>
    match res with
    | .done =>
      let s := nvmWritten op s
      if op.mop = 3 ∧ ¬ nvmVerified op.bank s then done (nvmFail op 5 0 (wr F.CFG_NVM_REMAIN 0 s))
      else
        let s := wr F.CFG_NVM_BUSY 0 s |> wr F.CFG_NVM_DONE 1 |> wr F.CFG_NVM_REMAIN 0
        let s := if op.mop = 3 then wr F.CFG_NVM_VERIFIED 1 s else s
        done (s.setCfg { s.cfg with op := none })
    | .fail fcode unit port held =>
      let u := nvmUnit op
      if ¬ nvmFcode op fcode.toNat ∨ ¬ nvmHas s op port unit ∨ rd s F.CFG_NVM_REMAIN < nvmLeft s op port unit then unmet s else
      let s := if port then nvmPut op 0 op.len s else s
      let s := nvmPut op (b2n port) (u * unit) s
      let s := wrFlash (bankBase op.bank (b2n port) + op.ofs + u * unit) ((held.take (if op.mop = 3 then op.len else u)).take (op.len - u * unit)) s
      done (nvmFail op fcode.toNat (if op.mop = 1 then op.ofs / 65536 + unit else op.ofs + 4 * unit) (wr F.CFG_NVM_REMAIN (nvmLeft s op port unit) s))

end Sys2Proof.Machine
end

