-- ==== Sys2Proof/Machine/Power.lean ====
section
/-! DEFINITION. Supplies, state store, wellhead, sleep and reset (R266, R267, R368 to R391, R407): every way into and out of the device's
states but those of LOAD to ARMED. -/
namespace Sys2Proof.Machine
open Sys2Proof

/-- The number of a device state, in the order of R34, then RECOVERY, SAVE, PARKED, SLEEP (Table 14.1). -/
def DState.code : DState → Nat
  | .powerup => 0
  | .selftest => 1
  | .load => 2
  | .identify => 3
  | .sync => 4
  | .armed => 5
  | .service => 6
  | .recovery => 7
  | .save => 8
  | .parked => 9
  | .sleep => 10
/-- RSTOUT_N (R370): high from the entry into LOAD, which follows the taking of the record, and so low in a SAVE entered from SELFTEST. -/
def rstoutN (s : State) : Bool :=
  !held s && (match s.dev.st with
    | .powerup | .selftest | .parked | .sleep => false
    | .save => s.pwr.taken
    | _ => true)
/-- The bank of rail r (0 VCORE, 1 VSRD, 2 VIO33, 3 VIOP, 4 VIO18, 5 VSAFE) is unpowered: its rail is below its monitor or absent (R30, R410;
assumption 144). -/
def bankDown (s : State) (r : Nat) : Bool := s.pwr.lowRails.getLsbD r || s.dev.dead
/-- GHIn and GLOn are undriven (R30, Table 16.8): VIOP below its monitor threshold or removed. -/
def gatesUndriven (s : State) : Bool := bankDown s 3

/-! ### State records (R376 to R382) -/

/-- Where bank b of the MRAM begins in the application-core map (R376). -/
def mramBase (b : Nat) : Nat := 0x50000000 + 0x40000 * b
/-- The record in bank b. -/
def mramRec (s : State) (b : Nat) : List Byte := rdBytes s (mramBase b) 4096
/-- The record's MAGIC is "GWST". -/
def recMagic (r : List Byte) : Bool := field r 0 4 == 0x54535747
/-- The record's CRC is right (Table 14.1). -/
def recCrcOk (r : List Byte) : Bool := crc32 (r.take 0xC ++ r.drop 0x10) == field r 0xC 4
/-- Why bank b holds no valid record: 0 it does, 1 CRC, 2 LEN, 3 ECC, 4 no MAGIC (R380, Table 14.6). -/
def recWhy (s : State) (b : Nat) : Nat :=
  let r := mramRec s b
  if !recMagic r then 4 else if field r 8 4 ≠ 4096 then 2 else if s.pwr.bad.contains b then 3 else if !recCrcOk r then 1 else 0
/-- SEQ of the record in bank b. -/
def recSeq (s : State) (b : Nat) : Nat := field (mramRec s b) 4 4
/-- The bank of the newest valid record (R380). -/
def newestRec (s : State) : Option Nat :=
  match recWhy s 0, recWhy s 1 with
  | 0, 0 => some (if newer (recSeq s 1) (recSeq s 0) then 1 else 0)
  | 0, _ => some 0
  | _, 0 => some 1
  | _, _ => none
/-- The bank the next write goes to (R376); bank 0 while none is valid. -/
def recBank (s : State) : Nat :=
  match newestRec s with
  | some b => 1 - b
  | none => 0
/-- The 16 bytes of a fault-log entry (Table 15.4). -/
def entryBytes (e : Entry) : List Byte :=
  leBytes 6 e.stamp.toNat ++ leBytes 2 e.code.toNat ++ leBytes 2 e.src.toNat ++ [e.cls, e.flags] ++ leBytes 4 e.data.toNat
/-- The entry that 16 bytes spell. -/
def bytesEntry (b : List Byte) : Entry :=
  ⟨BitVec.ofNat 48 (field b 0 6), BitVec.ofNat 16 (field b 6 2), BitVec.ofNat 16 (field b 8 2), BitVec.ofNat 8 (field b 10 1),
    BitVec.ofNat 8 (field b 11 1), BitVec.ofNat 32 (field b 12 4)⟩
/-- The group entry of a record (Table 14.3). -/
def recGroup (s : State) (g : Nat) : List Byte :=
  let r := fun (f : Nat → Fld) => rd s (f g)
  leBytes 1 (r F.GRP_G_CFG_GID) ++ leBytes 1 (r F.GRP_G_STAT_STATE) ++ leBytes 1 (r F.GRP_G_CFG_RANK) ++ leBytes 1 (r F.GRP_G_LEASE_HRANK) ++
  leBytes 2 (r F.GRP_G_STAT_TERM) ++ leBytes 1 (r F.GRP_G_LEASE_AGE) ++ leBytes 1 (r F.GRP_G_LEASE_QAGE) ++
  leBytes 1 (r F.GRP_G_CNT_GRANTS) ++ leBytes 1 (r F.GRP_G_CNT_REVOKES) ++ leBytes 1 (r F.GRP_G_CNT_GAPS) ++
  leBytes 1 (r F.GRP_G_STAT_HOLDER + 2 * r F.GRP_G_STAT_ARBITER + 4 * r F.GRP_G_STAT_STOPPED + 8 * r F.GRP_G_STAT_NOREIN + 16 * r F.GRP_G_STAT_STOPREQ) ++
  [0, 0, 0, 0]
/-- The turn-store entry of a record (Table 14.4, R378). -/
def recTurn (s : State) (n : Nat) : List Byte :=
  let x := s.ifc n
  if keepsTurn s n ∧ x.posValid ∧ ¬ ifFailed s n then
    leBytes 1 1 ++ leBytes 1 (ifMode s n) ++ [0, 0] ++ leBytes 4 (ifCpr s n) ++ leBytes 2 x.lvTurn.toNat ++ [0, 0] ++ leBytes 4 (rd s (F.POS_IF_ANG_ANG n))
  else List.replicate 16 0
/-- The newest entries of the fault log, oldest first, at most 216. -/
def recLog (s : State) : List Entry :=
  let w := rd s F.FLT_WIDX_WIDX
  let n := min w 216
  (List.range n).map fun i => tget (fun _ => {}) s.flt.slots ((w - n + i) % 1024)
/-- Counters, groups, turn store and fault log of a record written now, and NFLT: those of the newest valid record until it is taken, with
the count of the record's own cause (R380). -/
def recSections (s : State) : Nat × List Byte :=
  if s.pwr.taken then
    let l := recLog s
    (l.length, (s.pwr.counters.flatMap fun c => leBytes 4 c) ++ List.replicate 224 0 ++ (List.range 4).flatMap (recGroup s) ++
      (List.range 16).flatMap (recTurn s) ++ l.flatMap entryBytes ++ List.replicate (16 * (216 - l.length)) 0)
  else
    let r := match newestRec s with
      | some b => mramRec s b
      | none => List.replicate 4096 0
    let cnt := (List.range 8).flatMap fun i => leBytes 4 (satAdd 0xFFFFFFFF (field r (0x40 + 4 * i) 4) (s.pwr.counters.getD i 0))
    (field r 0x2C 2, cnt ++ (r.drop 0x60).take 0xFA0)
/-- The record written for a cause (R377). -/
def recordOf (s : State) (cause : Nat) : List Byte :=
  let seq := match newestRec s with
    | some b => (recSeq s b + 1) % 2 ^ 32
    | none => 1
  let q := recSections s
  let head := leBytes 4 0x54535747 ++ leBytes 4 seq ++ leBytes 4 4096
  let body := leBytes 1 cause ++ leBytes 1 s.dev.st.code ++ leBytes 1 (if cause = 3 then rd s F.PWR_SLEEPREC_RSN else 0) ++ leBytes 1 s.devNum ++
    leBytes 4 (rd s F.CFG_SEQ_SEQ) ++ leBytes 8 s.dev.count.toNat ++ leBytes 8 s.pwr.rtcSec.toNat ++ leBytes 2 s.pwr.rtcSub.toNat ++
    leBytes 2 s.dev.part.code ++ leBytes 2 q.1 ++ List.replicate 0x12 0 ++ q.2
  head ++ leBytes 4 (crc32 (head ++ body)) ++ body
/-- The RTC as time goes on (R383): an unknown number of ticks has passed since it was last looked at; a value written takes effect at
the first of them. A stopped crystal gives none. -/
def rtcAdvance (s : State) : State :=
  if ¬ isSet s F.PWR_STAT_XOSCOK then s else
  let (v, s) := draw 63 s
  let n := v.toNat
  let go := fun (t : Nat) (s : State) => s.setPwr { s.pwr with rtcSec := BitVec.ofNat 48 (t / 32768), rtcSub := BitVec.ofNat 15 (t % 32768), rtcSet := none }
  match s.pwr.rtcSet with
  | some x => if n = 0 then s else go (x.toNat * 32768 + (n - 1)) (wr F.PWR_STAT_RTCVALID 1 s)
  | none => go (s.pwr.rtcSec.toNat * 32768 + s.pwr.rtcSub.toNat + n) s
/-- A bank of 4,096 bytes `old` after `n` bytes of the record `r` have been written: 0x010 to 0xFFF first, then 0x000 to 0x00F (R379). -/
def partWritten (old r : List Byte) (n : Nat) : List Byte :=
  let k := n - 4080
  (r.take k ++ (old.drop k).take (16 - k)) ++ ((r.drop 16).take n ++ (old.drop 16).drop n)
/-- A write in progress is broken off (R382): how many of its bytes the bank has by then is free, fewer than all. -/
def recBreak (s : State) : State :=
  match s.pwr.recs with
  | [] => s
  | c :: _ =>
    let b := recBank s
    let (v, s) := draw 12 (rtcAdvance s)
    wrBytes (mramBase b) (partWritten (mramRec s b) (recordOf s c) v.toNat) (s.setPwr { s.pwr with recs := [] })
/-- The MRAM test of SELFTEST broken off (R266): at most one segment of 512 bytes of one bank, which and with what bytes being free
(assumption 162). In the record's 4,096 bytes it may leave an uncorrectable error. -/
def mramTorn (s : State) : State :=
  if s.dev.st ≠ .selftest ∨ held s then s else
  let (hit, s) := draw 1 s
  let (ecc, s) := draw 1 s
  let (seg, s) := draw 10 s
  if hit = 0 then s else
  let b := seg.toNat / 512
  let s := if ecc = 1 ∧ seg.toNat % 512 < 8 ∧ ¬ s.pwr.bad.contains b then s.setPwr { s.pwr with bad := s.pwr.bad ++ [b] } else s
  wrBytes (mramBase 0 + 512 * seg.toNat) ((List.range 512).map fun i => Config.freeBits 8 (s.free + i)) (s.setFree (s.free + 512))
/-- What a reset or a loss of supply cuts short in the MRAM: a record write, or its test (R266, R382). -/
def cutShort (s : State) : State := mramTorn (recBreak s)

/-! ### Starting over -/

/-- A register of the retained words (R385). -/
def retained (o : Nat) : Bool := decide (0x0D0100 ≤ o) && decide (o < 0x0D0200)
/-- The bytes that an NVM operation cut short leaves in its range (R352): free, but for the header of a bank whose erase has begun, which is
erased (assumption 43). -/
def tornBytes (op : NvmOp) (n : Nat) : List Byte :=
  (List.range op.len).map fun i => if op.mop = 1 ∧ op.ofs = 0 ∧ i < 64 then 0xFF else Config.freeBits 8 (n + i)
/-- A running NVM operation abandoned by a sag, a reset or a loss of supply (R352): no fault is logged. -/
def nvmAbandon (s : State) : State :=
  match s.cfg.op with
  | none => s
  | some op =>
    let s := each (fun p s => wrFlash (bankBase op.bank p + op.ofs) (tornBytes op s.free) (s.setFree (s.free + op.len))) (nvmPorts s) s
    s.setCfg { s.cfg with op := none }
/-- The device starts over (R34, R387): everything but the wellhead, the flash and the MRAM is at its reset value, in POWERUP, with causes
added for it. A pin mode or internal scan stays while VCORE does (R278; assumption 121). -/
def startOver (causes wk : Nat) (s : State) : State :=
  let s := nvmAbandon s
  let x := isSet s F.PWR_STAT_XOSCOK
  let v := isSet s F.PWR_STAT_RTCVALID
  let t : State := { ({} : State) with
    pending := s.pending, free := s.free, dev := { ({} : Dev) with otp := s.dev.otp, part := s.dev.part, rev := s.dev.rev },
    regs := s.regs.filter fun (q : Nat × Word) => retained q.1,
    mem := s.mem.filter fun (q : Nat × Byte) => decide (0x50000000 ≤ q.1) && decide (q.1 < 0x50080000),
    cfg := { ({} : Cfg) with flash := s.cfg.flash },
    bst := { ({} : Cores) with
      se := { cmacKey := s.dev.otp.cmacKey, keyHash := s.dev.otp.keyHash },
      dbg := if s.pwr.railsOff ∨ s.pwr.vcoreBad ∨ s.dev.dead then {} else { pins := s.bst.dbg.pins, bsr := s.bst.dbg.bsr } },
    pwr := { ({} : Pwr) with
      bad := s.pwr.bad, causes := s.pwr.causes ||| causes, wkmask := s.pwr.wkmask ||| wk, rtcSec := s.pwr.rtcSec, rtcSub := s.pwr.rtcSub,
      rtcSet := s.pwr.rtcSet, stuck := s.pwr.stuck, lowRails := s.pwr.lowRails, vcoreBad := s.pwr.vcoreBad, vcoreOut := s.pwr.vcoreOut, railsOff := s.pwr.railsOff } }
  wrB F.PWR_STAT_XOSCOK x (wrB F.PWR_STAT_RTCVALID v t)
/-- The lowest cause of a mask in the order of Table 14.9; a start for which the table has none leaves the field open. -/
def startCause (s : State) : Nat × State :=
  match (bitsOf s.pwr.causes 7).head? with
  | some c => (c, s)
  | none => let (v, s) := draw 3 s; (v.toNat, s)
/-- A word of the retained registers whose parity is bad (R385). -/
def parityWord (i : Fin 64) (s : State) : State := logFault 0x0D06 i 1 0 (s.setReg (0x0D0100 + 4 * i.val) 0)
/-- POWERUP_COMPLETE (R34, R368, R385, R388, R389): the causes of this start are reported, and none is left for the next. An uncorrectable
error of the OTP holds the device in reset (Table 1.5). -/
def execPowerupComplete (res : PowerupResult) (s : State) : Host.Outcome State Fault Refusal :=
  if s.dev.st ≠ .powerup ∨ held s then unmet s
  else if res.otpErr then done (modDev (fun d => { d with testHold := true }) s) else
  let s := setSt .selftest (s.setPwr { s.pwr with lowRails := 0, vcoreBad := false, vcoreOut := false, railsOff := false })
  let (c, s) := startCause s
  let m := s.pwr.wkmask
  let s := wr F.PWR_STARTCAUSE_CAUSE c (wr F.PWR_STARTCAUSE_WKMASK m s)
  let s := logFault 0x0D04 0 0 (c + 8 * m) s
  let s := if s.pwr.stuck then logFault 0x0D03 0 1 (rd s F.PWR_RESETREC_HOLD) s else s
  done (each parityWord res.parityBad (s.setPwr { s.pwr with causes := 0, wkmask := 0, stuck := false }))

/-- The newest valid record taken (R380): counters, the previous log, and what R102 needs. -/
def recTake (s : State) : State :=
  let s := each (fun b s => let w := recWhy s b; if w = 0 ∨ w = 4 then s else logFault 0x0C01 b 1 w s) [0, 1] s
  let r7 := rd s F.PWR_STARTCAUSE_CAUSE = 3
  let add := fun (base : List Nat) => (List.range 8).map fun i =>
    satAdd 0xFFFFFFFF (base.getD i 0) (s.pwr.counters.getD i 0 + (if i = 0 ∨ (i = 6 ∧ r7) then 1 else 0))
  match newestRec s with
  | none => logFault 0x0C02 0 0 0 (wr F.STS_STAT_RESTORED 0 (s.setPwr { s.pwr with taken := true, counters := add [] }))
  | some b =>
    let r := mramRec s b
    let n := min (field r 0x2C 2) 216
    let s := s.setPwr { s.pwr with taken := true, record := r, counters := add ((List.range 8).map fun i => field r (0x40 + 4 * i) 4) }
    let s := s.setFlt { s.flt with prev := upto (fun i t => tset (fun _ => {}) t i (bytesEntry ((r.drop (0x280 + 16 * i)).take 16))) n [] }
    wr F.FLT_STAT_PREVN n (wr F.STS_STAT_RESTORED 1 (wr F.STS_START_SEQ (field r 4 4) s))
/-- SELFTEST_COMPLETE (R261, R266, R267, R380). -/
def execSelftestComplete (r : SelfTestResult) (s : State) : Host.Outcome State Fault Refusal :=
  if s.dev.st ≠ .selftest ∨ held s then unmet s
  else if r.item ≠ 0 then
    done (modDev (fun d => { d with testHold := true }) (wr F.PWR_STFAILREC_ITEM r.item.toNat (wr F.PWR_STFAILREC_MEM r.mem.toNat s)))
  else
    let i := rd s F.PWR_STFAILREC_ITEM
    let m := rd s F.PWR_STFAILREC_MEM
    let s := wr F.BST_STARTRES_PASS 31 (wr F.BST_STARTRES_DUR r.dur.toNat (wr F.BST_STARTRES_PREVFAIL i s))
    let s := if i = 0 then s else logFault 0x0E0C i 1 m (wr F.PWR_STFAILREC_ITEM 0 (wr F.PWR_STFAILREC_MEM 0 s))
    done (setSt .load (recTake s))

/-! ### Sag (R371 to R374) -/

/-- The variant of the sag policy of axis a (R372). -/
def sagVar (s : State) (a : Nat) : Nat :=
  match rd s (F.PWR_SAGPOL_POL a) with
  | 0 => tableVar s a
  | 1 => 3
  | 2 => 1
  | _ => 2
/-- A sag triggers the discharge of group g (R193). -/
def sagTrips (s : State) (g : Nat) : Bool := isSet s (F.LE_DCL_DCFG_EN g) && isSet s (F.LE_DCL_DCFG_TRGSAG g)
/-- SCAUSE of an axis sent to SAFE by a sag: discharge where the sag triggers its group's (R193); no rule names another source (R426). -/
def sagCause (a : Nat) (s : State) : Nat × State :=
  if sagTrips s (rd s (F.LE_AX_CFG_DCL a)) then (8, flagAx a F.SAF_AX_FLT_BLOCK s)
  else let (v, s) := draw 4 s; (1 + v.toNat % 10, s)
/-- The policy of every axis: an active one takes its variant, one in a SAFE variant keeps it, the rest stay Hi-Z (R372). The entry is
logged at once, since no mark follows (R197). -/
def sagAxis (a : Nat) (s : State) : State :=
  let s := if axActive s a then
      let v := sagVar s a
      let (c, s) := sagCause a s
      enterSafe a ⟨0, v, c⟩ s
    else if axState s a = 6 then s
    else legsHiz a s
  safeLog a s
/-- The states in which a sag is seen (R34, R371). -/
def sagSeen (s : State) : Bool :=
  !held s && (match s.dev.st with
    | .selftest | .load | .identify | .sync | .armed | .service | .recovery => true
    | _ => false)
/-- A record write abandoned by a sag (R382). -/
def recAbandon (s : State) : State :=
  match s.pwr.recs with
  | [] => s
  | c :: _ =>
    let b := recBank s
    bumpCounter 7 (bumpSat F.STS_CNT_ABANDON (logFault 0x0C04 b 0 c (recBreak s)))
/-- SUPPLY_SAG (R35, R371 to R373, R382). -/
def execSupplySag (s : State) : Host.Outcome State Fault Refusal :=
  if ¬ sagSeen s then unmet s else
  let s := logFault 0x0D01 0 1 s.dev.st.code (wr F.PWR_STAT_SAGLIVE 1 s)
  let s := upto windOff 4 (setSt .save s)
  let s := each sagAxis (axesUsed s) s
  let s := brakesOff (wr F.SAF_TEAMEN_EN 0 (wr F.SAF_TEAMEN_RB 0 s))
  let s := upto (fun g s => if sagTrips s g then dischTrigger g 3 s else s) 4 s
  let s := nvmAbandon s
  let s := s.setCfg { s.cfg with restart := false }
  let s := s.setNet { s.net with sleepReq := [], writeReq := [] }
  let s := s.setPwr { s.pwr with sleepCmd := false, wakeLatch := 0, wakeMask := 0 }
  done (recAsk 1 (bumpCounter 1 (recAbandon (upto fitMark 4 s))))
/-- SAG_RECOVERY (R374). -/
def execSagRecovery (s : State) : Host.Outcome State Fault Refusal :=
  if s.dev.st = .parked ∧ ¬ held s then done (startOver 32 0 s) else unmet s

/-- What the security engine has done holds until the next POWERUP, also while its domain is in reset or power-gated (R275, R276): the keys
it cleared, its OTP port, and LOCKOUT, FAILS and ZEROISED. -/
def seKeep (o s : State) : State :=
  wr F.BST_DBG_STAT_LOCKOUT (rd o F.BST_DBG_STAT_LOCKOUT) (wr F.BST_DBG_STAT_FAILS (rd o F.BST_DBG_STAT_FAILS)
    (wr F.BST_DBG_STAT_ZEROISED (rd o F.BST_DBG_STAT_ZEROISED) (s.setBst { s.bst with se := o.bst.se })))
/-- The main domain held in reset in PARKED (R373): its units and their registers at reset values, the modulator clocks stopped. What the
island, the gate output cells, the discharge and the wellhead hold stays, as do flash and MRAM; a reset clears no SRAM word. -/
def mainReset (s : State) : State :=
  let kept := fun (o : Nat) => [0x4, 0x5, 0x6, 0xD].contains (o / 0x10000)
  { s with
    dev := { s.dev with mclk := false, running := false, started := false, commits := 0 },
    regs := s.regs.filter fun (q : Nat × Word) => kept q.1,
    flt := {}, sense := {}, pos := {}, grp := {}, net := {}, bus := {}, cfg := { ({} : Cfg) with flash := s.cfg.flash },
    bst := { ({} : Cores) with
      se := { cmacKey := s.dev.otp.cmacKey, keyHash := s.dev.otp.keyHash }, dbg := { pins := s.bst.dbg.pins, bsr := s.bst.dbg.bsr } } }
/-- What follows a record write by its cause: a sag parks the device, a restart starts it over, a sleep power-gates it (R373, R354, R386). -/
def recAfter (cause : Nat) (s : State) : State :=
  match cause with
  | 1 => setSt .parked (seKeep s (mainReset (wr F.SAF_STAT_FAULTN 0 s)))
  | 2 => startOver 64 0 s
  | 3 => if s.pwr.wakeLatch ≠ 0 then startOver s.pwr.wakeLatch s.pwr.wakeMask s else setSt .sleep (seKeep s (startOver 0 0 s))
  | _ => s
/-- STATE_RECORD_WRITTEN (R376 to R379): the record being written is in its bank; a mismatch names the first byte that reads back wrong. -/
def execStateRecordWritten (mismatch : Option (Fin 4096 × Byte)) (s : State) : Host.Outcome State Fault Refusal :=
  match s.pwr.recs with
  | [] => unmet s
  | c :: l =>
    let s := rtcAdvance s
    let b := recBank s
    let r := recordOf s c
    let s := wrBytes (mramBase b) r (s.setPwr { s.pwr with recs := l, bad := s.pwr.bad.filter (· != b) })
    match mismatch with
    | some (o, v) =>
      if r.getD o.val 0 = v then done (recAfter c (bumpWrap F.STS_CNT_WRITES (wr F.STS_STAT_LASTCAUSE c s)))
      else
        let s := bumpSat F.STS_CNT_FAILS (wrBytes (mramBase b + o.val) [v] s)
        done (recAfter c (flushLog (logFault 0x0C03 b 1 o.val s)))
    | none => done (recAfter c (bumpWrap F.STS_CNT_WRITES (wr F.STS_STAT_LASTCAUSE c s)))
/-- A period of 10 s of stride time from entry into ARMED has ended (R379). -/
def periodDue (s : State) : Bool := decide (8000000000 * (s.pwr.periods + 1) ≤ s.pwr.since * s.per)
/-- PERIODIC_RECORD (R379): the record of the next period of 10 s is asked for, at the first mark behind it. -/
def execPeriodicRecord (s : State) : Host.Outcome State Fault Refusal :=
  if (s.dev.st == .armed || s.dev.st == .service || s.dev.st == .recovery) ∧ periodDue s then
    done (recAsk 4 (s.setPwr { s.pwr with periods := s.pwr.periods + 1 }))
  else unmet s

/-! ### Reset and supplies (R29, R30, R369, R387, R388, R407) -/

/-- RESET_N_ASSERT (R387): the filter's bounds, in nanoseconds; a pulse between them is outside the ratings. -/
def execResetNAssert (lowNs : Nat) (s : State) : Host.Outcome State Fault Refusal :=
  if s.dev.dead ∨ s.dev.resetLow ∨ lowNs < 1000 then unmet s
  else if lowNs < 10000 then .fault .outsideRatings
  else
    let v := s.dev.vsafeLow
    done (modDbg (fun _ => {}) (modDev (fun d => { d with resetLow := true, vsafeLow := v }) (startOver 0 0 (cutShort s))))
/-- RESET_N_RELEASE (R34, R387, R388): after a hold of so many milliseconds. -/
def execResetNRelease (holdMs : Nat) (s : State) : Host.Outcome State Fault Refusal :=
  if s.dev.resetLow then
    let stuck := decide (5000 < holdMs)
    let s := wr F.PWR_RESETREC_HOLD (min (holdMs / 1000) 65535) (wrB F.PWR_RESETREC_STUCK stuck s)
    let s := s.setPwr { s.pwr with causes := s.pwr.causes ||| 8, stuck := stuck }
    done (modDev (fun d => { d with resetLow := false }) s)
  else unmet s
/-- A rail, by its number in the mask, is below its monitor from here on, or within its limits again. -/
def railMark (r : Nat) (low : Bool) (s : State) : State :=
  let m := 1#6 <<< r
  s.setPwr { s.pwr with lowRails := if low then s.pwr.lowRails ||| m else s.pwr.lowRails &&& ~~~m }
/-- VSAFE_TRIP (R407): the island and the main domain are held in reset. -/
def execVsafeTrip (s : State) : Host.Outcome State Fault Refusal :=
  if s.dev.dead ∨ s.dev.vsafeLow ∨ s.dev.st = .sleep then unmet s else
  let r := s.dev.resetLow
  done (modDev (fun d => { d with resetLow := r, vsafeLow := true }) (railMark 5 true (startOver 0 0 (cutShort s))))
/-- VSAFE_GOOD (R407): after a trip, or the first report after a power-on. -/
def execVsafeGood (s : State) : Host.Outcome State Fault Refusal :=
  if s.dev.vsafeLow ∨ (s.pwr.lowRails.getLsbD 5 ∧ ¬ s.dev.dead ∧ s.dev.st ≠ .sleep) then done (modDev (fun d => { d with vsafeLow := false }) (railMark 5 false s)) else unmet s
/-- The wellhead cleared (R369). No other rail is present while VKEEP is not, so none has reported good yet (R368, R407). -/
def wellheadClear (s : State) : State :=
  s.setPwr { s.pwr with causes := 1, wkmask := 0, rtcSec := 0, rtcSub := 0, rtcSet := none, stuck := false, lowRails := 63 }
    |>.setRegs []
/-- VKEEP_POWER_ON (R369, R389). -/
def execVkeepPowerOn (s : State) : Host.Outcome State Fault Refusal :=
  let v := s.dev.vsafeLow
  done (modDbg (fun _ => {}) (modDev (fun d => { d with vsafeLow := v }) (wellheadClear (startOver 0 0 (cutShort s)))))
/-- VKEEP_LOSS (R381): every supply is lost without a record. -/
def execVkeepLoss (s : State) : Host.Outcome State Fault Refusal :=
  if s.dev.dead then unmet s else done (modDbg (fun _ => {}) (modDev (fun d => { d with dead := true }) (wellheadClear (startOver 0 0 (cutShort s)))))
/-- The short circuit that the sag policy gives axis a, or none (R29, R372). -/
def vcoreVar (s : State) (a : Nat) : Nat := let v := sagVar s a; if v = 1 ∨ v = 2 then v else 3
/-- What a monitor's report says of the rails: one is below its threshold from a low trip until it reports good again (R30, R407); VCORE's
column of Table 16.8 applies from a low trip until POWERUP ends, and VCORE is outside its window from either trip until it reports good (R271). -/
def railNote (r : RailReport) (s : State) : State :=
  let s := if r.ev = .high then s else railMark r.rail.code (r.ev == .low) s
  s.setPwr { s.pwr with
    vcoreBad := s.pwr.vcoreBad || (r.rail == .vcore && r.ev == .low),
    vcoreOut := if r.rail = .vcore then r.ev != .good else s.pwr.vcoreOut }
/-- SUPPLY_MONITOR (R29, R30, R220, R407): a rail outside its window for 2 µs, below or above it, or a rail within its limits again for 100 µs.
In POWERUP, in PARKED and in reset a rail that is not good only keeps the gate outputs undriven (R30, R34, R374); POWERUP ends with every
rail good. -/
def execSupplyMonitor (r : RailReport) (s : State) : Host.Outcome State Fault Refusal :=
  if s.dev.dead ∨ s.dev.st = .sleep then unmet s
  else if r.ev = .good ∨ ¬ monitored s then done (railNote r s) else
  done (deviceReact (if r.rail = .vcore then vcoreVar else tableVar) 0x060A (railNote r (logFault 0x060A 0 4 r.rail.code s)))

/-! ### Wellhead and sleep (R383 to R386) -/

/-- RTC_OSC_FAIL (R383). -/
def execRtcOscFail (s : State) : Host.Outcome State Fault Refusal :=
  if isSet s F.PWR_STAT_XOSCOK ∧ ¬ s.dev.dead then
    done (logFault 0x0D05 0 1 0 (wr F.PWR_STAT_XOSCOK 0 (wr F.PWR_STAT_RTCVALID 0 (rtcAdvance s))))
  else unmet s
/-- XOSC_RESTART (R383). -/
def execXoscRestart (s : State) : Host.Outcome State Fault Refusal :=
  if s.dev.dead then unmet s else done (wr F.PWR_STAT_XOSCOK 1 s)
/-- A write of 1 to PWR_RTCCMD.SET: the value waits for the next tick. -/
def rtcSetNow (s : State) : State :=
  let s := rtcAdvance s
  s.setPwr { s.pwr with rtcSet := some (BitVec.ofNat 48 (rd s F.PWR_RTCSET_LO_SEC + 2 ^ 32 * rd s F.PWR_RTCSET_HI_SEC)) }
/-- RTC_SET (R383). -/
def execRtcSet (who : Requestor) (s : State) : Host.Outcome State Fault Refusal :=
  if mayIssue s who then done (rtcSetNow s) else unmet s
/-- A read of PWR_RTC_SUB latches the seconds of the same instant (R383, R425). -/
def rtcSubLatch (s : State) : State :=
  let s := rtcAdvance s
  wr F.PWR_RTC_SUB_SUB s.pwr.rtcSub.toNat (wr F.PWR_RTC_LO_SEC (s.pwr.rtcSec.toNat % 2 ^ 32) (wr F.PWR_RTC_HI_SEC (s.pwr.rtcSec.toNat / 2 ^ 32) s))
/-- RTC_SUB_READ (R383): a read of a core or of the host, while they are served (R33). -/
def execRtcSubRead (s : State) : Host.Outcome State Fault Refusal := if coresRun s then done (rtcSubLatch s) else unmet s
/-- A sleep entry is under way: its record is being written or waits (R386). -/
def sleepEntry (s : State) : Bool := s.pwr.recs.contains 3
/-- A wake: from SLEEP the device starts over; during a sleep entry it is latched (R382, R386). -/
def wake (cause wk : Nat) (s : State) : State :=
  if s.dev.st = .sleep then startOver cause wk s
  else if sleepEntry s then s.setPwr { s.pwr with wakeLatch := s.pwr.wakeLatch ||| cause, wakeMask := s.pwr.wakeMask ||| wk }
  else s
/-- WAKE_COMPARATOR (R384): the comparator's output has changed and held for DEB ticks; it wakes in the direction of EDGE. -/
def execWakeComparator (n : Fin 6) (rising : Bool) (s : State) : Host.Outcome State Fault Refusal :=
  if s.dev.dead then unmet s else
  let s := wrB (F.PWR_WK_CFG_LIVE n) rising s
  let e := rd s (F.PWR_WK_CFG_EDGE n)
  done (if e = 3 ∨ (e = 1 ∧ rising) ∨ (e = 2 ∧ ¬ rising) then wake 2 (2 ^ n.val) s else s)
/-- WAKE_TIMER (R384): PWR_WAKESEC seconds have passed since SLEEP entry. -/
def execWakeTimer (s : State) : Host.Outcome State Fault Refusal :=
  if s.dev.st = .sleep ∧ isSet s F.PWR_WAKESEC_SEC then done (wake 4 0 s) else unmet s
/-- RAILS_REMOVED_IN_SLEEP (R386, R30): every bank but VKEEP's is unpowered, and the loss of VCORE ends a pin mode (R278). -/
def execRailsRemovedInSleep (s : State) : Host.Outcome State Fault Refusal :=
  if s.dev.st = .sleep ∧ ¬ s.pwr.railsOff then
    done (modDbg (fun _ => {}) (s.setPwr { s.pwr with railsOff := true, lowRails := 63, vcoreOut := true }))
  else unmet s
/-- SUPPLY_RETURN (R386): the rails removed in SLEEP return; a device that another wake has already started goes on. -/
def execSupplyReturn (s : State) : Host.Outcome State Fault Refusal :=
  if s.pwr.railsOff then
    let s := s.setPwr { s.pwr with railsOff := false, lowRails := 0, vcoreOut := false }
    done (if s.dev.st = .sleep then wake 16 0 s else s)
  else unmet s
/-- A write of 1 to PWR_SLEEPCMD.SLEEP asks for sleep at the next mark (R386). -/
def sleepCmdNow (s : State) : State := s.setPwr { s.pwr with sleepCmd := true }
/-- SLEEP_CMD (R386, R391): from an application core only. -/
def execSleepCmd (who : Requestor) (s : State) : Host.Outcome State Fault Refusal :=
  if fromCore s who then done (sleepCmdNow s) else unmet s
/-- Why a sleep is refused: 1 state or axes, 2 oscillator, 0 it is accepted (R386). -/
def sleepWhy (s : State) : Nat :=
  if !(s.dev.st == .armed || s.dev.st == .service) || (axesUsed s).any (fun a => axState s a != 0) then 1
  else if ¬ isSet s F.PWR_STAT_XOSCOK then 2 else 0
/-- An accepted sleep: the reason retained, the record asked for (R386). -/
def sleepGo (s : State) : State := recAsk 3 (bumpCounter 5 (wr F.PWR_SLEEPREC_RSN (rd s F.PWR_SLEEPRSN_RSN) s))

/-! ### Output pins (R411, R413) -/

/-- The outputs of Table 16.8: gate outputs, DISCHg, MCLKk, the clock or excitation POSn_C, the repeat outputs of interface n, safe brake
outputs, FAULT_N, RSTOUT_N, CANc_TX, LINl_TX, DSPIn_CS_N, the clock and MOSI of DSPIn, XSPIn_CS_N, the XSPI clock, serial lanes. -/
inductive OutClass where
  | gate | disch | mclk (k : Nat) | posC (n : Nat) | repeatOut (n : Nat) | brake | fault | rstout | canTx (c : Nat) | linTx (l : Nat) | dspiCs | dspiClk | xspiCs | xspiClk | lane
  deriving DecidableEq, Repr
/-- A level of Table 16.8; `function` follows the output's own rules (of MCLKk `mclkHigh`,
of POSn_C `ssiClock` and `excHigh`), `boundary` the boundary register, `scan` the scan chains (R278). -/
inductive OutLevel where
  | undriven | low | high | idle | function | boundary | scan
  deriving DecidableEq, Repr
/-- The bank of an output class is unpowered: VIOP for the power stage, VSAFE, VIO33, VIO18 or VSRD for the others (R410, Table 16.7;
assumption 144). -/
def bankOff (s : State) (c : OutClass) : Bool :=
  match c with
  | .gate | .disch | .mclk _ => gatesUndriven s
  | .brake | .fault => bankDown s 5
  | .posC _ | .repeatOut _ | .rstout | .canTx _ | .linTx _ | .dspiCs | .dspiClk => bankDown s 2
  | .xspiCs | .xspiClk => bankDown s 4
  | .lane => bankDown s 1
/-- The level of a class with the device in reset or asleep (Table 16.8). -/
def restLevel (c : OutClass) : OutLevel :=
  match c with
  | .canTx _ | .linTx _ | .dspiCs | .xspiCs => .high
  | .lane => .idle
  | _ => .low
/-- MCLKk runs: from the first mark in SYNC, with a divider, on a team the part has (R3, R59). -/
def mclkRuns (s : State) (k : Nat) : Bool := s.dev.mclk && isSet s (F.SNS_MCLK_CFG_DIV k) && decide (k < 3 * s.nTeams)
/-- The level of a running MCLKk `c` SCLK cycles after a stride mark (R59): high for DIV div 2 cycles from each whole multiple of DIV. -/
def mclkHigh (s : State) (k c : Nat) : Bool :=
  let d := rd s (F.SNS_MCLK_CFG_DIV k)
  decide (c % d < d / 2)
/-- The XSPI ports are at work: in LOAD and during a maintenance operation; otherwise they idle with CS_N high (R343). -/
def xspiBusy (s : State) : Bool := s.dev.st == .load || s.cfg.op.isSome
/-- The level of an output from the end of POWERUP, outside SAVE, PARKED and SLEEP. POSn_C is driven in modes 3 and 4 from ARMED on (R83,
R90), the repeat outputs follow with REPEN = 1 from ARMED on (R106), a bus channel sends with EN = 1 (R321), the driver port works in IDENTIFY alone (R167). -/
def workLevel (s : State) (c : OutClass) : OutLevel :=
  match c with
  | .mclk k => if mclkRuns s k then .function else .low
  | .posC n => if ifRuns s n ∧ (ifMode s n = 3 ∨ ifMode s n = 4) then .function else .low
  | .repeatOut n => if repeatOn s n then .function else .low
  | .canTx c => if canOn s c then .function else .high
  | .linTx l => if linOn s l then .function else .high
  | .dspiCs => if s.dev.st = .identify then .function else .high
  | .dspiClk => if s.dev.st = .identify then .function else .low
  | .xspiCs => if xspiBusy s then .function else .high
  | .xspiClk => if xspiBusy s then .function else .low
  | _ => .function
/-- The level of an output (R30, R59, R83, R106, R167, R278, R321, R410, R413): undriven while its bank is unpowered, whatever the pin mode.
In the column of VCORE the gate outputs keep what R29 gives. In internal scan the device is outside its functions, and the spec gives the
pins no level (R278). -/
def outLevel (s : State) (c : OutClass) : OutLevel :=
  if bankOff s c then .undriven else
  match s.bst.dbg.pins with
  | .highz => if c = .lane then .idle else .undriven
  | .extest | .clamp => .boundary
  | .scan => .scan
  | .normal =>
    if held s ∨ s.dev.st = .powerup ∨ s.dev.st = .sleep then restLevel c
    else if s.pwr.vcoreBad then (if c = .gate then .function else restLevel c)
    else if s.dev.st = .save ∨ s.dev.st = .parked then
      match c with
      | .gate | .disch => .function
      | .mclk k => if s.dev.st = .save ∧ mclkRuns s k then .function else .low
      | .fault | .rstout => if s.dev.st = .save then .function else .low
      | c => restLevel c
    else workLevel s c
/-- The pull of SIBn is up: of an antivalent input, from the end of LOAD (R411). LOAD places the bit, which reads 0 until then, and the island
that holds it is not reset before POWERUP. -/
def sibPullUp (s : State) (n : Nat) : Bool := isSet s (F.SAF_SI_CFG_ANTI n)

end Sys2Proof.Machine
end

