-- ==== Sys2Proof/Machine/Regs.lean ====
section
/-! DEFINITION. The register space as a reader and a writer meet it (R12, R13, R38, R101, R392 to R396, R402, R425): words with their
mirrors, reads that latch or clear, writes by field with the conditions of the W1C fields, access faults, and task commits (R48). -/
namespace Sys2Proof.Machine
open Sys2Proof

/-! ### Words that mirror other state (R395, R396, R402, Tables 2.7, 2.9, 8.8, 14.8) -/

/-- A field of a capability word: its lowest bit, its width and its value. -/
abbrev CapFld := Nat × Nat × Nat
/-- A capability entry (R362): its offset in the list, its identity and the fields of each word of its body. -/
structure CapEntry where
  ofs : Nat
  id : Nat
  body : List (List CapFld)
  deriving DecidableEq, Repr

/-- The capability list (Table 15.3). -/
def capList (s : State) : List CapEntry :=
  let p := s.dev.part
  let t := p.teams
  [⟨0x000, 0x0001, [[(0, 16, p.code), (16, 8, s.dev.rev.toNat)], [(0, 16, Config.romVerBoot.toNat), (16, 16, Config.romVerSmc.toNat)], [(0, 16, 1), (16, 16, 1)]]⟩,
   ⟨0x014, 0x0010, [[(0, 4, t), (8, 7, 12 * t), (16, 6, 4 * t)], [(0, 8, 24 * t), (8, 5, 3 * t), (16, 8, 2 ^ t - 1)]]⟩,
   ⟨0x024, 0x0011, [[(0, 16, 320), (16, 16, 2560)]]⟩,
   ⟨0x030, 0x0020, [[(0, 8, 24 * t), (8, 5, 3 * t), (16, 8, 20)], [(0, 8, 160), (8, 8, 32), (16, 8, 4)]]⟩,
   ⟨0x040, 0x0030, [[(0, 5, 16), (8, 6, 32), (16, 8, 0x1F)]]⟩,
   ⟨0x04C, 0x0040, [[(0, 5, 16), (8, 4, 8), (16, 4, 4)]]⟩,
   ⟨0x058, 0x0041, [[(0, 3, 4), (4, 4, 3), (8, 8, 32), (16, 5, 16)]]⟩,
   ⟨0x064, 0x0050, [[(0, 7, 64), (8, 4, 2), (16, 16, 12500)]]⟩,
   ⟨0x070, 0x0051, [[(0, 2, 2), (4, 4, 0xF), (8, 8, 32), (16, 16, 0x9A7C)]]⟩,
   ⟨0x07C, 0x0060, [[(0, 4, 8), (4, 8, 32), (12, 1, 0), (16, 16, 8000)]]⟩,
   ⟨0x088, 0x0061, [[(0, 4, 12)]]⟩,
   ⟨0x094, 0x0062, [[(0, 3, 4), (8, 8, 32)]]⟩,
   ⟨0x0A0, 0x0070, [[(0, 2, 2), (16, 16, 4096)]]⟩,
   ⟨0x0AC, 0x0080, [[(0, 16, 512), (16, 16, 20480)]]⟩]
/-- The fields of the word of an entry at a list offset: its header, the offset of the next entry, its body (R362). -/
def capFlds : List CapEntry → Nat → List CapFld
  | [], _ => []
  | e :: es, o =>
    if o = e.ofs then [(0, 16, e.id), (16, 8, 1), (24, 8, e.body.length)]
    else if o = e.ofs + 4 then [(0, 32, match es with
      | [] => 0
      | f :: _ => f.ofs)]
    else if e.ofs + 8 ≤ o ∧ o < e.ofs + 8 + 4 * e.body.length then e.body.getD ((o - e.ofs - 8) / 4) []
    else capFlds es o
/-- The word at a list offset. -/
def capWord (l : List CapEntry) (o : Nat) : Nat := each (fun (f : CapFld) w => w + 2 ^ f.1 * f.2.2) (capFlds l o) 0
/-- A write at a list offset counts for STATUS 4: one of its fields gets another value than 0 and its own. Behind the list there is no field
(R394). -/
def capCounts (l : List CapEntry) (o : Nat) (v : Word) : Bool :=
  (capFlds l o).any fun (f : CapFld) => let x := getFld v f.1 f.2.1; x != 0 && x != f.2.2
/-- DIVERSE of SAF_STAT: the SMC and the Halter carry safety (Table 1.7). -/
def diverse (s : State) : Bool :=
  match s.dev.st with
  | .selftest | .load | .identify | .sync | .armed | .recovery => true
  | .service => isSet s F.SAF_STAT_SPLIT0 || isSet s F.SAF_STAT_SPLIT1
  | _ => false
/-- A group of the device shows a bit of its STAT. -/
def anyGroup (s : State) (f : Nat → Fld) : Bool := (List.range 4).any fun g => isSet s (f g)
/-- The summary registers of Table 15.7. -/
def sumWord (s : State) (id : RegId) : Nat :=
  match id with
  | .FLT_AXSUM => maskOf ((List.range 32).filter fun a => isSet s (F.SAF_AX_FLT_AXF a))
  | .FLT_AXSAFE => maskOf ((List.range 32).filter fun a => axState s a == 6)
  | .FLT_TEAMSUM => rd s F.SAF_TEAMFLT_TMLAT + 0x100 * maskOf ((List.range 8).filter fun t => isSet s (F.MOD_TEAM_STAT_GSUV t)) +
      0x10000 * rd s F.SAF_TEAMEN_EN
  | _ => s.dev.st.code + 0x10 * rd s F.SAF_STAT_DVLAT + 0x20 * rd s F.STR_SYNCSTAT_SYNCED +
      0x40 * b2n (isSet s (F.RNG_HOP_STAT_WRAPPED 0) || isSet s (F.RNG_HOP_STAT_WRAPPED 1)) +
      0x80 * b2n (anyGroup s F.GRP_G_STAT_STOPREQ) + 0x100 * b2n (anyGroup s F.GRP_G_STAT_NOREIN) +
      0x200 * rd s F.CFG_STAT_NOIMAGE + 0x10000 * rd s F.SAF_STAT_DVCODE
/-- The words of a log entry, W1 to W3 (Table 15.7). -/
def entryWord (e : Entry) (w : Nat) : Word :=
  match w with
  | 0 => e.stamp.extractLsb' 0 32
  | 1 => BitVec.ofNat 32 (e.stamp.toNat / 2 ^ 32 + 0x10000 * e.code.toNat)
  | 2 => BitVec.ofNat 32 (e.src.toNat + 0x10000 * e.cls.toNat + 0x1000000 * e.flags.toNat)
  | _ => e.data
/-- STS_STAT with its live bits (Table 14.8). -/
def stsWord (s : State) : Word :=
  let n := newestRec s
  let v := fun (b : Nat) => b2n (recWhy s b == 0)
  s.reg A.STS_STAT ||| BitVec.ofNat 32 (v 0 + 2 * v 1 + 4 * n.getD 0 + 8 * b2n (s.pwr.recs != []))

/-- A bit that shows an input as it is now (R170), looked at: an input seen asserted may have been released since, which no command
reports at the instant. -/
def lookLive (f : Fld) (s : State) : State := if isSet s f then let (v, s) := draw 1 s; wr f v.toNat s else s
/-- The word that a register shows, read without side effects (R307); STR_PHASE is the phase of the read, which
the model leaves free, and 0 before the first mark (Table 2.9). -/
def peekReg (s : State) (off : Nat) : Word × State :=
  if 0x100 ≤ off ∧ off < 0x1000 then (if off % 4 = 0 then BitVec.ofNat 32 (capWord (capList s) (off - 0x100)) else 0, s) else
  match findReg off with
  | none => (0, s)
  | some (r, is) =>
    let i := is.headD 0
    match r.id with
    | .ID_PART => (BitVec.ofNat 32 (s.dev.part.code + 0x10000 * s.dev.rev.toNat), s)
    | .ID_ROMVER => (BitVec.ofNat 32 (Config.romVerBoot.toNat + 0x10000 * Config.romVerSmc.toNat), s)
    | .ID_SERIAL => ((s.dev.otp.serial >>> (32 * i)).setWidth 32, s)
    | .ID_STATE => (BitVec.ofNat 32 (s.dev.st.code + 0x10 * s.devNum), s)
    | .STR_COUNT_LO => (s.dev.count.extractLsb' 0 32, s)
    | .STR_PHASE => let (v, t) := draw 18 s; (BitVec.ofNat 32 (if s.per = 0 ∨ ¬ s.dev.running then 0 else v.toNat % s.per), t)
    | .MOD_LEG_FLT => let t := lookLive (F.MOD_LEG_FLT_LIVE i) s; (t.reg off, t)
    | .MOD_TEAM_STAT => let t := lookLive (F.MOD_TEAM_STAT_GSLIVE i) s; (t.reg off, t)
    | .SAF_STAT => (putFld (s.reg off) F.SAF_STAT_DIVERSE.lo 1 (b2n (diverse s)), s)
    | .FLT_AXSUM | .FLT_AXSAFE | .FLT_TEAMSUM | .FLT_DEVSUM => (BitVec.ofNat 32 (sumWord s r.id), s)
    | .FLT_LOG_W0 => (entryWord (tget (fun _ => {}) s.flt.slots i) 0, s)
    | .FLT_LOG_W1 => (entryWord (tget (fun _ => {}) s.flt.latch i) 1, s)
    | .FLT_LOG_W2 => (entryWord (tget (fun _ => {}) s.flt.latch i) 2, s)
    | .FLT_LOG_W3 => (entryWord (tget (fun _ => {}) s.flt.latch i) 3, s)
    | .FLT_PLOG_W0 => (entryWord (tget (fun _ => {}) s.flt.prev i) 0, s)
    | .FLT_PLOG_W1 => (entryWord (tget (fun _ => {}) s.flt.platch i) 1, s)
    | .FLT_PLOG_W2 => (entryWord (tget (fun _ => {}) s.flt.platch i) 2, s)
    | .FLT_PLOG_W3 => (entryWord (tget (fun _ => {}) s.flt.platch i) 3, s)
    | .STS_STAT => (stsWord s, s)
    | .STS_SEQ => (match newestRec s with
      | some b => BitVec.ofNat 32 (recSeq s b)
      | none => 0, s)
    | .PWR_STAT => let t := rtcAdvance s; (t.reg off, t)
    | .PWR_RTC_SUB => let t := rtcAdvance s; (BitVec.ofNat 32 t.pwr.rtcSub.toNat, t)
    | _ => (s.reg off, s)

/-! ### Reads with their side effects (R38, R101, R334, R383, R393, R402, R425) -/

/-- A read of STR_COUNT_LO latches the upper bits (R38). -/
def countLatch (s : State) : State := wr F.STR_COUNT_HI_COUNT_HI (s.dev.count.toNat / 2 ^ 32) s
/-- An entry as it reads: CODE 0xFFFF where an uncorrectable ECC error meets the read (R398). -/
def entryRead (ecc : Bool) (e : Entry) : Entry := if ecc then { e with code := 0xFFFF } else e
/-- A read of W0 of a slot latches its W1 to W3 (R402). -/
def logLatch (prev ecc : Bool) (k : Nat) (s : State) : State :=
  if prev then s.setFlt { s.flt with platch := tset (fun _ => {}) s.flt.platch k (entryRead ecc (tget (fun _ => {}) s.flt.prev k)) }
  else s.setFlt { s.flt with latch := tset (fun _ => {}) s.flt.latch k (entryRead ecc (tget (fun _ => {}) s.flt.slots k)) }
/-- What a read of a register changes; `ecc` says that the read of a log entry meets an uncorrectable error (R398). -/
def readEffect (off : Nat) (ecc : Bool) (s : State) : State :=
  match findReg off with
  | none => s
  | some (r, is) =>
    let i := is.headD 0
    match r.id with
    | .STR_COUNT_LO => countLatch s
    | .STR_ALIGNERR => wr F.STR_ALIGNERR_MAXERR 0 s
    | .POS_IF_ANG => latchAng i s
    | .POS_IF_NP => latchNp i s
    | .PWR_RTC_SUB => wrW F.PWR_RTC_LO_SEC (s.pwr.rtcSec.extractLsb' 0 32) (wr F.PWR_RTC_HI_SEC (s.pwr.rtcSec.toNat / 2 ^ 32) s)
    | .SENT_RX_FAST => sentLatch i s
    | .FLT_LOG_W0 => logLatch false ecc i s
    | .FLT_PLOG_W0 => logLatch true ecc i s
    | _ => s
/-- A read of a register by a core or the host. -/
def readReg (off : Nat) (ecc : Bool) (s : State) : Word × State := let (w, s) := peekReg s off; (w, readEffect off ecc s)

/-- STR_COUNT_LO_READ (R38). -/
def execStrCountLoRead (s : State) : Host.Outcome State Fault Refusal :=
  if ¬ coresRun s then unmet s else
  done (countLatch s)
/-- FLT_LOG_READ (R398, R402): slot `sl` of the present log, or of the 216 of the previous log. -/
def execFltLogRead (sl : Fin 1024) (l : LogLook) (s : State) : Host.Outcome State Fault Refusal :=
  if ¬ coresRun s then unmet s else
  if l.previous ∧ 216 ≤ sl.val then unmet s else done (logLatch l.previous l.ecc sl s)

/-! ### Writes (R13, R224, R250, R322, R391, R394) -/

/-- The RW and WO fields of a register are accepted from this requestor: some from the application cores only, retained words in SERVICE
only (Table 1.5, R391), the data of a receive mailbox or a subscribe entry and the request of an axis not in use not at all (R179). A host's
COMMIT and CANCEL of a mailbox are discarded with its data (R322, assumption 137). -/
def wrTaken (who : Requestor) (s : State) (id : RegId) (i j : Nat) : Bool :=
  match id with
  | .STR_COMMIT | .GRP_G_CMD | .GRP_G_TXSH | .GRP_G_SHAD | .GRP_G_TXFB | .CAN_MB_CTRL | .PWR_SLEEPRSN | .PWR_SLEEPCMD => who.isCore
  | .CAN_MB_DATA => who.isCore && rd s (F.CAN_MB_CFG_KIND i j) != 3
  | .LIN_CH_MB_DATA0 | .LIN_CH_MB_DATA1 => who.isCore && !isSet s (F.LIN_CH_ENT_DIR i j)
  | .PWR_WAKESEC | .PWR_SCRATCH => who.isCore && s.dev.st == .service
  | .LE_AX_MODE => axType s (4 * i + j) != 0 && decide (4 * i + j < s.nAxes)
  | _ => true
/-- The W1C bits of a register that a condition refuses now (R105, R163, R165, R218). A write of a team latch or an axis fault is judged at the
next mark (`clearsAsked`). -/
def w1cRefused (s : State) (id : RegId) (i : Nat) : List Nat :=
  match id with
  | .POS_IF_FLT => if (ifAxes s i).all (axIdle s) then [] else [8]
  | .MOD_LEG_FLT =>
    let idle : Bool := match legAxis s i with
      | some b => axIdle s b
      | none => true
    if idle then (if isSet s (F.MOD_LEG_FLT_LIVE i) then [0] else []) else [0, 1, 2]
  | .MOD_TEAM_STAT => if isSet s (F.MOD_TEAM_STAT_GSREL i) then [] else [(F.MOD_TEAM_STAT_GSUV i).lo]
  | .SAF_SB_STAT =>
    if isSet s (F.SAF_SB_STAT_CMDH i) ∨ isSet s (F.SAF_SB_STAT_CMDL i) ∨ isSet s (F.SAF_SB_STAT_FBH i) ∨ isSet s (F.SAF_SB_STAT_FBL i) then [5, 6]
    else []
  | _ => []
/-- The latches whose clearing a write of `v` at an offset asks for: the SMC judges it at the next mark (R209, R224). -/
def clearsAsked (off : Nat) (v : Word) (s : State) : List Clearing :=
  match findReg off with
  | none => []
  | some (r, is) =>
    let i := is.headD 0
    match r.id with
    | .SAF_TEAMFLT => ((bitsOf v.toNat 8).filter fun t => rdBit s F.SAF_TEAMFLT_TMLAT t).map .team
    | .SAF_AX_FLT => if bit v.toNat 0 ∧ isSet s (F.SAF_AX_FLT_AXF i) then [.axis i] else []
    | _ => []
/-- The word that plain fields leave: RW fields take the value where accepted, W1C fields lose the bits written as 1. -/
def plainWord (take : Bool) (v : Word) : List (Nat × Nat × Acc) → Word → Word
  | [], w => w
  | (lo, n, acc) :: fs, w =>
    let x := getFld v lo n
    plainWord take v fs (match acc with
      | .rw => if take then putFld w lo n x else w
      | .w1c => putFld w lo n (getFld w lo n &&& (2 ^ n - 1 - x))
      | _ => w)
/-- A write into a field that may not be written counts for STATUS 4: it is not 0 and not what the field holds; a WO field holds 0 (R394). -/
def wrCounts (take : Bool) (held v : Word) (fs : List (Nat × Nat × Acc)) : Bool :=
  fs.any fun (f : Nat × Nat × Acc) =>
    let x := getFld v f.1 f.2.1
    let no : Bool := match f.2.2 with
      | .rw | .wo => !take
      | .w1c => false
      | _ => true
    no && x != 0 && (f.2.2 == .wo || x != getFld held f.1 f.2.1)
/-- Tasks committed by a core, and the pair it belongs to (R48, R201). -/
def commitTasks (who : Requestor) (v : Word) (s : State) : State :=
  modDev (fun d => { d with
    commits := d.commits ||| v
    taskBy := each (fun k t => tset (fun _ => 0) t k (who.code / 2 + 1)) (bitsOf v.toNat 32) d.taskBy }) s
/-- A host write to STR_COMMIT: discarded and logged (R48, R401). -/
def commitRefused (s : State) : State := logRated 0x0F01 7 1 A.STR_COMMIT s
/-- What a write does to the block that owns the register; `w` is the word its plain fields leave. -/
def wrEffect (id : RegId) (off i j : Nat) (w v : Word) (s : State) : State :=
  let a := 4 * i + j
  match id with
  | .POS_IF_FLT =>
    if bit v.toNat 8 ∧ mayRecover s i then recoverIf i s else s.setReg off (w ||| (s.reg off &&& 0x100#32))
  | .POS_IF_EVCNT => if getFld v 8 8 ≠ 0 then wr (F.POS_IF_EVCNT_SEQCNT i) 0 s else s
  | .POS_CMP_POS => commitCmp i (v &&& 0xFFFFFF#32) s
  | .LE_AX_MODE => modeWrite a (getFld v 0 3) s
  | .LE_DCL_DCMD =>
    let s := if bit v.toNat 0 then dischStart i s else s
    if bit v.toNat 1 then dischAbort i s else s
  | .MOD_LEG_FLT => legClear i v.toNat s
  | .MOD_TEAM_STAT => if bit v.toNat (F.MOD_TEAM_STAT_GSUV i).lo then gsuvClear i s else s
  | .SAF_TEAMFLT => tmlatWrite (v.toNat % 256) s
  | .SAF_SB_STAT => sbClear i v.toNat s
  | .SAF_AX_FLT => if bit v.toNat 0 then axfWrite i s else s
  | .GRP_G_CMD =>
    let s := if bit v.toNat 0 then groupGo i (bit v.toNat 2) s else s
    if bit v.toNat 1 then holderStop i 3 s else s
  | .GRP_CONN_STAT =>
    let s := if bit v.toNat (F.GRP_CONN_STAT_PATHLOST i).lo then wr (F.GRP_CONN_STAT_PATHLOST i) 0 s else s
    if bit v.toNat (F.GRP_CONN_STAT_CFAIL i).lo then cfailClear i s else s
  | .BST_PAIR_CMD =>
    let s := pairForget i s
    let s := if bit v.toNat 0 then pairSplit i s else s
    if bit v.toNat 1 then pairJoin i s else s
  | .CAN_MB_CTRL =>
    let s := s.setReg off w
    let s := if bit v.toNat 4 then mbCommitNow i j s else s
    if bit v.toNat 5 then mbCancelNow i j s else s
  | .CAN_MB_STAT =>
    let was := isSet s (F.CAN_MB_STAT_RXNEW i j)
    let s := s.setReg off w
    if was ∧ bit v.toNat (F.CAN_MB_STAT_RXNEW i j).lo then rxnewClear i j s else s
  | .LIN_CH_MB_DATA1 => linPairWrite i j v s
  | .PWR_SLEEPCMD => if bit v.toNat 0 then sleepCmdNow s else s
  | .PWR_RTCCMD => if bit v.toNat 0 then rtcSetNow s else s
  | _ => s.setReg off w
/-- WO registers, and the data pair of an entry, act only where the write is accepted. -/
def wrActs (id : RegId) (take : Bool) : Bool :=
  match id with
  | .STR_COMMIT => false
  | .GRP_G_CMD | .PWR_SLEEPCMD | .LIN_CH_MB_DATA1 | .CAN_MB_CTRL => take
  | _ => true
/-- A write to a register. The second part tells whether a discard counts for STATUS 4; an offset without a register has no field that
could (R394; assumption 57). -/
def writeReg (who : Requestor) (off : Nat) (v : Word) (s : State) : State × Bool :=
  if 0x100 ≤ off ∧ off < 0x1000 then (s, off % 4 == 0 && capCounts (capList s) (off - 0x100) v) else
  match findReg off with
  | none => (s, false)
  | some (r, is) =>
    let i := is.headD 0
    let j := (is.drop 1).headD 0
    let take := wrTaken who s r.id i j
    let (held, s) := peekReg s off
    let no := w1cRefused s r.id i
    let cnt := wrCounts take held v r.flds || no.any (bit v.toNat)
    let w := plainWord take v r.flds (s.reg off)
    if r.id = .STR_COMMIT then
      (if who.isCore then commitTasks who v s else if who = .host then commitRefused s else s, cnt)
    else (if wrActs r.id take then wrEffect r.id off i j w v s else s, cnt)

/-- REGISTER_WRITE (R13). -/
def execRegisterWrite (who : Requestor) (off : BitVec 24) (v : Word) (s : State) : Host.Outcome State Fault Refusal :=
  if mayIssue s who then done (writeReg who off.toNat v s).1 else unmet s

/-! ### Access faults and task commits -/

/-- An address that a write of a requestor may reach (R20, R32, Tables 1.5 and 5.3): of the loop-engine memories, in LOAD the schedule,
parameter-block and estimator-table areas by the loader, which runs on the pair AC0/AC1, and otherwise the pending set-point copies. -/
def fabricWrites (s : State) (who : Requestor) (a : Nat) : Bool :=
  let inR := fun (lo hi : Nat) => decide (lo ≤ a) && decide (a ≤ hi)
  let le := a % 0x40000
  inR 0x10000000 0x105FFFFF || inR 0x40000000 0x40FFFFFF ||
  (inR 0x20000000 0x201FFFFF &&
    (if s.dev.st = .load then who == .ac0 && decide (le < 0x30000) else decide (0x3E000 ≤ le) && decide (le < 0x3E100)))
/-- ACCESS_FAULT (R20, R32, R401): an access to an address that is not listed or forbidden. -/
def execAccessFault (who : Requestor) (addr : Word) (write : Bool) (s : State) : Host.Outcome State Fault Refusal :=
  if ¬ coresRun s then unmet s else
  if who = .host then (if write ∧ addr.toNat = A.STR_COMMIT then done (commitRefused s) else unmet s)
  else if ¬ mayIssue s who ∨ (if write then fabricWrites s who addr.toNat else fabricReads addr.toNat) then unmet s
  else done (logRated 0x0F01 who.code 1 addr.toNat s)
/-- A pending set-point record written by its task (Table 5.5). -/
def pendWrite (a : Nat) (ws : List Word) (s : State) : State :=
  wrBytes (pendBase a) ((ws.take 16).flatMap fun w => leBytes 4 w.toNat) s
/-- TASK_COMMIT (R48): a core writes pending set-points, then STR_COMMIT; from the host the write is discarded and logged. -/
def execTaskCommit (who : Requestor) (mask : Word) (recs : List (AxisNo × List Word)) (s : State) : Host.Outcome State Fault Refusal :=
  if ¬ coresRun s then unmet s else
  if who = .host then done (commitRefused s)
  else if ¬ fromCore s who then unmet s
  else done (commitTasks who mask (each (fun (p : AxisNo × List Word) => pendWrite p.1 p.2) recs s))

end Sys2Proof.Machine
end

