-- ==== Sys2Proof/Machine/Host.lean ====
section
/-! DEFINITION. The host's frames (R300 to R308, R351 to R354, R386, R393, R394, R399): acceptance, authentication and freshness of a
request, its reply, the requests themselves, maintenance, demand frames, the Ethernet ports, and telemetry. -/
namespace Sys2Proof.Machine
open Sys2Proof

/-! ### Frames and replies (R302 to R306) -/

/-- The ports run in their ROM default configuration: no image has been loaded (R34, R301). -/
def romDefault (s : State) : Bool := !isSet s F.CFG_STAT_LOADED
/-- FWIN in force (R301, R305). -/
def fwin (s : State) : Nat := if romDefault s then 64 else rd s F.ETH_AUTH_FWIN
/-- A host header (Table 11.5). -/
def hostHeader (typ dev flags len tag fresh status : Nat) : List Byte :=
  leBytes 1 1 ++ leBytes 1 typ ++ leBytes 1 dev ++ leBytes 1 flags ++ leBytes 2 len ++ leBytes 2 tag ++ leBytes 6 fresh ++ leBytes 2 status
/-- The eight bytes of T in output order (R304). -/
def macBytes (m : BitVec 64) : List Byte := (leBytes 8 m.toNat).reverse
/-- The header and body of a request as R304 authenticates them, FLAGS bits 2 and 1 taken as 0. -/
def reqText (typ : Nat) (r : Req) (body : List Byte) : List Byte :=
  hostHeader typ r.dev.toNat (b2n r.auth) body.length r.tag.toNat r.fresh.toNat 0 ++ body
/-- T of a request is right (R304); after zeroisation every frame fails (R276). -/
def macOk (s : State) (typ : Nat) (r : Req) (body : List Byte) : Bool :=
  r.auth && !isSet s F.BST_DBG_STAT_ZEROISED && r.mac == cmac64 s.bst.se.cmacKey (reqText typ r body)
/-- FRESH lies within STR_COUNT ± FWIN, modulo 2^48 (R305). -/
def isFresh (s : State) (r : Req) : Bool := decide ((r.fresh - s.dev.count).toNat ≤ fwin s) || decide ((s.dev.count - r.fresh).toNat ≤ fwin s)
/-- The pair (FRESH, TAG) is greater than the last accepted one (R305). -/
def isNewer (s : State) (r : Req) : Bool :=
  match s.net.lastReq with
  | none => true
  | some (f, t) => decide (f < r.fresh.toNat) || (f == r.fresh.toNat && decide (t < r.tag.toNat))
/-- The ring to the host for frames of a class: class 3 may be fixed by ROUTE (R289). -/
def ringToHost (s : State) (cls : Nat) : Nat :=
  let route := rd s F.RNG_CFG_ROUTE
  if cls = 3 ∧ route = 1 then 0 else if cls = 3 ∧ route = 2 then 1
  else if 2 * s.devNum ≤ rd s F.RNG_CFG_NDEVM1 + 1 then 1 else 0
/-- The ring from D0 to device k for class 3. -/
def ringFromHost (s : State) (k : Nat) : Nat :=
  match rd s F.RNG_CFG_ROUTE with
  | 1 => 0
  | 2 => 1
  | _ => if 2 * k ≤ rd s F.RNG_CFG_NDEVM1 + 1 then 0 else 1
/-- A host frame of the device's own queued on cistern `k` of a port: 0 reply, 1 maintenance reply, 2 telemetry. D0's draw on its grant (R295);
the second part tells whether the frame was taken. -/
def portPut (port k : Nat) (frame : List Byte) (s : State) : State × Bool :=
  let n := 14 + 5 * port + k
  let (s, ok) := if isSet s F.RNG_CFG_HEAD then grantTake frame.length s else (s, true)
  if ok then cisPut n { body := frame } s else (cisDrop n s, false)
/-- A host frame sent to D0 over a ring, against the grant (R289, R295, R314). -/
def ringToD0 (cls stream : Nat) (frame : List Byte) (s : State) : State × Bool :=
  let ring := ringToHost s cls
  let (s, ok) := grantTake frame.length s
  if ok then ringPut ring cls 0 stream 0 frame s else (cisDrop (ringCis ring cls) s, false)
/-- The reply frame of a request (R303 to R306). -/
def replyFrame (s : State) (r : Req) (status : Nat) (body : List Byte) : List Byte :=
  let h := fun (fl : Nat) => hostHeader 7 s.devNum fl body.length r.tag.toNat s.dev.count.toNat status
  h (1 + 2 * b2n (r.ring && r.port == 1)) ++ body ++ macBytes (cmac64 s.bst.se.cmacKey (h 1 ++ body))
/-- A reply sent the way its request came: back over a ring, or out of its port (R303, Table 11.9). -/
def sendReply (r : Req) (maint : Bool) (frame : List Byte) (s : State) : State :=
  if r.ring then (ringToD0 3 0 frame s).1 else (portPut r.port (b2n maint) frame s).1
/-- A reply made, kept among the last 16, and sent (R305). -/
def reply (r : Req) (maint : Bool) (status : Nat) (body : List Byte) (s : State) : State :=
  let f := replyFrame s r status body
  let key := (r.fresh.toNat, r.tag.toNat)
  sendReply r maint f (s.setNet { s.net with replies := (((key, f) :: s.net.replies.filter fun (p : (Nat × Nat) × List Byte) => p.1 != key)).take 16 })
/-- The frame reached this device: over a ring addressed to it, or by a port in use (R301 to R303). -/
def arrives (s : State) (r : Req) : Bool :=
  portsOn s && (if r.ring then ringOn s && r.dev.toNat == s.devNum else romDefault s || isSet s (F.ETH_P_CFG_EN r.port))
/-- A request for another device, passed on by D0 in class 3; FLAGS.PORTB names the port it came by (R303). -/
def forward (typ : Nat) (r : Req) (body : List Byte) (s : State) : State :=
  let f := hostHeader typ r.dev.toNat (b2n r.auth + 2 * r.port.val) body.length r.tag.toNat r.fresh.toNat 0 ++ body ++
    (if r.auth then macBytes r.mac else [])
  (ringPut (ringFromHost s r.dev.toNat) 3 r.dev.toNat 0 0 f s).1

/-- What a request of TYPE 2 to 5 meets before it is served (R301 to R305): forwarded by D0, dropped under the ROM default configuration unless
maintenance, dropped for its CMAC, answered as stale, answered again, or served. -/
def hostRequest (typ : Nat) (r : Req) (body : List Byte) (serve : State → State) (s : State) : Host.Outcome State Fault Refusal :=
  if ¬ arrives s r then unmet s
  else if r.dev.toNat ≠ s.devNum then (if isSet s F.RNG_CFG_HEAD ∧ ¬ r.ring then done (forward typ r body s) else unmet s)
  else if romDefault s ∧ typ ≠ 5 then unmet s
  else if ¬ macOk s typ r body then
    let s := bumpSat F.ETH_AUTHSTAT_MACFAIL s
    done (logRated 0x0809 r.port 1 (rd s F.ETH_AUTHSTAT_MACFAIL) s)
  else if ¬ isFresh s r then
    let s := logFault 0x080A r.port 0 (r.fresh.toNat % 65536) (bumpSat F.ETH_AUTHSTAT_FRESHREJ s)
    done (sendReply r (typ == 5) (replyFrame s r 1 []) s)
  else if ¬ isNewer s r then
    match s.net.replies.find? fun (p : (Nat × Nat) × List Byte) => p.1 == (r.fresh.toNat, r.tag.toNat) with
    | some p => done (sendReply r (typ == 5) p.2 s)
    | none => done s
  else done (serve (s.setNet { s.net with lastReq := some (r.fresh.toNat, r.tag.toNat) }))

/-! ### Mode requests (R34, R179, R306, R386) -/

/-- The body of a TYPE 2 frame. -/
def modeBody (kind : Nat) (req : Byte) (axmask : Word) : List Byte := leBytes 1 kind ++ [req, 0, 0] ++ leBytes 4 axmask.toNat
/-- The conditions of ARMED to SERVICE (R34). -/
def serviceOk (s : State) : Bool :=
  s.dev.st == .armed && !s.dev.recPend && isSet s F.SAF_STAT_SMCOK &&
  [0, 1].all fun p => pairMode s p == 0 || isSet s (F.BST_PAIR_CFG_SPLITINIT p)
/-- The axes a mode request names that take no request: not in use, or of a team not reported (R179). -/
def modeNone (s : State) (axmask : Word) : List Nat := (bitsOf axmask.toNat 32).filter fun a => axType s a == 0 || decide (s.nAxes ≤ a)
/-- KIND 1 (R34, R306). -/
def serveService (r : Req) (s : State) : State :=
  if serviceOk s then reply r false 0 [] (setSt .service s) else reply r false 3 [] s
/-- KIND 2 (R306, R386): judged and answered at the next mark. -/
def serveSleep (r : Req) (s : State) : State := s.setNet { s.net with sleepReq := s.net.sleepReq ++ [r] }
/-- KIND 3 (R179, R306). A REQ above 7 is no LE_AXa_MODE.REQ and refused with STATUS 2, 5 to 7 likewise and with an entry for each axis; an axis not
in use makes the request partly applied. -/
def serveAxes (r : Req) (req : Byte) (axmask : Word) (s : State) : State :=
  if 8 ≤ req.toNat then reply r false 2 [] s else
  let status := if 5 ≤ req.toNat then 2 else if modeNone s axmask ≠ [] ∧ req ≠ 0 then 4 else 0
  reply r false status [] (each (fun a => modeWrite a req.toNat) (bitsOf axmask.toNat 32) s)
/-- A mode request by its KIND; one that R306 does not list is refused with STATUS 2 (Table 11.8). -/
def modeRequest (r : Req) (kind req : Byte) (axmask : Word) (s : State) : Host.Outcome State Fault Refusal :=
  hostRequest 2 r (modeBody kind.toNat req axmask) (fun s =>
    let s := coreEvent 3 s
    match kind.toNat with
    | 1 => serveService r s
    | 2 => serveSleep r s
    | 3 => serveAxes r req axmask s
    | _ => reply r false 2 [] s) s
/-- SERVICE_REQUEST (R34, R306): TYPE 2, KIND 1. -/
def execServiceRequest (r : Req) (s : State) : Host.Outcome State Fault Refusal := modeRequest r 1 0 0 s
/-- AXES_MODE_REQUEST (R179, R306): TYPE 2 as received: KIND 3, or a KIND that R306 does not list. -/
def execAxesModeRequest (r : Req) (m : ModeReq) (axmask : Word) (s : State) : Host.Outcome State Fault Refusal :=
  modeRequest r m.kind m.req axmask s
/-- SLEEP_REQUEST (R306, R386): TYPE 2, KIND 2. -/
def execSleepRequest (r : Req) (s : State) : Host.Outcome State Fault Refusal := modeRequest r 2 0 0 s

/-! ### Register reads and writes (R393, R394) -/

/-- Words read from an offset on, in ascending order, with their side effects; `bad` names the offsets at which a log entry meets an uncorrectable
error (R398). -/
def readWords (bad : List (BitVec 24)) : Nat → Nat → State → List Word × State
  | _, 0, s => ([], s)
  | o, n + 1, s =>
    let (w, s) := readReg o (bad.any (·.toNat == o)) s
    let (ws, s) := readWords bad (o + 4) n s
    (w :: ws, s)
/-- HOST_REGISTER_READ (R306, R393, R398). -/
def execHostRegisterRead (r : Req) (ofs : BitVec 24) (x : ReadSpan) (s : State) : Host.Outcome State Fault Refusal :=
  let n := x.n
  hostRequest 3 r (leBytes 4 ofs.toNat ++ leBytes 2 n.toNat ++ [0, 0]) (fun s =>
    if n = 0 ∨ 256 < n.toNat ∨ ofs.toNat % 4 ≠ 0 ∨ 0x100000 < ofs.toNat + 4 * n.toNat then reply r false 2 [] s
    else
      let (ws, s) := readWords x.bad ofs.toNat n.toNat s
      reply r false 0 (ws.flatMap fun w => leBytes 4 w.toNat) s) s
/-- A write list applied in order: the state, the pairs with a discard that counts, and the clearings that the next mark judges, each with
its pair. -/
def writeList : Nat → List (BitVec 24 × Word) → State → State × List Nat × List (Nat × Clearing)
  | _, [], s => (s, [], [])
  | i, (o, v) :: ps, s =>
    let cs := (clearsAsked o.toNat v s).map fun c => (i, c)
    let (s, bad) := writeReg .host o.toNat v s
    let (s, is, l) := writeList (i + 1) ps s
    (s, if bad then i :: is else is, cs ++ l)
/-- The reply to a write list of `n` pairs, `bad` of which had a discard that counts (Table 11.7, R394). -/
def listReply (r : Req) (n : Nat) (bad : List Nat) (s : State) : State :=
  reply r false (if bad = [] then 0 else 4) (leBytes 2 (n - bad.length) ++ leBytes 2 (bad.headD 0xFFFF)) s
/-- A clearing was refused at the mark: the latch still stands (R209). -/
def clearRefused (s : State) (c : Clearing) : Bool :=
  match c with
  | .team t => rdBit s F.SAF_TEAMFLT_TMLAT t
  | .axis a => isSet s (F.SAF_AX_FLT_AXF a)
/-- The write lists that waited for the mark's judgement of a clearing are answered (R209, R224, R394). -/
def listsMark (s : State) : State :=
  let ws := s.net.writeReq
  if ws = [] then s else
  each (fun (w : ListWait) s =>
    let no := (w.later.filter fun p => clearRefused s p.2).map (·.1)
    listReply w.req w.len ((List.range w.len).filter fun i => w.bad.contains i || no.contains i) s) ws
    (s.setNet { s.net with writeReq := [] })
/-- HOST_REGISTER_WRITE (R13, R306, R394): the reply waits for the mark that judges a clearing of the list. -/
def execHostRegisterWrite (r : Req) (list : List (BitVec 24 × Word)) (s : State) : Host.Outcome State Fault Refusal :=
  let n := list.length
  let body := leBytes 2 n ++ [0, 0] ++ list.flatMap fun (p : BitVec 24 × Word) => leBytes 4 p.1.toNat ++ leBytes 4 p.2.toNat
  hostRequest 4 r body (fun s =>
    if n = 0 ∨ 184 < n then reply r false 2 [] s
    else
      let (s, bad, later) := writeList 0 list s
      if later = [] then listReply r n bad s
      else s.setNet { s.net with writeReq := s.net.writeReq ++ [⟨r, n, bad, later⟩] }) s

/-! ### Maintenance (R351 to R354, R399) -/

/-- A maintenance request: STATUS 5 while an NVM operation runs (R351). -/
def maintenance (r : Req) (body : List Byte) (serve : State → State) (s : State) : Host.Outcome State Fault Refusal :=
  hostRequest 5 r body (fun s => if s.cfg.op.isSome then reply r true 5 [] s else serve s) s
/-- NVM operations are accepted (R351). -/
def nvmState (s : State) : Bool :=
  match s.dev.st with
  | .armed | .service | .recovery => true
  | _ => false
/-- A bank is the one in use (R352). -/
def bankInUse (s : State) (bank : Nat) : Bool := isSet s F.CFG_STAT_LOADED && rd s F.CFG_STAT_BANK == bank
/-- The operation starts: CFG_NVM shows it running. -/
def nvmStart (op : NvmOp) (s : State) : State :=
  wr F.CFG_NVM_MOP op.mop s |> wr F.CFG_NVM_BUSY 1 |> wr F.CFG_NVM_DONE 0 |> wr F.CFG_NVM_FAIL 0 |> wr F.CFG_NVM_FCODE 0
    |> (fun s => if op.mop = 3 then wr F.CFG_NVM_VERIFIED 0 s else s) |> wr F.CFG_NVM_REMAIN (nvmLeft s op false 0) |> fun s => s.setCfg { s.cfg with op := some op }
/-- An NVM request, MOP 1 to 4: STATUS 5 behind an accepted restart too (R365). -/
def nvmRequest (r : Req) (body : List Byte) (serve : State → State) (s : State) : Host.Outcome State Fault Refusal :=
  maintenance r body (fun s => if s.cfg.restart then reply r true 5 [] s else serve s) s
/-- MOP 1 to 3 past their format: refused in another state or on the bank in use, else started (R351, R352). -/
def nvmBegin (r : Req) (op : NvmOp) (s : State) : State :=
  if nvmState s ∧ ¬ bankInUse s op.bank then reply r true 0 [] (nvmStart op s) else reply r true 3 [] s
/-- NVM_ERASE (R351): MOP 1. -/
def execNvmErase (r : Req) (bank : Byte) (ofs len : Word) (s : State) : Host.Outcome State Fault Refusal :=
  nvmRequest r ([1, 0, 0, 0, bank, 0, 0, 0] ++ leBytes 4 ofs.toNat ++ leBytes 4 len.toNat) (fun s =>
    if 2 ≤ bank.toNat ∨ ofs.toNat % 0x10000 ≠ 0 ∨ len.toNat % 0x10000 ≠ 0 ∨ 0x800000 < ofs.toNat + len.toNat then reply r true 2 [] s
    else nvmBegin r ⟨1, bank.toNat, ofs.toNat, len.toNat, []⟩ s) s
/-- NVM_PROGRAM (R351, R352): MOP 2. -/
def execNvmProgram (r : Req) (bank : Byte) (ofs : Word) (plen : BitVec 16) (data : List Byte) (s : State) : Host.Outcome State Fault Refusal :=
  let n := plen.toNat
  nvmRequest r ([2, 0, 0, 0, bank, 0, 0, 0] ++ leBytes 4 ofs.toNat ++ leBytes 2 n ++ [0, 0] ++ data) (fun s =>
    if 2 ≤ bank.toNat ∨ ofs.toNat < 0x40 ∨ ofs.toNat % 4 ≠ 0 ∨ n < 4 ∨ 1024 < n ∨ n % 4 ≠ 0 ∨ data.length ≠ n ∨ 0x800000 < ofs.toNat + n then
      reply r true 2 [] s
    else nvmBegin r ⟨2, bank.toNat, ofs.toNat, n, data⟩ s) s
/-- The header bytes of a bank read 0xFF on every port written (R352). -/
def headerBlank (s : State) (bank : Nat) : Bool :=
  (nvmPorts s).all fun p => (tgetList flashReset s.cfg.flash (bankBase bank p) 64).all (· == 0xFF)
/-- NVM_HEADER_WRITE (R351, R352): MOP 3. -/
def execNvmHeaderWrite (r : Req) (bank : Byte) (data : List Byte) (s : State) : Host.Outcome State Fault Refusal :=
  nvmRequest r ([3, 0, 0, 0, bank, 0, 0, 0] ++ data) (fun s =>
    if 2 ≤ bank.toNat ∨ data.length ≠ 64 then reply r true 2 [] s
    else if ¬ headerBlank s bank.toNat then reply r true 3 [] s
    else nvmBegin r ⟨3, bank.toNat, 0, 64, data⟩ s) s
/-- NVM_READ (R351): MOP 4, answered at once. -/
def execNvmRead (r : Req) (bank port : Byte) (ofs : Word) (n : BitVec 16) (s : State) : Host.Outcome State Fault Refusal :=
  let k := n.toNat
  nvmRequest r ([4, 0, 0, 0, bank, port, 0, 0] ++ leBytes 4 ofs.toNat ++ leBytes 2 k ++ [0, 0]) (fun s =>
    if 2 ≤ bank.toNat ∨ ¬ (nvmPorts s).contains port.toNat ∨ k < 4 ∨ 1024 < k ∨ k % 4 ≠ 0 ∨ 0x800000 < ofs.toNat + k then reply r true 2 [] s
    else if nvmState s then reply r true 0 (tgetList flashReset s.cfg.flash (bankBase bank.toNat port.toNat + ofs.toNat) k) s
    else reply r true 3 [] s) s
/-- The conditions of a restart (R353). -/
def restartOk (s : State) : Bool :=
  isSet s F.CFG_STAT_NOIMAGE ||
  (nvmState s && (List.range 4).all (fun g => !isSet s (F.LE_DCL_DSTAT_ACTIVE g)) &&
    (axesUsed s).all fun a => let x := axState s a; x == 0 || x == 1 || x == 7 || (s.dev.st == .recovery && x == 6))
/-- RESTART (R306, R353): MOP 5, which takes effect at the next mark (R354). A maintenance frame of a MOP that R306 does not list, or of MOP 5 with
operation data, is refused with STATUS 2. -/
def execRestart (m : MaintReq) (s : State) : Host.Outcome State Fault Refusal :=
  maintenance m.req ([m.mop, 0, 0, 0] ++ m.data) (fun s =>
    if m.mop ≠ 5 ∨ m.data ≠ [] then reply m.req true 2 [] s
    else if restartOk s then reply m.req true 0 [] (s.setCfg { s.cfg with restart := true }) else reply m.req true 3 [] s) s
/-- Entries of a log by index: the first index returned, and the entries (R399). -/
def logSlice (s : State) (prev : Bool) (first n : Nat) : Nat × List Entry :=
  if prev then
    (first, (List.range (min n (rd s F.FLT_STAT_PREVN - first))).map fun i => tget (fun _ => {}) s.flt.prev (first + i))
  else
    let w := rd s F.FLT_WIDX_WIDX
    let f := if first < w - 1024 then w - 1024 else first
    (f, (List.range (min n (w - f))).map fun i => tget (fun _ => {}) s.flt.slots ((f + i) % 1024))
/-- LOG_READ (R398, R399): MOP 6. `n.bad` names the entries of the reply that an uncorrectable ECC error meets. -/
def execLogRead (r : Req) (log : Byte) (first : Word) (n : LogSpan) (s : State) : Host.Outcome State Fault Refusal :=
  maintenance r ([6, 0, 0, 0, log, 0, 0, 0] ++ leBytes 4 first.toNat ++ leBytes 2 n.n.toNat ++ [0, 0]) (fun s =>
    if 2 ≤ log.toNat ∨ n.n = 0 ∨ 64 < n.n.toNat then reply r true 2 [] s
    else if log = 1 ∧ ¬ isSet s F.STS_STAT_RESTORED then reply r true 3 [] s
    else
      let (f, es) := logSlice s (log == 1) first.toNat n.n.toNat
      let es := (List.range es.length).map fun i => entryRead (n.bad.any (·.val == i)) (es.getD i {})
      reply r true 0 (leBytes 4 f ++ leBytes 2 es.length ++ [0, 0] ++ es.flatMap entryBytes) s) s

/-! ### Demand frames and discarded frames (R302, R303) -/

/-- DEMAND_FRAME (R302, R303): a TYPE 1 frame with its safe frame. The device's own is a copy on the path of its port, for the host
connection with its CONS; D0 inserts another device's in class 2 on the ring of its port. -/
def execDemandFrame (port : Fin 2) (dev : BitVec 6) (bytes : List Byte) (s : State) : Host.Outcome State Fault Refusal :=
  if ¬ portsOn s ∨ romDefault s ∨ ¬ isSet s (F.ETH_P_CFG_EN port) then unmet s
  else if dev.toNat = s.devNum then
    done (upto (fun c s =>
      if connRx s c ∧ isSet s (F.GRP_CONN_CFG_PATH c) ∧ rd s (F.GRP_CONN_TOL_CONS c) = field bytes 1 1 then rxCopy c port bytes s else s) 32 s)
  else if isSet s F.RNG_CFG_HEAD ∧ ringOn s then
    done (cisPut (2 + 7 * port.val)
      { dest := dev.toNat, src := s.devNum, cls := 2, flags := 8 * port.val, stamp := s.dev.count.toNat % 65536, stream := field bytes 0 2, body := bytes } s).1
  else unmet s
/-- The device's MAC address on a port: the image's, or in the ROM default configuration the one derived from the serial (R301). -/
def portMac (s : State) (p : Nat) : BitVec 48 :=
  if romDefault s then Config.defaultMac else BitVec.ofNat 48 (rd s (F.ETH_P_MACL_MAC p) + 2 ^ 32 * rd s (F.ETH_P_MACH_MAC p))
/-- HOST_FRAME_REJECTED (R301, R302): a malformed frame, or one of another EtherType or to another address. -/
def execHostFrameRejected (p : Fin 2) (cause : RejectCause) (s : State) : Host.Outcome State Fault Refusal :=
  if ¬ portsOn s then unmet s else
  match cause with
  | .malformed typ => done (logRated 0x080B p 0 typ.toNat (bumpSat (F.ETH_P_CNT_RXBAD p) s))
  | .other dst etype =>
    if dst = portMac s p ∧ etype = 0x9A7C then unmet s else done (bumpSat (F.ETH_P_CNT_RXOTHER p) s)

/-! ### Ethernet ports (R300, R309) -/

/-- A link that was up is lost: counted (Table 11.14). -/
def ethDown (p : Nat) (s : State) : State :=
  if isSet s (F.ETH_P_STAT_LINK p) then bumpSat (F.ETH_P_STAT_DOWNCNT p) (wr (F.ETH_P_STAT_LINK p) 0 s) else s
/-- ETH_LINK (R300): the PHY reports the link up at a rate, or down. Without an image every rate is taken. -/
def execEthLink (p : Fin 2) (up : Bool) (rate : BitVec 2) (s : State) : Host.Outcome State Fault Refusal :=
  if ¬ portsOn s ∨ ¬ (romDefault s || isSet s (F.ETH_P_CFG_EN p)) then unmet s
  else if ¬ up then
    (if isSet s (F.ETH_P_STAT_LINK p) then done (logFault 0x0808 p 1 0 (ethDown p s)) else unmet s)
  else if romDefault s || rdBit s (F.ETH_P_CFG_RATES p) rate.toNat then
    done (wr (F.ETH_P_STAT_LINK p) 1 (wr (F.ETH_P_STAT_RATE p) rate.toNat s))
  else done (logFault 0x0808 p 1 1 (ethDown p s))
/-- PAUSE_FRAME (R300): honoured with PAUSEEN = 1; a quanta of 0 ends the pause. -/
def execPauseFrame (p : Fin 2) (quanta : BitVec 16) (s : State) : Host.Outcome State Fault Refusal :=
  if portsOn s ∧ isSet s (F.ETH_P_STAT_LINK p) ∧ isSet s (F.ETH_P_CFG_PAUSEEN p) then done (wrB (F.ETH_P_STAT_PAUSED p) (quanta != 0) s) else unmet s
/-- PAUSE_EXPIRED (R300). -/
def execPauseExpired (p : Fin 2) (s : State) : Host.Outcome State Fault Refusal :=
  if ¬ portsOn s then unmet s else
  if isSet s (F.ETH_P_STAT_PAUSED p) then done (wr (F.ETH_P_STAT_PAUSED p) 0 s) else unmet s
/-- The cistern that port p serves as number k of its five: its own, or with that empty and the other port down, the other port's (R300). -/
def txCis (s : State) (p k : Nat) : Nat :=
  let own := 14 + 5 * p + k
  let other := 14 + 5 * (1 - p) + k
  if (s.cis own).pkts = [] ∧ ¬ isSet s (F.ETH_P_STAT_LINK (1 - p)) then other else own
/-- An Ethernet frame (R300 to R302): destination and source, the 802.1Q tag with VLANEN = 1, EtherType 0x9A7C, the host frame padded to the
Ethernet minimum of 60 bytes, and the FCS. An address goes out with MAC[7:0] first (assumption 123). -/
def ethFrame (s : State) (p : Nat) (dst : BitVec 48) (f : List Byte) : List Byte :=
  let tag := if isSet s (F.ETH_P_CFG_VLANEN p) then
    [0x81, 0x00] ++ beBytes 2 (rd s (F.ETH_P_CFG_PCP p) * 8192 + rd s (F.ETH_P_CFG_VID p)) else []
  let b := leBytes 6 dst.toNat ++ leBytes 6 (portMac s p).toNat ++ tag ++ [0x9A, 0x7C] ++ f
  let b := b ++ List.replicate (60 - b.length) 0
  b ++ leBytes 4 (crc32 b)
/-- The host frame of a packet: GAP of its length word is copied into the host header (R314). -/
def hostFrameOf (x : Pkt) : List Byte :=
  let fl := field x.body 3 1
  x.body.take 3 ++ [BitVec.ofNat 8 (if bit x.flags 2 ∧ ¬ bit fl 2 then fl + 4 else fl)] ++ x.body.drop 4
/-- HOST_PORT_TRANSMIT (R300 to R302, R309, R313, R314): the MAC sends the frame at the head of cistern k of port p, to the host's address, which no
rule gives, and releases it. A frame cut off for an uncorrectable error is reread once, then released unsent. -/
def execHostPortTransmit (p : Fin 2) (k : PortCis) (s : State) : Host.Outcome State Fault Refusal :=
  let n := txCis s p k.k
  match (s.cis n).pkts with
  | [] => unmet s
  | x :: l =>
    if portsOn s ∧ isSet s (F.ETH_P_STAT_LINK p) ∧ ¬ isSet s (F.ETH_P_STAT_PAUSED p) then
      let (dst, s) := draw 48 s
      let f := ethFrame s p dst (hostFrameOf x)
      let s := s.setNet { s.net with wire := tset (fun _ => []) s.net.wire p f, cut := tset (fun _ => false) s.net.cut p k.ecc }
      if ¬ k.ecc then done (modCis n (fun c => { c with pkts := l }) s)
      else
        let s := wr (F.CIS_STAT_ECCERR n) 1 s
        if x.reread then done (cisDrop n (logFault 0x0A03 n 0 2 (modCis n (fun c => { c with pkts := l }) s)))
        else done (logFault 0x0A03 n 0 1 (modCis n (fun c => { c with pkts := { x with reread := true } :: l }) s))
    else unmet s

/-! ### Telemetry (R307, R308) -/

/-- The word at an address of the application-core map, read without side effects; the mailbox window shows what the SMC has written (R22). -/
def peekAddr (s : State) (a : Nat) : Word × State :=
  if 0x40000000 ≤ a ∧ a < 0x41000000 then peekReg s (a - 0x40000000)
  else if 0x60000000 ≤ a ∧ a < 0x60001000 then (BitVec.ofNat 32 (leNat ((List.range 4).map fun i => mailByte s (a - 0x60000000 + i))), s)
  else (rd32 s a, s)
/-- The words of a list of addresses. -/
def peekAll : List Word → State → List Word × State
  | [], s => ([], s)
  | a :: as, s =>
    let (w, s) := peekAddr s a.toNat
    let (ws, s) := peekAll as s
    (w :: ws, s)
/-- A sample's frame with FLAGS.PORTB. -/
def telFrame (s : State) (portb : Nat) (body : List Byte) : List Byte := hostHeader 6 s.devNum (2 * portb) body.length 0 s.dev.count.toNat 0 ++ body
/-- The ports of a ROUTE: A, B, or both. -/
def routePorts (route : Nat) : List Nat :=
  match route % 3 with
  | 0 => [0]
  | 1 => [1]
  | _ => [0, 1]
/-- One copy of a sample on its way: to D0 in class 4, or out of an own port (R308). -/
def telSend (k route port : Nat) (body : List Byte) (s : State) : State × Bool :=
  let f := telFrame s port body
  if route < 3 ∧ ¬ isSet s F.RNG_CFG_HEAD then ringToD0 4 k f s else portPut port 2 f s
/-- Stream k is due in this stride and not yet sampled (R307). -/
def telDue (s : State) (k : Nat) : Bool :=
  portsOn s && !romDefault s && s.dev.running && !s.dev.plain && isSet s (F.ETH_TEL_CFG_EN k) &&
  s.dev.count.toNat % (rd s (F.ETH_TEL_CFG_KM1 k) + 1) == rd s (F.ETH_TEL_CFG_KOFS k) &&
  tget (fun _ => none) s.net.telAt k != some s.dev.count
/-- TELEMETRY_SAMPLE (R307, R308). -/
def execTelemetrySample (k : Fin 32) (s : State) : Host.Outcome State Fault Refusal :=
  if ¬ telDue s k then unmet s else
  let s := bumpWrap (F.ETH_TEL_STAT_SEQ k) (s.setNet { s.net with telAt := tset (fun _ => none) s.net.telAt k (some s.dev.count) })
  let (ws, s) := peekAll (tget (fun _ => []) s.cfg.tel k) s
  let body := leBytes 1 k ++ leBytes 1 ws.length ++ leBytes 2 (rd s (F.ETH_TEL_STAT_SEQ k)) ++ ws.flatMap fun w => leBytes 4 w.toNat
  let route := rd s (F.ETH_TEL_CFG_ROUTE k)
  let r := each (fun p (acc : State × Bool) => let (t, ok) := telSend k route p body acc.1; (t, acc.2 && ok)) (routePorts route) (s, true)
  done (if r.2 then r.1 else bumpSat (F.ETH_TEL_STAT_DROPS k) r.1)

end Sys2Proof.Machine
end

