-- ==== Sys2Proof/Machine/Stride.lean ====
section
/-! DEFINITION. What a stride mark decides (STRIDE_MARK: R37 and the rules of the step), and the application commit at phase A (R44 to R50). -/
namespace Sys2Proof.Machine
open Sys2Proof

/-! ### The parts of a stride mark -/

/-- Marks are made: the timebase has started, outside reset, in a state whose work the stride times (R37, Table 1.7). -/
def marksRun (s : State) : Bool :=
  s.dev.started && !held s &&
  (match s.dev.st with
    | .sync | .armed | .service | .recovery => true
    | _ => false)
/-- What the correction of R54 and R56 moves the mark by, in interpolation steps: free within 8 each way while the device follows a source
(assumption 149). -/
def markSlew (s : State) : Int × State :=
  if syncRuns s ∧ ¬ isSet s F.STR_SYNCSTAT_SOURCE then let (v, s) := draw 5 s; (v.toNat % 17 - 8, s) else (0, s)
/-- The mark on the observer grid, which starts at entry into ARMED and is independent of the stride (R94). -/
def gridMark (s : State) : State :=
  if ¬ armedOn s then s
  else
    let (m, s) := markSlew s
    let t : Int := 16 * s.per
    modDev (fun d => { d with grid := ((d.grid + t + m) % 12800).toNat }) s
/-- The count at the mark: 0 at the first, then one more (R37). The strides from entry into ARMED and the time in SERVICE are counted (R379,
Table 14.2). -/
def countMark (s : State) : State :=
  let per := s.per
  let s := modDev (fun d => { d with
    count := if d.running then d.count + 1 else d.count, running := true, phase := 0, stepped := d.stepped.map (· + 1) }) s
  let s := match s.dev.st with
    | .armed | .service | .recovery => s.setPwr { s.pwr with since := s.pwr.since + 1 }
    | _ => s
  if s.dev.st ≠ .service then s else
  let t := s.pwr.svc + per
  if 800000000 ≤ t then bumpCounter 3 (s.setPwr { s.pwr with svc := t - 800000000 }) else s.setPwr { s.pwr with svc := t }
/-- MCLK_START (R59): the modulator clocks start at the first mark of the timebase. -/
def mclkMark (s : State) : State := if timebase s then modDev (fun d => { d with mclk := true }) s else s
/-- RECOVERY_ENTRY (R207, R379): after a class DV reaction, at the mark that follows, with a record. -/
def recoveryMark (s : State) : State :=
  if s.dev.recPend then recAsk 5 (setSt .recovery (modDev (fun d => { d with recPend := false }) s)) else s
/-- A pair leaves the loader for an entry point, in machine mode and with its PMP regions cleared (R364); what its other registers then hold is
free, but for what the debugger has set (R274). -/
def pairJump (p : Nat) (entry : Word) (s : State) : State :=
  if (s.pair p).appOn ∨ (s.pair p).held then s else
  each (fun c => modHart c fun x => { x with
    dpc := entry, dcsr := x.dcsr ||| 3, regs := pmpClear ++ x.regs.filter fun q => dbgKept x.regs q.1 }) [2 * p, 2 * p + 1]
    (modPair p (fun x => { x with appOn := true }) s)
/-- At the first mark in ARMED the pairs leave the loader; pair 1 stays in WFI with ENTRY1 = 0 (R364). -/
def appMark (s : State) : State :=
  if s.dev.st ≠ .armed ∨ s.dev.plain then s else
  let s := pairJump 0 s.bst.entry0 s
  if s.bst.entry1 = 0 then s else pairJump 1 s.bst.entry1 s
/-- Progress of a running NVM operation (R351): CFG_NVM shows the blocks or words still to do, of which a free number has been done since the last
mark (assumption 54). -/
def nvmMark (s : State) : State :=
  if s.cfg.op.isNone then s else
  let (v, s) := draw 16 s
  let n := rd s F.CFG_NVM_REMAIN
  wr F.CFG_NVM_REMAIN (n - v.toNat % (n + 1)) s
/-- The groups at the mark (R233 to R244). -/
def groupsMark (s : State) : State := upto groupMark 4 (upto connMark 32 s)
/-- The clearings asked for since the last mark are judged, and the write lists that hold them answered (R209, R394). -/
def clearingsMark (s : State) : State := listsMark (each clearMark (axesUsed s) (upto (fun t => teamClearMark t) s.nTeams s))
/-- The safety channel at the mark: freewheel requests watched, safe inputs, clearings, team enables, demands (R205, R208, R209, R211, R215). -/
def safetyMark (s : State) : State :=
  let s := each watchMark (axesUsed s) s
  let s := clearingsMark (upto siMark 16 s)
  let s := upto (fun t => haltGrant t) s.nTeams s
  each demMark (axesUsed s) s
/-- The axis reactions due at the mark, before the requests they take precedence over (R77, R161, R183, R426). -/
def reactionsMark (s : State) : State :=
  let s := upto (fun g => dclCheck g) 4 s
  each reactMark (axesUsed s) (each legMark (axesUsed s) s)
/-- The axes at the mark: conditions counted over the stride that ended, transitions due, discharges, requests (R70, R177, R180, R182, R191). -/
def axesMark (s : State) : State :=
  let as := axesUsed s
  let s := each (fun a s => relMark a (stopMark a s)) as s
  let s := each trimMark as s
  let s := each (fun a s => partnerMark a (startMark a s)) as s
  let s := upto (fun g => dischMark g) 4 s
  let s := each modeMark as s
  each estStopMark as s
/-- The pairs and the debug reaction at the mark (R260 to R265, R277). -/
def coresMark (s : State) : State :=
  modDev (fun d => { d with dvNow := false }) (debugMark (each (fun p s => splitInit p (pairMark p (sigMark p s))) [0, 1] s))
/-- What an image's marks hold from ARMED on. -/
def armedMark (s : State) : State :=
  let s := upto (fun g => modDcl g fun d => { d with wasOn := d.on }) 4 s
  let s := each (fun a => modAx a fun x => { x with span := { x.span with got := false } }) (axesUsed s) s
  let s := groupsMark (appMark s)
  let s := reactionsMark (coresMark (safetyMark s))
  let s := upto fitMark 4 (axesMark s)
  let s := each safeLog (axesUsed s) s
  busMark (upto (fun n => sbMark n) 8 (upto (fun g => onMark g) 4 s))
/-- The sync and grant frames, the proposals and the training at the mark (R51, R285, R294, R298). -/
def framesMark (s : State) : State := each trainMark [0, 1] (unwrapMark (grantMark (syncSend s)))
/-- SLEEP_ENTRY and SLEEP_REFUSED (R386): the requests waiting are judged, and the host's answered. -/
def sleepMark (s : State) : State :=
  let rs := s.net.sleepReq
  if rs = [] ∧ ¬ s.pwr.sleepCmd then s else
  let why := sleepWhy s
  let s := s.setPwr { s.pwr with sleepCmd := false }
  let s := s.setNet { s.net with sleepReq := [] }
  let s := if why = 0 then sleepGo s else logFault 0x0D07 0 0 why s
  each (fun r => reply r false (if why = 0 then 0 else 3) []) rs s
/-- RESTART_EFFECT (R354): the record of an accepted restart is asked for; the device starts over when it is written. -/
def restartMark (s : State) : State :=
  if s.cfg.restart then
    recAsk 2 (bumpCounter 4 (logFault 0x0B07 0 0 (rd s F.CFG_SEQ_SEQ) (s.setCfg { s.cfg with restart := false })))
  else s
/-- STRIDE_MARK (R37 and the rules of its parts). -/
def execStrideMark (s : State) : Host.Outcome State Fault Refusal :=
  if ¬ marksRun s then unmet s else
  let s := modDev (fun d => { d with atMark := true }) s
  let s := countMark (gridMark (syncMark (smcWork (slotsMark s))))
  let s := coreEvent 0 (recoveryMark (mclkMark s))
  let s := if armedOn s then armedMark s else coresMark (clearingsMark (upto (fun n => siMark n) 16 s))
  done (modDev (fun d => { d with atMark := false }) (nvmMark (restartMark (sleepMark (framesMark s)))))

/-! ### The application commit (R44 to R50) -/

/-- The axes that a task owns; a bit of an axis of TYPE 0 names none (assumption 152). -/
def taskAxes (s : State) (k : Nat) : List Nat := (axesUsed s).filter fun a => rdBit s (F.STR_TASK_AXES_AXES k) a
/-- The pending set-points of a task's axes become the active ones, together (R48). -/
def copySetpoints (as : List Nat) (s : State) : State :=
  each (fun a s => modAx a (fun x => { x with spNew := true }) (wrBytes (actBase a) (rdBytes s (pendBase a) 64) s)) as s
/-- TASK_REACTION (R50): the reaction of a safety-relevant task on its axes. -/
def taskReact (k : Nat) (s : State) : State :=
  let as := taskAxes s k
  let s := logFault 0x0102 k 2 (maskOf as) s
  if rd s (F.STR_TASK_CFG_REACT k) = 1 then
    each (fun a s => flagReact a F.SAF_AX_FLT_BLOCK (modAx a (fun x => { x with zeroRamp := true }) s)) as s
  else each (fun a => blockReact true a 5) as s
/-- TASK_OVERRUN (R49): counted, and logged where the task's bit was clear. -/
def taskOverrun (k : Nat) (s : State) : State :=
  let s := bumpSat (F.STR_TASK_STAT_OVRCNT k) (bumpWrap F.STR_OVERRUN_COUNT s)
  let s := if rdBit s F.STR_TASKOVR_OVR k then s
    else logFault 0x0101 k 1 (s.dev.count.toNat % 65536) (wrBit F.STR_TASKOVR_OVR k true s)
  let was := rd s (F.STR_TASK_STAT_CONSEC k)
  let s := wr (F.STR_TASK_STAT_CONSEC k) (satAdd 2 was 1) s
  if was = 1 ∧ isSet s (F.STR_TASK_CFG_SAFETY k) then taskReact k s else s
/-- A task at A: copied where committed, else overrun where due and counted (R48, R49). -/
def taskCommit (k : Nat) (s : State) : State :=
  if ¬ isSet s (F.STR_TASK_CFG_USED k) then s else
  let due := s.dev.count.toNat % 2 ^ rd s (F.STR_TASK_CFG_PERIOD k) = 0
  if bit s.dev.commits.toNat k then
    let s := copySetpoints (taskAxes s k) s
    if due then wr (F.STR_TASK_STAT_CONSEC k) 0 s else s
  else if due ∧ (taskAxes s k).any (axActive s) then taskOverrun k s
  else s
/-- APPLICATION_COMMIT (R44, R48 to R50, R229): phase A of a stride under an image. -/
def execApplicationCommit (s : State) : Host.Outcome State Fault Refusal :=
  if ¬ (armedOn s ∧ s.dev.running ∧ ¬ held s) then unmet s else
  let s := modDev (fun d => { d with commits := 0 }) (upto taskCommit 32 (coreEvent 1 s))
  done (upto memberSend 4 s)

end Sys2Proof.Machine
end

