-- ==== Sys2Proof/Machine/Dispatch.lean ====
section
/-! DEFINITION. One arm for each command: a direct call of its meaning. -/
namespace Sys2Proof.Machine
open Sys2Proof

/-- What a command does to everything but the queue. -/
def exec (i : Instr) (s : State) : Host.Outcome State Fault Refusal :=
  match i with
  | .powerupComplete res => Sys2Proof.Machine.execPowerupComplete res s
  | .selftestComplete r => Sys2Proof.Machine.execSelftestComplete r s
  | .loadComplete r => Sys2Proof.Machine.execLoadComplete r s
  | .identityRead k answer t => Sys2Proof.Machine.execIdentityRead k answer t s
  | .dspiTransaction t readback => Sys2Proof.Machine.execDspiTransaction t readback s
  | .identifyComplete => Sys2Proof.Machine.execIdentifyComplete s
  | .syncAligned => Sys2Proof.Machine.execSyncAligned s
  | .serviceRequest r => Sys2Proof.Machine.execServiceRequest r s
  | .axesModeRequest r m axmask => Sys2Proof.Machine.execAxesModeRequest r m axmask s
  | .sleepRequest r => Sys2Proof.Machine.execSleepRequest r s
  | .sleepCmd who => Sys2Proof.Machine.execSleepCmd who s
  | .wakeComparator n rising => Sys2Proof.Machine.execWakeComparator n rising s
  | .wakeTimer => Sys2Proof.Machine.execWakeTimer s
  | .supplyReturn => Sys2Proof.Machine.execSupplyReturn s
  | .supplySag => Sys2Proof.Machine.execSupplySag s
  | .stateRecordWritten mismatch => Sys2Proof.Machine.execStateRecordWritten mismatch s
  | .periodicRecord => Sys2Proof.Machine.execPeriodicRecord s
  | .sagRecovery => Sys2Proof.Machine.execSagRecovery s
  | .resetNAssert lowNs => Sys2Proof.Machine.execResetNAssert lowNs s
  | .resetNRelease holdMs => Sys2Proof.Machine.execResetNRelease holdMs s
  | .vsafeTrip => Sys2Proof.Machine.execVsafeTrip s
  | .vsafeGood => Sys2Proof.Machine.execVsafeGood s
  | .vkeepPowerOn => Sys2Proof.Machine.execVkeepPowerOn s
  | .supplyMonitor rail => Sys2Proof.Machine.execSupplyMonitor rail s
  | .clockMonitorWindow dev lost => Sys2Proof.Machine.execClockMonitorWindow dev lost s
  | .islandClockLost => Sys2Proof.Machine.execIslandClockLost s
  | .rtcOscFail => Sys2Proof.Machine.execRtcOscFail s
  | .rtcSet who => Sys2Proof.Machine.execRtcSet who s
  | .rtcSubRead => Sys2Proof.Machine.execRtcSubRead s
  | .strideMark => Sys2Proof.Machine.execStrideMark s
  | .samplePhase t => Sys2Proof.Machine.execSamplePhase t s
  | .loopEngineRun t ecc => Sys2Proof.Machine.execLoopEngineRun t ecc s
  | .commitPhase t => Sys2Proof.Machine.execCommitPhase t s
  | .updatePhase t => Sys2Proof.Machine.execUpdatePhase t s
  | .applicationCommit => Sys2Proof.Machine.execApplicationCommit s
  | .idleWindow w => Sys2Proof.Machine.execIdleWindow w s
  | .islandSlice res => Sys2Proof.Machine.execIslandSlice res s
  | .sliceSkipLong => Sys2Proof.Machine.execSliceSkipLong s
  | .slicePostponed => Sys2Proof.Machine.execSlicePostponed s
  | .taskCommit who mask recs => Sys2Proof.Machine.execTaskCommit who mask recs s
  | .strCountLoRead => Sys2Proof.Machine.execStrCountLoRead s
  | .syncFrame ring f => Sys2Proof.Machine.execSyncFrame ring f s
  | .syncLost => Sys2Proof.Machine.execSyncLost s
  | .sourceTakeover => Sys2Proof.Machine.execSourceTakeover s
  | .d0BecomesSource => Sys2Proof.Machine.execD0BecomesSource s
  | .syncRetry ring => Sys2Proof.Machine.execSyncRetry ring s
  | .senseResult n w dupFlip => Sys2Proof.Machine.execSenseResult n w dupFlip s
  | .resolverResult n w exPh => Sys2Proof.Machine.execResolverResult n w exPh s
  | .plausibilityCheck t => Sys2Proof.Machine.execPlausibilityCheck t s
  | .fastTrip n bits ph => Sys2Proof.Machine.execFastTrip n bits ph s
  | .streamStuck n level => Sys2Proof.Machine.execStreamStuck n level s
  | .offsetTrimComplete a => Sys2Proof.Machine.execOffsetTrimComplete a s
  | .encoderEdge n aLvl bLvl ph => Sys2Proof.Machine.execEncoderEdge n aLvl bLvl ph s
  | .indexEdge n ph => Sys2Proof.Machine.execIndexEdge n ph s
  | .hallChange n code ph => Sys2Proof.Machine.execHallChange n code ph s
  | .posHallIllegal n => Sys2Proof.Machine.execPosHallIllegal n s
  | .ssiRequest n lineLow => Sys2Proof.Machine.execSsiRequest n lineLow s
  | .ssiWord n word age ph => Sys2Proof.Machine.execSsiWord n word age ph s
  | .posTimeout n => Sys2Proof.Machine.execPosTimeout n s
  | .resolverHalfPeriod n age ph => Sys2Proof.Machine.execResolverHalfPeriod n age ph s
  | .observerUpdate n => Sys2Proof.Machine.execObserverUpdate n s
  | .posAngRead n => Sys2Proof.Machine.execPosAngRead n s
  | .posNpRead n => Sys2Proof.Machine.execPosNpRead n s
  | .compareWrite c v => Sys2Proof.Machine.execCompareWrite c v s
  | .posRecovery n => Sys2Proof.Machine.execPosRecovery n s
  | .spanUpFrame a f => Sys2Proof.Machine.execSpanUpFrame a f s
  | .spanDownFrame a f => Sys2Proof.Machine.execSpanDownFrame a f s
  | .spanFrameLost a => Sys2Proof.Machine.execSpanFrameLost a s
  | .accessFault who addr write => Sys2Proof.Machine.execAccessFault who addr write s
  | .edgeProcessing n j both => Sys2Proof.Machine.execEdgeProcessing n j both s
  | .ilkcntWindowClear t => Sys2Proof.Machine.execIlkcntWindowClear t s
  | .legFault n t => Sys2Proof.Machine.execLegFault n t s
  | .blankWindowEnd n stillAsserted => Sys2Proof.Machine.execBlankWindowEnd n stillAsserted s
  | .gsuvLockout t => Sys2Proof.Machine.execGsuvLockout t s
  | .gsuvReleased t => Sys2Proof.Machine.execGsuvReleased t s
  | .gsuvClear t => Sys2Proof.Machine.execGsuvClear t s
  | .prechargeLegEnd n => Sys2Proof.Machine.execPrechargeLegEnd n s
  | .legFaultClear n v released => Sys2Proof.Machine.execLegFaultClear n v released s
  | .axisModeRequest a req => Sys2Proof.Machine.execAxisModeRequest a req s
  | .controlledStopComplete a => Sys2Proof.Machine.execControlledStopComplete a s
  | .fieldStepComplete a => Sys2Proof.Machine.execFieldStepComplete a s
  | .catchWindowEnd a => Sys2Proof.Machine.execCatchWindowEnd a s
  | .alignComplete a => Sys2Proof.Machine.execAlignComplete a s
  | .brakeTimeout a => Sys2Proof.Machine.execBrakeTimeout a s
  | .blendComplete a => Sys2Proof.Machine.execBlendComplete a s
  | .startTimeout a => Sys2Proof.Machine.execStartTimeout a s
  | .estimatorLost a => Sys2Proof.Machine.execEstimatorLost a s
  | .ascReleased a => Sys2Proof.Machine.execAscReleased a s
  | .dischargeStart g => Sys2Proof.Machine.execDischargeStart g s
  | .dischargeAbort g => Sys2Proof.Machine.execDischargeAbort g s
  | .dischargeComplete g => Sys2Proof.Machine.execDischargeComplete g s
  | .dischTimeout g => Sys2Proof.Machine.execDischTimeout g s
  | .smcStartChecks romOk crcOk monOk path => Sys2Proof.Machine.execSmcStartChecks romOk crcOk monOk path s
  | .enableReadback t rb => Sys2Proof.Machine.execEnableReadback t rb s
  | .vartabStale a => Sys2Proof.Machine.execVartabStale a s
  | .smcHeartbeat => Sys2Proof.Machine.execSmcHeartbeat s
  | .torqueDiscrepancy a => Sys2Proof.Machine.execTorqueDiscrepancy a s
  | .freewheelEscalation n => Sys2Proof.Machine.execFreewheelEscalation n s
  | .axisFaultClear a => Sys2Proof.Machine.execAxisFaultClear a s
  | .teamLatchClear mask => Sys2Proof.Machine.execTeamLatchClear mask s
  | .safeInputChange n aLvl bLvl => Sys2Proof.Machine.execSafeInputChange n aLvl bLvl s
  | .siDiscrepancy n => Sys2Proof.Machine.execSiDiscrepancy n s
  | .safeBrakeSlot n => Sys2Proof.Machine.execSafeBrakeSlot n s
  | .sbReadback n fbh fbl => Sys2Proof.Machine.execSbReadback n fbh fbl s
  | .sbTestPulse n => Sys2Proof.Machine.execSbTestPulse n s
  | .sbTestPulseEnd n fb => Sys2Proof.Machine.execSbTestPulseEnd n fb s
  | .sbFaultClear n v fbh fbl => Sys2Proof.Machine.execSbFaultClear n v fbh fbl s
  | .groupGo g who arbok => Sys2Proof.Machine.execGroupGo g who arbok s
  | .groupRelease g who => Sys2Proof.Machine.execGroupRelease g who s
  | .safeFrameCopy c path bytes => Sys2Proof.Machine.execSafeFrameCopy c path bytes s
  | .safeFrameSingle c => Sys2Proof.Machine.execSafeFrameSingle c s
  | .sfWatchdog c => Sys2Proof.Machine.execSfWatchdog c s
  | .cfailClear c => Sys2Proof.Machine.execCfailClear c s
  | .reinRevoked g c => Sys2Proof.Machine.execReinRevoked g c s
  | .reinGranted g c => Sys2Proof.Machine.execReinGranted g c s
  | .memberAdmitted g c => Sys2Proof.Machine.execMemberAdmitted g c s
  | .hostGroupFrame g bytes => Sys2Proof.Machine.execHostGroupFrame g bytes s
  | .leaseExpired g => Sys2Proof.Machine.execLeaseExpired g s
  | .noRein g => Sys2Proof.Machine.execNoRein g s
  | .reinTaken g => Sys2Proof.Machine.execReinTaken g s
  | .quorumLost g => Sys2Proof.Machine.execQuorumLost g s
  | .listenComplete g => Sys2Proof.Machine.execListenComplete g s
  | .lockstepMismatch p groups railA railB parity => Sys2Proof.Machine.execLockstepMismatch p groups railA railB parity s
  | .lockstepAttribution p fails => Sys2Proof.Machine.execLockstepAttribution p fails s
  | .msigdWrite p master checker => Sys2Proof.Machine.execMsigdWrite p master checker s
  | .msigendWrite p => Sys2Proof.Machine.execMsigendWrite p s
  | .sigWindowEnd p => Sys2Proof.Machine.execSigWindowEnd p s
  | .pairSplit p => Sys2Proof.Machine.execPairSplit p s
  | .pairJoin p => Sys2Proof.Machine.execPairJoin p s
  | .rejoinTransferComplete p cycles => Sys2Proof.Machine.execRejoinTransferComplete p cycles s
  | .tapReset => Sys2Proof.Machine.execTapReset s
  | .idcode => Sys2Proof.Machine.execIdcode s
  | .samplePreload v => Sys2Proof.Machine.execSamplePreload v s
  | .extest => Sys2Proof.Machine.execExtest s
  | .clamp => Sys2Proof.Machine.execClamp s
  | .highz => Sys2Proof.Machine.execHighz s
  | .dtmcs => Sys2Proof.Machine.execDtmcs s
  | .dmi addr write data => Sys2Proof.Machine.execDmi addr write data s
  | .scanen => Sys2Proof.Machine.execScanen s
  | .bypass opcode => Sys2Proof.Machine.execBypass opcode s
  | .authCapture => Sys2Proof.Machine.execAuthCapture s
  | .authUnlock level key sig => Sys2Proof.Machine.execAuthUnlock level key sig s
  | .debugHalt h => Sys2Proof.Machine.execDebugHalt h s
  | .debugResume h => Sys2Proof.Machine.execDebugResume h s
  | .singleStep h => Sys2Proof.Machine.execSingleStep h s
  | .abstractCommand h cmd => Sys2Proof.Machine.execAbstractCommand h cmd s
  | .hopUp h => Sys2Proof.Machine.execHopUp h s
  | .linkLost h cause => Sys2Proof.Machine.execLinkLost h cause s
  | .hopRetrain h => Sys2Proof.Machine.execHopRetrain h s
  | .idle h credit => Sys2Proof.Machine.execIdle h credit s
  | .align h => Sys2Proof.Machine.execAlign h s
  | .ack h seq => Sys2Proof.Machine.execAck h seq s
  | .nak h seq => Sys2Proof.Machine.execNak h seq s
  | .resync h seq => Sys2Proof.Machine.execResync h seq s
  | .linkFault h cause => Sys2Proof.Machine.execLinkFault h cause s
  | .ident h data => Sys2Proof.Machine.execIdent h data s
  | .delayReq h num => Sys2Proof.Machine.execDelayReq h num s
  | .delayResp h num roundTrip turnaround => Sys2Proof.Machine.execDelayResp h num roundTrip turnaround s
  | .enum h count ring => Sys2Proof.Machine.execEnum h count ring s
  | .equalise h preset adapted => Sys2Proof.Machine.execEqualise h preset adapted s
  | .unwrapPropose h u => Sys2Proof.Machine.execUnwrapPropose h u s
  | .unwrapConfirm h u => Sys2Proof.Machine.execUnwrapConfirm h u s
  | .syncCopy0 h count => Sys2Proof.Machine.execSyncCopy0 h count s
  | .syncCopy1 h f => Sys2Proof.Machine.execSyncCopy1 h f s
  | .ringUnwrap h => Sys2Proof.Machine.execRingUnwrap h s
  | .ringFrame ring bytes e => Sys2Proof.Machine.execRingFrame ring bytes e s
  | .reservedSlot h slot t => Sys2Proof.Machine.execReservedSlot h slot t s
  | .linkTransmit h t => Sys2Proof.Machine.execLinkTransmit h t s
  | .ackTimeout h => Sys2Proof.Machine.execAckTimeout h s
  | .grantFrame ring payload => Sys2Proof.Machine.execGrantFrame ring payload s
  | .creditStall => Sys2Proof.Machine.execCreditStall s
  | .demandFrame port dev bytes => Sys2Proof.Machine.execDemandFrame port dev bytes s
  | .hostRegisterRead r ofs x => Sys2Proof.Machine.execHostRegisterRead r ofs x s
  | .hostRegisterWrite r list => Sys2Proof.Machine.execHostRegisterWrite r list s
  | .nvmErase r bank ofs len => Sys2Proof.Machine.execNvmErase r bank ofs len s
  | .nvmProgram r bank ofs plen data => Sys2Proof.Machine.execNvmProgram r bank ofs plen data s
  | .nvmHeaderWrite r bank data => Sys2Proof.Machine.execNvmHeaderWrite r bank data s
  | .nvmRead r bank port ofs n => Sys2Proof.Machine.execNvmRead r bank port ofs n s
  | .restart m => Sys2Proof.Machine.execRestart m s
  | .logRead r log first n => Sys2Proof.Machine.execLogRead r log first n s
  | .nvmOpComplete res => Sys2Proof.Machine.execNvmOpComplete res s
  | .telemetrySample k => Sys2Proof.Machine.execTelemetrySample k s
  | .pauseFrame p quanta => Sys2Proof.Machine.execPauseFrame p quanta s
  | .ethLink p up rate => Sys2Proof.Machine.execEthLink p up rate s
  | .packetOpen n => Sys2Proof.Machine.execPacketOpen n s
  | .packetClose n bytes skidFull => Sys2Proof.Machine.execPacketClose n bytes skidFull s
  | .cisOpenTimeout n => Sys2Proof.Machine.execCisOpenTimeout n s
  | .cisPtrMismatch n mask => Sys2Proof.Machine.execCisPtrMismatch n mask s
  | .canSlotBegin c sl busy => Sys2Proof.Machine.execCanSlotBegin c sl busy s
  | .canSlotMissed c => Sys2Proof.Machine.execCanSlotMissed c s
  | .canCommit who c m dlc busy => Sys2Proof.Machine.execCanCommit who c m dlc busy s
  | .canCancel who c m => Sys2Proof.Machine.execCanCancel who c m s
  | .canTransmissionEnd c res tdcv => Sys2Proof.Machine.execCanTransmissionEnd c res tdcv s
  | .canBusOffRecovery c seqs => Sys2Proof.Machine.execCanBusOffRecovery c seqs s
  | .canFrameReceived c f => Sys2Proof.Machine.execCanFrameReceived c f s
  | .rxnewClear c m => Sys2Proof.Machine.execRxnewClear c m s
  | .sentFrame r f => Sys2Proof.Machine.execSentFrame r f s
  | .sentTimeout r => Sys2Proof.Machine.execSentTimeout r s
  | .sentFastRead r => Sys2Proof.Machine.execSentFastRead r s
  | .linEntryStart l => Sys2Proof.Machine.execLinEntryStart l s
  | .linResponse l bytes framing bitErr => Sys2Proof.Machine.execLinResponse l bytes framing bitErr s
  | .linNoResponse l => Sys2Proof.Machine.execLinNoResponse l s
  | .linData1Write who l e v => Sys2Proof.Machine.execLinData1Write who l e v s
  | .fltLogRead sl l => Sys2Proof.Machine.execFltLogRead sl l s
  | .registerWrite who off v => Sys2Proof.Machine.execRegisterWrite who off v s
  | .xoscRestart => Sys2Proof.Machine.execXoscRestart s
  | .canReceiveError c e => Sys2Proof.Machine.execCanReceiveError c e s
  | .pauseExpired p => Sys2Proof.Machine.execPauseExpired p s
  | .hostPortTransmit p k => Sys2Proof.Machine.execHostPortTransmit p k s
  | .hostFrameRejected p cause => Sys2Proof.Machine.execHostFrameRejected p cause s
  | .vkeepLoss => Sys2Proof.Machine.execVkeepLoss s
  | .railsRemovedInSleep => Sys2Proof.Machine.execRailsRemovedInSleep s

end Sys2Proof.Machine
end

