-- ==== Sys2Proof/Safety.lean ====
section
/-! DEFINITION. What the claims call a safe state of the block, and where a command may stop. -/
namespace Sys2Proof.Machine
open Sys2Proof

/-- Registers and memory are held in canonical form: rising keys, no entry equal to what an unlisted one reads as. -/
def Canonical (s : State) : Prop := twf regReset none s.regs = true ∧ twf memReset none s.mem = true

/-- Every team enable is withdrawn, and its readback with it (R203). -/
def EnablesDown (s : State) : Prop := rd s F.SAF_TEAMEN_EN = 0 ∧ rd s F.SAF_TEAMEN_RB = 0

/-- Every safe brake output is de-energised (R216). -/
def BrakesOff (s : State) : Prop := ∀ n < 8, rd s (F.SAF_SB_STAT_CMDH n) = 0 ∧ rd s (F.SAF_SB_STAT_CMDL n) = 0

/-- The one event that the spec places outside the ratings: RESET_N low for 1 µs to 10 µs (R16, R387). -/
def OutsideRatings : Instr → Prop
  | .resetNAssert lowNs => 1000 ≤ lowNs ∧ lowNs < 10000
  | _ => False

/-- The command answers a next state, and that state has the property. -/
def Completes (c : Instr) (s : State) (P : State → Prop) : Prop := ∃ t, exec c s = .next t ∧ P t

/-- A request of a TYPE with its body reaches the device and passes the checks of R301 to R305. -/
def Accepted (typ : Nat) (r : Req) (body : List Byte) (s : State) : Prop :=
  arrives s r = true ∧ r.dev.toNat = s.devNum ∧ (romDefault s = false ∨ typ = 5) ∧ macOk s typ r body = true ∧ isFresh s r = true ∧ isNewer s r = true
/-- The state in which an accepted request is served: its FRESH and TAG are the last accepted (R305). -/
def accepted (r : Req) (s : State) : State := s.setNet { s.net with lastReq := some (r.fresh.toNat, r.tag.toNat) }
/-- The reply made last is the request's, with this status and body (R303 to R306). -/
def Replied (r : Req) (status : Nat) (body : List Byte) (t : State) : Prop :=
  t.net.replies.head? = some ((r.fresh.toNat, r.tag.toNat), replyFrame t r status body)

/-! ### What a run keeps, where a statement needs it -/

/-- Of the frames in the ring cisterns only those of classes 3 and 4 are held as sent or wait to be sent again (R292), and a released frame does
neither (R312). -/
abbrev Sequenced (s : State) : Prop :=
  ∀ n < 14, ∀ p ∈ (s.cis n).pkts, (p.sent ≠ none ∨ p.again ≠ none → 3 ≤ p.cls) ∧ (p.freed = true → p.sent = none ∧ p.again = none)
/-- The commands that send, release or rewind the frames of the ring cisterns. -/
def MovesFrames : Instr → Bool
  | .linkTransmit .. | .reservedSlot .. | .ack .. | .nak .. | .ackTimeout .. | .linkLost .. | .linkFault .. => true
  | _ => false
/-- The commands that may read STR_COUNT_LO. -/
def ReadsCount : Instr → Bool
  | .strCountLoRead | .hostRegisterRead .. => true
  | _ => false
/-- The commands, one after another, take the first state to the last. -/
def Runs : List Instr → State → State → Prop
  | [], s, t => s = t
  | c :: cs, s, t => ∃ u, exec c s = .next u ∧ Runs cs u t

/-! ### What a command may change -/

/-- The commands that can start the device over, which puts everything but the wellhead at its reset value (R34, R387). -/
def Restarts : Instr → Bool
  | .wakeComparator .. | .wakeTimer | .supplyReturn | .stateRecordWritten .. | .sagRecovery | .resetNAssert .. | .vsafeTrip | .vkeepPowerOn
  | .vkeepLoss => true
  | _ => false
/-- The commands that store to memory: commits and snapshots of the loop engines, the load, and the state record (R48, R343, R376). -/
def StoresMemory : Instr → Bool
  | .loadComplete .. | .supplySag | .strideMark | .samplePhase .. | .loopEngineRun .. | .applicationCommit | .taskCommit .. => true
  | c => Restarts c
/-- The commands that change the configuration store beyond the flash (R342 to R354). -/
def ChangesStore : Instr → Bool
  | .loadComplete .. | .identityRead .. | .supplySag | .strideMark | .nvmErase .. | .nvmProgram .. | .nvmHeaderWrite .. | .restart ..
  | .nvmOpComplete .. => true
  | c => Restarts c
/-- The commands that change what the sense channels hold beside their registers. -/
def ChangesSense : Instr → Bool
  | .identifyComplete | .strideMark | .senseResult .. | .resolverResult .. | .plausibilityCheck .. | .offsetTrimComplete .. => true
  | c => Restarts c
/-- The commands that change what the position interfaces and compare units hold beside their registers. -/
def ChangesPosition : Instr → Bool
  | .syncAligned | .samplePhase .. | .resolverResult .. | .encoderEdge .. | .indexEdge .. | .hallChange .. | .ssiRequest .. | .ssiWord .. | .posTimeout ..
  | .posHallIllegal .. | .resolverHalfPeriod .. | .observerUpdate .. | .compareWrite .. | .posRecovery .. | .hostRegisterWrite ..
  | .registerWrite .. => true
  | c => Restarts c
/-- The commands that change what the axes, the legs, the teams, the DC-link groups and the locks hold beside their registers. -/
def ChangesDrive : Instr → Bool
  | .loadComplete .. | .identityRead .. | .dspiTransaction .. | .identifyComplete | .syncAligned | .axesModeRequest .. | .supplySag
   | .supplyMonitor .. | .clockMonitorWindow .. | .islandClockLost | .strideMark | .samplePhase .. | .loopEngineRun .. | .commitPhase ..
   | .updatePhase .. | .applicationCommit | .idleWindow .. | .islandSlice .. | .syncLost | .senseResult .. | .resolverResult ..
   | .plausibilityCheck .. | .fastTrip .. | .streamStuck .. | .offsetTrimComplete .. | .encoderEdge .. | .indexEdge .. | .hallChange ..
   | .posHallIllegal .. | .ssiRequest .. | .ssiWord .. | .posTimeout .. | .resolverHalfPeriod .. | .observerUpdate .. | .posRecovery ..
   | .spanUpFrame .. | .spanDownFrame .. | .spanFrameLost .. | .edgeProcessing .. | .legFault .. | .blankWindowEnd .. | .gsuvLockout ..
   | .prechargeLegEnd .. | .axisModeRequest .. | .controlledStopComplete .. | .fieldStepComplete .. | .catchWindowEnd .. | .alignComplete ..
   | .brakeTimeout .. | .blendComplete .. | .startTimeout .. | .estimatorLost .. | .ascReleased .. | .dischargeStart .. | .dischargeAbort ..
   | .dischargeComplete .. | .dischTimeout .. | .smcStartChecks .. | .enableReadback .. | .smcHeartbeat | .torqueDiscrepancy ..
   | .freewheelEscalation .. | .axisFaultClear .. | .teamLatchClear .. | .sbReadback .. | .sbTestPulseEnd .. | .safeFrameCopy .. | .sfWatchdog ..
   | .lockstepMismatch .. | .msigdWrite .. | .sigWindowEnd .. | .demandFrame .. | .hostRegisterWrite .. | .registerWrite .. => true
  | c => Restarts c
/-- The commands that change what the safety block holds beside its registers. -/
def ChangesSafety : Instr → Bool
  | .loadComplete .. | .islandClockLost | .strideMark | .smcStartChecks .. | .smcHeartbeat | .safeInputChange .. | .siDiscrepancy .. | .safeBrakeSlot ..
  | .sbReadback .. | .sbTestPulseEnd .. | .torqueDiscrepancy .. | .safeFrameCopy .. | .safeFrameSingle .. | .noRein .. | .demandFrame .. => true
  | c => Restarts c
/-- The commands that change what the groups and safe connections hold beside their registers. -/
def ChangesGroups : Instr → Bool
  | .syncAligned | .strideMark | .applicationCommit | .groupGo .. | .safeFrameCopy .. | .safeFrameSingle .. | .cfailClear .. | .reinRevoked ..
  | .reinGranted .. | .memberAdmitted .. | .hostGroupFrame .. | .leaseExpired .. | .noRein .. | .reinTaken .. | .demandFrame ..
  | .hostRegisterWrite .. | .registerWrite .. => true
  | c => Restarts c
/-- The commands that change what the field-bus controllers hold beside their registers. -/
def ChangesBuses : Instr → Bool
  | .syncAligned | .strideMark | .hostRegisterWrite .. | .canSlotBegin .. | .canSlotMissed .. | .canCommit .. | .canCancel ..
  | .canTransmissionEnd .. | .canBusOffRecovery .. | .canFrameReceived .. | .rxnewClear .. | .sentFrame .. | .sentTimeout .. | .linEntryStart ..
  | .linResponse .. | .linNoResponse .. | .linData1Write .. | .registerWrite .. | .canReceiveError .. => true
  | c => Restarts c
/-- The commands that change what the lockstep pairs hold beside their registers. -/
def ChangesPairs : Instr → Bool
  | .strideMark | .lockstepMismatch .. | .lockstepAttribution .. | .msigdWrite .. | .msigendWrite .. | .sigWindowEnd .. | .pairSplit ..
  | .pairJoin .. | .rejoinTransferComplete .. | .dmi .. | .abstractCommand .. | .hostRegisterWrite .. | .registerWrite .. => true
  | c => Restarts c
/-- The commands that change what the debug module and the TAP hold beside their registers. -/
def ChangesDebug : Instr → Bool
  | .strideMark | .tapReset | .idcode | .samplePreload .. | .extest | .clamp | .highz | .dtmcs | .dmi .. | .scanen | .bypass .. | .authCapture
  | .authUnlock .. | .debugResume .. | .abstractCommand .. | .railsRemovedInSleep => true
  | c => Restarts c
/-- The commands that change a hart's registers or its debug state. -/
def ChangesHarts : Instr → Bool
  | .strideMark | .lockstepMismatch .. | .msigdWrite .. | .rejoinTransferComplete .. | .dmi .. | .debugHalt .. | .debugResume .. | .singleStep .. | .abstractCommand .. => true
  | c => Restarts c

/-! ### Which fields of registers a command may change -/

/-- Two fields share no bit. -/
def Apart (f g : Fld) : Prop := f.off ≠ g.off ∨ f.lo + f.w ≤ g.lo ∨ g.lo + g.w ≤ f.lo
/-- The fields by which a fault is counted and logged (Table 15.7). -/
def logFields : List Fld :=
  [⟨A.FLT_WIDX, 0, 32⟩, ⟨A.FLT_STAT, 0, 32⟩, ⟨A.FLT_CNT0, 0, 32⟩, ⟨A.FLT_CNT1, 0, 32⟩, ⟨A.FLT_CNT2, 0, 32⟩]
/-- What a packet put on, taken from or dropped at a cistern shows (R314, R316). -/
def cisFields (n : Nat) : List Fld :=
  [F.CIS_CNT_COUNT n, F.CIS_DROP_DROP n, F.CIS_STAT_GAPPEND n, F.CIS_STAT_REWINDS n, F.CIS_STAT_ECCERR n]
/-- The same for every cistern. -/
def cisternFields : List Fld := (List.range 24).flatMap cisFields

/-- The registers whose fields a write takes one by one, each by its access class (R13, R394): all but those of the fault log, and those
whose write acts on their own status or is judged by the unit that owns them. -/
def WritesFieldByField : RegId → Bool
  | .POS_IF_FLT | .POS_IF_EVCNT | .POS_CMP_POS | .LE_AX_MODE | .MOD_LEG_FLT | .MOD_TEAM_STAT | .SAF_TEAMFLT | .SAF_SB_STAT | .SAF_AX_FLT
  | .GRP_CONN_STAT | .CAN_MB_STAT | .LIN_CH_MB_DATA1 | .PWR_STAT | .FLT_WIDX | .FLT_STAT | .FLT_CNT0 | .FLT_CNT1 | .FLT_CNT2 => false
  | _ => true

/-- The fields of registers that a command of the device, the drive, the safety block, the groups or the cores may write, beside the fault
log's; none where nothing is claimed. -/
def deviceFields : Instr → Option (List Fld)
  | .accessFault .. | .authCapture | .axisFaultClear .. | .bypass .. | .debugHalt .. | .debugResume ..
  | .dischargeAbort .. | .dtmcs | .fltLogRead .. | .groupGo .. | .idcode | .memberAdmitted .. | .periodicRecord
  | .prechargeLegEnd .. | .railsRemovedInSleep | .samplePreload .. | .singleStep .. | .sleepCmd .. | .slicePostponed | .sliceSkipLong
  | .syncRetry .. | .tapReset | .taskCommit .. | .teamLatchClear .. | .vsafeGood => some []
  | .extest | .clamp | .highz | .scanen => some [F.BST_DBG_STAT_ZEROISED]
  | .authUnlock .. => some [F.BST_DBG_STAT_ZEROISED, F.BST_DBG_STAT_LEVEL, F.BST_DBG_STAT_FAILS, F.BST_DBG_STAT_LOCKOUT]
  | .lockstepAttribution .. => some [F.BST_LSFLT_ATTR]
  | .msigendWrite p => some [F.BST_PAIR_SIG_FLUSHCNT p]
  | .abstractCommand .. | .dmi .. => some [F.BST_PAIR_SIG_FLUSHCNT 0, F.BST_PAIR_SIG_FLUSHCNT 1]
  | .pairSplit p | .pairJoin p => some [F.BST_PAIR_STAT_MODE p, F.BST_PAIR_STAT_REFUSED p]
  | .rejoinTransferComplete p _ => some [F.BST_PAIR_STAT_XFERT p]
  | .axisModeRequest a _ => some [F.LE_AX_MODE_REQ a]
  | .ascReleased a => some [F.LE_AX_STATE_SAFEVAR a, F.MOD_AX_STAT_SAFEVAR a]
  | .blendComplete a | .fieldStepComplete a => some [F.LE_AX_STATE_ANGSRC a, F.LE_AX_STATE_STEP a]
  | .vartabStale a => some [F.SAF_AX_TMSTAT_STALE a]
  | .dischargeComplete g =>
    some ([F.LE_DCL_DSTAT_DONE g, F.LE_DCL_DSTAT_ACTIVE g, F.LE_DCL_DSTAT_RES g, F.LE_DCL_DSTAT_WIND g] ++ (List.range 32).map F.LE_AX_STATE_STEP)
  | .dischTimeout g =>
    some ([F.LE_DCL_DSTAT_TIMEOUT g, F.LE_DCL_DSTAT_ACTIVE g, F.LE_DCL_DSTAT_RES g, F.LE_DCL_DSTAT_WIND g] ++ (List.range 32).map F.LE_AX_STATE_STEP)
  | .gsuvClear t => some [F.MOD_TEAM_STAT_GSUV t]
  | .gsuvReleased t => some [F.MOD_TEAM_STAT_GSREL t, F.MOD_TEAM_STAT_GSLIVE t]
  | .ilkcntWindowClear t => some ((List.range 12).map fun i => F.MOD_LEG_CNT_ILKCNT (12 * t + i))
  | .legFaultClear n .. =>
    some [F.MOD_LEG_FLT_LIVE n, F.MOD_LEG_FLT_LFLT n, F.MOD_LEG_FLT_FAST n, F.MOD_LEG_FLT_ILK n, F.MOD_LEG_FLT_SIDE n, F.MOD_LEG_FLT_FAULTED n]
  | .posNpRead n => some [F.POS_IF_NPT_TURN n]
  | .posAngRead n => some [F.POS_IF_TURN_TURN n, F.POS_IF_SPD_SPD n, F.POS_IF_ACC_ACC n, F.POS_IF_ERR_E n, ⟨A.POS_IF_STAT n, 0, 32⟩]
  | .compareWrite c _ => some [F.POS_CMP_POS_POS c, F.POS_CMP_STAT_PASSED c, F.POS_CMP_STAT_ARMED c]
  | .posRecovery n => some (⟨A.POS_IF_FLT n, 0, 32⟩ :: (List.range 32).map F.LE_AX_STATE_OFSVALID)
  | .strCountLoRead => some [F.STR_COUNT_HI_COUNT_HI]
  | .powerupComplete .. =>
    some ([F.PWR_STARTCAUSE_CAUSE, F.PWR_STARTCAUSE_WKMASK] ++ (List.range 64).map fun i => ⟨0x0D0100 + 4 * i, 0, 32⟩)
  | .resetNRelease _ => some [F.PWR_RESETREC_HOLD, F.PWR_RESETREC_STUCK]
  | .rtcOscFail => some [F.PWR_STAT_RTCVALID, F.PWR_STAT_XOSCOK]
  | .xoscRestart => some [F.PWR_STAT_XOSCOK]
  | .rtcSet _ => some [F.PWR_STAT_RTCVALID]
  | .rtcSubRead => some [F.PWR_STAT_RTCVALID, F.PWR_RTC_SUB_SUB, F.PWR_RTC_LO_SEC, F.PWR_RTC_HI_SEC]
  | .safeInputChange n _ _ =>
    some [F.SAF_SI_STAT_ACTA n, F.SAF_SI_STAT_ACTB n, F.SAF_SI_STAT_DFLT n, F.SAF_SI_STAT_DISC n, F.SAF_SI_STAT_DISCCNT n, F.SAF_SI_STAT_PERMIT n]
  | .siDiscrepancy n => some [F.SAF_SI_STAT_DFLT n, F.SAF_SI_STAT_DSEEN n]
  | .safeBrakeSlot n | .sbTestPulse n =>
    some [F.SAF_SB_STAT_CMDH n, F.SAF_SB_STAT_CMDL n, F.SAF_SB_STAT_RELEASED n, F.SAF_SB_STAT_TESTING n]
  | .sbFaultClear n _ _ _ => some [F.SAF_SB_STAT_FBH n, F.SAF_SB_STAT_FBL n, F.SAF_SB_STAT_TESTFLT n, F.SAF_SB_STAT_RBFLT n]
  | .groupRelease g _ | .reinGranted g _ => some [F.GRP_G_STAT_STOPPED g]
  | .hostGroupFrame g _ | .reinRevoked g _ => some [F.GRP_G_STAT_STOPPED g, F.GRP_G_CNT_REVOKES g, F.GRP_G_FLT_REVOKED g]
  | .leaseExpired g => some [F.GRP_G_FLT_EXPIRED g]
  | .listenComplete g => some [F.GRP_G_STAT_STATE g]
  | .quorumLost g => some [F.GRP_G_STAT_QUORUM g, F.GRP_G_STAT_STOPPED g]
  | .noRein g => some ([F.GRP_G_STAT_REDUCED g, F.GRP_G_STAT_NOREIN g, F.GRP_G_FLT_NOREIN g, F.GRP_G_CNT_GAPS g] ++
      (List.range 6).map fun k => F.GRP_G_SHARE_SHARE g k)
  | .reinTaken g => some [F.GRP_G_CNT_GRANTS g, F.GRP_G_STAT_TERM g, F.GRP_G_LEASE_HRANK g, F.GRP_G_STAT_HOLDER g, F.GRP_G_STAT_STOPPED g,
      F.GRP_G_STAT_STOPREQ g, F.GRP_G_FLT_STOPREQ g]
  | .cfailClear c => some [F.GRP_CONN_STAT_CFAIL c, F.GRP_CONN_STAT_REF c, F.GRP_CONN_STAT_MISCNT c]
  | _ => none

/-- The fields of registers that a command of the ring, the host ports, the cisterns or the field buses may write, beside the fault log's;
none where nothing is claimed. -/
def networkFields (s : State) : Instr → Option (List Fld)
  | .align _ | .creditStall | .idle .. | .resync .. | .syncCopy0 .. => some []
  | .ack .. | .hostPortTransmit .. => some cisternFields
  | .nak h _ => some (F.RNG_HOP_RETX_NAKCNT h.toNat :: cisternFields)
  | .ackTimeout _ => some cisternFields
  | .delayReq h _ | .equalise h _ _ | .hopRetrain h | .hopUp h => some [F.RNG_HOP_STAT_STATE h.toNat]
  | .ident h _ => some [F.RNG_HOP_STAT_STATE h.toNat, F.RNG_HOP_STAT_NEIGH h.toNat]
  | .delayResp h _ _ _ => some [F.RNG_HOP_STAT_STATE h.toNat, F.STR_HOPA_HOP, F.STR_HOPA_VALID, F.STR_HOPB_HOP, F.STR_HOPB_VALID]
  | .enum h _ _ => some [F.RNG_HOP_STAT_STATE h.toNat, F.RNG_ENUM_POSA, F.RNG_ENUM_POSB, F.RNG_ENUM_VALIDA, F.RNG_ENUM_VALIDB, F.RNG_ENUM_MATCH]
  | .ringUnwrap h => some [F.RNG_HOP_STAT_WRAPPED h.toNat, F.RNG_HOP_STAT_UNWPEND h.toNat]
  | .unwrapPropose h _ | .unwrapConfirm h _ => some [F.RNG_HOP_STAT_UNWPEND h.toNat, F.RNG_HOP_STAT_UNWAT h.toNat]
  | .linkLost h _ | .linkFault h _ =>
    some ([F.RNG_HOP_ERR_LOSTCNT h.toNat, F.RNG_HOP_STAT_STATE h.toNat, F.RNG_HOP_STAT_UNWPEND h.toNat, F.RNG_HOP_STAT_WRAPPED h.toNat] ++ cisternFields)
  | .reservedSlot h .. | .linkTransmit h .. => some (F.RNG_HOP_RETX_RETXCNT h.toNat :: cisternFields)
  | .ringFrame h _ _ => some ([F.RNG_HOP_ERR_CRCERR h.toNat, F.RNG_DROP_AGED, F.RNG_DROP_UNDELIV] ++ cisternFields)
  | .grantFrame .. => some [F.RNG_GRANT_GRANT]
  | .serviceRequest .. | .sleepRequest .. | .nvmRead .. | .restart .. | .logRead .. =>
    some ([F.ETH_AUTHSTAT_MACFAIL, F.ETH_AUTHSTAT_FRESHREJ, F.RNG_GRANT_USED] ++ cisternFields)
  | .axesModeRequest .. =>
    some ([F.ETH_AUTHSTAT_MACFAIL, F.ETH_AUTHSTAT_FRESHREJ, F.RNG_GRANT_USED] ++ cisternFields ++ (List.range 32).map F.LE_AX_MODE_REQ)
  | .nvmErase .. | .nvmProgram .. | .nvmHeaderWrite .. =>
    some ([F.ETH_AUTHSTAT_MACFAIL, F.ETH_AUTHSTAT_FRESHREJ, F.RNG_GRANT_USED, ⟨A.CFG_NVM, 0, 32⟩] ++ cisternFields)
  | .nvmOpComplete .. => some [⟨A.CFG_NVM, 0, 32⟩]
  | .pauseFrame p _ | .pauseExpired p => some [F.ETH_P_STAT_PAUSED p]
  | .ethLink p _ _ => some [F.ETH_P_STAT_LINK p, F.ETH_P_STAT_RATE p, F.ETH_P_STAT_DOWNCNT p]
  | .hostFrameRejected p _ => some [F.ETH_P_CNT_RXBAD p, F.ETH_P_CNT_RXOTHER p]
  | .packetOpen n | .cisOpenTimeout n => some (cisFields n)
  | .packetClose n .. => some (F.RNG_GRANT_USED :: cisFields n)
  | .cisPtrMismatch n _ => some ([F.CIS_STAT_PTRERR n, F.CIS_STAT_RESETCNT n] ++ cisFields n)
  | .canCommit _ c m _ _ => some [F.CAN_MB_CTRL_DLC c m, F.CAN_MB_STAT_PEND c m, F.CAN_MB_STAT_VALID c m]
  | .canCancel _ c m => some [F.CAN_MB_STAT_PEND c m]
  | .canSlotMissed c => some ([F.CAN_CH_CNT_MISSCNT c, F.CAN_CH_FLT_MISSED c] ++
      ((s.can c).queued.toList ++ (s.can c).next.toList).map fun q => F.CAN_MB_STAT_EXPIRED c q.mb)
  | .canReceiveError c _ | .canBusOffRecovery c _ =>
    some [F.CAN_CH_STAT_TEC c, F.CAN_CH_STAT_REC c, F.CAN_CH_STAT_EWARN c, F.CAN_CH_STAT_ESTATE c, F.CAN_CH_STAT_RECSEQ c, F.CAN_CH_FLT_BOCNT c,
      F.CAN_CH_FLT_BUSOFF c, F.CAN_CH_FLT_PASSIVE c]
  | .rxnewClear c m => some ([F.CAN_MB_RXID_ID c m, F.CAN_MB_RXID_IDE c m, ⟨A.CAN_MB_STAT c m, 0, 32⟩] ++
    (List.range 16).map fun i => ⟨A.CAN_MB_DATA c m i, 0, 32⟩)
  | .sentTimeout r => some [F.SENT_RX_FAST_VALID r, F.SENT_RX_FLT_FAILED r, F.SENT_RX_FLT_TIMEOUT r]
  | .sentFastRead r => some [F.SENT_RX_STAMP_STAMP r, F.SENT_RX_STAMP_TICKM r]
  | .linEntryStart l => some [F.LIN_CH_STAT_ENTRY l]
  | .linNoResponse l =>
    let e := rd s (F.LIN_CH_STAT_ENTRY l)
    some [F.LIN_CH_MB_MBSTAT_NORESP l e, F.LIN_CH_MB_MBSTAT_ERR l e, F.LIN_CH_MB_MBSTAT_NRRUN l e, F.LIN_CH_STAT_NRCNT l, F.LIN_CH_FLT_NORESP l]
  | .linResponse l _ _ _ =>
    let e := rd s (F.LIN_CH_STAT_ENTRY l)
    some [⟨A.LIN_CH_MB_MBSTAT l e, 0, 32⟩, ⟨A.LIN_CH_MB_DATA0 l e, 0, 32⟩, ⟨A.LIN_CH_MB_DATA1 l e, 0, 32⟩, ⟨A.LIN_CH_FLT l, 0, 32⟩]
  | .linData1Write _ l e _ => some [F.LIN_CH_MB_DATA1_DATA l e]
  | _ => none

end Sys2Proof.Machine
end

