-- ==== Sys2Proof/Certificates/Slice0/Obligations.lean ====
section
/-! DEFINITION. The statements for the provers, in the order of OBLIGATIONS.json. A free value of the model (assumption 7) holds for every
value of the counter that State carries for it; no statement rests on one of its values. -/
open Sys2Proof Sys2Proof.Machine

/-- For every command c, every rest of a queue and every state, a step of the state whose queue is c followed by the rest is exec of c on the
state with the rest as its queue; with no command waiting a step answers the same state. The queue is the model's own (assumption 1). Rests
on: 95_what_each_step_holds.md. -/
def Obligations.StepRunsFrontCommand : Prop :=
  (∀ (c : Instr) (rest : List Instr) (s : State), step (s.setPending (c :: rest)) = exec c (s.setPending rest)) ∧
    ∀ s : State, s.pending = [] → step s = .next s

/-- The machine after reset is in POWERUP, not held, with no team enabled, no brake driven, an empty fault log, an empty queue, no lease (AGE
and QAGE 255, HRANK 3 in every group) and reason 31 in both bank results. That the queue is empty is the model's own (log entry 1), and that
the device is not held is what no register shows (log entry 44). Rests on: 01_device_organisation.md; 08_safety_channel.md;
09_redundant_groups.md; 13_configuration_and_start.md; 15_register_and_fault_reference.md. -/
def Obligations.ResetLeavesPowerup : Prop :=
  State.reset.dev.st = .powerup ∧ held State.reset = false ∧ EnablesDown State.reset ∧ BrakesOff State.reset ∧
  rd State.reset F.FLT_WIDX_WIDX = 0 ∧ State.reset.pending = [] ∧
  (∀ g < 4, rd State.reset (F.GRP_G_LEASE_AGE g) = 255 ∧ rd State.reset (F.GRP_G_LEASE_QAGE g) = 255 ∧ rd State.reset (F.GRP_G_LEASE_HRANK g) = 3) ∧
  rd State.reset F.CFG_BANKA_RES_REASON = 31 ∧ rd State.reset F.CFG_BANKB_RES_REASON = 31

/-- The invariant of StepKeepsCanonical holds of the machine after reset. Rests on: 15_register_and_fault_reference.md. -/
def Obligations.ResetIsCanonical : Prop :=
  Canonical State.reset

/-- From every state whose register table and memory are in canonical form, a step that answers a next state answers one in canonical form. The
form is the model's own (assumptions 5 and 6). Rests on: 01_device_organisation.md; 15_register_and_fault_reference.md. -/
def Obligations.StepKeepsCanonical : Prop :=
  ∀ s t : State, Canonical s → step s = .next t → Canonical t

/-- Every command answers a next state, but for RESET_N low for at least 1 µs and less than 10 µs on a device that has its supplies and is not
yet in reset: that pulse is outside the ratings, and it stops with the fault outsideRatings. No command is refused. That the model stops
there with a fault, and that a device without supplies or already in reset is exempt, is the model's choice (log entry 89); that every other
command answers a next state, met or not, is log entry 2. Rests on: 00_scope.md R16; 14_supply_sag_sleep_and_reset.md R387. -/
def Obligations.OnlyAPulseOutsideRatingsStops : Prop :=
  ∀ (c : Instr) (s : State),
    (exec c s = .fault .outsideRatings ∧ OutsideRatings c ∧ s.dev.dead = false ∧ s.dev.resetLow = false) ∨
    ((∃ t, exec c s = .next t) ∧ ¬ (OutsideRatings c ∧ s.dev.dead = false ∧ s.dev.resetLow = false))

/-- Whatever the command does, the commands waiting behind it stay as they were; and a command begun with no log entry held back ends with none
held back. The queue and the batch are the model's own (assumptions 1 and 16). Rests on: 15_register_and_fault_reference.md R397, R398;
95_what_each_step_holds.md. -/
def Obligations.CommandsLeaveTheQueue : Prop :=
  ∀ (c : Instr) (s t : State), exec c s = .next t → t.pending = s.pending ∧ (s.flt.batch = [] → t.flt.batch = [])

/-- TASK_COMMIT of an application core whose requests reach the fabric, with one axis and a record of 16 words, completes: the record is written
to the pending copy of the axis and nowhere else, and its bits are added to the commits counted for the next A. From the host, where the
ports serve it, it completes with no commit and no byte of memory changed; where the log runs the write is counted with class W, and with
that code and source not yet logged its entry has class W. APPLICATION_COMMIT in ARMED or a later state under an image, with the timebase
running and the device not held, completes: the active copy of every axis of a used TYPE of every used task with a counted commit becomes
its pending copy, the active copy of every other axis stays as it was, and no commit is left. That APPLICATION_COMMIT copies the axes of a
used TYPE, where R48 says all axes of the task, is the model's choice (log entry 152). Rests on: 02_stride_and_timing.md R48. -/
def Obligations.SetpointsChangeTogether : Prop :=
  (∀ (who : Requestor) (mask : Word) (a : AxisNo) (ws : List Word) (s : State), fromCore s who = true → ws.length = 16 →
      Completes (.taskCommit who mask [(a, ws)]) s fun t =>
        t.dev.commits = s.dev.commits ||| mask ∧
        rdBytes t (pendBase a) 64 = ws.flatMap (fun w => leBytes 4 w.toNat) ∧
        ∀ i, i < pendBase a ∨ pendBase a + 64 ≤ i → rdB t i = rdB s i) ∧
    (∀ (mask : Word) (recs : List (AxisNo × List Word)) (s : State), coresRun s = true →
      Completes (.taskCommit .host mask recs) s fun t => t.dev.commits = s.dev.commits ∧ (∀ i, rdB t i = rdB s i) ∧
        (logging s = true → rd t F.FLT_CNT0_W = satAdd (2 ^ F.FLT_CNT0_W.w - 1) (rd s F.FLT_CNT0_W) 1) ∧
        (logging s = true → s.flt.batch = [] → tget (fun _ => none) s.flt.rate (0x0F01 * 65536 + 7) = none →
          (tget (fun _ => {}) t.flt.slots (rd s F.FLT_WIDX_WIDX % 1024)).code = 0x0F01 ∧
          (tget (fun _ => {}) t.flt.slots (rd s F.FLT_WIDX_WIDX % 1024)).cls = 1)) ∧
    (∀ s : State, armedOn s = true → s.dev.running = true → held s = false →
      Completes .applicationCommit s fun t =>
        (∀ k < 32, isSet s (F.STR_TASK_CFG_USED k) = true → bit s.dev.commits.toNat k = true →
          ∀ a ∈ taskAxes s k, rdBytes t (actBase a) 64 = rdBytes s (pendBase a) 64) ∧
        (∀ a < 32, (∀ k < 32, isSet s (F.STR_TASK_CFG_USED k) = true → bit s.dev.commits.toNat k = true → a ∉ taskAxes s k) →
          rdBytes t (actBase a) 64 = rdBytes s (actBase a) 64) ∧
        t.dev.commits = 0)

/-- Where marks are made (the timebase started, the device not held, in SYNC, ARMED, SERVICE or RECOVERY), STRIDE_MARK completes with the
timebase running at phase 0; on a device that is in no string STR_COUNT is one more modulo 2^48, or as it stood at the first mark. Rests on:
02_stride_and_timing.md R37. -/
def Obligations.StrideMarkAdvances : Prop :=
  ∀ s : State, marksRun s = true →
    Completes .strideMark s fun t => t.dev.running = true ∧ t.dev.phase = 0 ∧
      (isSet s F.STR_SYNCCFG_RINGEN = false → t.dev.count = if s.dev.running then s.dev.count + 1 else s.dev.count)

/-- While the device can be read, from SELFTEST to RECOVERY and outside reset, STR_COUNT_LO_READ completes with the upper 16 bits of the counter
in STR_COUNT_HI, and no other register but those of the fault log changes. After it, and after any run of commands of which none reads
STR_COUNT_LO again (STR_COUNT_LO_READ, and HOST_REGISTER_READ, which may) or may start the device over, the word that the read showed and
STR_COUNT_HI together are the 48-bit count of the instant of the read. STR_COUNT_HI is latched: no other command changes it, but that one
which starts the device over, or puts its main domain in reset, may leave it at 0, as it is at reset. Rests on: R38. -/
def Obligations.CountReadLatches : Prop :=
  (∀ s : State, coresRun s = true → Completes .strCountLoRead s fun t =>
      rd t F.STR_COUNT_HI_COUNT_HI = s.dev.count.toNat / 2 ^ 32 ∧
      (∀ p, p ≠ A.STR_COUNT_HI → p ≠ A.FLT_WIDX → t.reg p = s.reg p) ∧
      ∀ (cs : List Instr) (u : State), (∀ c ∈ cs, ReadsCount c = false ∧ Restarts c = false) → Runs cs t u →
        (peekReg s A.STR_COUNT_LO).1.toNat + 2 ^ 32 * rd u F.STR_COUNT_HI_COUNT_HI = s.dev.count.toNat) ∧
    (∀ (c : Instr) (s t : State), ReadsCount c = false → exec c s = .next t →
      rd t F.STR_COUNT_HI_COUNT_HI = rd s F.STR_COUNT_HI_COUNT_HI ∨ (Restarts c = true ∧ rd t F.STR_COUNT_HI_COUNT_HI = 0)) ∧
    rd State.reset F.STR_COUNT_HI_COUNT_HI = 0

/-- SYNC_FRAME of another device, with a good CRC, on a hop that is UP of a device that follows a string, shows the path delay of its ring: CORR
plus the delay of the hop, modulo the field. SYNC_COPY0 on a live hop holds the COUNT of the copy. SYNC_COPY1 with a held COUNT, on a live
hop of a device in a string that is not SYNCED, uses the COUNT up and shows the path delay of its ring. SYNC_LOST of a device that follows a
string, at 16 strides of holdover, not yet reported, marks the loss reported and is seen with class W where the log runs. SOURCE_TAKEOVER of
a standby after 8 strides of holdover makes it a synced source out of holdover. D0_BECOMES_SOURCE makes D0 in SYNC a synced source after 64
strides without a sync frame, or 20 ms in SYNC without a hop having been UP. SYNC_RETRY in SYNC raises the attempts of its ring by one and
leaves those of the other. That a standby source is SYNCED and out of holdover after its takeover is log entry 81, and what the 64 strides
and the 20 ms of D0 count from is log entry 105. Rests on: 02_stride_and_timing.md R53, R54, R56, R57; 11_ring_host_and_cisterns.md R298. -/
def Obligations.SyncFramesAreHeard : Prop :=
  (∀ (f : SyncFrame) (s : State), syncRuns s = true → hopUp s 0 = true → f.src.toNat ≠ s.devNum → f.crcOk = true →
      Completes (.syncFrame .a f) s fun t => isSet t F.STR_PATHA_VALID = true ∧ rd t F.STR_PATHA_PATH = (f.corr.toNat + hopDelay s 0) % 2 ^ F.STR_PATHA_PATH.w) ∧
    (∀ (f : SyncFrame) (s : State), syncRuns s = true → hopUp s 1 = true → f.src.toNat ≠ s.devNum → f.crcOk = true →
      Completes (.syncFrame .b f) s fun t => isSet t F.STR_PATHB_VALID = true ∧ rd t F.STR_PATHB_PATH = (f.corr.toNat + hopDelay s 1) % 2 ^ F.STR_PATHB_PATH.w) ∧
    (∀ (h : Ring) (count : BitVec 48) (s : State), hopLive s h.toNat = true →
      Completes (.syncCopy0 h count) s fun t => (t.hop h.toNat).copy0 = some count) ∧
    (∀ (f : SyncFrame) (c : Stamp) (s : State), (s.hop 0).copy0 = some c → hopLive s 0 = true → syncRuns s = true → isSet s F.STR_SYNCSTAT_SYNCED = false →
      Completes (.syncCopy1 .a f) s fun t => (t.hop 0).copy0 = none ∧
        isSet t F.STR_PATHA_VALID = true ∧ rd t F.STR_PATHA_PATH = (f.corr.toNat + hopDelay s 0) % 2 ^ F.STR_PATHA_PATH.w) ∧
    (∀ (f : SyncFrame) (c : Stamp) (s : State), (s.hop 1).copy0 = some c → hopLive s 1 = true → syncRuns s = true → isSet s F.STR_SYNCSTAT_SYNCED = false →
      Completes (.syncCopy1 .b f) s fun t => (t.hop 1).copy0 = none ∧
        isSet t F.STR_PATHB_VALID = true ∧ rd t F.STR_PATHB_PATH = (f.corr.toNat + hopDelay s 1) % 2 ^ F.STR_PATHB_PATH.w) ∧
    (∀ s : State, syncRuns s = true → 16 ≤ rd s F.STR_SYNCSTAT_HOLDCNT → isSet s F.STR_SYNCSTAT_HOLDOVER = true → s.dev.lostLogged = false →
      Completes .syncLost s fun t => t.dev.lostLogged = true ∧ (logging s = true → rdBit t F.FLT_STAT_SEEN 1 = true)) ∧
    (∀ s : State, syncRuns s = true → isSet s F.STR_SYNCCFG_STBY_EN = true → rd s F.STR_SYNCCFG_STBY_DEV = s.devNum →
      8 ≤ rd s F.STR_SYNCSTAT_HOLDCNT → isSet s F.STR_SYNCSTAT_SOURCE = false →
      Completes .sourceTakeover s fun t => isSet t F.STR_SYNCSTAT_SOURCE = true ∧ isSet t F.STR_SYNCSTAT_SYNCED = true ∧
        isSet t F.STR_SYNCSTAT_HOLDOVER = false ∧ rd t F.STR_SYNCSTAT_HOLDCNT = 0) ∧
    (∀ s : State, syncRuns s = true → isSet s F.RNG_CFG_HEAD = true → s.dev.st = .sync → s.dev.running = true → isSet s F.STR_SYNCSTAT_SOURCE = false →
      (64 ≤ s.dev.noSync ∨ (s.dev.hopSeen = false ∧ 20 * 800000 ≤ s.dev.syncStrides * s.per)) →
      Completes .d0BecomesSource s fun t => isSet t F.STR_SYNCSTAT_SOURCE = true ∧ isSet t F.STR_SYNCSTAT_SYNCED = true) ∧
    (∀ s : State, ringRuns s = true → s.dev.st = .sync →
      Completes (.syncRetry .a) s (fun t => t.dev.retryA = s.dev.retryA + 1 ∧ t.dev.retryB = s.dev.retryB) ∧
      Completes (.syncRetry .b) s (fun t => t.dev.retryB = s.dev.retryB + 1 ∧ t.dev.retryA = s.dev.retryA))

/-- With the modulator clocks running, on a channel of the part: SENSE_RESULT of a ROLE other than 0, 5 and 6 completes with the corrected,
saturated VALUE, with VALID where the window is whole, the channel is neither stuck nor uncalibrated and the window holds no stepped period
of a recent step, and with the low byte of the count; RESOLVER_RESULT of ROLE 5 or 6, for an instant not before the excitation began, hands
the last valid value, with the instant it represents counted from entry into ARMED, to the interface behind the results before it;
STREAM_STUCK of a channel in use sets STUCK. In ARMED or later, FAST_TRIP of a calibrated ROLE 1 or 4 channel beyond its upper threshold
sets FTRIP_HI and latches every target leg faulted with cause FAST, and beyond its lower threshold alone sets FTRIP_LO and does the same;
PLAUSIBILITY_CHECK of a team latches the Kirchhoff fault of a set and the pair fault of a sensor pair whose check fails after as many
failures in a row as its count allows. OFFSET_TRIM_COMPLETE of an axis in PRECHARGE after its waiting and averaging strides, with every new
value within TRIMLIM, ends the trim and marks every channel DONE with its new TRIM where no channel is listed twice; with a value beyond
TRIMLIM it ends the trim with the axis back in READY and the axis fault set. That ROLE 5 and 6 hand on the last valid value is the model's
choice (log entry 110), and the reach of a recent step is log entry 98. Rests on: 03_sense_channels.md R66, R67, R68, R70, R73, R75, R76,
R81. -/
def Obligations.SenseResultsAreDelivered : Prop :=
  (∀ (n : ChanNo) (w : Window) (flip : BitVec 18) (s : State), rd s (F.SNS_CH_CFG_ROLE n) ∉ [0, 5, 6] → s.dev.mclk = true → n.val < 24 * s.nTeams →
      Completes (.senseResult n w flip) s fun t =>
        rdI t (F.SNS_CH_RES_VALUE n) = sat 18 (corrOf (rawOf (osrM s n) w.bits) (offOf s n) (rd s (F.SNS_CH_GAIN_G n))) ∧
        isSet t (F.SNS_CH_RES_VALID n) = (w.whole && !isSet s (F.SNS_CH_STAT_STUCK n) && !(s.chan n).uncal && !(w.stepped && stepRecent s n)) ∧
        rd t (F.SNS_CH_RES_STAMP n) = s.dev.count.toNat % 256) ∧
    (∀ (n : ChanNo) (w : Window) (flip : BitVec 18) (exPh : Nat) (s : State), rd s (F.SNS_CH_CFG_ROLE n) = 5 → s.dev.mclk = true → n.val < 24 * s.nTeams →
      resultEarly s n (rd s (F.SNS_CH_CFG_OBJ n)) exPh = false →
      Completes (.resolverResult n ⟨w, flip⟩ exPh) s fun t =>
        (t.ifc (rd s (F.SNS_CH_CFG_OBJ n))).sinRes = (s.ifc (rd s (F.SNS_CH_CFG_OBJ n))).sinRes ++ [(useVal t n, resultPhase s n (rd s (F.SNS_CH_CFG_OBJ n)) exPh)]) ∧
    (∀ (n : ChanNo) (w : Window) (flip : BitVec 18) (exPh : Nat) (s : State), rd s (F.SNS_CH_CFG_ROLE n) = 6 → s.dev.mclk = true → n.val < 24 * s.nTeams →
      resultEarly s n (rd s (F.SNS_CH_CFG_OBJ n)) exPh = false →
      Completes (.resolverResult n ⟨w, flip⟩ exPh) s fun t =>
        (t.ifc (rd s (F.SNS_CH_CFG_OBJ n))).cosRes = (s.ifc (rd s (F.SNS_CH_CFG_OBJ n))).cosRes ++ [(useVal t n, resultPhase s n (rd s (F.SNS_CH_CFG_OBJ n)) exPh)]) ∧
    (∀ (n : ChanNo) (bits : List Bool) (ph : Nat) (s : State), (rd s (F.SNS_CH_CFG_ROLE n) = 1 ∨ rd s (F.SNS_CH_CFG_ROLE n) = 4) → armedOn s = true →
      (s.chan n).uncal = false → n.val < 24 * s.nTeams →
      fastSum (8 * (rd s (F.SNS_CH_CFG_FOSR n) + 1)) bits * 32768 >
        rdI s (F.SNS_CH_FTHR_FTH_HI n) * ((8 * (rd s (F.SNS_CH_CFG_FOSR n) + 1)) * (8 * (rd s (F.SNS_CH_CFG_FOSR n) + 1)) : Nat) →
      Completes (.fastTrip n bits ph) s fun t => isSet t (F.SNS_CH_STAT_FTRIP_HI n) = true ∧
        ∀ l ∈ tripLegs s n, l < 96 → isSet t (F.MOD_LEG_FLT_FAULTED l) = true ∧ isSet t (F.MOD_LEG_FLT_FAST l) = true) ∧
    (∀ (n : ChanNo) (bits : List Bool) (ph : Nat) (s : State), (rd s (F.SNS_CH_CFG_ROLE n) = 1 ∨ rd s (F.SNS_CH_CFG_ROLE n) = 4) → armedOn s = true →
      (s.chan n).uncal = false → n.val < 24 * s.nTeams →
      fastSum (8 * (rd s (F.SNS_CH_CFG_FOSR n) + 1)) bits * 32768 ≤
        rdI s (F.SNS_CH_FTHR_FTH_HI n) * ((8 * (rd s (F.SNS_CH_CFG_FOSR n) + 1)) * (8 * (rd s (F.SNS_CH_CFG_FOSR n) + 1)) : Nat) →
      fastSum (8 * (rd s (F.SNS_CH_CFG_FOSR n) + 1)) bits * 32768 <
        rdI s (F.SNS_CH_FTHR_FTH_LO n) * ((8 * (rd s (F.SNS_CH_CFG_FOSR n) + 1)) * (8 * (rd s (F.SNS_CH_CFG_FOSR n) + 1)) : Nat) →
      Completes (.fastTrip n bits ph) s fun t => isSet t (F.SNS_CH_STAT_FTRIP_LO n) = true ∧
        ∀ l ∈ tripLegs s n, l < 96 → isSet t (F.MOD_LEG_FLT_FAULTED l) = true ∧ isSet t (F.MOD_LEG_FLT_FAST l) = true) ∧
    (∀ (n : ChanNo) (level : Bool) (s : State), rd s (F.SNS_CH_CFG_ROLE n) ≠ 0 → s.dev.mclk = true → n.val < 24 * s.nTeams →
      isSet s (F.SNS_CH_STAT_STUCK n) = false →
      Completes (.streamStuck n level) s fun t => isSet t (F.SNS_CH_STAT_STUCK n) = true) ∧
    (∀ (t : TeamNo) (k : Fin 32) (s : State), armedOn s = true → t.val < s.nTeams → isSet s (F.SNS_KSET_CFG_EN k) = true →
      rd s (F.SNS_KSET_CFG_CHA k) / 24 = t.val → isSet s (F.SNS_KSET_LIM_KFLT k) = false →
      (∀ c ∈ [rd s (F.SNS_KSET_CFG_CHA k), rd s (F.SNS_KSET_CFG_CHB k), rd s (F.SNS_KSET_CFG_CHC k)], c < 192 ∧ isSet s (F.SNS_CH_RES_VALID c) = true) →
      (rdI s (F.SNS_CH_RES_VALUE (rd s (F.SNS_KSET_CFG_CHA k))) + rdI s (F.SNS_CH_RES_VALUE (rd s (F.SNS_KSET_CFG_CHB k))) +
        rdI s (F.SNS_CH_RES_VALUE (rd s (F.SNS_KSET_CFG_CHC k)))).natAbs > rd s (F.SNS_KSET_LIM_KLIM k) →
      rd s (F.SNS_KSET_CFG_KCNT k) ≤ tget (fun _ => 0) s.sense.kCnt k →
      Completes (.plausibilityCheck t) s fun u => isSet u (F.SNS_KSET_LIM_KFLT k) = true) ∧
    (∀ (t : TeamNo) (n : ChanNo) (s : State), armedOn s = true → t.val < s.nTeams → n.val / 24 = t.val →
      isSet s (F.SNS_CH_PAIR_PAIREN n) = true → isSet s (F.SNS_CH_PAIR_PRIMARY n) = true → rd s (F.SNS_CH_CFG_ROLE n) ≠ 0 →
      isSet s (F.SNS_CH_STAT_PAIRFLT n) = false → isSet s (F.SNS_CH_RES_VALID n) = true →
      rd s (F.SNS_CH_PAIR_PARTNER n) < 192 → isSet s (F.SNS_CH_RES_VALID (rd s (F.SNS_CH_PAIR_PARTNER n))) = true →
      (rdI s (F.SNS_CH_RES_VALUE n) - rdI s (F.SNS_CH_RES_VALUE (rd s (F.SNS_CH_PAIR_PARTNER n)))).natAbs > rd s (F.SNS_CH_PAIR_DLIM n) →
      rd s (F.SNS_CH_PAIR_DCNT n) ≤ (s.chan n).pairCnt →
      Completes (.plausibilityCheck t) s fun u => isSet u (F.SNS_CH_STAT_PAIRFLT n) = true) ∧
    (∀ (a : AxisNo) (tr : Trim) (s : State), armedOn s = true → (s.ax a).trim = some tr → axState s a = 2 → tr.wait = 0 → trimN s ≤ tr.taken →
      (∀ p ∈ tr.chans.zip tr.sums, p.1 < 192 ∧ (Flt.roundAway p.2 (trimN s) - rdI s (F.SNS_CH_OFS_OFS_ID p.1)).natAbs ≤ rd s (F.SNS_CH_LIM_TRIMLIM p.1)) →
      Completes (.offsetTrimComplete a) s fun t => (t.ax a).trim = none ∧
        ∀ p ∈ tr.chans.zip tr.sums, isSet t (F.SNS_CH_TRIM_DONE p.1) = true ∧
          (tr.chans.Nodup → rd t (F.SNS_CH_TRIM_TRIM p.1) = trunc 16 (Flt.roundAway p.2 (trimN s) - rdI s (F.SNS_CH_OFS_OFS_ID p.1)))) ∧
    (∀ (a : AxisNo) (tr : Trim) (s : State), armedOn s = true → (s.ax a).trim = some tr → axState s a = 2 → tr.wait = 0 → trimN s ≤ tr.taken →
      (∃ p ∈ tr.chans.zip tr.sums, (Flt.roundAway p.2 (trimN s) - rdI s (F.SNS_CH_OFS_OFS_ID p.1)).natAbs > rd s (F.SNS_CH_LIM_TRIMLIM p.1)) →
      Completes (.offsetTrimComplete a) s fun t => (t.ax a).trim = none ∧ axState t a = 1 ∧ isSet t (F.SAF_AX_FLT_AXF a) = true)

/-- On an interface that runs in the mode of the input: ENCODER_EDGE of one of A and B moves Nr by one count in the direction of R85, turned
over by INV, and of both at once leaves Nr and raises SEQCNT. The first INDEX_EDGE with A and B high under ZMODE 1 or 2 references the
count; Np follows it on an interface that has not failed and stays on one that has. HALL_CHANGE to a legal code one sector on or back,
behind a first code, moves Nr by one, turned over by INV. POS_HALL_ILLEGAL of an illegal code sets HALL and FAILED. SSI_REQUEST when one is
due is clocked out with the line high, and counts a bad word with the line low. SSI_WORD without a CRC or status error ends the request and
the run of bad words, and on an interface that has not failed gives Nr with its age to the observer; one with an error leaves Nr and raises
BADCNT, as POS_TIMEOUT does. RESOLVER_HALF_PERIOD shows its amplitude, keeps of the results those alone that represent an instant of a later
half period, and with the amplitude within its limits on an interface that has not failed gives Nr with its age to the observer. That Np
stays on a failed interface is log entry 92, and the scale of the shown amplitude is log entry 25, and that it saturates is log entry 147.
Rests on: 04_position_feedback.md R85, R86, R87, R88, R89, R91, R103, R104. -/
def Obligations.PositionInputsMoveTheCount : Prop :=
  (∀ (n : IfNo) (aLvl bLvl : Bool) (ph : Nat) (s : State), ifRuns s n = true → ifMode s n = 1 → (aLvl != (s.ifc n).aLvl) ≠ (bLvl != (s.ifc n).bLvl) →
      Completes (.encoderEdge n aLvl bLvl ph) s fun t => (t.ifc n).aLvl = aLvl ∧ (t.ifc n).bLvl = bLvl ∧
        (t.ifc n).nr = (s.ifc n).nr +
          if (if aLvl != (s.ifc n).aLvl then aLvl != bLvl else aLvl == bLvl) != isSet s (F.POS_IF_CFG_INV n) then 1 else -1) ∧
    (∀ (n : IfNo) (aLvl bLvl : Bool) (ph : Nat) (s : State), ifRuns s n = true → ifMode s n = 1 → aLvl ≠ (s.ifc n).aLvl → bLvl ≠ (s.ifc n).bLvl →
      Completes (.encoderEdge n aLvl bLvl ph) s fun t => (t.ifc n).nr = (s.ifc n).nr ∧
        rd t (F.POS_IF_EVCNT_SEQCNT n) = satAdd (2 ^ (F.POS_IF_EVCNT_SEQCNT n).w - 1) (rd s (F.POS_IF_EVCNT_SEQCNT n)) 1) ∧
    (∀ (n : IfNo) (ph : Nat) (s : State), ifRuns s n = true → ifMode s n = 1 → (s.ifc n).aLvl = true → (s.ifc n).bLvl = true →
      (rd s (F.POS_IF_CFG_ZMODE n) = 1 ∨ rd s (F.POS_IF_CFG_ZMODE n) = 2) → (s.ifc n).refSteps = 0 →
      Completes (.indexEdge n ph) s fun t => (t.ifc n).refValid = true ∧ (t.ifc n).refSteps = 1 ∧
        (t.ifc n).nr = (s.ifc n).nr / (ifCpr s n) * (ifCpr s n) + rd s (F.POS_IF_ZOFS_ZOFS n) ∧
        (ifFailed s n = false → (t.ifc n).np = (t.ifc n).nr) ∧ (ifFailed s n = true → (t.ifc n).np = (s.ifc n).np)) ∧
    (∀ (n : IfNo) (code : BitVec 3) (h ph : Nat) (s : State), ifRuns s n = true → ifMode s n = 2 → hallSector code = some h → (s.ifc n).first = true →
      Completes (.hallChange n code ph) s fun t => (t.ifc n).hall = code ∧ (t.ifc n).sector = h ∧
        ((h + 6 - (s.ifc n).sector) % 6 = 1 → (t.ifc n).nr = (s.ifc n).nr + if isSet s (F.POS_IF_CFG_INV n) then -1 else 1) ∧
        ((h + 6 - (s.ifc n).sector) % 6 = 5 → (t.ifc n).nr = (s.ifc n).nr + if isSet s (F.POS_IF_CFG_INV n) then 1 else -1)) ∧
    (∀ (n : IfNo) (s : State), ifRuns s n = true → ifMode s n = 2 → hallSector (s.ifc n).hall = none → isSet s (F.POS_IF_FLT_HALL n) = false →
      Completes (.posHallIllegal n) s fun t => isSet t (F.POS_IF_FLT_HALL n) = true ∧ isSet t (F.POS_IF_FLT_FAILED n) = true) ∧
    (∀ (n : IfNo) (s : State), ifRuns s n = true → ifMode s n = 3 → ssiDue s n = true →
      Completes (.ssiRequest n false) s (fun t => (t.ifc n).reqOut = true ∧ (t.ifc n).lineLow = false) ∧
      Completes (.ssiRequest n true) s (fun t => (t.ifc n).reqOut = false ∧ (t.ifc n).lineLow = true ∧
        rd t (F.POS_IF_EVCNT_BADCNT n) = satAdd (2 ^ (F.POS_IF_EVCNT_BADCNT n).w - 1) (rd s (F.POS_IF_EVCNT_BADCNT n)) 1)) ∧
    (∀ (n : IfNo) (word : BitVec 64) (edge ph : Nat) (s : State), ifRuns s n = true → ifMode s n = 3 → (s.ifc n).reqOut = true → ssiVerdict s n word = none →
      Completes (.ssiWord n word edge ph) s fun t => (t.ifc n).badRun = 0 ∧ (t.ifc n).reqOut = false ∧
        (ifFailed s n = false → (t.ifc n).meas = some ((t.ifc n).nr, ssiAge s n edge))) ∧
    (∀ (n : IfNo) (word : BitVec 64) (edge ph kind data : Nat) (s : State), ifRuns s n = true → ifMode s n = 3 → (s.ifc n).reqOut = true →
      ssiVerdict s n word = some (kind, data) →
      Completes (.ssiWord n word edge ph) s fun t => (t.ifc n).badRun = (s.ifc n).badRun + 1 ∧ (t.ifc n).nr = (s.ifc n).nr ∧
        rd t (F.POS_IF_EVCNT_BADCNT n) = satAdd (2 ^ (F.POS_IF_EVCNT_BADCNT n).w - 1) (rd s (F.POS_IF_EVCNT_BADCNT n)) 1) ∧
    (∀ (n : IfNo) (s : State), ifRuns s n = true → ifMode s n = 3 → (s.ifc n).reqOut = true →
      Completes (.posTimeout n) s fun t => (t.ifc n).reqOut = false ∧ (t.ifc n).lineLow = true ∧ (t.ifc n).nr = (s.ifc n).nr ∧
        rd t (F.POS_IF_EVCNT_BADCNT n) = satAdd (2 ^ (F.POS_IF_EVCNT_BADCNT n).w - 1) (rd s (F.POS_IF_EVCNT_BADCNT n)) 1) ∧
    (∀ (n : IfNo) (end_ ph : Nat) (s : State), ifRuns s n = true → ifMode s n = 4 →
      Completes (.resolverHalfPeriod n end_ ph) s fun t => (t.ifc n).sinRes = resLater s n (s.ifc n).sinRes ∧ (t.ifc n).cosRes = resLater s n (s.ifc n).cosRes ∧
        rd t (F.POS_IF_AMP_AMP n) = min (resAmp s n) 65535 ∧
        (ifFailed s n = false → 256 * rd s (F.POS_IF_RES1_AMPLO n) ≤ resAmp s n → resAmp s n ≤ 256 * rd s (F.POS_IF_RES1_AMPHI n) →
          (t.ifc n).meas = some ((t.ifc n).nr, ((end_ + 16 * rd s (F.POS_IF_RES0_EXCDIV n) : Nat) : Int))))

/-- OBSERVER_UPDATE of a running serial or resolver interface that has not failed: the first measurement not older than 64 µs initialises the
observer at the middle of the count with speed and acceleration 0, and a later one stamped at the update moves position, speed and
acceleration by the update of R94 with the error of its middle to the position that the last update predicts for the stamp (thAt), where the
interface is not at rest. While the device can be read and written (outside POWERUP, SAVE, PARKED and SLEEP and outside reset), POS_ANG_READ
copies TURN, SPD, ACC, STAT and ERR of the last update; POS_NP_READ copies the turn of Np. COMPARE_WRITE commits P, arms the unit, and sets
PASSED by the last direction: P at or below Np going up, at or above going down, equal without a direction. POS_RECOVERY of a failed
interface whose axes are all idle clears every flag and starts a new acquisition. The grid, rounding and saturation of the observer's update
are the model's choice (log entry 23), as is the prediction to the stamp (log entry 145), that the update which qualifies 0x0307 itself
still steps is log entry 131, and that a compare unit of a failed interface is armed and judged like any other is log entry 135; an
interface at rest and a measurement with an age are left to other statements. Rests on: 04_position_feedback.md R94, R95, R96, R101, R105,
R108; 00_scope.md R425. -/
def Obligations.ObserverRegistersLatch : Prop :=
  (∀ (n : IfNo) (v age : Int) (s : State), ifRuns s n = true → ifFailed s n = false → 3 ≤ ifMode s n → (s.ifc n).meas = some (v, age) → age ≤ 51200 →
      (s.ifc n).fresh = true →
      Completes (.observerUpdate n) s fun t => (t.ifc n).th = cfix v + 8388608 ∧ (t.ifc n).spd = 0 ∧ (t.ifc n).acc = 0 ∧
        (t.ifc n).posValid = true ∧ (t.ifc n).spdValid = false ∧ (t.ifc n).fresh = false ∧ (t.ifc n).meas = none) ∧
    (∀ (n : IfNo) (v : Int) (s : State), ifRuns s n = true → ifFailed s n = false → 3 ≤ ifMode s n → (s.ifc n).meas = some (v, 0) →
      (s.ifc n).fresh = false → (s.ifc n).rest = false → (s.ifc n).still + 1 ≤ 1000 * rd s (F.POS_IF_OBS_REST n) →
      Completes (.observerUpdate n) s fun t =>
        (t.ifc n).err = wrapDiff (ifCpr s n * 65536 * 16777216) (cfix v + 8388608 - thAt (s.ifc n) 0) ∧
        (t.ifc n).th = (obsStep (obsOmega s n) (s.ifc n) (t.ifc n).err).th ∧ (t.ifc n).spd = (obsStep (obsOmega s n) (s.ifc n) (t.ifc n).err).spd ∧
        (t.ifc n).acc = (obsStep (obsOmega s n) (s.ifc n) (t.ifc n).err).acc ∧ (t.ifc n).meas = none) ∧
    (∀ (n : IfNo) (s : State), coresRun s = true → Completes (.posAngRead n) s fun t =>
      rd t (F.POS_IF_TURN_TURN n) = (s.ifc n).lvTurn.toNat ∧ rdW t (F.POS_IF_SPD_SPD n) = (s.ifc n).lvSpd ∧
      rdW t (F.POS_IF_ACC_ACC n) = (s.ifc n).lvAcc ∧ rdW t (F.POS_IF_ERR_E n) = (s.ifc n).lvErr ∧
      t.reg (A.POS_IF_STAT n) = BitVec.ofNat 32 ((s.ifc n).lvStat.toNat + 128 * b2n (ifFailed s n))) ∧
    (∀ (n : IfNo) (s : State), coresRun s = true → Completes (.posNpRead n) s fun t =>
      rd t (F.POS_IF_NPT_TURN n) = ((s.ifc n).np / (ifCpr s n : Int) % 65536).toNat) ∧
    (∀ (c : Fin 32) (v : Word) (s : State), coresRun s = true → Completes (.compareWrite c v) s fun t =>
      isSet t (F.POS_CMP_STAT_ARMED c) = true ∧ rd t (F.POS_CMP_POS_POS c) = v.toNat % 2 ^ (F.POS_CMP_POS_POS c).w ∧
      ((s.ifc (rd s (F.POS_CMP_CFG_IF c))).dir = 1 →
        isSet t (F.POS_CMP_STAT_PASSED c) = decide (cmpP t c ≤ (s.ifc (rd s (F.POS_CMP_CFG_IF c))).np)) ∧
      ((s.ifc (rd s (F.POS_CMP_CFG_IF c))).dir = 2 →
        isSet t (F.POS_CMP_STAT_PASSED c) = decide ((s.ifc (rd s (F.POS_CMP_CFG_IF c))).np ≤ cmpP t c)) ∧
      ((s.ifc (rd s (F.POS_CMP_CFG_IF c))).dir = 0 →
        isSet t (F.POS_CMP_STAT_PASSED c) = decide (cmpP t c = (s.ifc (rd s (F.POS_CMP_CFG_IF c))).np))) ∧
    (∀ (n : IfNo) (s : State), coresRun s = true → mayRecover s n = true → Completes (.posRecovery n) s fun t =>
      t.reg (A.POS_IF_FLT n) = 0 ∧ (t.ifc n).fresh = true ∧ (t.ifc n).resync = true ∧ (t.ifc n).badRun = 0)

/-- SAMPLE_PHASE of a team of the part, in ARMED or later, completes. For each of its axes with a position interface, the input area and the
safety copy hold the snapshot of that interface for the team. For each that is not a spanned partner, a record of the active copy that
passes the check of R120 becomes the record in use, and a record that fails it leaves the last accepted one in use and sets SPINVAL. Rests
on: 04_position_feedback.md R100; 05_loop_engines.md R120; 02_stride_and_timing.md R39. -/
def Obligations.SamplePhaseLatchesSetpoints : Prop :=
  ∀ (t : TeamNo) (s : State), armedOn s = true → t.val < s.nTeams →
    Completes (.samplePhase t) s fun u => ∀ a ∈ teamAxes s t,
      (isSet s (F.LE_AX_CFG_POSEN a) = true →
        (u.ax a).dup = snapOf s (rd s (F.LE_AX_CFG_POSIF a)) t (obsDelta s t) ∧
        rdBytes u (inBase a) 16 = leBytes 4 (u.ax a).dup.ang.toNat ++ leBytes 2 (u.ax a).dup.turn.toNat ++ [(u.ax a).dup.flags, 0] ++
          leBytes 4 (u.ax a).dup.spd.toNat ++ leBytes 4 (u.ax a).dup.acc.toNat) ∧
      (axType s a ≠ 7 → setPOk s a (readSetP s (actBase a)) = true → (u.ax a).sp = readSetP s (actBase a)) ∧
      (axType s a ≠ 7 → setPOk s a (readSetP s (actBase a)) = false → (u.ax a).sp = (s.ax a).sp ∧ isSet u (F.LE_AX_FLT_SPINVAL a) = true)

/-- LOOP_ENGINE_RUN of a team of the part without an ECC error, in ARMED or later, completes. Every axis of the team that is not a spanned
partner and whose NONFIN flag is clear afterwards has the stamp of the stride at both ends of its readback record, and no byte outside the
readback records of the axes of the team changes. Rests on: 01_device_organisation.md R18; 05_loop_engines.md R113, R121, R138. -/
def Obligations.LoopEngineWritesReadback : Prop :=
  ∀ (t : TeamNo) (s : State), armedOn s = true → t.val < s.nTeams →
    Completes (.loopEngineRun t none) s fun u =>
      (∀ a ∈ teamAxes s t, axType s a ≠ 7 → isSet u (F.LE_AX_FLT_NONFIN a) = false →
        rd32 u (rbBase a) = BitVec.ofNat 32 s.dev.count.toNat ∧ rd32 u (rbBase a + 0xFC) = BitVec.ofNat 32 s.dev.count.toNat) ∧
      ∀ i, (∀ a ∈ teamAxes s t, i < rbBase a ∨ rbBase a + 256 ≤ i) → rdB u i = rdB s i

/-- For a team of the part in ARMED or later: COMMIT_PHASE moves the staged duty of every leg of the team's axes to its shadow register, and
leaves the shadow of a leg with nothing staged. UPDATE_PHASE puts the shadow duty of every such leg in force, shows it in MOD_LEGn_DUTY with
the low bits of the count, and takes the leg out of Hi-Z; such a leg whose shadow is empty keeps its duty. Neither changes a byte of memory.
Rests on: 02_stride_and_timing.md R42, R43; 06_modulation_and_gate_outputs.md R158. -/
def Obligations.DutiesMoveByPhase : Prop :=
  (∀ (t : TeamNo) (s : State), armedOn s = true → t.val < s.nTeams →
      Completes (.commitPhase t) s fun u => u.mem = s.mem ∧ ∀ a ∈ teamAxes s t, ∀ n ∈ axLegs s a,
        (u.leg n).staged = none ∧ (u.leg n).shadow = match (s.leg n).staged with
          | some d => some d
          | none => (s.leg n).shadow) ∧
    (∀ (t : TeamNo) (s : State), armedOn s = true → t.val < s.nTeams →
      Completes (.updatePhase t) s fun u => u.mem = s.mem ∧ ∀ a ∈ teamAxes s t, ∀ n ∈ axLegs s a,
        (∀ d, (s.leg n).shadow = some d → (u.leg n).duty = d ∧ (u.leg n).hiz = false ∧ rd u (F.MOD_LEG_DUTY_DUTY n) = dutyCode d.1 ∧
          rd u (F.MOD_LEG_DUTY_STAMP n) = s.dev.count.toNat % 2 ^ (F.MOD_LEG_DUTY_STAMP n).w) ∧
        ((s.leg n).shadow = none → (u.leg n).duty = (s.leg n).duty ∧ (u.leg n).hiz = (s.leg n).hiz))

/-- In ARMED or later, in a stride in which the half has not yet taken or missed its frame: SPAN_UP_FRAME, of full length, with a good CRC, the
stamp of the stride and in time, ends the lead's run of losses and gives it the partner's valid values, leg faults and sides.
SPAN_DOWN_FRAME of the same quality ends the partner's run of losses and gives it the lead's axis state, variant, safe choice and block
mask; without SAFE, and with both halves in START, RUN or DEGRADED, the lead's duties stand in the shadow registers of the partner's legs,
where none is listed twice. SPAN_FRAME_LOST raises LOSTCNT and sets SPANHOLD, and the second loss in a row sets SPANLOST and SAFE in the
outgoing frames. Rests on: 05_loop_engines.md R139, R140, R141. -/
def Obligations.SpanFramesAreTaken : Prop :=
  (∀ (a : AxisNo) (f : SpanUp) (s : State), armedOn s = true → axType s a = 6 → spanOk s f.stamp f.crcOk f.late = true → f.payload.length = 56 →
      (s.ax a).span.got = false →
      Completes (.spanUpFrame a f) s fun t => (t.ax a).span.got = true ∧ rd t (F.LE_AX_SPANSTAT_CONSEC a) = 0 ∧ isSet t (F.LE_AX_STAT_SPANHOLD a) = false ∧
        (∀ i < 13, bit (field f.payload 0x34 4) i = true → (t.ax a).span.vals.getD i 0 = sext 32 (field f.payload (4 * i) 4)) ∧
        (t.ax a).span.flegs = field f.payload 0x34 4 / 2 ^ 13 % 64 ∧ (t.ax a).span.sides = field f.payload 0x34 4 / 2 ^ 19 % 2 ^ 12) ∧
    (∀ (a : AxisNo) (f : SpanDown) (s : State), armedOn s = true → axType s a = 7 → spanOk s f.stamp f.crcOk f.late = true → f.payload.length = 32 →
      (s.ax a).span.got = false →
      Completes (.spanDownFrame a f) s fun t => (t.ax a).span.got = true ∧ rd t (F.LE_AX_SPANSTAT_CONSEC a) = 0 ∧ isSet t (F.LE_AX_STAT_SPANHOLD a) = false ∧
        (t.ax a).span.axst = field f.payload 0x18 4 % 16 ∧ (t.ax a).span.axvar = field f.payload 0x18 4 / 16 % 4 ∧
        (t.ax a).span.safech = field f.payload 0x18 4 / 64 % 4 ∧ (t.ax a).span.blk = field f.payload 0x18 4 / 256 % 64 ∧
        (bit (field f.payload 0x18 4) 14 = false → axState s a ∈ [3, 4, 5] → field f.payload 0x18 4 % 16 ∈ [3, 4, 5] → (axLegs s a).Nodup →
          ∀ p ∈ (axLegs s a).zipIdx, (t.leg p.1).shadow.map Prod.fst = some (BitVec.ofNat 32 (field f.payload (4 * p.2) 4)))) ∧
    (∀ (a : AxisNo) (s : State), armedOn s = true → (axType s a = 6 ∨ axType s a = 7) → (s.ax a).span.got = false →
      Completes (.spanFrameLost a) s fun t => isSet t (F.LE_AX_STAT_SPANHOLD a) = true ∧
        rd t (F.LE_AX_SPANSTAT_LOSTCNT a) = satAdd (2 ^ (F.LE_AX_SPANSTAT_LOSTCNT a).w - 1) (rd s (F.LE_AX_SPANSTAT_LOSTCNT a)) 1 ∧
        (rd s (F.LE_AX_SPANSTAT_CONSEC a) = 1 → isSet t (F.LE_AX_FLT_SPANLOST a) = true ∧ (t.ax a).span.safe = true))

/-- On a leg of the part in ARMED or later, LEG_FAULT outside a blanking window latches the leg faulted with cause LFLT and LIVE and, where it
was not faulted, the side on at the raw assertion; within one it sets PEND and LIVE and leaves FAULTED. BLANK_WINDOW_END of a pending
assertion ends PEND; one that still stands latches the leg with cause LFLT, and a released one leaves FAULTED and raises EARLYCNT.
LEG_FAULT_CLEAR of all three latches of a leg of the part whose axis, if it has one, is idle clears FAULTED and SIDE with LFLT_N released,
and leaves LFLT with it asserted. BLANK_WINDOW_END is told in ARMED or later, and LEG_FAULT_CLEAR while the cores run (R33: from SELFTEST to
RECOVERY, outside SAVE and reset). That SIDE is cleared with FAULTED is log entry 68. Rests on: 06_modulation_and_gate_outputs.md R159,
R160, R163. -/
def Obligations.LegFaultsLatch : Prop :=
  (∀ (n : LegNo) (ph since : Nat) (s : State), armedOn s = true → n.val < 12 * s.nTeams →
      blanked s n (carPos s (n.val / 12) ph + 1280 : Nat) since = false →
      Completes (.legFault n ⟨ph, since⟩) s fun t => isSet t (F.MOD_LEG_FLT_FAULTED n) = true ∧ isSet t (F.MOD_LEG_FLT_LFLT n) = true ∧
        isSet t (F.MOD_LEG_FLT_LIVE n) = true ∧ (isSet s (F.MOD_LEG_FLT_FAULTED n) = false → rd t (F.MOD_LEG_FLT_SIDE n) = faultSide s n ph)) ∧
    (∀ (n : LegNo) (ph since : Nat) (s : State), armedOn s = true → n.val < 12 * s.nTeams →
      blanked s n (carPos s (n.val / 12) ph + 1280 : Nat) since = true →
      Completes (.legFault n ⟨ph, since⟩) s fun t => isSet t (F.MOD_LEG_FLT_PEND n) = true ∧ isSet t (F.MOD_LEG_FLT_LIVE n) = true ∧
        isSet t (F.MOD_LEG_FLT_FAULTED n) = isSet s (F.MOD_LEG_FLT_FAULTED n)) ∧
    (∀ (n : LegNo) (s : State), armedOn s = true → isSet s (F.MOD_LEG_FLT_PEND n) = true →
      Completes (.blankWindowEnd n true) s fun t => isSet t (F.MOD_LEG_FLT_PEND n) = false ∧ isSet t (F.MOD_LEG_FLT_FAULTED n) = true ∧
        isSet t (F.MOD_LEG_FLT_LFLT n) = true) ∧
    (∀ (n : LegNo) (s : State), armedOn s = true → isSet s (F.MOD_LEG_FLT_PEND n) = true →
      Completes (.blankWindowEnd n false) s fun t => isSet t (F.MOD_LEG_FLT_PEND n) = false ∧
        isSet t (F.MOD_LEG_FLT_FAULTED n) = isSet s (F.MOD_LEG_FLT_FAULTED n) ∧
        rd t (F.MOD_LEG_CNT_EARLYCNT n) = satAdd (2 ^ (F.MOD_LEG_CNT_EARLYCNT n).w - 1) (rd s (F.MOD_LEG_CNT_EARLYCNT n)) 1) ∧
    (∀ (n : LegNo) (s : State), coresRun s = true → n.val < 12 * s.nTeams → (∀ a, legAxis s n = some a → axIdle s a = true) →
      Completes (.legFaultClear n 7 true) s (fun t => isSet t (F.MOD_LEG_FLT_FAULTED n) = false ∧ rd t (F.MOD_LEG_FLT_SIDE n) = 0) ∧
      Completes (.legFaultClear n 7 false) s (fun t => isSet t (F.MOD_LEG_FLT_LFLT n) = isSet s (F.MOD_LEG_FLT_LFLT n)))

/-- For a team of the part in ARMED or later: GSUV_LOCKOUT with GSUV clear sets GSUV, clears GSREL, withdraws the team enable and latches the
team; GSUV_RELEASED sets GSREL and clears GSLIVE; EDGE_PROCESSING of a leg that is switching makes the duty in force that of the half period
before, arms the refresh count of a bootstrap leg, and with both commands high raises ILKCNT, which at ILKLIM latches the leg faulted with
cause ILK; ILKCNT_WINDOW_CLEAR at a multiple of ILKWIN clears ILKCNT of its twelve legs. GSUV_CLEAR clears GSUV where GSREL is set and
leaves it where not. PRECHARGE_LEG_END in ARMED or later of a low side that is on turns it off. DSPI_TRANSACTION in IDENTIFY of a port with
its list not done: one that reads nothing back, or whose read-back agrees, moves on to the next transaction; the first two mismatches are
tried again; a third sets FAIL with the index of the transaction and moves on; a list moved on past its last transaction is DONE. GSUV_CLEAR
is told while the cores run (R33: from SELFTEST to RECOVERY, outside SAVE and reset). The content of the list is that of a section whose
layout the spec does not give (assumption 11). That the list moves on after a failed transaction, and that a later failure writes FIDX
again, is log entry 54. Rests on: 06_modulation_and_gate_outputs.md R153, R156, R158, R164, R165, R166. -/
def Obligations.GateSupplyLocksOut : Prop :=
  (∀ (t : TeamNo) (s : State), armedOn s = true → t.val < s.nTeams → isSet s (F.MOD_TEAM_STAT_GSUV t) = false →
      Completes (.gsuvLockout t) s fun u => isSet u (F.MOD_TEAM_STAT_GSUV t) = true ∧ isSet u (F.MOD_TEAM_STAT_GSREL t) = false ∧
        rdBit u F.SAF_TEAMEN_EN t = false ∧ rdBit u F.SAF_TEAMFLT_TMLAT t = true) ∧
    (∀ (t : TeamNo) (s : State), armedOn s = true → t.val < s.nTeams →
      Completes (.gsuvReleased t) s fun u => isSet u (F.MOD_TEAM_STAT_GSREL t) = true ∧ isSet u (F.MOD_TEAM_STAT_GSLIVE t) = false) ∧
    (∀ (t : TeamNo) (s : State), coresRun s = true → Completes (.gsuvClear t) s fun u =>
        isSet u (F.MOD_TEAM_STAT_GSUV t) = (isSet s (F.MOD_TEAM_STAT_GSUV t) && !isSet s (F.MOD_TEAM_STAT_GSREL t))) ∧
    (∀ (n : LegNo) (j : Fin 4) (s : State), armedOn s = true → n.val / 12 < s.nTeams → switching s n = true →
      Completes (.edgeProcessing n j none) s fun u => (u.leg n).prev = (s.leg n).duty ∧ (u.leg n).refRun = isSet s (F.MOD_LEG_CFG_BOOT n)) ∧
    (∀ (n : LegNo) (j : Fin 4) (b e : Nat) (s : State), armedOn s = true → n.val / 12 < s.nTeams → switching s n = true →
      Completes (.edgeProcessing n j (some (b, e))) s fun u =>
        rd u (F.MOD_LEG_CNT_ILKCNT n) = satAdd (2 ^ (F.MOD_LEG_CNT_ILKCNT n).w - 1) (rd s (F.MOD_LEG_CNT_ILKCNT n)) 1 ∧
        (rd u (F.MOD_LEG_CNT_ILKCNT n) = rd s (F.MOD_TEAM_CFG_ILKLIM (n / 12)) → isSet u (F.MOD_LEG_FLT_FAULTED n) = true ∧ isSet u (F.MOD_LEG_FLT_ILK n) = true)) ∧
    (∀ (t : TeamNo) (s : State), armedOn s = true → t.val < s.nTeams → rd s (F.MOD_TEAM_CFG_ILKWIN t) ≠ 0 →
      s.dev.count.toNat % rd s (F.MOD_TEAM_CFG_ILKWIN t) = 0 →
      Completes (.ilkcntWindowClear t) s fun u => ∀ i < 12, rd u (F.MOD_LEG_CNT_ILKCNT (12 * t.val + i)) = 0) ∧
    (∀ (n : LegNo) (s : State), armedOn s = true → (s.leg n).preOn = true → Completes (.prechargeLegEnd n) s fun u => (u.leg n).preOn = false ∧ (u.leg n).edges = []) ∧
    (∀ (t : TeamNo) (rb : List Word) (s : State), s.dev.st = .identify → isSet s (F.MOD_DSPI_CFG_EN t) = true → isSet s (F.MOD_DSPI_STAT_DONE t) = false →
      Completes (.dspiTransaction t rb) s fun u =>
        let i := (s.team t).dspiIdx
        let sec := tget (fun _ => []) s.cfg.gdrv t
        let next := (u.team t).dspiIdx = i + 1 ∧ (u.team t).dspiTry = 0 ∧ isSet u (F.MOD_DSPI_STAT_DONE t) = decide (Config.gdrvCount sec ≤ i + 1)
        match Config.gdrvRead sec i with
        | none => next
        | some (want, mask) =>
          (dspiBad s t want mask rb = [] → next) ∧
          (dspiBad s t want mask rb ≠ [] → (s.team t).dspiTry < 2 → (u.team t).dspiTry = (s.team t).dspiTry + 1 ∧ (u.team t).dspiIdx = i) ∧
          (dspiBad s t want mask rb ≠ [] → 2 ≤ (s.team t).dspiTry → next ∧ isSet u (F.MOD_DSPI_STAT_FAIL t) = true ∧
            rd u (F.MOD_DSPI_STAT_FIDX t) = i % 2 ^ (F.MOD_DSPI_STAT_FIDX t).w))

/-- AXIS_MODE_REQUEST, while the cores run (R33: from SELFTEST to RECOVERY, outside SAVE and reset), on an axis in use, neither a spanned
partner nor an exciter linked to a stator, shows its low three bits in REQ and waits for the mark with them; on any other axis it leaves the
waiting request and REQ as they were. CONTROLLED_STOP_COMPLETE of a stop whose conditions have held for 8 strides ends it in DISABLED after
a request of 0, in LOCKED after one of 3, else in READY. Of a start: FIELD_STEP_COMPLETE after 16 strides of field current begins the closed
loop on path 0, the wait on path 1, the align on path 2 and the catch window on path 3. ALIGN_COMPLETE after its time takes the offset on
path 2 at rest, with the closed loop on the sensor, and begins the open-loop ramp at angle and speed 0 on the other paths, with the
estimator not converged. BLEND_COMPLETE after 16 strides begins the closed loop on the estimator. CATCH_WINDOW_END of a full window begins
the align where the amplitude is below the limit, or the speed is with a residual of at most 0.2; it requests the safe state with STARTFLT
where the residual is greater; and a rotor caught forward begins the closed loop on the estimator with CAUGHT, one caught backward the
brake. BRAKE_TIMEOUT, START_TIMEOUT and ESTIMATOR_LOST, under their conditions, set BRKFLT, STARTFLT and ESTLOST with the axis fault, and a
reaction waits for the mark. ASC_RELEASED, in ARMED or later, of a short circuit below its release speed for 64 strides makes the axis's
variant FREEWHEEL with the axis still in SAFE. That a reaction waits for the mark follows R180 with log entry 17; that an exciter linked to
a stator takes no request is R178. Rests on: 07_commutation_start_and_discharge.md R177, R178, R179, R180, R182, R184, R185, R186, R187,
R188, R189, R191. -/
def Obligations.AxisRequestsAndStarts : Prop :=
  (∀ (a : AxisNo) (req : Byte) (s : State), coresRun s = true → axType s a ≠ 0 → a.val < s.nAxes → axType s a ≠ 7 → statorOf s a = none →
      Completes (.axisModeRequest a req) s fun t => (t.ax a).req = some (req.toNat % 8) ∧ rd t (F.LE_AX_MODE_REQ a) = req.toNat % 8) ∧
    (∀ (a : AxisNo) (req : Byte) (s : State), (axType s a = 0 ∨ s.nAxes ≤ a.val ∨ axType s a = 7 ∨ statorOf s a ≠ none) →
      Completes (.axisModeRequest a req) s fun t => (t.ax a).req = (s.ax a).req ∧ rd t (F.LE_AX_MODE_REQ a) = rd s (F.LE_AX_MODE_REQ a)) ∧
    (∀ (a : AxisNo) (s : State), isSet s (F.LE_AX_STATE_STOPPING a) = true → 8 ≤ (s.ax a).stopCnt →
      Completes (.controlledStopComplete a) s fun t => isSet t (F.LE_AX_STATE_STOPPING a) = false ∧
        axState t a = (if (s.ax a).stopTo = 0 then 0 else if (s.ax a).stopTo = 3 then 7 else 1)) ∧
    (∀ (a : AxisNo) (s : State), starting s a 1 = true → 16 ≤ (s.ax a).fieldCnt →
      Completes (.fieldStepComplete a) s fun t =>
        ((s.ax a).path = 0 → (t.ax a).closed = true) ∧ ((s.ax a).path = 1 → rd t (F.LE_AX_STATE_STEP a) = 0 ∧ (t.ax a).closed = false) ∧
        ((s.ax a).path = 2 → rd t (F.LE_AX_STATE_STEP a) = 4) ∧ (3 ≤ (s.ax a).path → rd t (F.LE_AX_STATE_STEP a) = 2)) ∧
    (∀ (a : AxisNo) (s : State), starting s a 4 = true → s.msStrides (prm s a 0x8D4).toNat ≤ (s.ax a).stepCnt → (s.ax a).path = 2 → inRest s a = true →
      Completes (.alignComplete a) s fun t => isSet t (F.LE_AX_STATE_OFSVALID a) = true ∧ (t.ax a).closed = true ∧ rd t (F.LE_AX_STATE_ANGSRC a) = 0 ∧
        rdW t (F.LE_AX_COMM_OFS a) = BitVec.ofInt 32 (-((rd s (F.LE_AX_MOTOR_POLEP a) * (rd32 s (inBase a)).toNat : Nat) : Int))) ∧
    (∀ (a : AxisNo) (s : State), starting s a 4 = true → s.msStrides (prm s a 0x8D4).toNat ≤ (s.ax a).stepCnt → (s.ax a).path ≠ 2 →
      Completes (.alignComplete a) s fun t => rd t (F.LE_AX_STATE_STEP a) = 5 ∧ isSet t (F.LE_AX_STATE_ESTCONV a) = false ∧
        (t.ax a).thol = 0 ∧ (t.ax a).wol = 0) ∧
    (∀ (a : AxisNo) (s : State), starting s a 6 = true → 16 ≤ (s.ax a).blend →
      Completes (.blendComplete a) s fun t => (t.ax a).closed = true ∧ rd t (F.LE_AX_STATE_ANGSRC a) = 1 ∧ rd t (F.LE_AX_STATE_STEP a) = 0) ∧
    (∀ (a : AxisNo) (s : State), starting s a 2 = true → s.strides 2000 ≤ (s.ax a).catches.length →
      (Flt.lt (catchFit (s.ax a).catches).2.2.2 (prm s a 0x8BC) = true ∨
        (Flt.lt 0x3e4ccccd (catchFit (s.ax a).catches).2.2.1 = false ∧ Flt.lt (Flt.abs (catchSpd s a)) (prm s a 0x8C0) = true)) →
      Completes (.catchWindowEnd a) s fun t => rd t (F.LE_AX_STATE_STEP a) = 4 ∧ rd t (F.LE_AX_STATE_ANGSRC a) = 2) ∧
    (∀ (a : AxisNo) (s : State), starting s a 2 = true → s.strides 2000 ≤ (s.ax a).catches.length →
      Flt.lt (catchFit (s.ax a).catches).2.2.2 (prm s a 0x8BC) = false → Flt.lt 0x3e4ccccd (catchFit (s.ax a).catches).2.2.1 = true →
      Completes (.catchWindowEnd a) s fun t => isSet t (F.LE_AX_SFLT_STARTFLT a) = true ∧ isSet t (F.SAF_AX_FLT_AXF a) = true ∧
        (t.ax a).react.isSome = true) ∧
    (∀ (a : AxisNo) (s : State), starting s a 2 = true → s.strides 2000 ≤ (s.ax a).catches.length →
      Flt.lt (catchFit (s.ax a).catches).2.2.2 (prm s a 0x8BC) = false → Flt.lt 0x3e4ccccd (catchFit (s.ax a).catches).2.2.1 = false →
      Flt.lt (Flt.abs (catchSpd s a)) (prm s a 0x8C0) = false →
      Completes (.catchWindowEnd a) s fun t => rd t (F.LE_AX_STATE_ANGSRC a) = 1 ∧
        ((!Flt.sign (Flt.div (catchFit (s.ax a).catches).2.1 s.tSec)) = (s.ax a).forward →
          (t.ax a).closed = true ∧ isSet t (F.LE_AX_STATE_CAUGHT a) = true) ∧
        ((!Flt.sign (Flt.div (catchFit (s.ax a).catches).2.1 s.tSec)) ≠ (s.ax a).forward → rd t (F.LE_AX_STATE_STEP a) = 3)) ∧
    (∀ (a : AxisNo) (s : State), starting s a 3 = true → (s.ax a).brkEnd = false → s.msStrides (prm s a 0x8DC).toNat ≤ (s.ax a).stepCnt →
      Completes (.brakeTimeout a) s fun t => isSet t (F.LE_AX_SFLT_BRKFLT a) = true ∧ isSet t (F.SAF_AX_FLT_AXF a) = true ∧
        (t.ax a).react.isSome = true) ∧
    (∀ (a : AxisNo) (s : State), axState s a = 3 → (s.ax a).closed = false → isMachine s a = true → rd s (F.LE_AX_STATE_STEP a) ≠ 3 →
      s.msStrides (prm s a 0x8D8).toNat ≤ (s.ax a).startCnt →
      Completes (.startTimeout a) s fun t => isSet t (F.LE_AX_SFLT_STARTFLT a) = true ∧ isSet t (F.SAF_AX_FLT_AXF a) = true ∧
        (t.ax a).react.isSome = true) ∧
    (∀ (a : AxisNo) (s : State), angSrc s a = 1 → (axState s a = 4 ∨ axState s a = 5) → (32 ≤ (s.ax a).estClr ∨ 16 ≤ (s.ax a).estLow) →
      Completes (.estimatorLost a) s fun t => isSet t (F.LE_AX_SFLT_ESTLOST a) = true ∧ isSet t (F.SAF_AX_FLT_AXF a) = true ∧
        (t.ax a).react.isSome = true) ∧
    (∀ (a : AxisNo) (s : State), armedOn s = true → axState s a = 6 → (rd s (F.LE_AX_STATE_SAFEVAR a) = 1 ∨ rd s (F.LE_AX_STATE_SAFEVAR a) = 2) → 64 ≤ (s.ax a).relCnt →
      Completes (.ascReleased a) s fun t => rd t (F.LE_AX_STATE_SAFEVAR a) = 3 ∧ axState t a = 6 ∧ (t.ax a).asc = 0)

/-- The host commands are told while the cores run (R33: from SELFTEST to RECOVERY, outside SAVE and reset). DISCHARGE_START of a group enabled
for it and without an active axis makes the discharge ACTIVE, with SRC 1 where none was active; with an active axis it leaves ACTIVE as it
was. DISCHARGE_ABORT of an active host-triggered discharge waits for the mark. In ARMED or later, DISCHARGE_COMPLETE of an active discharge
below its target for 16 strides ends it with DONE, and DISCH_TIMEOUT of one that has lasted TDCHMAX ends it with TIMEOUT; its resistor
output is off. Rests on: 07_commutation_start_and_discharge.md R193, R194. -/
def Obligations.DischargesBeginAndEnd : Prop :=
  (∀ (g : Fin 4) (s : State), coresRun s = true → isSet s (F.LE_DCL_DCFG_EN g) = true → isSet s (F.LE_DCL_DCFG_TRGHOST g) = true → (∀ a ∈ dclAxes s g, axActive s a = false) →
      Completes (.dischargeStart g) s fun t => isSet t (F.LE_DCL_DSTAT_ACTIVE g) = true ∧
        (isSet s (F.LE_DCL_DSTAT_ACTIVE g) = false → rd t (F.LE_DCL_DSTAT_SRC g) = 1)) ∧
    (∀ (g : Fin 4) (s : State), (∃ a ∈ dclAxes s g, axActive s a = true) →
      Completes (.dischargeStart g) s fun t => isSet t (F.LE_DCL_DSTAT_ACTIVE g) = isSet s (F.LE_DCL_DSTAT_ACTIVE g)) ∧
    (∀ (g : Fin 4) (s : State), coresRun s = true → isSet s (F.LE_DCL_DSTAT_ACTIVE g) = true → rd s (F.LE_DCL_DSTAT_SRC g) = 1 →
      Completes (.dischargeAbort g) s fun t => (t.dcl g).abort = true) ∧
    (∀ (g : Fin 4) (s : State), armedOn s = true → isSet s (F.LE_DCL_DSTAT_ACTIVE g) = true → 16 ≤ (s.dcl g).low →
      Completes (.dischargeComplete g) s fun t => isSet t (F.LE_DCL_DSTAT_ACTIVE g) = false ∧ isSet t (F.LE_DCL_DSTAT_DONE g) = true ∧
        isSet t (F.LE_DCL_DSTAT_RES g) = false) ∧
    (∀ (g : Fin 4) (s : State), armedOn s = true → isSet s (F.LE_DCL_DSTAT_ACTIVE g) = true →
      s.msStrides (rd s (F.LE_DCL_DCFG_TDCHMAX g)) ≤ (s.dcl g).strides →
      Completes (.dischTimeout g) s fun t => isSet t (F.LE_DCL_DSTAT_ACTIVE g) = false ∧ isSet t (F.LE_DCL_DSTAT_TIMEOUT g) = true ∧
        isSet t (F.LE_DCL_DSTAT_RES g) = false)

/-- SMC_START_CHECKS in ARMED under an image, before SMCOK and without a latched device reaction or a failed enable path, with every check good,
sets SMCOK, requests every team of the part, raises FAULT_N and writes the variant entry of every axis; a team whose enable path fails is
latched with its enable withdrawn, and SMCOK stays clear. While the device watches its read-backs, ENABLE_READBACK that agrees with the
enable is shown and latches nothing; one that disagrees is shown, withdraws the enable and latches the team. In the strides that the SMC
works in, VARTAB_STALE of an entry not written for 64 strides marks it STALE and leaves its variant. SMC_HEARTBEAT with the SMC running and
no device reaction latched stops it, latches the device reaction with code 0x0606 and, outside RECOVERY, de-energises every brake output.
Rests on: 08_safety_channel.md R202, R204, R205, R206, R207. -/
def Obligations.SmcStartsAndWatches : Prop :=
  (∀ s : State, s.dev.st = .armed → isSet s F.CFG_STAT_LOADED = true → isSet s F.SAF_STAT_SMCOK = false → isSet s F.SAF_STAT_DVLAT = false → (∀ t < s.nTeams, (s.team t).pathFail = false) →
      Completes (.smcStartChecks true true true ⟨0, 0⟩) s fun u => isSet u F.SAF_STAT_SMCOK = true ∧ isSet u F.SAF_STAT_FAULTN = true ∧
        rd u F.SAF_TEAMEN_REQ = 2 ^ s.nTeams - 1 ∧ ∀ a ∈ axesUsed s, isSet u (F.SAF_AX_TMSTAT_STALE a) = false) ∧
    (∀ (low high : Byte) (k : TeamNo) (s : State), s.dev.st = .armed → isSet s F.CFG_STAT_LOADED = true → isSet s F.SAF_STAT_SMCOK = false → k.val < s.nTeams →
      (∀ t < s.nTeams, (s.team t).pathFail = false) → (low.getLsbD k = true ∨ high.getLsbD k = true) →
      Completes (.smcStartChecks true true true ⟨low, high⟩) s fun u => isSet u F.SAF_STAT_SMCOK = false ∧ rdBit u F.SAF_TEAMFLT_TMLAT k = true ∧
        rdBit u F.SAF_TEAMEN_EN k = false) ∧
    (∀ (t : TeamNo) (s : State), monitored s = true → Completes (.enableReadback t (rdBit s F.SAF_TEAMEN_EN t)) s fun u =>
        rdBit u F.SAF_TEAMEN_RB t = rdBit s F.SAF_TEAMEN_EN t ∧ rd u F.SAF_TEAMFLT_TMLAT = rd s F.SAF_TEAMFLT_TMLAT) ∧
    (∀ (t : TeamNo) (s : State), monitored s = true → Completes (.enableReadback t (!rdBit s F.SAF_TEAMEN_EN t)) s fun u =>
        rdBit u F.SAF_TEAMEN_RB t = !rdBit s F.SAF_TEAMEN_EN t ∧ rdBit u F.SAF_TEAMEN_EN t = false ∧ rdBit u F.SAF_TEAMFLT_TMLAT t = true) ∧
    (∀ (a : AxisNo) (s : State), smcStrides s = true → axType s a ≠ 0 → 64 ≤ (s.mon a).age → isSet s (F.SAF_AX_TMSTAT_STALE a) = false →
      Completes (.vartabStale a) s fun u => isSet u (F.SAF_AX_TMSTAT_STALE a) = true ∧ rd u (F.SAF_AX_TMSTAT_VAR a) = rd s (F.SAF_AX_TMSTAT_VAR a)) ∧
    (∀ s : State, smcRuns s = true → isSet s F.SAF_STAT_DVLAT = false →
      Completes .smcHeartbeat s fun u => u.saf.smcDead = true ∧ isSet u F.SAF_STAT_DVLAT = true ∧ rd u F.SAF_STAT_DVCODE = 0x0606 ∧
        (s.dev.st ≠ .recovery → BrakesOff u))

/-- TORQUE_DISCREPANCY of an axis in use whose stride is not yet judged, and whose judgement brings the count to N, sets TORQUE, ANGLE or both
by what disagrees, with the axis fault, and a reaction waits for the mark. In the strides that the SMC works in, FREEWHEEL_ESCALATION of a
leg whose axis had a FREEWHEEL request two marks ago withdraws the enable of its team and latches the team. The clearings being told while
the cores run (R33: from SELFTEST to RECOVERY, outside SAVE and reset): AXIS_FAULT_CLEAR of a standing AXF and TEAM_LATCH_CLEAR of standing
latches request their clearing for the mark; they change no register but the index of the log, and a latch that is clear or not named leaves
its team as it was. That the request of a discrepancy stands until the mark at which it takes effect is log entries 17 and 70. Rests on:
08_safety_channel.md R208, R209, R212, R426. -/
def Obligations.MonitorsRequestSafeStates : Prop :=
  (∀ (a : AxisNo) (s : State), smcRuns s = true → (s.mon a).judged = false → a.val ∈ axesUsed s → tmDue (tmStride a s) a = true →
      Completes (.torqueDiscrepancy a) s fun t => isSet t (F.SAF_AX_FLT_AXF a) = true ∧ (t.ax a).react.isSome = true ∧ (t.mon a).judged = true ∧
        (((tmStride a s).mon a).torqueBad = true → isSet t (F.SAF_AX_FLT_TORQUE a) = true) ∧
        (((tmStride a s).mon a).angleBad = true → isSet t (F.SAF_AX_FLT_ANGLE a) = true)) ∧
    (∀ (n : LegNo) (a : Nat) (s : State), smcStrides s = true → legAxis s n = some a → a < 32 → (s.ax a).fwWatch = some 2 →
      Completes (.freewheelEscalation n) s fun t => rdBit t F.SAF_TEAMEN_EN (a / 4) = false ∧ rdBit t F.SAF_TEAMFLT_TMLAT (a / 4) = true) ∧
    (∀ (a : AxisNo) (s : State), coresRun s = true → isSet s (F.SAF_AX_FLT_AXF a) = true →
      Completes (.axisFaultClear a) s fun t => (t.ax a).clrReq = true ∧ ∀ f, rd t f = rd s f ∨ f.off = A.FLT_WIDX) ∧
    (∀ (mask : Word) (s : State), coresRun s = true → Completes (.teamLatchClear mask) s fun t => (∀ f, rd t f = rd s f ∨ f.off = A.FLT_WIDX) ∧
        ∀ k < 8, (rdBit s F.SAF_TEAMFLT_TMLAT k = true ∧ bit mask.toNat k = true → (t.team k).clrReq = true) ∧
          (¬ (rdBit s F.SAF_TEAMFLT_TMLAT k = true ∧ bit mask.toNat k = true) → t.team k = s.team k))

/-- For a safe input that is evaluated: SAFE_INPUT_CHANGE shows both channels, the second turned over under ANTI; where they agree PERMIT is
their state and no discrepancy stands, where they differ PERMIT stays and a discrepancy stands. SI_DISCREPANCY of a standing discrepancy not
yet reported sets DFLT and DSEEN. Rests on: 08_safety_channel.md R213, R214. -/
def Obligations.SafeInputsAgreeOrFault : Prop :=
  (∀ (n : Fin 16) (a b : Bool) (s : State), siRuns s n = true →
      Completes (.safeInputChange n a b) s fun t => isSet t (F.SAF_SI_STAT_ACTA n) = a ∧ isSet t (F.SAF_SI_STAT_ACTB n) = (b != isSet s (F.SAF_SI_CFG_ANTI n)) ∧
        (a = (b != isSet s (F.SAF_SI_CFG_ANTI n)) → isSet t (F.SAF_SI_STAT_PERMIT n) = a ∧ isSet t (F.SAF_SI_STAT_DISC n) = false) ∧
        (a ≠ (b != isSet s (F.SAF_SI_CFG_ANTI n)) → isSet t (F.SAF_SI_STAT_PERMIT n) = isSet s (F.SAF_SI_STAT_PERMIT n) ∧ isSet t (F.SAF_SI_STAT_DISC n) = true)) ∧
    (∀ (n : Fin 16) (s : State), siRuns s n = true → isSet s (F.SAF_SI_STAT_DISC n) = true → (tget (fun _ => {}) s.saf.ins n).expired = false →
      Completes (.siDiscrepancy n) s fun t => isSet t (F.SAF_SI_STAT_DFLT n) = true ∧ isSet t (F.SAF_SI_STAT_DSEEN n) = true)

/-- With the island clock: SAFE_BRAKE_SLOT of an output off whose conditions held at the latest mark, in SERVICE without a latched device
reaction, energises both sides, the high side to be tested first; one that lacks any of these is off. While the device watches its
read-backs, SB_READBACK of an enabled output outside a pulse, without RBFLT, that differs from a command sets RBFLT and turns the output
off. In the strides that the SMC works in, SB_TEST_PULSE of a released output turns off the side to be tested, with RELEASED 0 and TESTING
1. SB_TEST_PULSE_END that reads 0 energises both sides, raises TESTCNT and tests the other side next; one that reads 1 sets TESTFLT and
turns the output off. SB_FAULT_CLEAR, while the cores run (R33: from SELFTEST to RECOVERY, outside SAVE and reset), of both faults clears
them with commands and readbacks 0, and leaves them with a readback at 1. Rests on: 08_safety_channel.md R216, R217, R218. -/
def Obligations.SafeBrakesFollowTheirConditions : Prop :=
  (∀ (n : Fin 8) (s : State), s.saf.islandClk = true → (s.brk n).cond = true → s.dev.st = .service → isSet s F.SAF_STAT_DVLAT = false → sbOn s n = false →
      Completes (.safeBrakeSlot n) s fun t => isSet t (F.SAF_SB_STAT_RELEASED n) = true ∧ isSet t (F.SAF_SB_STAT_CMDH n) = true ∧
        isSet t (F.SAF_SB_STAT_CMDL n) = true ∧ (t.brk n).testHi = true) ∧
    (∀ (n : Fin 8) (s : State), s.saf.islandClk = true → ((s.brk n).cond = false ∨ s.dev.st ≠ .service ∨ isSet s F.SAF_STAT_DVLAT = true) →
      Completes (.safeBrakeSlot n) s fun t => isSet t (F.SAF_SB_STAT_RELEASED n) = false ∧ isSet t (F.SAF_SB_STAT_CMDH n) = false ∧
        isSet t (F.SAF_SB_STAT_CMDL n) = false ∧ isSet t (F.SAF_SB_STAT_TESTING n) = false) ∧
    (∀ (n : Fin 8) (h l : Bool) (s : State), monitored s = true → isSet s (F.SAF_SB_CFG_EN n) = true → isSet s (F.SAF_SB_STAT_TESTING n) = false →
      isSet s (F.SAF_SB_STAT_RBFLT n) = false → (h ≠ isSet s (F.SAF_SB_STAT_CMDH n) ∨ l ≠ isSet s (F.SAF_SB_STAT_CMDL n)) →
      Completes (.sbReadback n h l) s fun t => isSet t (F.SAF_SB_STAT_RBFLT n) = true ∧ isSet t (F.SAF_SB_STAT_CMDH n) = false ∧
        isSet t (F.SAF_SB_STAT_CMDL n) = false ∧ isSet t (F.SAF_SB_STAT_RELEASED n) = false) ∧
    (∀ (n : Fin 8) (s : State), smcStrides s = true → isSet s (F.SAF_SB_STAT_RELEASED n) = true →
      Completes (.sbTestPulse n) s fun t => isSet t (F.SAF_SB_STAT_RELEASED n) = false ∧ isSet t (F.SAF_SB_STAT_TESTING n) = true ∧
        isSet t (F.SAF_SB_STAT_CMDH n) = (isSet s (F.SAF_SB_STAT_CMDH n) && !(s.brk n).testHi) ∧
        isSet t (F.SAF_SB_STAT_CMDL n) = (isSet s (F.SAF_SB_STAT_CMDL n) && (s.brk n).testHi)) ∧
    (∀ (n : Fin 8) (s : State), smcStrides s = true → isSet s (F.SAF_SB_STAT_TESTING n) = true →
      Completes (.sbTestPulseEnd n false) s (fun t => isSet t (F.SAF_SB_STAT_RELEASED n) = true ∧ isSet t (F.SAF_SB_STAT_TESTING n) = false ∧
        isSet t (F.SAF_SB_STAT_CMDH n) = true ∧ isSet t (F.SAF_SB_STAT_CMDL n) = true ∧
        (t.brk n).testHi = !(s.brk n).testHi ∧
        rd t (F.SAF_SB_STAT_TESTCNT n) = (rd s (F.SAF_SB_STAT_TESTCNT n) + 1) % 2 ^ (F.SAF_SB_STAT_TESTCNT n).w) ∧
      Completes (.sbTestPulseEnd n true) s (fun t => isSet t (F.SAF_SB_STAT_TESTFLT n) = true ∧ isSet t (F.SAF_SB_STAT_CMDH n) = false ∧
        isSet t (F.SAF_SB_STAT_CMDL n) = false ∧ isSet t (F.SAF_SB_STAT_RELEASED n) = false)) ∧
    (∀ (n : Fin 8) (s : State), coresRun s = true → isSet s (F.SAF_SB_STAT_CMDH n) = false → isSet s (F.SAF_SB_STAT_CMDL n) = false →
      Completes (.sbFaultClear n 0x60 false false) s (fun t => isSet t (F.SAF_SB_STAT_TESTFLT n) = false ∧ isSet t (F.SAF_SB_STAT_RBFLT n) = false) ∧
      Completes (.sbFaultClear n 0x60 true false) s (fun t => isSet t (F.SAF_SB_STAT_TESTFLT n) = isSet s (F.SAF_SB_STAT_TESTFLT n) ∧
        isSet t (F.SAF_SB_STAT_RBFLT n) = isSet s (F.SAF_SB_STAT_RBFLT n)))

/-- With the island clock present, the device not in reset, PARKED or SLEEP: CLOCK_MONITOR_WINDOW of at most 6 % deviation, the clock not lost,
shows its deviation and class 0 up to 1 %, else class 1; MARGCNT counts windows of class 1 in a row up to 255 and is 0 after one of class 0.
One of more than 6 %, or with the clock lost, in ARMED or SERVICE, shows class 2, latches the device reaction, withdraws every enable and
de-energises every brake output. ISLAND_CLOCK_LOST of a device that watches its clock leaves the island without its clock, with no enable
driven, the SMC stopped and no safe input evaluated. Rests on: 01_device_organisation.md R27; 08_safety_channel.md R220. -/
def Obligations.ClockMonitorClasses : Prop :=
  (∀ (dev : Int) (lost : Bool) (s : State), s.saf.islandClk = true → held s = false → s.dev.st ≠ .parked → s.dev.st ≠ .sleep → dev.natAbs ≤ 600 → lost = false →
      Completes (.clockMonitorWindow dev lost) s fun t => rdI t F.SAF_CLK_DEV = dev ∧ rd t F.SAF_CLK_CLASS = (if 100 < dev.natAbs then 1 else 0) ∧
        rd t F.SAF_CLK_MARGCNT = (if 100 < dev.natAbs then satAdd 255 (rd s F.SAF_CLK_MARGCNT) 1 else 0)) ∧
    (∀ (dev : Int) (lost : Bool) (s : State), s.saf.islandClk = true → held s = false → (600 < dev.natAbs ∨ lost = true) → (s.dev.st = .armed ∨ s.dev.st = .service) →
      Completes (.clockMonitorWindow dev lost) s fun t => rd t F.SAF_CLK_CLASS = 2 ∧ isSet t F.SAF_STAT_DVLAT = true ∧ BrakesOff t ∧ rd t F.SAF_TEAMEN_EN = 0) ∧
    (∀ s : State, monitored s = true → s.saf.islandClk = true →
      Completes .islandClockLost s fun t => t.saf.islandClk = false ∧ rd t F.SAF_TEAMEN_EN = 0 ∧ smcRuns t = false ∧ ∀ n < 16, siRuns t n = false)

/-- On a connection that receives: SAFE_FRAME_COPY of a copy that fails a check of R233 raises BADCNT and leaves every connection and group as
it was. With a reference and CFAIL clear, a valid copy of a SEQ newer than the reference and not rejected waits where none of its SEQ does,
with the reference as it was; one whose equal of the other path waits is accepted: the reference and SEQ become its SEQ, both deliveries
hold it, the watchdog is 0 and its flag and SINGLE are clear; one whose unequal of the other path waits is rejected with it, with reference
and deliveries as they were. SAFE_FRAME_SINGLE with a copy at its W-th mark accepts the oldest with SINGLE and SPRUN one more up to its end,
and with PATHLOST where SPRUN goes above SPLIM. SF_WATCHDOG after WDT strides without an accepted frame sets WDEXP, and HOSTSIL of every
group in use whose host connection it is. CFAIL_CLEAR, while the cores run (R33: from SELFTEST to RECOVERY, outside SAVE and reset), clears
CFAIL, the reference, MISCNT, and the copies and rejections held. That the single copy is accepted in the stride that ends at its W-th mark,
and in the order of SEQ, is log entry 93. Rests on: 09_redundant_groups.md R230, R232, R233, R234. -/
def Obligations.SafeFramesArePaired : Prop :=
  (∀ (c : Fin 32) (path : Ring) (bytes : List Byte) (s : State), connRx s c = true → copyOk s c bytes = false →
      Completes (.safeFrameCopy c path bytes) s fun t => t.grp = s.grp ∧
        rd t (F.GRP_CONN_STAT_BADCNT c) = satAdd (2 ^ (F.GRP_CONN_STAT_BADCNT c).w - 1) (rd s (F.GRP_CONN_STAT_BADCNT c)) 1) ∧
    (∀ (c : Fin 32) (path : Ring) (bytes : List Byte) (s : State), connRx s c = true → isSet s (F.GRP_CONN_STAT_CFAIL c) = false → copyOk s c bytes = true →
      isSet s (F.GRP_CONN_STAT_REF c) = true → seqNewer (field bytes 4 4) (s.conn c).ref = true →
      (s.conn c).mism.contains (field bytes 4 4) = false → (s.conn c).waits.find? (fun w => w.seq == field bytes 4 4) = none →
      Completes (.safeFrameCopy c path bytes) s fun t =>
        (t.conn c).waits = (s.conn c).waits ++ [⟨path.toNat, field bytes 4 4, bytes, 0⟩] ∧ (t.conn c).ref = (s.conn c).ref) ∧
    (∀ (c : Fin 32) (path : Ring) (bytes : List Byte) (w : Copy) (s : State), connRx s c = true → isSet s (F.GRP_CONN_STAT_CFAIL c) = false →
      copyOk s c bytes = true → isSet s (F.GRP_CONN_STAT_REF c) = true → seqNewer (field bytes 4 4) (s.conn c).ref = true →
      (s.conn c).mism.contains (field bytes 4 4) = false → (s.conn c).waits.find? (fun w => w.seq == field bytes 4 4) = some w → w.path ≠ path.toNat → w.bytes = bytes →
      Completes (.safeFrameCopy c path bytes) s fun t => (t.conn c).ref = field bytes 4 4 ∧ (t.conn c).last = bytes ∧ (t.conn c).isl = bytes ∧ (t.conn c).wd = 0 ∧
        isSet t (F.GRP_CONN_STAT_WDEXP c) = false ∧ isSet t (F.GRP_CONN_STAT_SINGLE c) = false ∧ rd t (F.GRP_CONN_SEQ_SEQ c) = field bytes 4 4) ∧
    (∀ (c : Fin 32) (path : Ring) (bytes : List Byte) (w : Copy) (s : State), connRx s c = true → isSet s (F.GRP_CONN_STAT_CFAIL c) = false →
      copyOk s c bytes = true → isSet s (F.GRP_CONN_STAT_REF c) = true → seqNewer (field bytes 4 4) (s.conn c).ref = true →
      (s.conn c).mism.contains (field bytes 4 4) = false → (s.conn c).waits.find? (fun w => w.seq == field bytes 4 4) = some w → w.path ≠ path.toNat → w.bytes ≠ bytes →
      Completes (.safeFrameCopy c path bytes) s fun t => (t.conn c).ref = (s.conn c).ref ∧ (t.conn c).last = (s.conn c).last ∧ (t.conn c).isl = (s.conn c).isl ∧
        ∀ v ∈ (t.conn c).waits, v.seq ≠ field bytes 4 4) ∧
    (∀ (c : Fin 32) (w : Copy) (l : List Copy) (s : State), connRx s c = true → dueCopies s c = w :: l →
      Completes (.safeFrameSingle c) s fun t => isSet t (F.GRP_CONN_STAT_SINGLE c) = true ∧ (t.conn c).last = w.bytes ∧ (t.conn c).isl = w.bytes ∧
        rd t (F.GRP_CONN_STAT_SPRUN c) = satAdd (2 ^ (F.GRP_CONN_STAT_SPRUN c).w - 1) (rd s (F.GRP_CONN_STAT_SPRUN c)) 1 ∧
        (rd s (F.GRP_CONN_CFG_SPLIM c) < rd t (F.GRP_CONN_STAT_SPRUN c) → isSet t (F.GRP_CONN_STAT_PATHLOST c) = true)) ∧
    (∀ (c : Fin 32) (s : State), coresRun s = true → isSet s (F.GRP_CONN_STAT_CFAIL c) = true →
      Completes (.cfailClear c) s fun t => isSet t (F.GRP_CONN_STAT_CFAIL c) = false ∧ isSet t (F.GRP_CONN_STAT_REF c) = false ∧
        rd t (F.GRP_CONN_STAT_MISCNT c) = 0 ∧ (t.conn c).waits = [] ∧ (t.conn c).mism = []) ∧
    (∀ (c : Fin 32) (s : State), connRx s c = true → (s.conn c).wdOn = true → rd s (F.GRP_CONN_CFG_WDT c) ≤ (s.conn c).wd → isSet s (F.GRP_CONN_STAT_WDEXP c) = false →
    Completes (.sfWatchdog c) s fun t => isSet t (F.GRP_CONN_STAT_WDEXP c) = true ∧
      ∀ g < 4, isSet s (F.GRP_G_CFG_EN g) = true → isSet s (F.GRP_G_CONN_HEN g) = true → rd s (F.GRP_G_CONN_HC g) = c.val → isSet t (F.GRP_G_STAT_HOSTSIL g) = true)

/-- In a duplex group that runs, with the host as the source: REIN_REVOKED of the own term or a newer one, not 0 and not yet revoked (one of an
older term is ignored, log entry 73), marks it revoked with REVOKED set, leaves no renewal of it held, and stops a holder of the own term.
REIN_GRANTED of a newer term, with the own lease expired or no term yet and no other offer held, holds it for the mark, leaves the term as
it is and stops a holder. MEMBER_ADMITTED of the own rank, READY and HEALTHY, holds the admission for the mark and leaves STATE as it is.
From a source that the group does not accept (a duplex group accepts the host only, a triplex group only a frame with ARBITER) none of them
changes a group. Rests on: 09_redundant_groups.md R235, R238, R240, R246. -/
def Obligations.ReinCommandsAreObeyed : Prop :=
  (∀ (g : Fin 4) (term : BitVec 16) (rank : Byte) (s : State), grpRuns s g = true → isSet s (F.GRP_G_CFG_TRIPLEX g) = false → term ≠ 0 →
      (s.group g).revoked ≠ term.toNat → termNewer (grpTerm s g) term.toNat = false →
      Completes (.reinRevoked g ⟨term, rank, .host⟩) s fun t => (t.group g).revoked = term.toNat ∧ isSet t (F.GRP_G_FLT_REVOKED g) = true ∧
        (∀ r, (t.group g).ren = some r → r.term ≠ term.toNat) ∧
        (grpTerm s g = term.toNat → grpHolds s g = true → isSet t (F.GRP_G_STAT_STOPPED g) = true)) ∧
    (∀ (g : Fin 4) (term : BitVec 16) (rank : Byte) (s : State), grpRuns s g = true → isSet s (F.GRP_G_CFG_TRIPLEX g) = false →
      termNewer term.toNat (grpTerm s g) = true → (grpL s g < grpAge s g ∨ grpTerm s g = 0) → (s.group g).cand = none →
      Completes (.reinGranted g ⟨term, rank, .host⟩) s fun t => (t.group g).cand = some ⟨term.toNat, rank.toNat, 3, true⟩ ∧ grpTerm t g = grpTerm s g ∧
        (grpHolds s g = true → isSet t (F.GRP_G_STAT_STOPPED g) = true)) ∧
    (∀ (g : Fin 4) (term : BitVec 16) (rank : Byte) (s : State), grpRuns s g = true → isSet s (F.GRP_G_CFG_TRIPLEX g) = false → rank.toNat = grpRank s g →
      rd s (F.GRP_G_STAT_STATE g) = 2 → isSet s (F.GRP_G_STAT_HEALTHY g) = true →
      Completes (.memberAdmitted g ⟨term, rank, .host⟩) s fun t => (t.group g).admits = true ∧ rd t (F.GRP_G_STAT_STATE g) = 2) ∧
    (∀ (g : Fin 4) (term : BitVec 16) (rank : Byte) (src : CmdSource) (s : State), cmdFrom s g src = false →
      cmdFrom s g src = (match src with
        | .member _ arb => isSet s (F.GRP_G_CFG_TRIPLEX g) && arb
        | .host => !isSet s (F.GRP_G_CFG_TRIPLEX g)) ∧
      Completes (.reinRevoked g ⟨term, rank, src⟩) s (fun t => t.grp = s.grp) ∧
      Completes (.reinGranted g ⟨term, rank, src⟩) s (fun t => t.grp = s.grp) ∧
      Completes (.memberAdmitted g ⟨term, rank, src⟩) s (fun t => t.grp = s.grp))

/-- GROUP_GO of an application core whose requests reach the fabric stages its words with its ARBOK, and one of the host changes no group.
GROUP_RELEASE of such a core leaves the member no holder in force, with HOLDER as it was. In a group that runs: HOST_GROUP_FRAME of version
1 is quorum evidence in a triplex group where it names the own rank, and in a duplex group always. LEASE_EXPIRED of an AGE beyond L, with a
renewal accepted before and not yet reported, sets EXPIRED and marks it reported. NO_REIN of an admitted member without a renewal at the
mark and with AGE at least L + 3 sets NOREIN in STAT and FLT, clears REDUCED, and holds the first two shares for the ramp. REIN_TAKEN of an
admitted and healthy duplex standby with a silent host and a term, at AGE L + 3, makes it the holder, not stopped, of the next term, with
HRANK its rank. QUORUM_LOST at QAGE L or more clears QUORUM and leaves no holder in force. LISTEN_COMPLETE after 64 strides of listening
makes the member READY. The next term at the wrap of REIN_TAKEN is log entry 33; that LEASE_EXPIRED needs an earlier renewal and reports
once is log entry 73. Rests on: 09_redundant_groups.md R229, R230, R236, R237, R238, R242, R243. -/
def Obligations.LeasesEndOnTime : Prop :=
  (∀ (g : Fin 4) (who : Requestor) (arbok : Bool) (s : State), fromCore s who = true →
      Completes (.groupGo g who arbok) s fun t => (t.group g).staged = some (arbok, grpWords s g)) ∧
    (∀ (g : Fin 4) (arbok : Bool) (s : State), Completes (.groupGo g .host arbok) s fun t => t.grp = s.grp) ∧
    (∀ (g : Fin 4) (who : Requestor) (s : State), fromCore s who = true →
      Completes (.groupRelease g who) s fun t => grpHolds t g = false ∧ isSet t (F.GRP_G_STAT_HOLDER g) = isSet s (F.GRP_G_STAT_HOLDER g)) ∧
    (∀ (g : Fin 4) (bytes : List Byte) (s : State), grpRuns s g = true → isSet s (F.GRP_G_CFG_TRIPLEX g) = true → field bytes 0 1 = 1 →
      Completes (.hostGroupFrame g bytes) s fun t => (t.group g).qNow = ((s.group g).qNow || field bytes 5 1 == grpRank s g)) ∧
    (∀ (g : Fin 4) (bytes : List Byte) (s : State), grpRuns s g = true → isSet s (F.GRP_G_CFG_TRIPLEX g) = false → field bytes 0 1 = 1 →
      Completes (.hostGroupFrame g bytes) s fun t => (t.group g).qNow = true) ∧
    (∀ (g : Fin 4) (s : State), grpRuns s g = true → (s.group g).stamp ≠ none → grpL s g < grpAge s g → (s.group g).expLogged = false →
      Completes (.leaseExpired g) s fun t => isSet t (F.GRP_G_FLT_EXPIRED g) = true ∧ (t.group g).expLogged = true) ∧
    (∀ (g : Fin 4) (s : State), grpRuns s g = true → grpAdmitted s g = true → (s.group g).renMark = false → grpL s g + 3 ≤ grpAge s g →
      isSet s (F.GRP_G_STAT_NOREIN g) = false →
      Completes (.noRein g) s fun t => isSet t (F.GRP_G_STAT_NOREIN g) = true ∧ isSet t (F.GRP_G_FLT_NOREIN g) = true ∧ isSet t (F.GRP_G_STAT_REDUCED g) = false ∧
        (t.group g).held = [rdW s (F.GRP_G_SHARE_SHARE g 0), rdW s (F.GRP_G_SHARE_SHARE g 1)]) ∧
    (∀ (g : Fin 4) (s : State), grpRuns s g = true → isSet s (F.GRP_G_CFG_TRIPLEX g) = false → grpAdmitted s g = true →
      isSet s (F.GRP_G_STAT_HEALTHY g) = true → hostSilent s g = true → isSet s (F.GRP_G_STAT_HOLDER g) = false → grpTerm s g ≠ 0 →
      grpAge s g = grpL s g + 3 →
      Completes (.reinTaken g) s fun t => isSet t (F.GRP_G_STAT_HOLDER g) = true ∧ isSet t (F.GRP_G_STAT_STOPPED g) = false ∧
        grpTerm t g = termNext (grpTerm s g) ∧ rd t (F.GRP_G_LEASE_HRANK g) = grpRank s g) ∧
    (∀ (g : Fin 4) (s : State), grpRuns s g = true → grpL s g ≤ grpQage s g → isSet s (F.GRP_G_STAT_QUORUM g) = true →
      Completes (.quorumLost g) s fun t => isSet t (F.GRP_G_STAT_QUORUM g) = false ∧ grpHolds t g = false) ∧
    (∀ (g : Fin 4) (s : State), grpRuns s g = true → rd s (F.GRP_G_STAT_STATE g) = 1 → 64 ≤ rd s (F.GRP_G_LEASE_LISTEN g) →
      Completes (.listenComplete g) s fun t => rd t (F.GRP_G_STAT_STATE g) = 2)

/-- A mismatch of a group with a failed rail, or a parity error, on a pair whose comparator is enabled latches MM, holds the pair, discards its
request, resets both cores, latches DVLAT and withdraws every enable; the first one shows its pair and groups. A signature write whose two
values differ is a mismatch of group G5. The attribution and the end of a window are told while the cores run (R33: from SELFTEST to
RECOVERY, outside SAVE and reset). The attribution ends the pending one and names in ATTR a core, or without a clean injection the
comparator. A signature end raises FLUSHCNT and ends the window. A checked window without one sets MISS and raises MISSCNT; the second in a
row latches DVLAT. Rests on: 10_cores_lockstep_and_self_test.md R253, R257, R258, R259, R260. -/
def Obligations.LockstepHoldsThePair : Prop :=
  (∀ (p : PairNo) (groups : Byte) (ra rb par : Bool) (s : State), lockOn s p = true → ((groups ≠ 0 ∧ (ra = true ∨ rb = true)) ∨ par = true) →
      (s.dev.st = .armed ∨ s.dev.st = .service) →
      Completes (.lockstepMismatch p groups ra rb par) s fun t => (t.pair p).held = true ∧ (t.pair p).attrPend = true ∧ (t.pair p).req = 0 ∧
        t.hart (2 * p.val) = {} ∧ t.hart (2 * p.val + 1) = {} ∧ isSet t F.BST_LSFLT_MM = true ∧ isSet t F.SAF_STAT_DVLAT = true ∧ EnablesDown t ∧
        (isSet s F.BST_LSFLT_MM = false → rd t F.BST_LSFLT_PAIR = p.val ∧ rd t F.BST_LSFLT_GROUPS = groups.toNat ∧
          isSet t F.BST_LSFLT_RAILA = ra ∧ isSet t F.BST_LSFLT_RAILB = rb ∧ isSet t F.BST_LSFLT_PARITY = par)) ∧
    (∀ (p : PairNo) (m c : Word) (s : State), lockOn s p = true → m ≠ c → (s.dev.st = .armed ∨ s.dev.st = .service) →
      Completes (.msigdWrite p m c) s fun t => (t.pair p).held = true ∧ (t.pair p).mmGroups = 32 ∧ isSet t F.BST_LSFLT_MM = true ∧ EnablesDown t) ∧
    (∀ (p : PairNo) (fails : BitVec 2) (s : State), coresRun s = true → (s.pair p).attrPend = true → rd s F.BST_LSFLT_PAIR = p.val →
      Completes (.lockstepAttribution p fails) s fun t => (t.pair p).attrPend = false ∧
        rd t F.BST_LSFLT_ATTR = if fails = 0 ∧ (s.pair p).mmPar = false then 1 else 2) ∧
    (∀ (p : PairNo) (s : State), lockOn s p = true →
      Completes (.msigendWrite p) s fun t => (t.pair p).winEnd = true ∧
        rd t (F.BST_PAIR_SIG_FLUSHCNT p) = (rd s (F.BST_PAIR_SIG_FLUSHCNT p) + 1) % 2 ^ (F.BST_PAIR_SIG_FLUSHCNT p).w) ∧
    (∀ (p : PairNo) (s : State), coresRun s = true → (s.pair p).verdict = 2 →
      Completes (.sigWindowEnd p) s fun t => (t.pair p).verdict = 0 ∧ isSet t (F.BST_PAIR_SIG_MISS p) = true ∧
        rd t (F.BST_PAIR_SIG_MISSCNT p) = satAdd (2 ^ (F.BST_PAIR_SIG_MISSCNT p).w - 1) (rd s (F.BST_PAIR_SIG_MISSCNT p)) 1 ∧
        (1 ≤ rd s (F.BST_PAIR_SIG_MISSCNT p) → (s.dev.st = .armed ∨ s.dev.st = .service) → isSet t F.SAF_STAT_DVLAT = true))

/-- While the cores run: a split request with SPLITEN and SMCOK set and DVLAT clear, on a pair that is joined or waits for a split, sets MODE 1
and waits for the mark; any other sets REFUSED and leaves none waiting. A join request of a split pair waits for the mark; any other sets
REFUSED and leaves none waiting. The transfer of a rejoin that ends within 32,000 cycles on a pair not held shows its cycles, leaves both
cores alike, and lets a halt request that was held act. Rests on: 10_cores_lockstep_and_self_test.md R262, R264, R265. -/
def Obligations.PairsSplitAndRejoin : Prop :=
  (∀ (p : PairNo) (s : State), coresRun s = true → isSet s (F.BST_PAIR_CFG_SPLITEN p) = true → isSet s F.SAF_STAT_SMCOK = true → isSet s F.SAF_STAT_DVLAT = false →
      pairMode s p ≤ 1 → Completes (.pairSplit p) s fun t => pairMode t p = 1 ∧ (t.pair p).req = 1) ∧
    (∀ (p : PairNo) (s : State), coresRun s = true →
      (isSet s (F.BST_PAIR_CFG_SPLITEN p) = false ∨ isSet s F.SAF_STAT_SMCOK = false ∨ isSet s F.SAF_STAT_DVLAT = true ∨ 2 ≤ pairMode s p) →
      Completes (.pairSplit p) s fun t => isSet t (F.BST_PAIR_STAT_REFUSED p) = true ∧ (t.pair p).req = 0 ∧ pairMode t p ≠ 1) ∧
    (∀ (p : PairNo) (s : State), coresRun s = true → pairMode s p = 2 → Completes (.pairJoin p) s fun t => pairMode t p = 2 ∧ (t.pair p).req = 2) ∧
    (∀ (p : PairNo) (s : State), coresRun s = true → pairMode s p ≠ 2 →
      Completes (.pairJoin p) s fun t => isSet t (F.BST_PAIR_STAT_REFUSED p) = true ∧ (t.pair p).req = 0 ∧ pairMode t p ≠ 1) ∧
    (∀ (p : PairNo) (cycles : Nat) (s : State), coresRun s = true → pairMode s p = 3 → (s.pair p).xferDone = false → (s.pair p).held = false → cycles ≤ 32000 →
      Completes (.rejoinTransferComplete p cycles) s fun t => (t.pair p).xferDone = true ∧ pairMode t p = 3 ∧ rd t (F.BST_PAIR_STAT_XFERT p) = cycles ∧
        t.hart (2 * p.val + 1) = t.hart (2 * p.val) ∧ ((s.hart (2 * p.val)).haltPend = true → (t.hart (2 * p.val)).halted = true))

/-- In ARMED, SERVICE and RECOVERY, with the cores running (outside reset and internal scan): where no ECC error is met and R271's conditions
hold, a slice that passes moves BST_SLICE_NEXT to the next of the 20,480 and ends the run of skips and of postponements; the island's moves
BST_ISLSLICE_NEXT to the next of 512. Without the conditions the slice is skipped: BST_SLICE_NEXT stays and SKIPRUN and SKIPCNT rise, and on
the island its own counts do. A slice of a cistern that is postponed stays next. In ARMED and SERVICE a failing slice sets VALID with its
memory and offset and latches DVLAT. A run of skips longer than a pass (the length for the island is the model's choice, log entry 119) and
sixteen postponements are each, while the cores run (R33: from SELFTEST to RECOVERY, outside SAVE and reset), marked as logged, so that no
further command logs them. Rests on: 10_cores_lockstep_and_self_test.md R268, R269, R270, R271. -/
def Obligations.SlicesAdvanceOrSkip : Prop :=
  (∀ s : State, sliceState s = true → coresRun s = true → sliceMay s = true →
      Completes (.idleWindow ⟨.pass, none⟩) s fun t => rd t F.BST_SLICE_NEXT = (if 20480 ≤ rd s F.BST_SLICE_NEXT + 1 then 0 else rd s F.BST_SLICE_NEXT + 1) ∧
        rd t F.BST_SLICECNT_SKIPRUN = 0 ∧ t.bst.postponed = 0) ∧
    (∀ s : State, sliceState s = true → coresRun s = true → islMay s = true →
      Completes (.islandSlice .pass) s fun t => rd t F.BST_ISLSLICE_NEXT = (if 512 ≤ rd s F.BST_ISLSLICE_NEXT + 1 then 0 else rd s F.BST_ISLSLICE_NEXT + 1) ∧
        t.bst.islSkip = 0) ∧
    (∀ (r : SliceResult) (s : State), sliceState s = true → coresRun s = true → sliceMay s = false →
      Completes (.idleWindow ⟨r, none⟩) s fun t => rd t F.BST_SLICE_NEXT = rd s F.BST_SLICE_NEXT ∧
        rd t F.BST_SLICECNT_SKIPRUN = satAdd (2 ^ F.BST_SLICECNT_SKIPRUN.w - 1) (rd s F.BST_SLICECNT_SKIPRUN) 1 ∧
        rd t F.BST_SLICECNT_SKIPCNT = satAdd (2 ^ F.BST_SLICECNT_SKIPCNT.w - 1) (rd s F.BST_SLICECNT_SKIPCNT) 1) ∧
    (∀ (r : SliceResult) (s : State), sliceState s = true → coresRun s = true → islMay s = false →
      Completes (.islandSlice r) s fun t => rd t F.BST_ISLSLICE_NEXT = rd s F.BST_ISLSLICE_NEXT ∧ t.bst.islSkip = satAdd 65535 s.bst.islSkip 1 ∧
        t.bst.islSkipCnt = satAdd 65535 s.bst.islSkipCnt 1) ∧
    (∀ s : State, sliceState s = true → coresRun s = true → sliceMay s = true → 16384 ≤ rd s F.BST_SLICE_NEXT → rd s F.BST_SLICE_NEXT < 19456 →
      Completes (.idleWindow ⟨.postponed, none⟩) s fun t => rd t F.BST_SLICE_NEXT = rd s F.BST_SLICE_NEXT ∧ t.bst.postponed = s.bst.postponed + 1) ∧
    (∀ s : State, (s.dev.st = .armed ∨ s.dev.st = .service) → coresRun s = true → sliceMay s = true →
      Completes (.idleWindow ⟨.fail, none⟩) s fun t => isSet t F.BST_SLICEFAIL_VALID = true ∧ rd t F.BST_SLICEFAIL_MEM = (sliceAt (rd s F.BST_SLICE_NEXT)).1 ∧
        rd t F.BST_SLICEFAIL_OFFSET = (sliceAt (rd s F.BST_SLICE_NEXT)).2 ∧ isSet t F.SAF_STAT_DVLAT = true) ∧
    (∀ s : State, coresRun s = true → 20480 < rd s F.BST_SLICECNT_SKIPRUN → s.bst.skipLogged = false → Completes .sliceSkipLong s fun t => t.bst.skipLogged = true) ∧
    (∀ s : State, coresRun s = true → rd s F.BST_SLICECNT_SKIPRUN ≤ 20480 → 512 < s.bst.islSkip → s.bst.islLogged = false →
      Completes .sliceSkipLong s fun t => t.bst.islLogged = true) ∧
    (∀ s : State, coresRun s = true → 16 ≤ s.bst.postponed → s.bst.postLogged = false → Completes .slicePostponed s fun t => t.bst.postLogged = true)

/-- On a powered port TAP_RESET and IDCODE select instruction 1 with the identification word, DTMCS and BYPASS select their registers,
SAMPLE_PRELOAD loads the boundary register. Where the security engine runs (monitored: from SELFTEST to SAVE, outside reset and internal
scan), EXTEST, CLAMP and HIGHZ clear the keys, block the OTP port, set ZEROISED and take the pins, EXTEST with the boundary register and
CLAMP and HIGHZ with the bypass register selected, and SCANEN takes the pins and sets ZEROISED at level 2; where it does not run, EXTEST,
CLAMP and HIGHZ are selected and change neither pins nor keys nor a register, nor does SCANEN change pins or keys, which is the model's
choice (log entry 161). At another level SCANEN changes neither pins nor keys. A DMI access at level 0 leaves the debug module as it is; at
a level a read of data0 gives it, and a write of data0 with the module active sets it. Where the security engine runs, AUTH_CAPTURE without
a lockout and with the OTP port open gives a nonce, the part code and the serial. Where it runs and there is no lockout, an answer that R275
accepts sets the level, zeroises and uses the nonce; any other uses the nonce and raises FAILS, and the third sets LOCKOUT. The DMI address
of data0 and the rule of dmactive are those of debug specification 0.13.2 (log entry 38, PRESUMED). Rests on:
10_cores_lockstep_and_self_test.md R273, R274, R275, R276, R278. -/
def Obligations.JtagInstructionsSelect : Prop :=
  (∀ s : State, tapOn s = true →
      Completes .tapReset s (fun t => t.bst.dbg.ir = 1 ∧ t.bst.dbg.dr = leBytes 4 (idcodeOf s)) ∧
      Completes .idcode s (fun t => t.bst.dbg.ir = 1 ∧ t.bst.dbg.dr = leBytes 4 (idcodeOf s)) ∧
      Completes .dtmcs s (fun t => t.bst.dbg.ir = 0x10 ∧ t.bst.dbg.dr.length = 4) ∧
      (∀ v : List Bool, Completes (.samplePreload v) s fun t => t.bst.dbg.ir = 2 ∧ t.bst.dbg.bsr = v) ∧
      (∀ op : BitVec 5, [1, 2, 4, 5, 6, 0x10, 0x11, 0x12, 0x18].contains op.toNat = false → Completes (.bypass op) s fun t => t.bst.dbg.ir = op ∧ t.bst.dbg.dr = [0])) ∧
    (∀ s : State, tapOn s = true → monitored s = true →
      Completes .extest s (fun t => t.bst.dbg.ir = 4 ∧ t.bst.dbg.pins = .extest ∧ t.bst.dbg.dr.length = (s.bst.dbg.bsr.length + 7) / 8 ∧ t.bst.se.cmacKey = 0 ∧ t.bst.se.keyHash = 0 ∧
        t.bst.se.otpBlocked = true ∧ isSet t F.BST_DBG_STAT_ZEROISED = true) ∧
      Completes .clamp s (fun t => t.bst.dbg.ir = 5 ∧ t.bst.dbg.pins = .clamp ∧ t.bst.dbg.dr = [0] ∧ t.bst.se.cmacKey = 0 ∧ t.bst.se.keyHash = 0 ∧
        t.bst.se.otpBlocked = true ∧ isSet t F.BST_DBG_STAT_ZEROISED = true) ∧
      Completes .highz s (fun t => t.bst.dbg.ir = 6 ∧ t.bst.dbg.pins = .highz ∧ t.bst.dbg.dr = [0] ∧ t.bst.se.cmacKey = 0 ∧ t.bst.se.keyHash = 0 ∧
        t.bst.se.otpBlocked = true ∧ isSet t F.BST_DBG_STAT_ZEROISED = true)) ∧
    (∀ s : State, tapOn s = true → monitored s = false →
      Completes .extest s (fun t => t.bst.dbg.ir = 4 ∧ t.bst.dbg.pins = s.bst.dbg.pins ∧ t.bst.se = s.bst.se ∧ t.regs = s.regs) ∧
      Completes .clamp s (fun t => t.bst.dbg.ir = 5 ∧ t.bst.dbg.pins = s.bst.dbg.pins ∧ t.bst.se = s.bst.se ∧ t.regs = s.regs) ∧
      Completes .highz s (fun t => t.bst.dbg.ir = 6 ∧ t.bst.dbg.pins = s.bst.dbg.pins ∧ t.bst.se = s.bst.se ∧ t.regs = s.regs)) ∧
    (∀ s : State, tapOn s = true → monitored s = true → rd s F.BST_DBG_STAT_LEVEL = 2 →
      Completes .scanen s fun t => t.bst.dbg.ir = 0x18 ∧ t.bst.dbg.pins = .scan ∧ isSet t F.BST_DBG_STAT_ZEROISED = true) ∧
    (∀ s : State, tapOn s = true → (rd s F.BST_DBG_STAT_LEVEL ≠ 2 ∨ monitored s = false) →
      Completes .scanen s fun t => t.bst.dbg.ir = 0x18 ∧ t.bst.dbg.pins = s.bst.dbg.pins ∧ t.bst.se = s.bst.se) ∧
    (∀ (addr : BitVec 7) (wrt : Bool) (data : Word) (s : State), tapOn s = true → rd s F.BST_DBG_STAT_LEVEL = 0 →
      Completes (.dmi addr wrt data) s fun t => t.bst.dbg = { s.bst.dbg with ir := 0x11, dr := [] }) ∧
    (∀ (data : Word) (s : State), tapOn s = true → rd s F.BST_DBG_STAT_LEVEL ≠ 0 →
      Completes (.dmi 4 false data) s (fun t => t.bst.dbg = { s.bst.dbg with ir := 0x11, dr := [], dmiOut := s.bst.dbg.data0 }) ∧
      (s.bst.dbg.dmactive = true → Completes (.dmi 4 true data) s fun t => t.bst.dbg = { s.bst.dbg with ir := 0x11, dr := [], data0 := data })) ∧
    (∀ s : State, tapOn s = true → monitored s = true → isSet s F.BST_DBG_STAT_LOCKOUT = false → s.bst.se.otpBlocked = false →
      Completes .authCapture s fun t => t.bst.dbg.ir = 0x12 ∧ t.bst.dbg.nonce.isSome = true ∧
        t.bst.dbg.dr = leBytes 32 (t.bst.dbg.nonce.getD 0).toNat ++ leBytes 2 s.dev.part.code ++ leBytes 16 s.dev.otp.serial.toNat) ∧
    (∀ (level : BitVec 2) (key sig : List Byte) (s : State), tapOn s = true → monitored s = true → isSet s F.BST_DBG_STAT_LOCKOUT = false →
      (authOk s level.toNat key sig).1 = true →
      Completes (.authUnlock level key sig) s fun t => t.bst.dbg.nonce = none ∧ rd t F.BST_DBG_STAT_LEVEL = level.toNat ∧
        t.bst.se.cmacKey = 0 ∧ t.bst.se.keyHash = 0 ∧ isSet t F.BST_DBG_STAT_ZEROISED = true) ∧
    (∀ (level : BitVec 2) (key sig : List Byte) (s : State), tapOn s = true → monitored s = true → isSet s F.BST_DBG_STAT_LOCKOUT = false →
      (authOk s level.toNat key sig).1 = false →
      Completes (.authUnlock level key sig) s fun t => t.bst.dbg.nonce = none ∧ rd t F.BST_DBG_STAT_LEVEL = rd s F.BST_DBG_STAT_LEVEL ∧
        rd t F.BST_DBG_STAT_FAILS = satAdd 3 (rd s F.BST_DBG_STAT_FAILS) 1 ∧
        (2 ≤ rd s F.BST_DBG_STAT_FAILS → isSet t F.BST_DBG_STAT_LOCKOUT = true))

/-- On a hart that the debug module acts on, a halt request halts it, but during the steps of a rejoin waits. A resume of a halted hart lets it
run, and with dcsr.step halts it again. A step leaves it halted with its integer and floating-point registers unknown. An abstract command
while an error stands keeps the error, on a running hart leaves cmderr 4, and a transfer of a size other than 32 bits 2. Without an error,
on a halted hart, a transfer writes data0 to an integer register of both cores of a joined pair, and reads a register's stored value, or the
saved program counter, into data0. cmderr 2 and 4, dcsr.step and the register numbers are those of debug specification 0.13.2 (log entry 38,
PRESUMED); that the registers are unknown after a step is log entry 78. Rests on: 10_cores_lockstep_and_self_test.md R265, R274. -/
def Obligations.DebugActsOnHarts : Prop :=
  (∀ (h : Fin 4) (s : State), debugOn s h = true → (pairMode s (h / 2) ≠ 3 ∨ (s.pair (h / 2)).xferDone = true) →
      Completes (.debugHalt h) s fun t => (t.hart h).halted = true) ∧
    (∀ (h : Fin 4) (s : State), debugOn s h = true → pairMode s (h / 2) = 3 → (s.pair (h / 2)).xferDone = false →
      Completes (.debugHalt h) s fun t => (t.hart (h / 2 * 2)).haltPend = true ∧ (t.hart h).halted = (s.hart h).halted) ∧
    (∀ (h : Fin 4) (s : State), debugOn s h = true → (s.hart h).halted = true → (s.hart h).dcsr.getLsbD 2 = false →
      Completes (.debugResume h) s fun t => (t.hart h).halted = false ∧ tget (fun _ => false) t.bst.dbg.resumeAck h = true) ∧
    (∀ (h : Fin 4) (s : State), debugOn s h = true → (s.hart h).halted = true → (s.hart h).dcsr.getLsbD 2 = true →
      Completes (.debugResume h) s fun t => (t.hart h).halted = true ∧ tget (fun _ => false) t.bst.dbg.resumeAck h = true) ∧
    (∀ (h : Fin 4) (s : State), debugOn s h = true → (s.hart h).halted = true →
      Completes (.singleStep h) s fun t => (t.hart h).halted = true ∧
        ∀ i < 64, tget (fun _ => none) (t.hart h).regs (0x1000 + i) = none) ∧
    (∀ (h : Fin 4) (cmd : AbstractCmd) (s : State), debugOn s h = true → s.bst.dbg.cmderr ≠ 0 →
      Completes (.abstractCommand h cmd) s fun t => t.bst.dbg.cmderr = s.bst.dbg.cmderr) ∧
    (∀ (h : Fin 4) (cmd : AbstractCmd) (s : State), debugOn s h = true → s.bst.dbg.cmderr = 0 → (s.hart h).halted = false →
      Completes (.abstractCommand h cmd) s fun t => t.bst.dbg.cmderr = 4) ∧
    (∀ (h : Fin 4) (cmd : AbstractCmd) (s : State), debugOn s h = true → s.bst.dbg.cmderr = 0 → (s.hart h).halted = true → cmd.transfer = true → cmd.size ≠ 2 →
      Completes (.abstractCommand h cmd) s fun t => t.bst.dbg.cmderr = 2) ∧
    (∀ (h : Fin 4) (n : BitVec 16) (s : State), debugOn s h = true → s.bst.dbg.cmderr = 0 → (s.hart h).halted = true →
      0x1001 ≤ n.toNat → n.toNat ≤ 0x101F →
      Completes (.abstractCommand h ⟨n, true, true, false, 2⟩) s fun t => t.bst.dbg.cmderr = 0 ∧
        ∀ c ∈ hartCores s h, tget (fun _ => none) (t.hart c).regs n.toNat = some s.bst.dbg.data0) ∧
    (∀ (h : Fin 4) (n : BitVec 16) (v : Word) (s : State), debugOn s h = true → s.bst.dbg.cmderr = 0 → (s.hart h).halted = true →
      0x1001 ≤ n.toNat → n.toNat ≤ 0x101F → tget (fun _ => none) (s.hart h).regs n.toNat = some v →
      Completes (.abstractCommand h ⟨n, true, false, false, 2⟩) s fun t => t.bst.dbg.data0 = v ∧ t.bst.dbg.cmderr = 0) ∧
    (∀ (h : Fin 4) (s : State), debugOn s h = true → s.bst.dbg.cmderr = 0 → (s.hart h).halted = true →
      Completes (.abstractCommand h ⟨0x7B1, true, false, false, 2⟩) s fun t => t.bst.dbg.data0 = (s.hart h).dpc ∧ t.bst.dbg.cmderr = 0)

/-- A hop in training after 256 exchanges with a delay of at most 12,800 units goes UP with its sequences and timeouts 0; with a longer one it
goes DOWN, and HOP_RETRAIN lets its training begin again. A hop lost by its own input goes DOWN and wrapped, raises LOSTCNT, and sends
LINK_FAULT with cause 1 for block lock, 2 for no valid block and 3 for four timeouts; the neighbour's LINK_FAULT takes it DOWN and wrapped
too. A proposal on an UP hop of a synced device is agreed and confirmed, a confirmation of the stride proposed is agreed, and RING_UNWRAP at
that stride, on a device whose ring works, ends the wrap. That the sequences are 0 at HOP_UP is log entry 80. Rests on:
11_ring_host_and_cisterns.md R284, R285, R296, R298. -/
def Obligations.HopsTrainAndAreLost : Prop :=
  (∀ (h : Ring) (s : State), ringRuns s = true → hopState s h.toNat = 1 → 256 ≤ (s.hop h.toNat).exch → hopDelay s h.toNat ≤ 12800 →
      Completes (.hopUp h) s fun t => hopState t h.toNat = 2 ∧ (t.hop h.toNat).txSeq = 0 ∧ (t.hop h.toNat).rxSeq = 0 ∧
        (t.hop h.toNat).timeouts = 0 ∧ t.dev.hopSeen = true) ∧
    (∀ (h : Ring) (s : State), ringRuns s = true → hopState s h.toNat = 1 → 256 ≤ (s.hop h.toNat).exch → 12800 < hopDelay s h.toNat →
      Completes (.hopUp h) s fun t => hopState t h.toNat = 0 ∧ (t.hop h.toNat).tooLong = true) ∧
    (∀ (h : Ring) (s : State), ringRuns s = true → (s.hop h.toNat).tooLong = true → hopState s h.toNat = 0 →
      Completes (.hopRetrain h) s fun t => hopState t h.toNat = 1 ∧ (t.hop h.toNat).tooLong = false ∧ (t.hop h.toNat).exch = 0) ∧
    (∀ (h : Ring) (cause : LossCause) (s : State), ringRuns s = true → hopUp s h.toNat = true →
      (cause = .timeouts → 4 ≤ (s.hop h.toNat).timeouts) →
      Completes (.linkLost h cause) s fun t => hopState t h.toNat = 0 ∧ wrapped t h.toNat = true ∧
        rd t (F.RNG_HOP_ERR_LOSTCNT h.toNat) = satAdd (2 ^ (F.RNG_HOP_ERR_LOSTCNT h.toNat).w - 1) (rd s (F.RNG_HOP_ERR_LOSTCNT h.toNat)) 1 ∧
        (t.hop h.toNat).ctl.getLast? = some (0x66, match cause with
          | .blockLock => 1
          | .noBlock => 2
          | .timeouts => 3)) ∧
    (∀ (h : Ring) (cause : BitVec 4) (s : State), ringRuns s = true → hopUp s h.toNat = true →
      Completes (.linkFault h cause) s fun t => hopState t h.toNat = 0 ∧ wrapped t h.toNat = true) ∧
    (∀ (h : Ring) (u : BitVec 48) (s : State), ringRuns s = true → hopUp s h.toNat = true → isSet s F.STR_SYNCSTAT_SYNCED = true →
      Completes (.unwrapPropose h u) s fun t => (t.hop h.toNat).unwrap = some u ∧ isSet t (F.RNG_HOP_STAT_UNWPEND h.toNat) = true ∧
        (t.hop h.toNat).ctl.getLast? = some (0x99, BitVec.ofNat 56 (7 + 256 * u.toNat))) ∧
    (∀ (h : Ring) (u : BitVec 48) (s : State), ringRuns s = true → hopUp s h.toNat = true → (s.hop h.toNat).prop = some u →
      Completes (.unwrapConfirm h u) s fun t => (t.hop h.toNat).unwrap = some u ∧ (t.hop h.toNat).prop = none) ∧
    (∀ (h : Ring) (s : State), ringRuns s = true → (s.hop h.toNat).unwrap = some s.dev.count →
      Completes (.ringUnwrap h) s fun t => wrapped t h.toNat = false ∧ isSet t (F.RNG_HOP_STAT_UNWPEND h.toNat) = false ∧ (t.hop h.toNat).unwrap = none)

/-- On an UP hop IDLE sets the credit and begins its count anew, ALIGN changes nothing of the network, ACK ends the run of timeouts and leaves
no frame of the hop up to its sequence waiting, NAK raises NAKCNT, leaves no frame from its sequence on sent, and goes back to that sequence
where none waits to be sent again, or where the hop holds its frame in a state such as a run reaches (Sequenced: a released frame is neither
sent nor waiting), and always to the next one that there is (log entry 141), RESYNC sets the expected sequence. A training block on a hop
that is DOWN begins its training: IDENT shows the neighbour, EQUALISE the preset and the adaptation, DELAY_REQ is answered with its number.
In training a DELAY_RESP counts and asks for the next exchange, and the 256th shows half the mean of round trip less turnaround. ENUM gives
the position, N less the count on ring B, and is passed on on the other hop of its ring with the count one more and the ring; D0's is 0.
D0's position 0 and the rounding of half the trip are log entry 80, the next DELAY_REQ after each DELAY_RESP is log entry 95, and that a
block on a DOWN hop begins training is log entry 122. Rests on: 02_stride_and_timing.md R52; 11_ring_host_and_cisterns.md R284, R285, R286,
R292, R293. -/
def Obligations.ControlBlocksActOnAHop : Prop :=
  (∀ (h : Ring) (v : BitVec 16) (s : State), ringRuns s = true → hopUp s h.toNat = true →
      Completes (.idle h v) s (fun t => (t.hop h.toNat).credit = 64 * v.toNat ∧ (t.hop h.toNat).sentSince = 0) ∧
      Completes (.align h) s (fun t => t.net = s.net) ∧
      Completes (.ack h v) s (fun t => (t.hop h.toNat).timeouts = 0 ∧
        ∀ n < 14, ∀ p ∈ (t.cis n).pkts, p.sent.all (fun (x : Nat × Nat) => x.1 != h.toNat || !seqLe x.2 v.toNat) = true ∧
          p.again.all (fun (x : Nat × Nat) => x.1 != h.toNat || !seqLe x.2 v.toNat) = true) ∧
      Completes (.nak h v) s (fun t => (t.hop h.toNat).txSeq = nextSeq t h.toNat ∧
        ((∀ n < 14, ∀ p ∈ (t.cis n).pkts, p.again.all (fun (x : Nat × Nat) => x.1 != h.toNat) = true) → (t.hop h.toNat).txSeq = v.toNat) ∧
        rd t (F.RNG_HOP_RETX_NAKCNT h.toNat) = satAdd (2 ^ (F.RNG_HOP_RETX_NAKCNT h.toNat).w - 1) (rd s (F.RNG_HOP_RETX_NAKCNT h.toNat)) 1 ∧
        ∀ n < 14, ∀ p ∈ (t.cis n).pkts, p.sent.all (fun (x : Nat × Nat) => x.1 != h.toNat || !seqLe v.toNat x.2) = true) ∧
      Completes (.resync h v) s (fun t => (t.hop h.toNat).rxSeq = v.toNat ∧ (t.hop h.toNat).nakked = false)) ∧
    (∀ (h : Ring) (v : BitVec 16) (s : State), ringRuns s = true → hopUp s h.toNat = true → Sequenced s →
      (∃ n ∈ List.range 14, ∃ p ∈ (s.cis n).pkts, p.sent = some (h.toNat, v.toNat)) →
      Completes (.nak h v) s fun t => (t.hop h.toNat).txSeq = v.toNat) ∧
    (∀ (h : Ring) (data : BitVec 48) (s : State), hopLive s h.toNat = true → hopState s h.toNat = 0 →
      Completes (.ident h data) s fun t => hopState t h.toNat = 1 ∧ rd t (F.RNG_HOP_STAT_NEIGH h.toNat) = data.toNat % 64 ∧
        (t.hop h.toNat).ident = data.setWidth 32) ∧
    (∀ (h : Ring) (preset : Byte) (adapted : Bool) (s : State), hopLive s h.toNat = true → hopState s h.toNat = 0 →
      Completes (.equalise h preset adapted) s fun t => hopState t h.toNat = 1 ∧ (t.hop h.toNat).preset = preset.toNat ∧ (t.hop h.toNat).adapted = adapted) ∧
    (∀ (h : Ring) (num : Byte) (s : State), hopLive s h.toNat = true → hopState s h.toNat = 0 →
      Completes (.delayReq h num) s fun t => hopState t h.toNat = 1 ∧
        (t.hop h.toNat).ctl.getLast?.map (fun c => (c.1.toNat, c.2.toNat % 65536)) = some (0x99, 3 + 256 * num.toNat)) ∧
    (∀ (h : Ring) (num : Byte) (trip : Nat) (turn : BitVec 24) (s : State), hopLive s h.toNat = true → hopState s h.toNat = 1 → (s.hop h.toNat).exch < 255 →
      Completes (.delayResp h num trip turn) s fun t => (t.hop h.toNat).exch = (s.hop h.toNat).exch + 1 ∧
        (t.hop h.toNat).ctl.getLast? = some (0x99, BitVec.ofNat 56 (2 + 256 * ((s.hop h.toNat).exch + 1)))) ∧
    (∀ (h : Ring) (num : Byte) (trip : Nat) (turn : BitVec 24) (s : State), hopLive s h.toNat = true → hopState s h.toNat = 1 → (s.hop h.toNat).exch = 255 →
      Completes (.delayResp h num trip turn) s fun t => (t.hop h.toNat).exch = 256 ∧
        hopDelay t h.toNat = ((s.hop h.toNat).exchSum + (trip - turn.toNat)) / 512 % 2 ^ F.STR_HOPA_HOP.w) ∧
    (∀ (count : BitVec 6) (s : State), hopLive s 0 = true → isSet s F.RNG_CFG_HEAD = false →
      Completes (.enum .a count .a) s fun t => isSet t F.RNG_ENUM_VALIDA = true ∧ rd t F.RNG_ENUM_POSA = (count.toNat + 1) % 64 ∧
        (t.hop 1).ctl.getLast? = some (0x99, BitVec.ofNat 56 (4 + 256 * ((count.toNat + 1) % 64)))) ∧
    (∀ (count : BitVec 6) (s : State), hopLive s 1 = true → isSet s F.RNG_CFG_HEAD = false → isSet s F.CFG_STAT_LOADED = true →
      Completes (.enum .b count .b) s fun t => isSet t F.RNG_ENUM_VALIDB = true ∧
        rd t F.RNG_ENUM_POSB = (rd s F.RNG_CFG_NDEVM1 + 65 - (count.toNat + 1) % 64) % 64 ∧
        (t.hop 0).ctl.getLast? = some (0x99, BitVec.ofNat 56 (4 + 256 * ((count.toNat + 1) % 64 + 64)))) ∧
    (∀ (h : Ring) (count : BitVec 6) (s : State), hopLive s h.toNat = true → isSet s F.RNG_CFG_HEAD = true →
      Completes (.enum h count h) s fun t => if h = .a then rd t F.RNG_ENUM_POSA = 0 ∧ isSet t F.RNG_ENUM_VALIDA = true
        else rd t F.RNG_ENUM_POSB = 0 ∧ isSet t F.RNG_ENUM_VALIDB = true)

/-- On an UP hop LINK_TRANSMIT puts the chosen frame on the wire; one of classes 3 and 4 is held as sent under the next sequence, which moves on
by one, or behind a frame sent again to the next one that there is; one of classes 0 to 2 takes no sequence. With none ready IDLE is sent
with the credit; a frame met by an uncorrectable error is cut off and sets ECCERR. A reserved slot sends the frame of its class and cistern,
of which it is the own slot or which has missed its own or has none (log entry 155), or cuts it off likewise. A timeout goes back to the
oldest unacknowledged sequence and is counted. A received frame with a bad header raises CRCERR and is answered with NAK, and a class 3 or 4
frame out of sequence is answered with NAK unless one stands already; one in sequence that is not discarded is answered with ACK and moves
the expected sequence on. A frame of classes 0 to 2 for another device, no sync frame, goes out on the other hop. The clauses on the frame
sent, the reserved slot and the timeout hold in the states that a run reaches (Sequenced: only frames of classes 3 and 4 are held as sent or
wait to be sent again, and a released frame does neither): State.reset is one, and no command that sends, releases or rewinds frames leaves
them. Rests on: 11_ring_host_and_cisterns.md R287, R288, R291, R292, R293, R312, R313. -/
def Obligations.LinksSendAndRepeat : Prop :=
  (∀ (h : Ring) (ph n i : Nat) (p : Pkt) (s : State), Sequenced s → ringRuns s = true → hopUp s h.toNat = true → nextPkt s h.toNat ph = some (n, i, p) →
      Completes (.linkTransmit h ⟨ph, false⟩) s fun t => (t.hop h.toNat).abort = false ∧ (t.hop h.toNat).wire.length = p.body.length + 20 ∧
        (p.cls < 3 → (t.hop h.toNat).txSeq = (s.hop h.toNat).txSeq) ∧
        (3 ≤ p.cls → (p.again = none → (t.hop h.toNat).txSeq = ((s.hop h.toNat).txSeq + 1) % 65536) ∧
          (p.again ≠ none → (t.hop h.toNat).txSeq = nextSeq t h.toNat) ∧ ∃ q ∈ (t.cis n).pkts, q.sent = some (h.toNat, (s.hop h.toNat).txSeq) ∧ q.body = p.body)) ∧
    (∀ (h : Ring) (ph : Nat) (ecc : Bool) (s : State), ringRuns s = true → hopUp s h.toNat = true → nextPkt s h.toNat ph = none →
      Completes (.linkTransmit h ⟨ph, ecc⟩) s fun t => (t.hop h.toNat).ctl.getLast? = some (0x1E, BitVec.ofNat 56 (hopCredit s h.toNat))) ∧
    (∀ (h : Ring) (ph n i : Nat) (p : Pkt) (s : State), ringRuns s = true → hopUp s h.toNat = true → nextPkt s h.toNat ph = some (n, i, p) →
      Completes (.linkTransmit h ⟨ph, true⟩) s fun t => (t.hop h.toNat).abort = true ∧ isSet t (F.CIS_STAT_ECCERR n) = true) ∧
    (∀ (h : Ring) (slot : Fin 64) (ph n i : Nat) (e : Config.Slot) (p : Pkt) (s : State), Sequenced s → ringRuns s = true → hopUp s h.toNat = true →
      (slotsOf s h.toNat)[slot.val]? = some e → e.src = some n → headPkt s n = some (i, p) → p.cls = e.cls → p.cls < 3 → e.phase ≤ ph →
      (cisOnHop s h.toNat).contains n = true →
      (missed s h.toNat (some n) p ph = true ∨ (ownSlot s h.toNat (some n) p).all (fun q => q.1 == slot.val) = true) →
      Completes (.reservedSlot h slot ⟨ph, false⟩) s (fun t => (t.hop h.toNat).wire.length = p.body.length + 20 ∧ (t.hop h.toNat).abort = false ∧
        (t.hop h.toNat).txSeq = (s.hop h.toNat).txSeq) ∧
      Completes (.reservedSlot h slot ⟨ph, true⟩) s (fun t => (t.hop h.toNat).abort = true ∧ isSet t (F.CIS_STAT_ECCERR n) = true)) ∧
    (∀ (h : Ring) (q : Nat) (s : State), Sequenced s → ringRuns s = true → hopUp s h.toNat = true → oldestUnacked s h.toNat = some q →
      Completes (.ackTimeout h) s fun t => (t.hop h.toNat).txSeq = q ∧ (t.hop h.toNat).timeouts = (s.hop h.toNat).timeouts + 1) ∧
    (∀ (h : Ring) (bytes : List Byte) (e : RxEnd) (s : State), ringRuns s = true → hopUp s h.toNat = true → headerOk bytes = false →
      Completes (.ringFrame h bytes e) s fun t => (t.hop h.toNat).nakked = true ∧ (t.hop h.toNat).rxSeq = (s.hop h.toNat).rxSeq ∧
        (t.hop h.toNat).ctl.getLast? = some (0xD2, BitVec.ofNat 56 (s.hop h.toNat).rxSeq) ∧
        rd t (F.RNG_HOP_ERR_CRCERR h.toNat) = satAdd (2 ^ (F.RNG_HOP_ERR_CRCERR h.toNat).w - 1) (rd s (F.RNG_HOP_ERR_CRCERR h.toNat)) 1) ∧
    (∀ (h : Ring) (bytes : List Byte) (ph : Nat) (s : State), ringRuns s = true → hopUp s h.toNat = true → headerOk bytes = true → frameOk bytes = true →
      3 ≤ (parsePkt bytes).cls → field bytes 4 2 ≠ (s.hop h.toNat).rxSeq →
      Completes (.ringFrame h bytes ⟨false, ph⟩) s fun t => (t.hop h.toNat).rxSeq = (s.hop h.toNat).rxSeq ∧ (t.hop h.toNat).nakked = true ∧
        ((s.hop h.toNat).nakked = false → (t.hop h.toNat).ctl.getLast? = some (0xD2, BitVec.ofNat 56 (s.hop h.toNat).rxSeq))) ∧
    (∀ (h : Ring) (bytes : List Byte) (ph : Nat) (s : State), ringRuns s = true → hopUp s h.toNat = true → headerOk bytes = true → frameOk bytes = true →
      3 ≤ (parsePkt bytes).cls → field bytes 4 2 = (s.hop h.toNat).rxSeq → ageDrop s (parsePkt bytes) = false → (parsePkt bytes).src ≠ s.devNum →
      Completes (.ringFrame h bytes ⟨false, ph⟩) s fun t => (t.hop h.toNat).rxSeq = ((s.hop h.toNat).rxSeq + 1) % 65536 ∧ (t.hop h.toNat).nakked = false ∧
        (t.hop h.toNat).ctl.getLast? = some (0x2D, BitVec.ofNat 56 (s.hop h.toNat).rxSeq)) ∧
    (∀ (h : Ring) (bytes : List Byte) (ph : Nat) (s : State), ringRuns s = true → hopUp s h.toNat = true → headerOk bytes = true → frameOk bytes = true →
      (parsePkt bytes).cls < 3 → ((parsePkt bytes).cls ≠ 0 ∨ (parsePkt bytes).stream ≠ 0) → (parsePkt bytes).src ≠ s.devNum →
      (parsePkt bytes).dest ≠ s.devNum → hopUp s (1 - h.toNat) = true → wrapped s (1 - h.toNat) = false →
      Completes (.ringFrame h bytes ⟨false, ph⟩) s fun t => (t.hop (1 - h.toNat)).wire.length = bytes.length ∧ (t.hop (1 - h.toNat)).abort = false ∧
        (t.hop h.toNat).rxSeq = (s.hop h.toNat).rxSeq) ∧
    Sequenced State.reset ∧ (∀ (c : Instr) (s t : State), MovesFrames c = true → Sequenced s → exec c s = .next t → Sequenced t)

/-- On a device whose ring, or for the cisterns whose ports, work: a grant frame of the present stride puts the device's own entry of ring A's
copy into GRANT, or ring B's entry where no copy of ring A has come. Sixty-four strides with an empty pool are marked as logged. A packet
opens where a word of room is left, and is else dropped with GAPPEND and DROP. A packet that fits and needs no grant, or is covered by it,
closes as the last of its cistern, and the grant's USED rises by its cost; without the grant, or with the skid buffer full, it is dropped
with GAPPEND and DROP. One open for a stride is abandoned with DROP. A pointer mismatch empties the cistern, sets PTRERR and raises
RESETCNT. Rests on: 11_ring_host_and_cisterns.md R294, R295, R310, R311, R314, R315. -/
def Obligations.GrantsAndCisterns : Prop :=
  (∀ (payload : List Byte) (s : State), ringRuns s = true → field payload 0 4 = s.dev.count.toNat % 2 ^ 32 →
      Completes (.grantFrame .a payload) s fun t => t.net.grantA = some (field payload (4 + 2 * s.devNum) 2) ∧
        (s.net.grantA = none → rd t F.RNG_GRANT_GRANT = field payload (4 + 2 * s.devNum) 2)) ∧
    (∀ (payload : List Byte) (s : State), ringRuns s = true → field payload 0 4 = s.dev.count.toNat % 2 ^ 32 →
      Completes (.grantFrame .b payload) s fun t => rd t F.RNG_GRANT_GRANT = (match s.net.grantA with
        | some v => v % 65536
        | none => field payload (4 + 2 * s.devNum) 2)) ∧
    (∀ s : State, portsOn s = true → 64 ≤ s.net.poolRun → s.net.poolLogged = false → Completes .creditStall s fun t => t.net.poolLogged = true) ∧
    (∀ (n : CisNo) (s : State), (s.cis n).opened = none → portsOn s = true → (s.cis n).count (cisEth n) + 16 ≤ cisSize s n →
      Completes (.packetOpen n) s fun t => (t.cis n).opened = some s.dev.count) ∧
    (∀ (n : CisNo) (s : State), (s.cis n).opened = none → portsOn s = true → cisSize s n < (s.cis n).count (cisEth n) + 16 →
      Completes (.packetOpen n) s fun t => (t.cis n).opened = none ∧
        isSet t (F.CIS_STAT_GAPPEND n) = true ∧ rd t (F.CIS_DROP_DROP n) = (rd s (F.CIS_DROP_DROP n) + 1) % 2 ^ (F.CIS_DROP_DROP n).w) ∧
    (∀ (n : CisNo) (c : Stamp) (bytes : List Byte) (s : State), portsOn s = true → (s.cis n).opened = some c →
      Completes (.packetClose n bytes true) s fun t => (t.cis n).opened = none ∧
        isSet t (F.CIS_STAT_GAPPEND n) = true ∧ rd t (F.CIS_DROP_DROP n) = (rd s (F.CIS_DROP_DROP n) + 1) % 2 ^ (F.CIS_DROP_DROP n).w) ∧
    (∀ (n : CisNo) (c : Stamp) (bytes : List Byte) (s : State), portsOn s = true → (s.cis n).opened = some c → isSet s (F.CIS_STAT_GAPPEND n) = false →
      grantLen s n bytes = none → cisFits s n (if cisEth n then { body := bytes } else parsePkt bytes) = true →
      Completes (.packetClose n bytes false) s fun t => (t.cis n).opened = none ∧
        (t.cis n).pkts.getLast? = some (if cisEth n then { body := bytes } else parsePkt bytes)) ∧
    (∀ (n : CisNo) (c : Stamp) (l : Nat) (bytes : List Byte) (s : State), portsOn s = true → (s.cis n).opened = some c → isSet s (F.CIS_STAT_GAPPEND n) = false →
      ringOn s = true → romRing s = false → grantLen s n bytes = some l → rd s F.RNG_GRANT_USED + grantCost l ≤ rd s F.RNG_GRANT_GRANT →
      cisFits s n (if cisEth n then { body := bytes } else parsePkt bytes) = true →
      Completes (.packetClose n bytes false) s fun t => (t.cis n).opened = none ∧ rd t F.RNG_GRANT_USED = rd s F.RNG_GRANT_USED + grantCost l ∧
        (t.cis n).pkts.getLast? = some (if cisEth n then { body := bytes } else parsePkt bytes)) ∧
    (∀ (n : CisNo) (c : Stamp) (l : Nat) (bytes : List Byte) (s : State), portsOn s = true → (s.cis n).opened = some c →
      ringOn s = true → romRing s = false → grantLen s n bytes = some l → rd s F.RNG_GRANT_GRANT < rd s F.RNG_GRANT_USED + grantCost l →
      Completes (.packetClose n bytes false) s fun t => (t.cis n).opened = none ∧ isSet t (F.CIS_STAT_GAPPEND n) = true ∧
        rd t F.RNG_GRANT_USED = rd s F.RNG_GRANT_USED ∧ rd t (F.CIS_DROP_DROP n) = (rd s (F.CIS_DROP_DROP n) + 1) % 2 ^ (F.CIS_DROP_DROP n).w) ∧
    (∀ (n : CisNo) (c : Stamp) (s : State), portsOn s = true → (s.cis n).opened = some c → c ≠ s.dev.count →
      Completes (.cisOpenTimeout n) s fun t => (t.cis n).opened = none ∧ rd t (F.CIS_DROP_DROP n) = (rd s (F.CIS_DROP_DROP n) + 1) % 2 ^ (F.CIS_DROP_DROP n).w) ∧
    (∀ (n : CisNo) (mask : Byte) (s : State), mask ≠ 0 → portsOn s = true →
      Completes (.cisPtrMismatch n mask) s fun t => (t.cis n).pkts = [] ∧ (t.cis n).opened = none ∧ isSet t (F.CIS_STAT_PTRERR n) = true ∧
        rd t (F.CIS_STAT_RESETCNT n) = satAdd (2 ^ (F.CIS_STAT_RESETCNT n).w - 1) (rd s (F.CIS_STAT_RESETCNT n)) 1)

/-- With an image, on a port in use, a link up at a rate that RATES permits shows LINK and the rate; down, or at another rate, LINK is 0. A
pause frame on a port with PAUSEEN and a link sets PAUSED unless its quanta is 0, and the end of a pause, while the ports work, clears it. A
port with a link and no pause sends the frame at the head of its cistern, framed for Ethernet, and takes it off; met by an uncorrectable
error it is cut off and sets ECCERR. A malformed frame raises RXBAD; one of another EtherType or to another address raises RXOTHER. D0 puts
another device's demand frame into the class 2 cistern of the port's ring. A due telemetry stream raises SEQ and is not due again in its
stride. That the class 2 insert carries the safe frame alone is log entry 62, and that a stream is sampled at most once a stride is log
entry 63. Rests on: 11_ring_host_and_cisterns.md R300, R301, R302, R303, R307, R308, R309, R313, R314. -/
def Obligations.EthernetPortsFollowTheLink : Prop :=
  (∀ (p : Fin 2) (rate : BitVec 2) (s : State), portsOn s = true → romDefault s = false → isSet s (F.ETH_P_CFG_EN p) = true →
      rdBit s (F.ETH_P_CFG_RATES p) rate.toNat = true →
      Completes (.ethLink p true rate) s fun t => isSet t (F.ETH_P_STAT_LINK p) = true ∧ rd t (F.ETH_P_STAT_RATE p) = rate.toNat) ∧
    (∀ (p : Fin 2) (up : Bool) (rate : BitVec 2) (s : State), portsOn s = true → romDefault s = false → isSet s (F.ETH_P_CFG_EN p) = true →
      (up = false ∨ rdBit s (F.ETH_P_CFG_RATES p) rate.toNat = false) →
      Completes (.ethLink p up rate) s fun t => isSet t (F.ETH_P_STAT_LINK p) = false) ∧
    (∀ (p : Fin 2) (q : BitVec 16) (s : State), portsOn s = true → isSet s (F.ETH_P_STAT_LINK p) = true → isSet s (F.ETH_P_CFG_PAUSEEN p) = true →
      Completes (.pauseFrame p q) s fun t => isSet t (F.ETH_P_STAT_PAUSED p) = (q != 0)) ∧
    (∀ (p : Fin 2) (s : State), portsOn s = true → isSet s (F.ETH_P_STAT_PAUSED p) = true → Completes (.pauseExpired p) s fun t => isSet t (F.ETH_P_STAT_PAUSED p) = false) ∧
    (∀ (p : Fin 2) (k : Fin 5) (x : Pkt) (l : List Pkt) (s : State), portsOn s = true → isSet s (F.ETH_P_STAT_LINK p) = true →
      isSet s (F.ETH_P_STAT_PAUSED p) = false → (s.cis (txCis s p k)).pkts = x :: l →
      Completes (.hostPortTransmit p ⟨k, false⟩) s fun t => (t.cis (txCis s p k)).pkts = l.dropWhile (·.freed) ∧
        ∃ dst : BitVec 48, tget (fun _ => []) t.net.wire p = ethFrame s p dst (hostFrameOf x)) ∧
    (∀ (p : Fin 2) (k : Fin 5) (x : Pkt) (l : List Pkt) (s : State), portsOn s = true → isSet s (F.ETH_P_STAT_LINK p) = true →
      isSet s (F.ETH_P_STAT_PAUSED p) = false → (s.cis (txCis s p k)).pkts = x :: l →
      Completes (.hostPortTransmit p ⟨k, true⟩) s fun t => tget (fun _ => false) t.net.cut p = true ∧ isSet t (F.CIS_STAT_ECCERR (txCis s p k)) = true) ∧
    (∀ (p : Fin 2) (typ : Byte) (s : State), portsOn s = true →
      Completes (.hostFrameRejected p (.malformed typ)) s fun t => rd t (F.ETH_P_CNT_RXBAD p) = satAdd (2 ^ (F.ETH_P_CNT_RXBAD p).w - 1) (rd s (F.ETH_P_CNT_RXBAD p)) 1) ∧
    (∀ (p : Fin 2) (dst : BitVec 48) (etype : BitVec 16) (s : State), portsOn s = true → (dst ≠ portMac s p ∨ etype ≠ 0x9A7C) →
      Completes (.hostFrameRejected p (.other dst etype)) s fun t => rd t (F.ETH_P_CNT_RXOTHER p) = satAdd (2 ^ (F.ETH_P_CNT_RXOTHER p).w - 1) (rd s (F.ETH_P_CNT_RXOTHER p)) 1) ∧
    (∀ (p : Fin 2) (dev : BitVec 6) (bytes : List Byte) (s : State), portsOn s = true → romDefault s = false → isSet s (F.ETH_P_CFG_EN p) = true →
      dev.toNat ≠ s.devNum → isSet s F.RNG_CFG_HEAD = true → ringOn s = true → (s.cis (2 + 7 * p.val)).pkts = [] → bytes.length + 31 ≤ cisSize s (2 + 7 * p.val) →
      Completes (.demandFrame p dev bytes) s fun t => (t.cis (2 + 7 * p.val)).pkts.map (fun q => (q.dest, q.cls, q.body)) = [(dev.toNat, 2, bytes)]) ∧
    (∀ (k : Fin 32) (s : State), telDue s k = true →
      Completes (.telemetrySample k) s fun t => telDue t k = false ∧ rd t (F.ETH_TEL_STAT_SEQ k) = (rd s (F.ETH_TEL_STAT_SEQ k) + 1) % 2 ^ (F.ETH_TEL_STAT_SEQ k).w)

/-- An accepted SERVICE request that R34's conditions permit moves the device to SERVICE and is answered with STATUS 0; otherwise the device
stays and STATUS is 3. An accepted axes request with REQ up to 4, naming axes in use alone, is answered with STATUS 0 and waits in every
axis it names that takes requests of its own; one naming others too is answered with STATUS 4 where REQ is not 0, and with STATUS 0 where it
is, since a 0 written to a W1S field never counts as discarded (R394, log entry 61), and then waits in those axes named that take requests;
with REQ above 4 with STATUS 2, and above 7 no axis takes it. A KIND that R306 does not list is answered with STATUS 2. A sleep request
waits for the mark. A SERVICE request that fails its CMAC leaves the device and the network's state as they are and raises MACFAIL. STATUS 2
for an unlisted KIND is log entry 60; the answers to a mask that names unused axes and to a REQ above 4 are log entry 61. Rests on:
01_device_organisation.md R34; 07_commutation_start_and_discharge.md R179; 11_ring_host_and_cisterns.md R304, R306;
14_supply_sag_sleep_and_reset.md R386; 15_register_and_fault_reference.md R394. -/
def Obligations.ModeRequestsAreServed : Prop :=
  (∀ (r : Req) (s : State), Accepted 2 r (modeBody 1 0 0) s → serviceOk s = true →
      Completes (.serviceRequest r) s fun t => t.dev.st = .service ∧ Replied r 0 [] t) ∧
    (∀ (r : Req) (s : State), Accepted 2 r (modeBody 1 0 0) s → serviceOk s = false →
      Completes (.serviceRequest r) s fun t => t.dev.st = s.dev.st ∧ Replied r 3 [] t) ∧
    (∀ (r : Req) (req : Byte) (mask : Word) (s : State), Accepted 2 r (modeBody 3 req mask) s → req.toNat ≤ 4 → modeNone s mask = [] →
      Completes (.axesModeRequest r ⟨3, req⟩ mask) s fun t => Replied r 0 [] t ∧
        ∀ a < 32, bit mask.toNat a = true → axType s a ≠ 7 → statorOf s a = none → (t.ax a).req = some req.toNat) ∧
    (∀ (r : Req) (req : Byte) (mask : Word) (s : State), Accepted 2 r (modeBody 3 req mask) s → 1 ≤ req.toNat → req.toNat ≤ 4 → modeNone s mask ≠ [] →
      Completes (.axesModeRequest r ⟨3, req⟩ mask) s (Replied r 4 [])) ∧
    (∀ (r : Req) (mask : Word) (s : State), Accepted 2 r (modeBody 3 0 mask) s → modeNone s mask ≠ [] →
      Completes (.axesModeRequest r ⟨3, 0⟩ mask) s fun t => Replied r 0 [] t ∧
        ∀ a < 32, bit mask.toNat a = true → modeNone s (BitVec.ofNat 32 (2 ^ a)) = [] → axType s a ≠ 7 → statorOf s a = none → (t.ax a).req = some 0) ∧
    (∀ (r : Req) (req : Byte) (mask : Word) (s : State), Accepted 2 r (modeBody 3 req mask) s → 5 ≤ req.toNat →
      Completes (.axesModeRequest r ⟨3, req⟩ mask) s fun t => Replied r 2 [] t ∧ (8 ≤ req.toNat → ∀ a < 32, (t.ax a).req = (s.ax a).req)) ∧
    (∀ (r : Req) (kind req : Byte) (mask : Word) (s : State), Accepted 2 r (modeBody kind.toNat req mask) s → (kind = 0 ∨ 4 ≤ kind.toNat) →
      Completes (.axesModeRequest r ⟨kind, req⟩ mask) s (Replied r 2 [])) ∧
    (∀ (r : Req) (s : State), Accepted 2 r (modeBody 2 0 0) s → Completes (.sleepRequest r) s fun t => t.net.sleepReq = s.net.sleepReq ++ [r]) ∧
    (∀ (r : Req) (s : State), arrives s r = true → r.dev.toNat = s.devNum → romDefault s = false → macOk s 2 r (modeBody 1 0 0) = false →
      Completes (.serviceRequest r) s fun t => t.dev = s.dev ∧ t.net = s.net ∧
        rd t F.ETH_AUTHSTAT_MACFAIL = satAdd (2 ^ F.ETH_AUTHSTAT_MACFAIL.w - 1) (rd s F.ETH_AUTHSTAT_MACFAIL) 1)

/-- An accepted read of 1 to 256 aligned words inside the register space is answered with STATUS 0 and the words in ascending order (a word of a
log entry that meets an uncorrectable error reads as R398 says), any other with STATUS 2. An accepted list of 1 to 184 writes that asks for
no clearing of a team's TMLAT or an axis's AXF is answered with the number of pairs that took effect whole and the first that did not, with
STATUS 4 where there is one and 0 else; one that asks for such a clearing, which the next mark judges, is held with the pairs known bad and
the clearings asked, and not answered yet; any other length is answered with STATUS 2. That the reply waits for the mark, and what APPLIED
counts, the pairs without a discard that counts, are log entry 57. Rests on: 11_ring_host_and_cisterns.md R306;
15_register_and_fault_reference.md R393, R394. -/
def Obligations.RegisterRequestsAreServed : Prop :=
  (∀ (r : Req) (ofs : BitVec 24) (n : BitVec 16) (bad : List (BitVec 24)) (s : State), Accepted 3 r (leBytes 4 ofs.toNat ++ leBytes 2 n.toNat ++ [0, 0]) s →
      (n = 0 ∨ 256 < n.toNat ∨ ofs.toNat % 4 ≠ 0 ∨ 0x100000 < ofs.toNat + 4 * n.toNat) → Completes (.hostRegisterRead r ofs ⟨n, bad⟩) s (Replied r 2 [])) ∧
    (∀ (r : Req) (ofs : BitVec 24) (n : BitVec 16) (bad : List (BitVec 24)) (s : State), Accepted 3 r (leBytes 4 ofs.toNat ++ leBytes 2 n.toNat ++ [0, 0]) s →
      1 ≤ n.toNat → n.toNat ≤ 256 → ofs.toNat % 4 = 0 → ofs.toNat + 4 * n.toNat ≤ 0x100000 →
      Completes (.hostRegisterRead r ofs ⟨n, bad⟩) s (Replied r 0 ((readWords bad ofs.toNat n.toNat (accepted r s)).1.flatMap fun w => leBytes 4 w.toNat))) ∧
    (∀ (r : Req) (l : List (BitVec 24 × Word)) (s : State),
      Accepted 4 r (leBytes 2 l.length ++ [0, 0] ++ l.flatMap fun (p : BitVec 24 × Word) => leBytes 4 p.1.toNat ++ leBytes 4 p.2.toNat) s →
      (l = [] ∨ 184 < l.length) → Completes (.hostRegisterWrite r l) s (Replied r 2 [])) ∧
    (∀ (r : Req) (l : List (BitVec 24 × Word)) (s : State),
      Accepted 4 r (leBytes 2 l.length ++ [0, 0] ++ l.flatMap fun (p : BitVec 24 × Word) => leBytes 4 p.1.toNat ++ leBytes 4 p.2.toNat) s →
      l ≠ [] → l.length ≤ 184 → (writeList 0 l (accepted r s)).2.2 = [] → Completes (.hostRegisterWrite r l) s
        (Replied r (if (writeList 0 l (accepted r s)).2.1 = [] then 0 else 4)
          (leBytes 2 (l.length - (writeList 0 l (accepted r s)).2.1.length) ++ leBytes 2 ((writeList 0 l (accepted r s)).2.1.headD 0xFFFF)))) ∧
    (∀ (r : Req) (l : List (BitVec 24 × Word)) (s : State),
      Accepted 4 r (leBytes 2 l.length ++ [0, 0] ++ l.flatMap fun (p : BitVec 24 × Word) => leBytes 4 p.1.toNat ++ leBytes 4 p.2.toNat) s →
      l ≠ [] → l.length ≤ 184 → (writeList 0 l (accepted r s)).2.2 ≠ [] → Completes (.hostRegisterWrite r l) s fun t =>
        t.net.replies = s.net.replies ∧
        t.net.writeReq = s.net.writeReq ++ [⟨r, l.length, (writeList 0 l (accepted r s)).2.1, (writeList 0 l (accepted r s)).2.2⟩])

/-- A slot of the running cycle on an idle bus with nothing queued starts the frame of its mailbox where that is valid and, with FRESHONLY,
fresh; else the slot raises EMPTYCNT. At its end a queued frame that has not started expires, with EXPIRED and MISSED set and MISSCNT
raised. A core's commit of a mailbox not in transmission takes its DLC and data, and in an event mailbox makes it pending; of one in
transmission it is held; a core's cancel withdraws a pending event frame, or is held while it is in transmission; of any other requestor
neither changes a mailbox. A good end sets TXOK with the stamp and raises TXOKCNT; a lost arbitration leaves an event frame pending; an
acknowledgement error raises the run of them, which at the limit sets NOPART. MISSED as the flag of CAN_CHc_FLT is log entry 83, and that a
commit or cancel of a requestor that is no core changes no mailbox is log entry 137. Rests on: 12_field_buses.md R322, R325, R326, R327,
R328, R331. -/
def Obligations.CanSlotsQueueAndExpire : Prop :=
  (∀ (c : Fin 8) (sl : Fin 32) (y m : Nat) (s : State), (s.can c).cycle = some y → canOn s c = true → isSet s (F.CAN_CH_SLOT_EN c sl) = true →
      (s.can c).queued = none → (s.can c).next = none → (s.can c).slotOver = false → (s.can c).tx = none → canOff s c = false →
      canCell s c y sl = some m → isSet s (F.CAN_MB_STAT_VALID c m) = true → (isSet s (F.CAN_MB_CFG_FRESHONLY c m) = false ∨ (s.mbox c m).fresh = true) →
      Completes (.canSlotBegin c sl false) s fun t => (t.can c).slot = some sl.val ∧ (t.can c).tx = some m ∧ (t.can c).txSlot = true ∧
        (t.can c).wire = some (mbFrame s c m (mbShadow s c m))) ∧
    (∀ (c : Fin 8) (sl : Fin 32) (y m : Nat) (busy : Bool) (s : State), (s.can c).cycle = some y → canOn s c = true → isSet s (F.CAN_CH_SLOT_EN c sl) = true →
      canCell s c y sl = some m → (s.can c).queued = none → (s.can c).next = none →
      (isSet s (F.CAN_MB_STAT_VALID c m) = false ∨ (isSet s (F.CAN_MB_CFG_FRESHONLY c m) = true ∧ (s.mbox c m).fresh = false)) →
      Completes (.canSlotBegin c sl busy) s fun t => (t.can c).slot = some sl.val ∧
        rd t (F.CAN_CH_CNT_EMPTYCNT c) = satAdd (2 ^ (F.CAN_CH_CNT_EMPTYCNT c).w - 1) (rd s (F.CAN_CH_CNT_EMPTYCNT c)) 1) ∧
    (∀ (c : Fin 8) (q : SlotFrame) (s : State), canOn s c = true → (s.can c).queued = some q → (s.can c).next = none → (s.can c).tx = none → q.mb < 32 →
      Completes (.canSlotMissed c) s fun t => (t.can c).queued = none ∧ isSet t (F.CAN_MB_STAT_EXPIRED c q.mb) = true ∧ isSet t (F.CAN_CH_FLT_MISSED c) = true ∧
        rd t (F.CAN_CH_CNT_MISSCNT c) = satAdd (2 ^ (F.CAN_CH_CNT_MISSCNT c).w - 1) (rd s (F.CAN_CH_CNT_MISSCNT c)) 1) ∧
    (∀ (who : Requestor) (c : Fin 8) (m : Fin 32) (dlc : BitVec 4) (busy : Bool) (s : State), fromCore s who = true → canOn s c = true →
      isSet s (F.CAN_MB_CFG_EN c m) = true → (rd s (F.CAN_MB_CFG_KIND c m) = 1 ∨ rd s (F.CAN_MB_CFG_KIND c m) = 2) → (s.can c).tx ≠ some m.val →
      Completes (.canCommit who c m dlc busy) s fun t => isSet t (F.CAN_MB_STAT_VALID c m) = true ∧ rd t (F.CAN_MB_CTRL_DLC c m) = dlc.toNat ∧
        (t.mbox c m).fresh = true ∧ (t.mbox c m).shadow = some (dlc, mbBytes s c m (canLen (isSet s (F.CAN_MB_CFG_FDF c m)) dlc.toNat)) ∧
        (rd s (F.CAN_MB_CFG_KIND c m) = 2 → isSet t (F.CAN_MB_STAT_PEND c m) = true)) ∧
    (∀ (who : Requestor) (c : Fin 8) (m : Fin 32) (dlc : BitVec 4) (busy : Bool) (s : State), fromCore s who = true → canOn s c = true →
      isSet s (F.CAN_MB_CFG_EN c m) = true → (rd s (F.CAN_MB_CFG_KIND c m) = 1 ∨ rd s (F.CAN_MB_CFG_KIND c m) = 2) → (s.can c).tx = some m.val →
      Completes (.canCommit who c m dlc busy) s fun t => (t.mbox c m).shadow = (s.mbox c m).shadow ∧
        (t.mbox c m).later = some (dlc, mbBytes s c m (canLen (isSet s (F.CAN_MB_CFG_FDF c m)) dlc.toNat))) ∧
    (∀ (who : Requestor) (c : Fin 8) (m : Fin 32) (dlc : BitVec 4) (busy : Bool) (s : State), fromCore s who = false →
      Completes (.canCommit who c m dlc busy) s (fun t => t.bus = s.bus) ∧ Completes (.canCancel who c m) s (fun t => t.bus = s.bus)) ∧
    (∀ (who : Requestor) (c : Fin 8) (m : Fin 32) (s : State), fromCore s who = true → canOn s c = true → rd s (F.CAN_MB_CFG_KIND c m) = 2 →
      (s.can c).tx ≠ some m.val → Completes (.canCancel who c m) s fun t => isSet t (F.CAN_MB_STAT_PEND c m) = false) ∧
    (∀ (who : Requestor) (c : Fin 8) (m : Fin 32) (s : State), fromCore s who = true → canOn s c = true → rd s (F.CAN_MB_CFG_KIND c m) = 2 →
      (s.can c).tx = some m.val → Completes (.canCancel who c m) s fun t => (t.mbox c m).cancel = true ∧
        isSet t (F.CAN_MB_STAT_PEND c m) = isSet s (F.CAN_MB_STAT_PEND c m)) ∧
    (∀ (c : Fin 8) (m more : Nat) (v : BitVec 7) (s : State), (s.can c).tx = some m → m < 32 → canOn s c = true →
      Completes (.canTransmissionEnd c (.ok more) v) s fun t => isSet t (F.CAN_MB_STAT_TXOK c m) = true ∧ rd t (F.CAN_MB_STAT_STAMP c m) = stamp16 s ∧ (t.can c).ackRun = 0 ∧
        rd t (F.CAN_CH_CNT2_TXOKCNT c) = (rd s (F.CAN_CH_CNT2_TXOKCNT c) + 1) % 2 ^ (F.CAN_CH_CNT2_TXOKCNT c).w) ∧
    (∀ (c : Fin 8) (m : Nat) (v : BitVec 7) (s : State), (s.can c).tx = some m → m < 32 → canOn s c = true →
      (s.can c).txSlot = false → (s.mbox c m).cancel = false → isSet s (F.CAN_MB_STAT_PEND c m) = true →
      Completes (.canTransmissionEnd c .lostArbitration v) s fun t => (t.can c).tx = none ∧ (t.can c).busy = true ∧ isSet t (F.CAN_MB_STAT_PEND c m) = true) ∧
    (∀ (c : Fin 8) (m more : Nat) (dom : Bool) (v : BitVec 7) (s : State), (s.can c).tx = some m → m < 32 → canOn s c = true →
      Completes (.canTransmissionEnd c (.ackError dom more) v) s fun t => (t.can c).ackRun = (s.can c).ackRun + 1 ∧
        ((s.can c).ackRun + 1 = rd s (F.CAN_CH_CFG_LONE_LIMIT c) → isSet t (F.CAN_CH_STAT_NOPART c) = true))

/-- A received frame goes to the first mailbox that takes it: with RXNEW clear its identifier, DLC and stamp are shown and RXNEW set; with RXNEW
set it waits, and where one waited already OVR is set. A frame that no mailbox takes raises RXDISC. Clearing RXNEW, while the cores run
(R33: from SELFTEST to RECOVERY, outside SAVE and reset), shows the identifier and stamp of a waiting frame, RXNEW being set again. On a
controller not in bus-off an error of a transmission that carries TEC above 255 ends in bus-off with nothing in transmission; sequences of
recessive bits are shown, and the 128th ends bus-off with both counters 0. A reception error detected raises REC by 1, one with a dominant
bit after the flag by 8. The steps of TEC and REC by 1 and 8 are those of ISO 11898-1 (log entry 82, PRESUMED). Rests on: 12_field_buses.md
R329, R330, R332. -/
def Obligations.CanErrorsConfine : Prop :=
  (∀ (c : Fin 8) (f : CanData) (m : Nat) (s : State), canOn s c = true → canOff s c = false → (s.can c).tx = none → (List.range 32).find? (mbTakes s c f) = some m →
      isSet s (F.CAN_MB_STAT_RXNEW c m) = false → Completes (.canFrameReceived c f) s fun t => isSet t (F.CAN_MB_STAT_RXNEW c m) = true ∧
        rd t (F.CAN_MB_RXID_ID c m) = f.id.toNat ∧ rd t (F.CAN_MB_STAT_RXDLC c m) = f.dlc.toNat ∧ rd t (F.CAN_MB_STAT_STAMP c m) = stamp16 s) ∧
    (∀ (c : Fin 8) (f : CanData) (m : Nat) (s : State), canOn s c = true → canOff s c = false → (s.can c).tx = none → (List.range 32).find? (mbTakes s c f) = some m →
      isSet s (F.CAN_MB_STAT_RXNEW c m) = true → Completes (.canFrameReceived c f) s fun t => (t.mbox c m).pend = some (f, BitVec.ofNat 16 (stamp16 s)) ∧
        ((s.mbox c m).pend ≠ none → isSet t (F.CAN_MB_STAT_OVR c m) = true) ∧ rd t (F.CAN_MB_RXID_ID c m) = rd s (F.CAN_MB_RXID_ID c m)) ∧
    (∀ (c : Fin 8) (f : CanData) (s : State), canOn s c = true → canOff s c = false → (s.can c).tx = none → (List.range 32).find? (mbTakes s c f) = none →
      Completes (.canFrameReceived c f) s fun t => rd t (F.CAN_CH_CNT2_RXDISC c) = satAdd (2 ^ (F.CAN_CH_CNT2_RXDISC c).w - 1) (rd s (F.CAN_CH_CNT2_RXDISC c)) 1) ∧
    (∀ (c : Fin 8) (m : Fin 32) (s : State), coresRun s = true → isSet s (F.CAN_MB_STAT_RXNEW c m) = true →
      (s.mbox c m).pend = none → Completes (.rxnewClear c m) s fun t => isSet t (F.CAN_MB_STAT_RXNEW c m) = false) ∧
    (∀ (c : Fin 8) (m : Fin 32) (f : CanData) (st : BitVec 16) (s : State), coresRun s = true → isSet s (F.CAN_MB_STAT_RXNEW c m) = true →
      (s.mbox c m).pend = some (f, st) → Completes (.rxnewClear c m) s fun t => isSet t (F.CAN_MB_STAT_RXNEW c m) = true ∧ (t.mbox c m).pend = none ∧
        rd t (F.CAN_MB_STAT_STAMP c m) = st.toNat ∧ rd t (F.CAN_MB_RXID_ID c m) = f.id.toNat) ∧
    (∀ (c : Fin 8) (m more : Nat) (v : BitVec 7) (s : State), (s.can c).tx = some m → m < 32 → canOn s c = true → canOff s c = false → 255 < rd s (F.CAN_CH_STAT_TEC c) + 8 * (1 + more) →
      Completes (.canTransmissionEnd c (.error more) v) s fun t => canOff t c = true ∧ isSet t (F.CAN_CH_FLT_BUSOFF c) = true ∧ (t.can c).tx = none) ∧
    (∀ (c : Fin 8) (n : Fin 129) (s : State), canOn s c = true → canOff s c = true → rd s (F.CAN_CH_STAT_RECSEQ c) ≤ n.val →
      n.val < 128 → Completes (.canBusOffRecovery c n) s fun t => canOff t c = true ∧ rd t (F.CAN_CH_STAT_RECSEQ c) = n.val) ∧
    (∀ (c : Fin 8) (s : State), canOn s c = true → canOff s c = true → rd s (F.CAN_CH_STAT_RECSEQ c) ≤ 128 →
      Completes (.canBusOffRecovery c 128) s fun t => canOff t c = false ∧ rd t (F.CAN_CH_STAT_TEC c) = 0 ∧ rd t (F.CAN_CH_STAT_REC c) = 0) ∧
    (∀ (c : Fin 8) (s : State), canOn s c = true → canOff s c = false → (s.can c).tx = none → rd s (F.CAN_CH_STAT_TEC c) ≤ 255 → rd s (F.CAN_CH_STAT_REC c) ≤ 247 →
      Completes (.canReceiveError c ⟨true, 0⟩) s (fun t => rd t (F.CAN_CH_STAT_REC c) = rd s (F.CAN_CH_STAT_REC c) + 1) ∧
      Completes (.canReceiveError c ⟨false, 1⟩) s (fun t => rd t (F.CAN_CH_STAT_REC c) = rd s (F.CAN_CH_STAT_REC c) + 8))

/-- A SENT frame with a bad calibration pulse sets CAL and raises ERRCNT; one that passes every check shows VALID, its status and data and ends
the run of errors. A time-out sets TIMEOUT and FAILED and clears VALID. A read of FAST, while the cores run (R33: from SELFTEST to RECOVERY,
outside SAVE and reset), latches the stamp and tick of the last good frame. A LIN entry due starts with its sync byte and protected
identifier; a good response of a subscribe entry shows its data, NEW and no ERR, one with a wrong checksum sets CHKSUM and ERR, a missing
one sets NORESP and raises NRCNT. A core's write of DATA1 of a publish entry puts the pair in force. The checksums and the protected
identifier are those of SAE J2716 and ISO 17987 (log entry 82, PRESUMED), the rounding of a nibble is log entry 40, and the latch and the
pair of a publish entry are log entry 84. Rests on: 12_field_buses.md R333, R334, R335, R336, R337, R338. -/
def Obligations.SentAndLinFramesAreJudged : Prop :=
  (∀ (r : Fin 12) (f : SentFrame) (s : State), sentOn s r = true → sentCalOk s r f = false →
      Completes (.sentFrame r f) s fun t => isSet t (F.SENT_RX_FLT_CAL r) = true ∧
        rd t (F.SENT_RX_FLT_ERRCNT r) = satAdd (2 ^ (F.SENT_RX_FLT_ERRCNT r).w - 1) (rd s (F.SENT_RX_FLT_ERRCNT r)) 1) ∧
    (∀ (r : Fin 12) (f : SentFrame) (s : State), sentOn s r = true → sentCalOk s r f = true → f.nibs.length = 2 + rd s (F.SENT_RX_CFG_NNIB r) →
      (∀ p ∈ f.nibs, 12 ≤ sentTicks f.cal p ∧ sentTicks f.cal p ≤ 27) → f.pause = isSet s (F.SENT_RX_CFG_PAUSE r) →
      sentTicks f.cal (f.nibs.getD (1 + rd s (F.SENT_RX_CFG_NNIB r)) 0) - 12 =
        sentCrc (isSet s (F.SENT_RX_CFG_CRCLEG r)) (((f.nibs.map fun p => sentTicks f.cal p - 12).drop 1).take (rd s (F.SENT_RX_CFG_NNIB r))) →
      Completes (.sentFrame r f) s fun t => isSet t (F.SENT_RX_FAST_VALID r) = true ∧ (t.sentRx r).errRun = 0 ∧
        rd t (F.SENT_RX_FAST_STATUS r) = (sentTicks f.cal (f.nibs.getD 0 0) - 12) ∧ (t.sentRx r).liveStamp = stamp16 s ∧
        rd t (F.SENT_RX_FAST_DATA r) = (((f.nibs.map fun p => sentTicks f.cal p - 12).drop 1).take (rd s (F.SENT_RX_CFG_NNIB r))).foldl (fun a n => 16 * a + n) 0 %
          2 ^ (F.SENT_RX_FAST_DATA r).w) ∧
    (∀ (r : Fin 12) (s : State), sentOn s r = true → (s.sentRx r).timedOut = false →
      Completes (.sentTimeout r) s fun t => isSet t (F.SENT_RX_FLT_TIMEOUT r) = true ∧ isSet t (F.SENT_RX_FLT_FAILED r) = true ∧
        isSet t (F.SENT_RX_FAST_VALID r) = false ∧ (t.sentRx r).timedOut = true) ∧
    (∀ (r : Fin 12) (s : State), coresRun s = true → Completes (.sentFastRead r) s fun t =>
      rd t (F.SENT_RX_STAMP_STAMP r) = (s.sentRx r).liveStamp % 2 ^ (F.SENT_RX_STAMP_STAMP r).w ∧
      rd t (F.SENT_RX_STAMP_TICKM r) = (s.sentRx r).liveTick % 2 ^ (F.SENT_RX_STAMP_TICKM r).w) ∧
    (∀ (l : Fin 4) (e : Nat) (s : State), linOn s l = true → linDue s l = some e → e < 32 →
      Completes (.linEntryStart l) s fun t => rd t (F.LIN_CH_STAT_ENTRY l) = e ∧ (t.lin l).started = true ∧ (t.lin l).openRsp = true ∧
        (t.lin l).sent.take 2 = [0x55, BitVec.ofNat 8 (linPid (rd s (F.LIN_CH_ENT_FID l e)))]) ∧
    (∀ (l : Fin 4) (data : List Byte) (s : State), linOn s l = true → (s.lin l).openRsp = true → isSet s (F.LIN_CH_ENT_DIR l (rd s (F.LIN_CH_STAT_ENTRY l))) = true →
      data.length = linLen s l (rd s (F.LIN_CH_STAT_ENTRY l)) →
      Completes (.linResponse l (data ++ [linCheck s l (rd s (F.LIN_CH_STAT_ENTRY l)) data]) false false) s fun t => (t.lin l).openRsp = false ∧
        isSet t (F.LIN_CH_MB_MBSTAT_NEW l (rd s (F.LIN_CH_STAT_ENTRY l))) = true ∧ isSet t (F.LIN_CH_MB_MBSTAT_ERR l (rd s (F.LIN_CH_STAT_ENTRY l))) = false ∧
        ∀ i < data.length, field (leBytes 4 (rd t (F.LIN_CH_MB_DATA0_DATA l (rd s (F.LIN_CH_STAT_ENTRY l)))) ++ leBytes 4 (rd t (F.LIN_CH_MB_DATA1_DATA l (rd s (F.LIN_CH_STAT_ENTRY l))))) i 1 = field data i 1) ∧
    (∀ (l : Fin 4) (data : List Byte) (x : Byte) (s : State), linOn s l = true → (s.lin l).openRsp = true → isSet s (F.LIN_CH_ENT_DIR l (rd s (F.LIN_CH_STAT_ENTRY l))) = true →
      data.length = linLen s l (rd s (F.LIN_CH_STAT_ENTRY l)) → x ≠ linCheck s l (rd s (F.LIN_CH_STAT_ENTRY l)) data →
      Completes (.linResponse l (data ++ [x]) false false) s fun t => (t.lin l).openRsp = false ∧ isSet t (F.LIN_CH_FLT_CHKSUM l) = true ∧
        isSet t (F.LIN_CH_MB_MBSTAT_ERR l (rd s (F.LIN_CH_STAT_ENTRY l))) = true) ∧
    (∀ (l : Fin 4) (s : State), linOn s l = true → (s.lin l).openRsp = true → isSet s (F.LIN_CH_ENT_DIR l (rd s (F.LIN_CH_STAT_ENTRY l))) = true →
      Completes (.linNoResponse l) s fun t => (t.lin l).openRsp = false ∧ isSet t (F.LIN_CH_MB_MBSTAT_NORESP l (rd s (F.LIN_CH_STAT_ENTRY l))) = true ∧
        rd t (F.LIN_CH_STAT_NRCNT l) = satAdd (2 ^ (F.LIN_CH_STAT_NRCNT l).w - 1) (rd s (F.LIN_CH_STAT_NRCNT l)) 1) ∧
    (∀ (who : Requestor) (l : Fin 4) (e : Fin 32) (v : Word) (s : State), fromCore s who = true → isSet s (F.LIN_CH_ENT_DIR l e) = false →
      Completes (.linData1Write who l e v) s fun t => linPair t l e = (s.reg (A.LIN_CH_MB_DATA0 l e), v) ∧ t.reg (A.LIN_CH_MB_DATA1 l e) = v)

/-- With no error of the boot ROM, LOAD_COMPLETE shows the time, whether port 1 is present, and a mode that is the fastest of those declared.
Where a copy passes when the copies are tried in their order, the device goes to IDENTIFY with LOADED set, that bank and port, reason 0 for
its bank, and the SEQ and LEN of its header. Where none passes it goes to ARMED with NOIMAGE, on the timebase of 16,000 cycles. With both
banks erased none passes, and each bank shows reason 1. An error of the boot ROM latches DVLAT and takes the device to RECOVERY. That PROTO
and CLK show XSPI0, the ranking of the modes and the port without a declared mode are the model's choice (log entry 125). Rests on:
01_device_organisation.md R31, R34, R37; 13_configuration_and_start.md R343, R346, R347, R348, R349. -/
def Obligations.LoadChoosesACopy : Prop :=
  (∀ (res : LoadResult) (s : State), s.dev.st = .load → res.romErr = none →
      Completes (.loadComplete res) s fun t => rd t F.CFG_STAT_LOADT = res.dur.toNat ∧ isSet t F.CFG_XSPI_P1PRES = res.p1 ∧
        ∃ d : Bool, (rd t F.CFG_XSPI_PROTO, rd t F.CFG_XSPI_CLK) = xspiMode res.modes d) ∧
    (∀ (res : LoadResult) (s : State), s.dev.st = .load → res.romErr = none →
      Completes (.loadComplete res) s fun t => match (loadTried res s).2 with
        | some (b, p) => t.dev.st = .identify ∧ isSet t F.CFG_STAT_LOADED = true ∧ rd t F.CFG_STAT_BANK = b ∧ rd t F.CFG_STAT_PORT = p ∧
          rd t F.CFG_SEQ_SEQ = imgSeq s b p ∧ rd t F.CFG_LEN_LEN = imgLen s b p ∧
          (if b = 0 then rd t F.CFG_BANKA_RES_REASON else rd t F.CFG_BANKB_RES_REASON) = 0
        | none => t.dev.st = .armed ∧ isSet t F.CFG_STAT_NOIMAGE = true ∧ t.dev.plain = true ∧ rd t F.STR_PERIOD_PERIOD = 16000) ∧
    (∀ (res : LoadResult) (s : State), s.dev.st = .load → res.romErr = none → s.cfg.flash = [] →
      Completes (.loadComplete res) s fun t => t.dev.st = .armed ∧ isSet t F.CFG_STAT_NOIMAGE = true ∧ rd t F.CFG_BANKA_RES_REASON = 1 ∧ rd t F.CFG_BANKB_RES_REASON = 1) ∧
    (∀ (res : LoadResult) (s : State), s.dev.st = .load → res.romErr ≠ none →
      Completes (.loadComplete res) s fun t => t.dev.st = .recovery ∧ isSet t F.SAF_STAT_DVLAT = true ∧ EnablesDown t)

/-- A first read of a record, the earlier ones of its bus done, that brings 256 bytes stores them, shows their class and shows in RSN the result
that Table 13.10 gives; a read without an answer, or one in fast mode that takes longer than 6.0 ms, shows 2 (that the limit is fast mode's
is log entry 143). A second read, of a record that may be read again, within 50 ms, does the same and sets REREAD. IDENTIFY ends in SYNC
with the timebase started when every record and every driver list is done. An aligned device with no axis in the course of a reaction, as
before ARMED none is, passes from SYNC to ARMED with the field buses on; an axis in use without a lock is DISABLED, one with a lock is
LOCKED with its reason. Rests on: 01_device_organisation.md R34; 13_configuration_and_start.md R355, R359, R360. -/
def Obligations.IdentifyJudgesRecords : Prop :=
  (∀ (k : Fin 64) (r : List Byte) (w : ReadTime) (s : State), s.dev.st = .identify → k.val < identCount s → rd s (F.IDM_REC_STAT_RSN k) = 0 →
      busRead s (field (identEntry s k) 0 1) k = true → tget (fun _ => 0) s.cfg.busEnd (field (identEntry s k) 0 1) ≤ w.startUs → w.startUs ≤ w.endUs →
      recLate s (field (identEntry s k) 0 1) w = false → r.length = 256 →
      Completes (.identityRead k (some r) w) s fun t => rd t (F.IDM_REC_STAT_CLASS k) = field r 4 2 ∧
        rd t (F.IDM_REC_STAT_RSN k) = recJudge s k r ∧ ∀ i < 64, rd t (F.IDM_REC_DATA_DATA k i) = field r (4 * i) 4) ∧
    (∀ (k : Fin 64) (answer : Option (List Byte)) (w : ReadTime) (s : State), s.dev.st = .identify → k.val < identCount s → rd s (F.IDM_REC_STAT_RSN k) = 0 →
      busRead s (field (identEntry s k) 0 1) k = true → tget (fun _ => 0) s.cfg.busEnd (field (identEntry s k) 0 1) ≤ w.startUs → w.startUs ≤ w.endUs →
      (answer = none ∨ recLate s (field (identEntry s k) 0 1) w = true) →
      Completes (.identityRead k answer w) s fun t => rd t (F.IDM_REC_STAT_RSN k) = 2) ∧
    (∀ (k : Fin 64) (r : List Byte) (w : ReadTime) (s : State), s.dev.st = .identify → k.val < identCount s → mayReread s k = true →
      busRead s (field (identEntry s k) 0 1) (identCount s) = true → tget (fun _ => 0) s.cfg.busEnd (field (identEntry s k) 0 1) ≤ w.startUs →
      w.startUs ≤ w.endUs → w.endUs ≤ 50000 → recLate s (field (identEntry s k) 0 1) w = false → r.length = 256 →
      Completes (.identityRead k (some r) w) s fun t => isSet t (F.IDM_REC_STAT_REREAD k) = true ∧ rd t (F.IDM_REC_STAT_RSN k) = recJudge s k r ∧
        ∀ i < 64, rd t (F.IDM_REC_DATA_DATA k i) = field r (4 * i) 4) ∧
    (∀ s : State, s.dev.st = .identify → (∀ t < s.nTeams, isSet s (F.MOD_DSPI_CFG_EN t) = true → isSet s (F.MOD_DSPI_STAT_DONE t) = true) →
      (∀ k < identCount s, rd s (F.IDM_REC_STAT_RSN k) ≠ 0) →
      Completes .identifyComplete s fun t => t.dev.st = .sync ∧ t.dev.started = true ∧ t.dev.count = 0 ∧ t.dev.running = false) ∧
    (∀ s : State, s.dev.st = .sync → syncReady s = true → (∀ a < 32, (s.ax a).taken = none) →
      Completes .syncAligned s fun t => t.dev.st = .armed ∧ t.bus.on = true ∧ ∀ a ∈ axesUsed s,
        (s.lock a = 0 → axState t a = 0) ∧ (s.lock a ≠ 0 → s.lock a < 8 → axState t a = 7 ∧ rd t (F.LE_AX_STATE_LOCKRSN a) = s.lock a))

/-- An accepted erase, program or header write of a bank not in use, in good format and in ARMED, SERVICE or RECOVERY, with no operation running
and no restart waiting, starts the operation, shows BUSY and answers STATUS 0. A read of a port in use is answered with the bytes of its
flash. A restart that R353 permits waits for the mark with STATUS 0; one that it does not is answered with STATUS 3, and while an operation
runs with STATUS 5; a MOP that R306 does not list, or MOP 5 with data, with STATUS 2. A read of a log is answered with its entries from the
first one that it holds, and of none or more than 64 with STATUS 2. A good end of an erase or a program clears BUSY, shows DONE and leaves
its bytes in the flash; the end of a header write does so with VERIFIED where every copy written verifies, and shows FAIL with FCODE 5 where
one does not; a failed end, at a unit of the operation on a port that it writes, shows FAIL and FCODE. STATUS 2 for MOP 5 with data is log
entry 60, and that a log is read while a restart waits is log entry 61. Rests on: 11_ring_host_and_cisterns.md R306;
13_configuration_and_start.md R347, R351, R352, R353; 15_register_and_fault_reference.md R399. -/
def Obligations.MaintenanceRequestsAreServed : Prop :=
  (∀ (r : Req) (bank : Byte) (ofs len : Word) (s : State), Accepted 5 r ([1, 0, 0, 0, bank, 0, 0, 0] ++ leBytes 4 ofs.toNat ++ leBytes 4 len.toNat) s →
      s.cfg.op = none → s.cfg.restart = false → nvmState s = true → bank.toNat < 2 → bankInUse s bank.toNat = false → ofs.toNat % 0x10000 = 0 → len.toNat % 0x10000 = 0 →
      ofs.toNat + len.toNat ≤ 0x800000 →
      Completes (.nvmErase r bank ofs len) s fun t => t.cfg.op = some ⟨1, bank.toNat, ofs.toNat, len.toNat, []⟩ ∧ isSet t F.CFG_NVM_BUSY = true ∧ Replied r 0 [] t) ∧
    (∀ (r : Req) (bank : Byte) (ofs : Word) (data : List Byte) (s : State),
      Accepted 5 r ([2, 0, 0, 0, bank, 0, 0, 0] ++ leBytes 4 ofs.toNat ++ leBytes 2 data.length ++ [0, 0] ++ data) s →
      s.cfg.op = none → s.cfg.restart = false → nvmState s = true → bank.toNat < 2 → bankInUse s bank.toNat = false → 0x40 ≤ ofs.toNat → ofs.toNat % 4 = 0 →
      4 ≤ data.length → data.length ≤ 1024 → data.length % 4 = 0 → ofs.toNat + data.length ≤ 0x800000 →
      Completes (.nvmProgram r bank ofs (BitVec.ofNat 16 data.length) data) s fun t => t.cfg.op = some ⟨2, bank.toNat, ofs.toNat, data.length, data⟩ ∧
        isSet t F.CFG_NVM_BUSY = true ∧ Replied r 0 [] t) ∧
    (∀ (r : Req) (bank : Byte) (data : List Byte) (s : State), Accepted 5 r ([3, 0, 0, 0, bank, 0, 0, 0] ++ data) s →
      s.cfg.op = none → s.cfg.restart = false → nvmState s = true → bank.toNat < 2 → bankInUse s bank.toNat = false → data.length = 64 → headerBlank s bank.toNat = true →
      Completes (.nvmHeaderWrite r bank data) s fun t => t.cfg.op = some ⟨3, bank.toNat, 0, 64, data⟩ ∧
        isSet t F.CFG_NVM_BUSY = true ∧ Replied r 0 [] t) ∧
    (∀ (r : Req) (bank port : Byte) (ofs : Word) (n : BitVec 16) (s : State),
      Accepted 5 r ([4, 0, 0, 0, bank, port, 0, 0] ++ leBytes 4 ofs.toNat ++ leBytes 2 n.toNat ++ [0, 0]) s → s.cfg.op = none → s.cfg.restart = false →
      nvmState s = true → bank.toNat < 2 → (nvmPorts s).contains port.toNat = true → 4 ≤ n.toNat → n.toNat ≤ 1024 → n.toNat % 4 = 0 → ofs.toNat + n.toNat ≤ 0x800000 →
      Completes (.nvmRead r bank port ofs n) s (Replied r 0 (imgBytes s bank.toNat port.toNat ofs.toNat n.toNat))) ∧
    (∀ (r : Req) (s : State), Accepted 5 r [5, 0, 0, 0] s → s.cfg.op = none → restartOk s = true →
      Completes (.restart ⟨r, 5, []⟩) s fun t => t.cfg.restart = true ∧ Replied r 0 [] t) ∧
    (∀ (r : Req) (s : State), Accepted 5 r [5, 0, 0, 0] s → s.cfg.op = none → restartOk s = false →
      Completes (.restart ⟨r, 5, []⟩) s fun t => t.cfg = s.cfg ∧ Replied r 3 [] t) ∧
    (∀ (r : Req) (s : State), Accepted 5 r [5, 0, 0, 0] s → s.cfg.op ≠ none → Completes (.restart ⟨r, 5, []⟩) s fun t => t.cfg = s.cfg ∧ Replied r 5 [] t) ∧
    (∀ (r : Req) (mop : Byte) (data : List Byte) (s : State), Accepted 5 r ([mop, 0, 0, 0] ++ data) s → s.cfg.op = none → (mop ≠ 5 ∨ data ≠ []) →
      [1, 2, 3, 4, 6].contains mop.toNat = false → Completes (.restart ⟨r, mop, data⟩) s fun t => t.cfg = s.cfg ∧ Replied r 2 [] t) ∧
    (∀ (r : Req) (log : Byte) (first : Word) (n : BitVec 16) (bad : List (Fin 64)) (s : State),
      Accepted 5 r ([6, 0, 0, 0, log, 0, 0, 0] ++ leBytes 4 first.toNat ++ leBytes 2 n.toNat ++ [0, 0]) s → s.cfg.op = none → log.toNat < 2 →
      (log = 1 → isSet s F.STS_STAT_RESTORED = true) → 1 ≤ n.toNat → n.toNat ≤ 64 →
      Completes (.logRead r log first ⟨n, bad⟩) s (Replied r 0 (leBytes 4 (logSlice s (log == 1) first.toNat n.toNat).1 ++
        leBytes 2 (logSlice s (log == 1) first.toNat n.toNat).2.length ++ [0, 0] ++
        ((List.range (logSlice s (log == 1) first.toNat n.toNat).2.length).map fun i =>
          entryRead (bad.any (·.val == i)) ((logSlice s (log == 1) first.toNat n.toNat).2.getD i {})).flatMap entryBytes))) ∧
    (∀ (r : Req) (log : Byte) (first : Word) (n : BitVec 16) (bad : List (Fin 64)) (s : State),
      Accepted 5 r ([6, 0, 0, 0, log, 0, 0, 0] ++ leBytes 4 first.toNat ++ leBytes 2 n.toNat ++ [0, 0]) s → s.cfg.op = none → (n = 0 ∨ 64 < n.toNat) →
      Completes (.logRead r log first ⟨n, bad⟩) s (Replied r 2 [])) ∧
    (∀ (op : NvmOp) (s : State), s.cfg.op = some op → (op.mop = 1 ∨ op.mop = 2) → op.bank < 2 → op.ofs + op.len ≤ 0x800000 →
      op.len = (nvmBytes op).length →
      Completes (.nvmOpComplete .done) s fun t => t.cfg.op = none ∧ isSet t F.CFG_NVM_BUSY = false ∧ isSet t F.CFG_NVM_DONE = true ∧
        imgBytes t op.bank 0 op.ofs op.len = nvmBytes op) ∧
    (∀ (op : NvmOp) (s : State), s.cfg.op = some op → op.mop = 3 → nvmVerified op.bank (nvmWritten op s) = true →
      Completes (.nvmOpComplete .done) s fun t => t.cfg.op = none ∧ isSet t F.CFG_NVM_BUSY = false ∧ isSet t F.CFG_NVM_DONE = true ∧
        isSet t F.CFG_NVM_VERIFIED = true ∧ t.cfg.flash = (nvmWritten op s).cfg.flash) ∧
    (∀ (op : NvmOp) (s : State), s.cfg.op = some op → op.mop = 3 → nvmVerified op.bank (nvmWritten op s) = false →
      Completes (.nvmOpComplete .done) s fun t => t.cfg.op = none ∧ isSet t F.CFG_NVM_BUSY = false ∧ isSet t F.CFG_NVM_FAIL = true ∧
        rd t F.CFG_NVM_FCODE = 5 ∧ t.cfg.flash = (nvmWritten op s).cfg.flash) ∧
    (∀ (op : NvmOp) (fcode : Byte) (unit : Nat) (port : Bool) (held : List Byte) (s : State), s.cfg.op = some op →
      nvmFcode op fcode.toNat = true → nvmHas s op port unit = true → nvmLeft s op port unit ≤ rd s F.CFG_NVM_REMAIN →
      Completes (.nvmOpComplete (.fail fcode unit port held)) s fun t => t.cfg.op = none ∧ isSet t F.CFG_NVM_BUSY = false ∧ isSet t F.CFG_NVM_FAIL = true ∧
        rd t F.CFG_NVM_FCODE = fcode.toNat)

/-- A POWERUP that is complete, the device not held in reset and its OTP read without error, shows the lowest of the causes set and enters
SELFTEST; with an OTP error the device is held in reset. A failed item of the self-test is shown in the retained record with its memory, and
the device is held in reset; a passed self-test shows its results, takes the newest state record and enters LOAD. Rests on:
01_device_organisation.md R31, R34; 10_cores_lockstep_and_self_test.md R266, R267; 14_supply_sag_sleep_and_reset.md R380, R389. -/
def Obligations.StartsGoThroughSelftest : Prop :=
  (∀ (c : Nat) (l : List Nat) (bad : List (Fin 64)) (s : State), s.dev.st = .powerup → held s = false → bitsOf s.pwr.causes 7 = c :: l →
      Completes (.powerupComplete ⟨bad, false⟩) s fun t => t.dev.st = .selftest ∧ rd t F.PWR_STARTCAUSE_CAUSE = c ∧ t.pwr.causes = 0) ∧
    (∀ (bad : List (Fin 64)) (s : State), s.dev.st = .powerup → held s = false →
      Completes (.powerupComplete ⟨bad, true⟩) s fun t => t.dev.st = .powerup ∧ held t = true) ∧
    (∀ (r : SelfTestResult) (s : State), s.dev.st = .selftest → held s = false → r.item ≠ 0 →
      Completes (.selftestComplete r) s fun t => held t = true ∧ t.dev.st = .selftest ∧ rd t F.PWR_STFAILREC_ITEM = r.item.toNat ∧
        rd t F.PWR_STFAILREC_MEM = r.mem.toNat) ∧
    (∀ (r : SelfTestResult) (s : State), s.dev.st = .selftest → held s = false → r.item = 0 →
      Completes (.selftestComplete r) s fun t => t.dev.st = .load ∧ t.pwr.taken = true ∧ rd t F.BST_STARTRES_PASS = 31 ∧
        rd t F.BST_STARTRES_DUR = r.dur.toNat ∧ isSet t F.STS_STAT_RESTORED = (newestRec s).isSome)

/-- A sag in a state that sees one, no record being written, enters SAVE with every enable and every brake down, forgets a running NVM
operation, and asks for a record of cause 1. That record written, the device is PARKED; a recovered supply starts it over with cause 5
added. A record of cause 4 written is in its bank with its magic, raises WRITES and is named by LASTCAUSE; where a byte reads back wrong the
bank holds that byte and FAILS rises. At the end of a period of ten seconds a record of cause 4 is asked for. That a record asked for while
another is written waits behind it, and the bank named without a valid record, are log entry 45. Rests on: 14_supply_sag_sleep_and_reset.md
R371, R373, R374, R376, R377, R379, R382. -/
def Obligations.SagParksTheDevice : Prop :=
  (∀ s : State, sagSeen s = true → s.pwr.recs = [] →
      Completes .supplySag s fun t => t.dev.st = .save ∧ EnablesDown t ∧ BrakesOff t ∧ t.cfg.op = none ∧ t.pwr.recs = [1] ∧ isSet t F.PWR_STAT_SAGLIVE = true) ∧
    (∀ s : State, s.pwr.recs = [1] → Completes (.stateRecordWritten none) s fun t => t.dev.st = .parked ∧ t.pwr.recs = []) ∧
    (∀ s : State, s.dev.st = .parked → held s = false → Completes .sagRecovery s fun t => t.dev.st = .powerup ∧ t.pwr.causes = s.pwr.causes ||| 32) ∧
    (∀ (l : List Nat) (s : State), s.pwr.recs = 4 :: l →
      Completes (.stateRecordWritten none) s fun t => t.pwr.recs = l ∧ rd t F.STS_STAT_LASTCAUSE = 4 ∧ recMagic (mramRec t (recBank s)) = true ∧
        rd t F.STS_CNT_WRITES = (rd s F.STS_CNT_WRITES + 1) % 2 ^ F.STS_CNT_WRITES.w) ∧
    (∀ (v : Byte) (l : List Nat) (s : State), s.pwr.recs = 4 :: l → v ≠ 0x47 →
      Completes (.stateRecordWritten (some (0, v))) s fun t => t.pwr.recs = l ∧ rdB t (mramBase (recBank s)) = v ∧
        rd t F.STS_CNT_FAILS = satAdd (2 ^ F.STS_CNT_FAILS.w - 1) (rd s F.STS_CNT_FAILS) 1) ∧
    (∀ s : State, (s.dev.st = .armed ∨ s.dev.st = .service ∨ s.dev.st = .recovery) → periodDue s = true →
      Completes .periodicRecord s fun t => t.pwr.recs = s.pwr.recs ++ [4] ∧ t.pwr.periods = s.pwr.periods + 1)

/-- RESET_N released with nothing else holding the device, it is held no longer and cause 3 is set. A trip of VSAFE starts the device over, held
with every enable down, with the retained words kept, the RTC's seconds where no state record was being written, and the flash where no NVM
operation was running; with VSAFE good again that hold ends. With VKEEP the device starts over with its retained words at reset, the RTC's
seconds 0 and cause 0 alone, and keeps the flash likewise; with every supply lost it is held and keeps the flash likewise. What a start
keeps and clears beyond those rules is log entry 49. Rests on: 14_supply_sag_sleep_and_reset.md R369, R381, R383, R385, R387, R388;
16_electrical_and_package.md R407. -/
def Obligations.ResetsKeepTheWellhead : Prop :=
  (∀ (holdMs : Nat) (s : State), s.dev.resetLow = true → s.dev.vsafeLow = false → s.dev.testHold = false → s.dev.dead = false → s.bst.dbg.pins ≠ .scan →
      Completes (.resetNRelease holdMs) s fun t => held t = false ∧ t.pwr.causes = s.pwr.causes ||| 8 ∧ t.pwr.stuck = decide (5000 < holdMs)) ∧
    (∀ s : State, s.dev.dead = false → s.dev.vsafeLow = false → s.dev.st ≠ .sleep → twf regReset none s.regs = true →
      Completes .vsafeTrip s fun t => t.dev.st = .powerup ∧ held t = true ∧ EnablesDown t ∧ (s.cfg.op = none → t.cfg.flash = s.cfg.flash) ∧
        (s.pwr.recs = [] → t.pwr.rtcSec = s.pwr.rtcSec) ∧ (∀ p, retained p = true → t.reg p = s.reg p)) ∧
    (∀ s : State, s.dev.vsafeLow = true → Completes .vsafeGood s fun t => t.dev.vsafeLow = false) ∧
    (∀ s : State, Completes .vkeepPowerOn s fun t => t.pwr.causes = 1 ∧ t.pwr.rtcSec = 0 ∧ t.dev.st = .powerup ∧ (s.cfg.op = none → t.cfg.flash = s.cfg.flash) ∧
        ∀ p, retained p = true → t.reg p = regReset p) ∧
    (∀ s : State, s.dev.dead = false → Completes .vkeepLoss s fun t => t.dev.dead = true ∧ held t = true ∧ (s.cfg.op = none → t.cfg.flash = s.cfg.flash))

/-- A rail outside its window in ARMED and SERVICE latches DVLAT with every enable and brake down, and where the monitors do not watch changes
only the marks: in each, a rail that is low is marked as below its monitor, and VCORE for the rest of the start. A rail within its limits
again latches nothing and ends its mark. A failed oscillator clears XOSCOK and RTCVALID, and a restarted one sets XOSCOK. A set RTC waits
for the next tick with the value of RTCSET; a read of the subseconds, while the cores run (R33: from SELFTEST to RECOVERY, outside SAVE and
reset), shows them with the seconds of the same instant. Rests on: 01_device_organisation.md R29, R30; 08_safety_channel.md R220;
14_supply_sag_sleep_and_reset.md R383; 00_scope.md R425. -/
def Obligations.RailsAndTheClockAreWatched : Prop :=
  (∀ (r : RailReport) (s : State), held s = false → s.dev.dead = false → (s.dev.st = .armed ∨ s.dev.st = .service) → r.ev ≠ .good →
      Completes (.supplyMonitor r) s fun t => isSet t F.SAF_STAT_DVLAT = true ∧ EnablesDown t ∧ BrakesOff t ∧
        t.pwr.vcoreBad = (s.pwr.vcoreBad || r == ⟨.vcore, .low⟩) ∧
        ∀ i < 6, t.pwr.lowRails.getLsbD i = (s.pwr.lowRails.getLsbD i || (i == r.rail.code && r.ev == .low))) ∧
    (∀ (r : RailReport) (s : State), monitored s = false → s.dev.dead = false → s.dev.st ≠ .sleep → r.ev ≠ .good →
      Completes (.supplyMonitor r) s fun t => t.dev = s.dev ∧ t.regs = s.regs ∧ t.pwr.vcoreBad = (s.pwr.vcoreBad || r == ⟨.vcore, .low⟩) ∧
        ∀ i < 6, t.pwr.lowRails.getLsbD i = (s.pwr.lowRails.getLsbD i || (i == r.rail.code && r.ev == .low))) ∧
    (∀ (rail : Rail) (s : State), s.dev.dead = false → s.dev.st ≠ .sleep →
      Completes (.supplyMonitor ⟨rail, .good⟩) s fun t => t.dev = s.dev ∧ t.drive = s.drive ∧ rd t F.SAF_STAT_DVLAT = rd s F.SAF_STAT_DVLAT ∧
        t.pwr.vcoreBad = s.pwr.vcoreBad ∧
        ∀ i < 6, t.pwr.lowRails.getLsbD i = (s.pwr.lowRails.getLsbD i && i != rail.code)) ∧
    (∀ s : State, isSet s F.PWR_STAT_XOSCOK = true → s.dev.dead = false →
      Completes .rtcOscFail s fun t => isSet t F.PWR_STAT_XOSCOK = false ∧ isSet t F.PWR_STAT_RTCVALID = false) ∧
    (∀ s : State, s.dev.dead = false → Completes .xoscRestart s fun t => isSet t F.PWR_STAT_XOSCOK = true) ∧
    (∀ (who : Requestor) (s : State), mayIssue s who = true → Completes (.rtcSet who) s fun t =>
      t.pwr.rtcSet = some (BitVec.ofNat 48 (rd s F.PWR_RTCSET_LO_SEC + 2 ^ 32 * rd s F.PWR_RTCSET_HI_SEC))) ∧
    (∀ s : State, coresRun s = true → Completes .rtcSubRead s fun t => rd t F.PWR_RTC_SUB_SUB = t.pwr.rtcSub.toNat ∧ rd t F.PWR_RTC_LO_SEC = t.pwr.rtcSec.toNat % 2 ^ 32 ∧
        rd t F.PWR_RTC_HI_SEC = t.pwr.rtcSec.toNat / 2 ^ 32)

/-- A sleep command of a core waits for the mark, and one of the host does nothing. A record of cause 3 written with no wake latched enters
SLEEP. In SLEEP a comparator's edge in a direction that EDGE names, a WAKESEC that is not 0, and a returned supply start the device over
with their causes; an edge of a comparator that wakes on none leaves the device asleep and shows its level. Rails removed in SLEEP are
marked. Rests on: 14_supply_sag_sleep_and_reset.md R384, R386, R391. -/
def Obligations.SleepEndsWithAWake : Prop :=
  (∀ (who : Requestor) (s : State), fromCore s who = true → Completes (.sleepCmd who) s fun t => t.pwr.sleepCmd = true) ∧
    (∀ s : State, Completes (.sleepCmd .host) s fun t => t.pwr = s.pwr) ∧
    (∀ s : State, s.pwr.recs = [3] → s.pwr.wakeLatch = 0 → Completes (.stateRecordWritten none) s fun t => t.dev.st = .sleep) ∧
    (∀ (n : Fin 6) (rising : Bool) (s : State), s.dev.dead = false → s.dev.st = .sleep →
      rd s (F.PWR_WK_CFG_EDGE n) = (if rising then 1 else 2) ∨ rd s (F.PWR_WK_CFG_EDGE n) = 3 →
      Completes (.wakeComparator n rising) s fun t => t.dev.st = .powerup ∧ t.pwr.causes = s.pwr.causes ||| 2 ∧
        t.pwr.wkmask = s.pwr.wkmask ||| 2 ^ n.val) ∧
    (∀ (n : Fin 6) (rising : Bool) (s : State), s.dev.dead = false → s.dev.st = .sleep → rd s (F.PWR_WK_CFG_EDGE n) = 0 →
      Completes (.wakeComparator n rising) s fun t => t.dev.st = .sleep ∧ isSet t (F.PWR_WK_CFG_LIVE n) = rising) ∧
    (∀ s : State, s.dev.st = .sleep → isSet s F.PWR_WAKESEC_SEC = true → Completes .wakeTimer s fun t => t.dev.st = .powerup ∧ t.pwr.causes = s.pwr.causes ||| 4) ∧
    (∀ s : State, s.dev.st = .sleep → s.pwr.railsOff = false → Completes .railsRemovedInSleep s fun t => t.pwr.railsOff = true ∧ t.dev.st = .sleep) ∧
    (∀ s : State, s.dev.st = .sleep → s.pwr.railsOff = true → Completes .supplyReturn s fun t => t.dev.st = .powerup ∧ t.pwr.causes = s.pwr.causes ||| 16)

/-- RESET_N low for less than 1 µs leaves the state as it was. Low for 10 µs or more it resets the device: it is held in POWERUP with every
enable and brake down, its retained words kept, its RTC where no state record was being written, and its flash where no NVM operation was
running. Between the two lengths the pulse is one that must not be driven, and the model stops with the fault outsideRatings. On a device
without supplies, or in reset already, RESET_N changes nothing. The fault outsideRatings, and that a device without supplies or already in
reset sees nothing, are the model's choice (log entry 89). Rests on: 00_scope.md R16; 13_configuration_and_start.md R352;
14_supply_sag_sleep_and_reset.md R383, R385, R387. -/
def Obligations.ResetPulsesAreFiltered : Prop :=
  ∀ (lowNs : Nat) (s : State),
    (lowNs < 1000 → exec (.resetNAssert lowNs) s = .next s) ∧
    ((s.dev.dead = true ∨ s.dev.resetLow = true) → exec (.resetNAssert lowNs) s = .next s) ∧
    (1000 ≤ lowNs → lowNs < 10000 → s.dev.dead = false → s.dev.resetLow = false → exec (.resetNAssert lowNs) s = .fault .outsideRatings) ∧
    (10000 ≤ lowNs → s.dev.dead = false → s.dev.resetLow = false → twf regReset none s.regs = true →
      Completes (.resetNAssert lowNs) s fun t => t.dev.st = .powerup ∧ t.dev.resetLow = true ∧ held t = true ∧ EnablesDown t ∧ BrakesOff t ∧
        (s.cfg.op = none → t.cfg.flash = s.cfg.flash) ∧ (s.pwr.recs = [] → t.pwr.rtcSec = s.pwr.rtcSec ∧ t.pwr.rtcSub = s.pwr.rtcSub) ∧ t.pending = s.pending ∧
        ∀ p, retained p = true → t.reg p = s.reg p)

/-- POWERUP_COMPLETE writes the lowest cause of those that apply to PWR_STARTCAUSE and logs 0x0D04 with the cause, and the comparators above it,
as data, whatever else it logs. Rests on: R389. -/
def Obligations.TheStartCauseIsReported : Prop :=
  ∀ (c : Nat) (l : List Nat) (bad : List (Fin 64)) (s : State), s.dev.st = .powerup → held s = false → bitsOf s.pwr.causes 7 = c :: l →
    s.flt.batch = [] → bad.length ≤ 64 → s.pwr.wkmask < 64 →
    Completes (.powerupComplete ⟨bad, false⟩) s fun t => rd t F.PWR_STARTCAUSE_CAUSE = c ∧ rd t F.PWR_STARTCAUSE_WKMASK = s.pwr.wkmask ∧
      ∃ k < 1024, (tget (fun _ => {}) t.flt.slots k).code = 0x0D04 ∧ (tget (fun _ => {}) t.flt.slots k).data = BitVec.ofNat 32 (c + 8 * s.pwr.wkmask)

/-- A write of a requestor that may issue one to PWR_RTCSET_LO stores it and changes no other register but the log's index. The wake timer and
the words of application firmware take a core's write in SERVICE, and keep what they hold otherwise. A write to an offset that no register
has changes no register but the log's index. A write to a register whose fields are written one by one (WritesFieldByField: all but those of
the fault log and those whose write acts on their own status) leaves every RO and IMG field, and every RW field that the requestor may not
write, as it was; sets every RW field that it may; and clears of a W1C field the bits written as 1. An access of a requestor that the fabric
permits changes nothing, and one that it forbids raises the count of class W once the log runs. A read of a slot of the log, while the cores
run (R33: from SELFTEST to RECOVERY, outside SAVE and reset), latches its words, and changes no register but the log's index. Which accesses
the fabric permits is log entry 59, and that an offset without a register takes nothing is log entry 57. Rests on: 00_scope.md R13;
01_device_organisation.md R20, R31, R32; 14_supply_sag_sleep_and_reset.md R385, R391; 15_register_and_fault_reference.md R392, R394, R401,
R402. -/
def Obligations.RegisterWritesKeepTheirFields : Prop :=
  (∀ (who : Requestor) (v : Word) (s : State), mayIssue s who = true → Completes (.registerWrite who (BitVec.ofNat 24 A.PWR_RTCSET_LO) v) s fun t =>
      t.reg A.PWR_RTCSET_LO = v ∧ ∀ p, p ≠ A.PWR_RTCSET_LO → p ≠ A.FLT_WIDX → t.reg p = s.reg p) ∧
    (∀ (who : Requestor) (v : Word) (s : State), fromCore s who = true → s.dev.st = .service →
      Completes (.registerWrite who (BitVec.ofNat 24 A.PWR_WAKESEC) v) s fun t => rd t F.PWR_WAKESEC_SEC = getFld v F.PWR_WAKESEC_SEC.lo F.PWR_WAKESEC_SEC.w) ∧
    (∀ (who : Requestor) (v : Word) (s : State), (fromCore s who = false ∨ s.dev.st ≠ .service) →
      Completes (.registerWrite who (BitVec.ofNat 24 A.PWR_WAKESEC) v) s fun t => rd t F.PWR_WAKESEC_SEC = rd s F.PWR_WAKESEC_SEC) ∧
    (∀ (i : Fin 48) (who : Requestor) (v : Word) (s : State), fromCore s who = true → s.dev.st = .service →
      Completes (.registerWrite who (BitVec.ofNat 24 (A.PWR_SCRATCH i)) v) s fun t => t.reg (A.PWR_SCRATCH i) = v) ∧
    (∀ (i : Fin 48) (who : Requestor) (v : Word) (s : State), (fromCore s who = false ∨ s.dev.st ≠ .service) →
      Completes (.registerWrite who (BitVec.ofNat 24 (A.PWR_SCRATCH i)) v) s fun t => t.reg (A.PWR_SCRATCH i) = s.reg (A.PWR_SCRATCH i)) ∧
    (∀ (who : Requestor) (off : BitVec 24) (v : Word) (s : State), findReg off.toNat = none →
      Completes (.registerWrite who off v) s fun t => ∀ p, p ≠ A.FLT_WIDX → t.reg p = s.reg p) ∧
    (∀ (who : Requestor) (off : BitVec 24) (v : Word) (r : RegRow) (is : List Nat) (f : Nat × Nat × Acc) (s : State), mayIssue s who = true →
      findReg off.toNat = some (r, is) → WritesFieldByField r.id = true → f ∈ r.flds →
      Completes (.registerWrite who off v) s fun t =>
        (f.2.2 = .ro ∨ f.2.2 = .img ∨ f.2.2 = .rc → getFld (t.reg off.toNat) f.1 f.2.1 = getFld (s.reg off.toNat) f.1 f.2.1) ∧
        (f.2.2 = .rw → wrTaken who s r.id (is.headD 0) ((is.drop 1).headD 0) = false →
          getFld (t.reg off.toNat) f.1 f.2.1 = getFld (s.reg off.toNat) f.1 f.2.1) ∧
        (f.2.2 = .rw → wrTaken who s r.id (is.headD 0) ((is.drop 1).headD 0) = true → getFld (t.reg off.toNat) f.1 f.2.1 = getFld v f.1 f.2.1) ∧
        (f.2.2 = .w1c → getFld (t.reg off.toNat) f.1 f.2.1 = getFld (s.reg off.toNat) f.1 f.2.1 &&& (2 ^ f.2.1 - 1 - getFld v f.1 f.2.1))) ∧
    (∀ (who : Requestor) (addr : Word) (wrt : Bool) (s : State), who ≠ .host →
      (if wrt then fabricWrites s who addr.toNat else fabricReads addr.toNat) = true → Completes (.accessFault who addr wrt) s fun t => t = s) ∧
    (∀ (who : Requestor) (addr : Word) (wrt : Bool) (s : State), who ≠ .host → mayIssue s who = true →
      (if wrt then fabricWrites s who addr.toNat else fabricReads addr.toNat) = false → logging s = true →
      Completes (.accessFault who addr wrt) s fun t => rd t F.FLT_CNT0_W = satAdd (2 ^ F.FLT_CNT0_W.w - 1) (rd s F.FLT_CNT0_W) 1) ∧
    (∀ (sl : Fin 1024) (s : State), coresRun s = true → Completes (.fltLogRead sl ⟨false, false⟩) s fun t =>
      tget (fun _ => {}) t.flt.latch sl = tget (fun _ => {}) s.flt.slots sl ∧ ∀ p, p ≠ A.FLT_WIDX → t.reg p = s.reg p)

/-- Every byte of memory reads as before after any command but a stride mark, a commit, a snapshot or run of the loop engines, the load of an
image, a state record, a sag, and a command that starts the device over. Of those, a snapshot changes no byte outside the input areas of the
team's axes, an engine run none outside their readback records, a task commit none outside the pending copies it names, phase A none outside
the active copies, a stride mark none outside the transfer areas of the pairs, a sag none outside the bank of the record it breaks off, a
load without an image none, a state record that starts nothing over none outside its bank, and a start with no record being written and
outside SELFTEST, whose test of the MRAM it may cut short, none of the MRAM. The flash is changed by no command but the end of an NVM
operation, while no operation runs; and the rest of the configuration store by the commands named in ChangesStore alone. The claim is about
the memory the model holds: R21 delivers each accepted safe frame to shared SRAM, whose place for it the spec does not give, so that
SAFE_FRAME_COPY, SAFE_FRAME_SINGLE and DEMAND_FRAME change no byte of it is the model's choice (log entry 75). Rests on:
01_device_organisation.md R18, R21; 02_stride_and_timing.md R48; 04_position_feedback.md R100; 05_loop_engines.md R118;
10_cores_lockstep_and_self_test.md R264; 13_configuration_and_start.md R343, R351, R352; 14_supply_sag_sleep_and_reset.md R376, R382;
95_what_each_step_holds.md. -/
def Obligations.MemoryAndStoreFrame : Prop :=
  ∀ (c : Instr) (s t : State), exec c s = .next t →
    (StoresMemory c = false → ∀ a, rdB t a = rdB s a) ∧
    (∀ k, c = .samplePhase k → ∀ i, (∀ a ∈ teamAxes s k, i < inBase a ∨ inBase a + 16 ≤ i) → rdB t i = rdB s i) ∧
    (∀ k e, c = .loopEngineRun k e → ∀ i, (∀ a ∈ teamAxes s k, i < rbBase a ∨ rbBase a + 256 ≤ i) → rdB t i = rdB s i) ∧
    (∀ who mask recs, c = .taskCommit who mask recs → ∀ i, (∀ p ∈ recs, i < pendBase p.1 ∨ pendBase p.1 + 64 ≤ i) → rdB t i = rdB s i) ∧
    (c = .applicationCommit → ∀ i, (∀ a < 32, i < actBase a ∨ actBase a + 64 ≤ i) → rdB t i = rdB s i) ∧
    (c = .strideMark → ∀ i, (∀ p < 2, i < xferBase p ∨ xferBase p + 512 ≤ i) → rdB t i = rdB s i) ∧
    (c = .supplySag → ∀ i, (i < mramBase (recBank s) ∨ mramBase (recBank s) + 4096 ≤ i) → rdB t i = rdB s i) ∧
    (∀ res, c = .loadComplete res → (res.romErr ≠ none ∨ (loadTried res s).2 = none) → ∀ i, rdB t i = rdB s i) ∧
    (∀ mm, c = .stateRecordWritten mm → s.pwr.recs.head? ≠ some 2 → s.pwr.recs.head? ≠ some 3 →
      ∀ i, (i < mramBase (recBank s) ∨ mramBase (recBank s) + 4096 ≤ i) → rdB t i = rdB s i) ∧
    (Restarts c = true → s.pwr.recs = [] → s.dev.st ≠ .selftest → ∀ i, 0x50000000 ≤ i → i < 0x50080000 → rdB t i = rdB s i) ∧
    ((∀ res, c ≠ .nvmOpComplete res) → s.cfg.op = none → t.cfg.flash = s.cfg.flash) ∧
    (ChangesStore c = false → t.cfg = s.cfg)

/-- What the sense channels, the position interfaces and compare units, the drive (its axes, legs, teams, DC-link groups and locks), and the
safety block hold beside their registers stays as it was after every command but those named in ChangesSense, ChangesPosition, ChangesDrive
and ChangesSafety. The lists are the model's own. Rests on: 03_sense_channels.md; 04_position_feedback.md;
06_modulation_and_gate_outputs.md; 07_commutation_start_and_discharge.md; 08_safety_channel.md; 95_what_each_step_holds.md. -/
def Obligations.SenseDriveAndSafetyFrame : Prop :=
  ∀ (c : Instr) (s t : State), exec c s = .next t →
    (ChangesSense c = false → t.sense = s.sense) ∧ (ChangesPosition c = false → t.pos = s.pos) ∧
    (ChangesDrive c = false → t.drive = s.drive) ∧ (ChangesSafety c = false → t.saf = s.saf)

/-- What the groups and safe connections, the field-bus controllers, the lockstep pairs, the debug module and the harts hold beside their
registers stays as it was after every command but those named in ChangesGroups, ChangesBuses, ChangesPairs, ChangesDebug and ChangesHarts.
Rests on: 09_redundant_groups.md; 10_cores_lockstep_and_self_test.md; 12_field_buses.md; 95_what_each_step_holds.md. -/
def Obligations.GroupsBusesAndCoresFrame : Prop :=
  ∀ (c : Instr) (s t : State), exec c s = .next t →
    (ChangesGroups c = false → t.grp = s.grp) ∧ (ChangesBuses c = false → t.bus = s.bus) ∧ (ChangesPairs c = false → t.bst.pairs = s.bst.pairs) ∧
    (ChangesDebug c = false → t.bst.dbg = s.bst.dbg) ∧ (ChangesHarts c = false → t.bst.harts = s.bst.harts)

/-- After a command that deviceFields names with its fields, every field of a register that shares no bit with those or with the fields of the
fault log reads as before. Rests on: 04_position_feedback.md; 06_modulation_and_gate_outputs.md; 07_commutation_start_and_discharge.md;
08_safety_channel.md; 09_redundant_groups.md; 10_cores_lockstep_and_self_test.md; 14_supply_sag_sleep_and_reset.md;
15_register_and_fault_reference.md R398. -/
def Obligations.DeviceRegistersFrame : Prop :=
  ∀ (c : Instr) (l : List Fld) (f : Fld) (s t : State), deviceFields c = some l → f.lo + f.w ≤ 32 → (∀ g ∈ l ++ logFields, Apart f g) →
    exec c s = .next t → rd t f = rd s f

/-- After a command that networkFields names with its fields, every field of a register that shares no bit with those or with the fields of the
fault log reads as before. Rests on: 11_ring_host_and_cisterns.md; 12_field_buses.md; 13_configuration_and_start.md;
15_register_and_fault_reference.md R398. -/
def Obligations.NetworkRegistersFrame : Prop :=
  ∀ (c : Instr) (l : List Fld) (f : Fld) (s t : State), networkFields s c = some l → f.lo + f.w ≤ 32 → (∀ g ∈ l ++ logFields, Apart f g) →
    exec c s = .next t → rd t f = rd s f
end

