-- ==== Sys2Proof/Laws/State.lean ====
section
/-! SUPPORT. One lemma for each field of State under each of its updates. -/
namespace Sys2Proof.Machine

variable (s : State)

@[simp] theorem State.setPending_pending (v : List Instr) : (State.setPending v s).pending = v := (rfl)
@[simp] theorem State.setPending_free (v : List Instr) : (State.setPending v s).free = s.free := (rfl)
@[simp] theorem State.setPending_dev (v : List Instr) : (State.setPending v s).dev = s.dev := (rfl)
@[simp] theorem State.setPending_regs (v : List Instr) : (State.setPending v s).regs = s.regs := (rfl)
@[simp] theorem State.setPending_mem (v : List Instr) : (State.setPending v s).mem = s.mem := (rfl)
@[simp] theorem State.setPending_flt (v : List Instr) : (State.setPending v s).flt = s.flt := (rfl)
@[simp] theorem State.setPending_sense (v : List Instr) : (State.setPending v s).sense = s.sense := (rfl)
@[simp] theorem State.setPending_pos (v : List Instr) : (State.setPending v s).pos = s.pos := (rfl)
@[simp] theorem State.setPending_drive (v : List Instr) : (State.setPending v s).drive = s.drive := (rfl)
@[simp] theorem State.setPending_saf (v : List Instr) : (State.setPending v s).saf = s.saf := (rfl)
@[simp] theorem State.setPending_grp (v : List Instr) : (State.setPending v s).grp = s.grp := (rfl)
@[simp] theorem State.setPending_bst (v : List Instr) : (State.setPending v s).bst = s.bst := (rfl)
@[simp] theorem State.setPending_net (v : List Instr) : (State.setPending v s).net = s.net := (rfl)
@[simp] theorem State.setPending_bus (v : List Instr) : (State.setPending v s).bus = s.bus := (rfl)
@[simp] theorem State.setPending_cfg (v : List Instr) : (State.setPending v s).cfg = s.cfg := (rfl)
@[simp] theorem State.setPending_pwr (v : List Instr) : (State.setPending v s).pwr = s.pwr := (rfl)
@[simp] theorem State.setFree_pending (v : Nat) : (State.setFree v s).pending = s.pending := (rfl)
@[simp] theorem State.setFree_free (v : Nat) : (State.setFree v s).free = v := (rfl)
@[simp] theorem State.setFree_dev (v : Nat) : (State.setFree v s).dev = s.dev := (rfl)
@[simp] theorem State.setFree_regs (v : Nat) : (State.setFree v s).regs = s.regs := (rfl)
@[simp] theorem State.setFree_mem (v : Nat) : (State.setFree v s).mem = s.mem := (rfl)
@[simp] theorem State.setFree_flt (v : Nat) : (State.setFree v s).flt = s.flt := (rfl)
@[simp] theorem State.setFree_sense (v : Nat) : (State.setFree v s).sense = s.sense := (rfl)
@[simp] theorem State.setFree_pos (v : Nat) : (State.setFree v s).pos = s.pos := (rfl)
@[simp] theorem State.setFree_drive (v : Nat) : (State.setFree v s).drive = s.drive := (rfl)
@[simp] theorem State.setFree_saf (v : Nat) : (State.setFree v s).saf = s.saf := (rfl)
@[simp] theorem State.setFree_grp (v : Nat) : (State.setFree v s).grp = s.grp := (rfl)
@[simp] theorem State.setFree_bst (v : Nat) : (State.setFree v s).bst = s.bst := (rfl)
@[simp] theorem State.setFree_net (v : Nat) : (State.setFree v s).net = s.net := (rfl)
@[simp] theorem State.setFree_bus (v : Nat) : (State.setFree v s).bus = s.bus := (rfl)
@[simp] theorem State.setFree_cfg (v : Nat) : (State.setFree v s).cfg = s.cfg := (rfl)
@[simp] theorem State.setFree_pwr (v : Nat) : (State.setFree v s).pwr = s.pwr := (rfl)
@[simp] theorem State.setDev_pending (v : Dev) : (State.setDev v s).pending = s.pending := (rfl)
@[simp] theorem State.setDev_free (v : Dev) : (State.setDev v s).free = s.free := (rfl)
@[simp] theorem State.setDev_dev (v : Dev) : (State.setDev v s).dev = v := (rfl)
@[simp] theorem State.setDev_regs (v : Dev) : (State.setDev v s).regs = s.regs := (rfl)
@[simp] theorem State.setDev_mem (v : Dev) : (State.setDev v s).mem = s.mem := (rfl)
@[simp] theorem State.setDev_flt (v : Dev) : (State.setDev v s).flt = s.flt := (rfl)
@[simp] theorem State.setDev_sense (v : Dev) : (State.setDev v s).sense = s.sense := (rfl)
@[simp] theorem State.setDev_pos (v : Dev) : (State.setDev v s).pos = s.pos := (rfl)
@[simp] theorem State.setDev_drive (v : Dev) : (State.setDev v s).drive = s.drive := (rfl)
@[simp] theorem State.setDev_saf (v : Dev) : (State.setDev v s).saf = s.saf := (rfl)
@[simp] theorem State.setDev_grp (v : Dev) : (State.setDev v s).grp = s.grp := (rfl)
@[simp] theorem State.setDev_bst (v : Dev) : (State.setDev v s).bst = s.bst := (rfl)
@[simp] theorem State.setDev_net (v : Dev) : (State.setDev v s).net = s.net := (rfl)
@[simp] theorem State.setDev_bus (v : Dev) : (State.setDev v s).bus = s.bus := (rfl)
@[simp] theorem State.setDev_cfg (v : Dev) : (State.setDev v s).cfg = s.cfg := (rfl)
@[simp] theorem State.setDev_pwr (v : Dev) : (State.setDev v s).pwr = s.pwr := (rfl)
@[simp] theorem State.setRegs_pending (v : Tbl Word) : (State.setRegs v s).pending = s.pending := (rfl)
@[simp] theorem State.setRegs_free (v : Tbl Word) : (State.setRegs v s).free = s.free := (rfl)
@[simp] theorem State.setRegs_dev (v : Tbl Word) : (State.setRegs v s).dev = s.dev := (rfl)
@[simp] theorem State.setRegs_regs (v : Tbl Word) : (State.setRegs v s).regs = v := (rfl)
@[simp] theorem State.setRegs_mem (v : Tbl Word) : (State.setRegs v s).mem = s.mem := (rfl)
@[simp] theorem State.setRegs_flt (v : Tbl Word) : (State.setRegs v s).flt = s.flt := (rfl)
@[simp] theorem State.setRegs_sense (v : Tbl Word) : (State.setRegs v s).sense = s.sense := (rfl)
@[simp] theorem State.setRegs_pos (v : Tbl Word) : (State.setRegs v s).pos = s.pos := (rfl)
@[simp] theorem State.setRegs_drive (v : Tbl Word) : (State.setRegs v s).drive = s.drive := (rfl)
@[simp] theorem State.setRegs_saf (v : Tbl Word) : (State.setRegs v s).saf = s.saf := (rfl)
@[simp] theorem State.setRegs_grp (v : Tbl Word) : (State.setRegs v s).grp = s.grp := (rfl)
@[simp] theorem State.setRegs_bst (v : Tbl Word) : (State.setRegs v s).bst = s.bst := (rfl)
@[simp] theorem State.setRegs_net (v : Tbl Word) : (State.setRegs v s).net = s.net := (rfl)
@[simp] theorem State.setRegs_bus (v : Tbl Word) : (State.setRegs v s).bus = s.bus := (rfl)
@[simp] theorem State.setRegs_cfg (v : Tbl Word) : (State.setRegs v s).cfg = s.cfg := (rfl)
@[simp] theorem State.setRegs_pwr (v : Tbl Word) : (State.setRegs v s).pwr = s.pwr := (rfl)
@[simp] theorem State.setMem_pending (v : Tbl Byte) : (State.setMem v s).pending = s.pending := (rfl)
@[simp] theorem State.setMem_free (v : Tbl Byte) : (State.setMem v s).free = s.free := (rfl)
@[simp] theorem State.setMem_dev (v : Tbl Byte) : (State.setMem v s).dev = s.dev := (rfl)
@[simp] theorem State.setMem_regs (v : Tbl Byte) : (State.setMem v s).regs = s.regs := (rfl)
@[simp] theorem State.setMem_mem (v : Tbl Byte) : (State.setMem v s).mem = v := (rfl)
@[simp] theorem State.setMem_flt (v : Tbl Byte) : (State.setMem v s).flt = s.flt := (rfl)
@[simp] theorem State.setMem_sense (v : Tbl Byte) : (State.setMem v s).sense = s.sense := (rfl)
@[simp] theorem State.setMem_pos (v : Tbl Byte) : (State.setMem v s).pos = s.pos := (rfl)
@[simp] theorem State.setMem_drive (v : Tbl Byte) : (State.setMem v s).drive = s.drive := (rfl)
@[simp] theorem State.setMem_saf (v : Tbl Byte) : (State.setMem v s).saf = s.saf := (rfl)
@[simp] theorem State.setMem_grp (v : Tbl Byte) : (State.setMem v s).grp = s.grp := (rfl)
@[simp] theorem State.setMem_bst (v : Tbl Byte) : (State.setMem v s).bst = s.bst := (rfl)
@[simp] theorem State.setMem_net (v : Tbl Byte) : (State.setMem v s).net = s.net := (rfl)
@[simp] theorem State.setMem_bus (v : Tbl Byte) : (State.setMem v s).bus = s.bus := (rfl)
@[simp] theorem State.setMem_cfg (v : Tbl Byte) : (State.setMem v s).cfg = s.cfg := (rfl)
@[simp] theorem State.setMem_pwr (v : Tbl Byte) : (State.setMem v s).pwr = s.pwr := (rfl)
@[simp] theorem State.setFlt_pending (v : FltLog) : (State.setFlt v s).pending = s.pending := (rfl)
@[simp] theorem State.setFlt_free (v : FltLog) : (State.setFlt v s).free = s.free := (rfl)
@[simp] theorem State.setFlt_dev (v : FltLog) : (State.setFlt v s).dev = s.dev := (rfl)
@[simp] theorem State.setFlt_regs (v : FltLog) : (State.setFlt v s).regs = s.regs := (rfl)
@[simp] theorem State.setFlt_mem (v : FltLog) : (State.setFlt v s).mem = s.mem := (rfl)
@[simp] theorem State.setFlt_flt (v : FltLog) : (State.setFlt v s).flt = v := (rfl)
@[simp] theorem State.setFlt_sense (v : FltLog) : (State.setFlt v s).sense = s.sense := (rfl)
@[simp] theorem State.setFlt_pos (v : FltLog) : (State.setFlt v s).pos = s.pos := (rfl)
@[simp] theorem State.setFlt_drive (v : FltLog) : (State.setFlt v s).drive = s.drive := (rfl)
@[simp] theorem State.setFlt_saf (v : FltLog) : (State.setFlt v s).saf = s.saf := (rfl)
@[simp] theorem State.setFlt_grp (v : FltLog) : (State.setFlt v s).grp = s.grp := (rfl)
@[simp] theorem State.setFlt_bst (v : FltLog) : (State.setFlt v s).bst = s.bst := (rfl)
@[simp] theorem State.setFlt_net (v : FltLog) : (State.setFlt v s).net = s.net := (rfl)
@[simp] theorem State.setFlt_bus (v : FltLog) : (State.setFlt v s).bus = s.bus := (rfl)
@[simp] theorem State.setFlt_cfg (v : FltLog) : (State.setFlt v s).cfg = s.cfg := (rfl)
@[simp] theorem State.setFlt_pwr (v : FltLog) : (State.setFlt v s).pwr = s.pwr := (rfl)
@[simp] theorem State.setSense_pending (v : Sense) : (State.setSense v s).pending = s.pending := (rfl)
@[simp] theorem State.setSense_free (v : Sense) : (State.setSense v s).free = s.free := (rfl)
@[simp] theorem State.setSense_dev (v : Sense) : (State.setSense v s).dev = s.dev := (rfl)
@[simp] theorem State.setSense_regs (v : Sense) : (State.setSense v s).regs = s.regs := (rfl)
@[simp] theorem State.setSense_mem (v : Sense) : (State.setSense v s).mem = s.mem := (rfl)
@[simp] theorem State.setSense_flt (v : Sense) : (State.setSense v s).flt = s.flt := (rfl)
@[simp] theorem State.setSense_sense (v : Sense) : (State.setSense v s).sense = v := (rfl)
@[simp] theorem State.setSense_pos (v : Sense) : (State.setSense v s).pos = s.pos := (rfl)
@[simp] theorem State.setSense_drive (v : Sense) : (State.setSense v s).drive = s.drive := (rfl)
@[simp] theorem State.setSense_saf (v : Sense) : (State.setSense v s).saf = s.saf := (rfl)
@[simp] theorem State.setSense_grp (v : Sense) : (State.setSense v s).grp = s.grp := (rfl)
@[simp] theorem State.setSense_bst (v : Sense) : (State.setSense v s).bst = s.bst := (rfl)
@[simp] theorem State.setSense_net (v : Sense) : (State.setSense v s).net = s.net := (rfl)
@[simp] theorem State.setSense_bus (v : Sense) : (State.setSense v s).bus = s.bus := (rfl)
@[simp] theorem State.setSense_cfg (v : Sense) : (State.setSense v s).cfg = s.cfg := (rfl)
@[simp] theorem State.setSense_pwr (v : Sense) : (State.setSense v s).pwr = s.pwr := (rfl)
@[simp] theorem State.setPos_pending (v : PosBlk) : (State.setPos v s).pending = s.pending := (rfl)
@[simp] theorem State.setPos_free (v : PosBlk) : (State.setPos v s).free = s.free := (rfl)
@[simp] theorem State.setPos_dev (v : PosBlk) : (State.setPos v s).dev = s.dev := (rfl)
@[simp] theorem State.setPos_regs (v : PosBlk) : (State.setPos v s).regs = s.regs := (rfl)
@[simp] theorem State.setPos_mem (v : PosBlk) : (State.setPos v s).mem = s.mem := (rfl)
@[simp] theorem State.setPos_flt (v : PosBlk) : (State.setPos v s).flt = s.flt := (rfl)
@[simp] theorem State.setPos_sense (v : PosBlk) : (State.setPos v s).sense = s.sense := (rfl)
@[simp] theorem State.setPos_pos (v : PosBlk) : (State.setPos v s).pos = v := (rfl)
@[simp] theorem State.setPos_drive (v : PosBlk) : (State.setPos v s).drive = s.drive := (rfl)
@[simp] theorem State.setPos_saf (v : PosBlk) : (State.setPos v s).saf = s.saf := (rfl)
@[simp] theorem State.setPos_grp (v : PosBlk) : (State.setPos v s).grp = s.grp := (rfl)
@[simp] theorem State.setPos_bst (v : PosBlk) : (State.setPos v s).bst = s.bst := (rfl)
@[simp] theorem State.setPos_net (v : PosBlk) : (State.setPos v s).net = s.net := (rfl)
@[simp] theorem State.setPos_bus (v : PosBlk) : (State.setPos v s).bus = s.bus := (rfl)
@[simp] theorem State.setPos_cfg (v : PosBlk) : (State.setPos v s).cfg = s.cfg := (rfl)
@[simp] theorem State.setPos_pwr (v : PosBlk) : (State.setPos v s).pwr = s.pwr := (rfl)
@[simp] theorem State.setDrive_pending (v : Drive) : (State.setDrive v s).pending = s.pending := (rfl)
@[simp] theorem State.setDrive_free (v : Drive) : (State.setDrive v s).free = s.free := (rfl)
@[simp] theorem State.setDrive_dev (v : Drive) : (State.setDrive v s).dev = s.dev := (rfl)
@[simp] theorem State.setDrive_regs (v : Drive) : (State.setDrive v s).regs = s.regs := (rfl)
@[simp] theorem State.setDrive_mem (v : Drive) : (State.setDrive v s).mem = s.mem := (rfl)
@[simp] theorem State.setDrive_flt (v : Drive) : (State.setDrive v s).flt = s.flt := (rfl)
@[simp] theorem State.setDrive_sense (v : Drive) : (State.setDrive v s).sense = s.sense := (rfl)
@[simp] theorem State.setDrive_pos (v : Drive) : (State.setDrive v s).pos = s.pos := (rfl)
@[simp] theorem State.setDrive_drive (v : Drive) : (State.setDrive v s).drive = v := (rfl)
@[simp] theorem State.setDrive_saf (v : Drive) : (State.setDrive v s).saf = s.saf := (rfl)
@[simp] theorem State.setDrive_grp (v : Drive) : (State.setDrive v s).grp = s.grp := (rfl)
@[simp] theorem State.setDrive_bst (v : Drive) : (State.setDrive v s).bst = s.bst := (rfl)
@[simp] theorem State.setDrive_net (v : Drive) : (State.setDrive v s).net = s.net := (rfl)
@[simp] theorem State.setDrive_bus (v : Drive) : (State.setDrive v s).bus = s.bus := (rfl)
@[simp] theorem State.setDrive_cfg (v : Drive) : (State.setDrive v s).cfg = s.cfg := (rfl)
@[simp] theorem State.setDrive_pwr (v : Drive) : (State.setDrive v s).pwr = s.pwr := (rfl)
@[simp] theorem State.setSaf_pending (v : Safety) : (State.setSaf v s).pending = s.pending := (rfl)
@[simp] theorem State.setSaf_free (v : Safety) : (State.setSaf v s).free = s.free := (rfl)
@[simp] theorem State.setSaf_dev (v : Safety) : (State.setSaf v s).dev = s.dev := (rfl)
@[simp] theorem State.setSaf_regs (v : Safety) : (State.setSaf v s).regs = s.regs := (rfl)
@[simp] theorem State.setSaf_mem (v : Safety) : (State.setSaf v s).mem = s.mem := (rfl)
@[simp] theorem State.setSaf_flt (v : Safety) : (State.setSaf v s).flt = s.flt := (rfl)
@[simp] theorem State.setSaf_sense (v : Safety) : (State.setSaf v s).sense = s.sense := (rfl)
@[simp] theorem State.setSaf_pos (v : Safety) : (State.setSaf v s).pos = s.pos := (rfl)
@[simp] theorem State.setSaf_drive (v : Safety) : (State.setSaf v s).drive = s.drive := (rfl)
@[simp] theorem State.setSaf_saf (v : Safety) : (State.setSaf v s).saf = v := (rfl)
@[simp] theorem State.setSaf_grp (v : Safety) : (State.setSaf v s).grp = s.grp := (rfl)
@[simp] theorem State.setSaf_bst (v : Safety) : (State.setSaf v s).bst = s.bst := (rfl)
@[simp] theorem State.setSaf_net (v : Safety) : (State.setSaf v s).net = s.net := (rfl)
@[simp] theorem State.setSaf_bus (v : Safety) : (State.setSaf v s).bus = s.bus := (rfl)
@[simp] theorem State.setSaf_cfg (v : Safety) : (State.setSaf v s).cfg = s.cfg := (rfl)
@[simp] theorem State.setSaf_pwr (v : Safety) : (State.setSaf v s).pwr = s.pwr := (rfl)
@[simp] theorem State.setGrp_pending (v : Grp) : (State.setGrp v s).pending = s.pending := (rfl)
@[simp] theorem State.setGrp_free (v : Grp) : (State.setGrp v s).free = s.free := (rfl)
@[simp] theorem State.setGrp_dev (v : Grp) : (State.setGrp v s).dev = s.dev := (rfl)
@[simp] theorem State.setGrp_regs (v : Grp) : (State.setGrp v s).regs = s.regs := (rfl)
@[simp] theorem State.setGrp_mem (v : Grp) : (State.setGrp v s).mem = s.mem := (rfl)
@[simp] theorem State.setGrp_flt (v : Grp) : (State.setGrp v s).flt = s.flt := (rfl)
@[simp] theorem State.setGrp_sense (v : Grp) : (State.setGrp v s).sense = s.sense := (rfl)
@[simp] theorem State.setGrp_pos (v : Grp) : (State.setGrp v s).pos = s.pos := (rfl)
@[simp] theorem State.setGrp_drive (v : Grp) : (State.setGrp v s).drive = s.drive := (rfl)
@[simp] theorem State.setGrp_saf (v : Grp) : (State.setGrp v s).saf = s.saf := (rfl)
@[simp] theorem State.setGrp_grp (v : Grp) : (State.setGrp v s).grp = v := (rfl)
@[simp] theorem State.setGrp_bst (v : Grp) : (State.setGrp v s).bst = s.bst := (rfl)
@[simp] theorem State.setGrp_net (v : Grp) : (State.setGrp v s).net = s.net := (rfl)
@[simp] theorem State.setGrp_bus (v : Grp) : (State.setGrp v s).bus = s.bus := (rfl)
@[simp] theorem State.setGrp_cfg (v : Grp) : (State.setGrp v s).cfg = s.cfg := (rfl)
@[simp] theorem State.setGrp_pwr (v : Grp) : (State.setGrp v s).pwr = s.pwr := (rfl)
@[simp] theorem State.setBst_pending (v : Cores) : (State.setBst v s).pending = s.pending := (rfl)
@[simp] theorem State.setBst_free (v : Cores) : (State.setBst v s).free = s.free := (rfl)
@[simp] theorem State.setBst_dev (v : Cores) : (State.setBst v s).dev = s.dev := (rfl)
@[simp] theorem State.setBst_regs (v : Cores) : (State.setBst v s).regs = s.regs := (rfl)
@[simp] theorem State.setBst_mem (v : Cores) : (State.setBst v s).mem = s.mem := (rfl)
@[simp] theorem State.setBst_flt (v : Cores) : (State.setBst v s).flt = s.flt := (rfl)
@[simp] theorem State.setBst_sense (v : Cores) : (State.setBst v s).sense = s.sense := (rfl)
@[simp] theorem State.setBst_pos (v : Cores) : (State.setBst v s).pos = s.pos := (rfl)
@[simp] theorem State.setBst_drive (v : Cores) : (State.setBst v s).drive = s.drive := (rfl)
@[simp] theorem State.setBst_saf (v : Cores) : (State.setBst v s).saf = s.saf := (rfl)
@[simp] theorem State.setBst_grp (v : Cores) : (State.setBst v s).grp = s.grp := (rfl)
@[simp] theorem State.setBst_bst (v : Cores) : (State.setBst v s).bst = v := (rfl)
@[simp] theorem State.setBst_net (v : Cores) : (State.setBst v s).net = s.net := (rfl)
@[simp] theorem State.setBst_bus (v : Cores) : (State.setBst v s).bus = s.bus := (rfl)
@[simp] theorem State.setBst_cfg (v : Cores) : (State.setBst v s).cfg = s.cfg := (rfl)
@[simp] theorem State.setBst_pwr (v : Cores) : (State.setBst v s).pwr = s.pwr := (rfl)
@[simp] theorem State.setNet_pending (v : Net) : (State.setNet v s).pending = s.pending := (rfl)
@[simp] theorem State.setNet_free (v : Net) : (State.setNet v s).free = s.free := (rfl)
@[simp] theorem State.setNet_dev (v : Net) : (State.setNet v s).dev = s.dev := (rfl)
@[simp] theorem State.setNet_regs (v : Net) : (State.setNet v s).regs = s.regs := (rfl)
@[simp] theorem State.setNet_mem (v : Net) : (State.setNet v s).mem = s.mem := (rfl)
@[simp] theorem State.setNet_flt (v : Net) : (State.setNet v s).flt = s.flt := (rfl)
@[simp] theorem State.setNet_sense (v : Net) : (State.setNet v s).sense = s.sense := (rfl)
@[simp] theorem State.setNet_pos (v : Net) : (State.setNet v s).pos = s.pos := (rfl)
@[simp] theorem State.setNet_drive (v : Net) : (State.setNet v s).drive = s.drive := (rfl)
@[simp] theorem State.setNet_saf (v : Net) : (State.setNet v s).saf = s.saf := (rfl)
@[simp] theorem State.setNet_grp (v : Net) : (State.setNet v s).grp = s.grp := (rfl)
@[simp] theorem State.setNet_bst (v : Net) : (State.setNet v s).bst = s.bst := (rfl)
@[simp] theorem State.setNet_net (v : Net) : (State.setNet v s).net = v := (rfl)
@[simp] theorem State.setNet_bus (v : Net) : (State.setNet v s).bus = s.bus := (rfl)
@[simp] theorem State.setNet_cfg (v : Net) : (State.setNet v s).cfg = s.cfg := (rfl)
@[simp] theorem State.setNet_pwr (v : Net) : (State.setNet v s).pwr = s.pwr := (rfl)
@[simp] theorem State.setBus_pending (v : Bus) : (State.setBus v s).pending = s.pending := (rfl)
@[simp] theorem State.setBus_free (v : Bus) : (State.setBus v s).free = s.free := (rfl)
@[simp] theorem State.setBus_dev (v : Bus) : (State.setBus v s).dev = s.dev := (rfl)
@[simp] theorem State.setBus_regs (v : Bus) : (State.setBus v s).regs = s.regs := (rfl)
@[simp] theorem State.setBus_mem (v : Bus) : (State.setBus v s).mem = s.mem := (rfl)
@[simp] theorem State.setBus_flt (v : Bus) : (State.setBus v s).flt = s.flt := (rfl)
@[simp] theorem State.setBus_sense (v : Bus) : (State.setBus v s).sense = s.sense := (rfl)
@[simp] theorem State.setBus_pos (v : Bus) : (State.setBus v s).pos = s.pos := (rfl)
@[simp] theorem State.setBus_drive (v : Bus) : (State.setBus v s).drive = s.drive := (rfl)
@[simp] theorem State.setBus_saf (v : Bus) : (State.setBus v s).saf = s.saf := (rfl)
@[simp] theorem State.setBus_grp (v : Bus) : (State.setBus v s).grp = s.grp := (rfl)
@[simp] theorem State.setBus_bst (v : Bus) : (State.setBus v s).bst = s.bst := (rfl)
@[simp] theorem State.setBus_net (v : Bus) : (State.setBus v s).net = s.net := (rfl)
@[simp] theorem State.setBus_bus (v : Bus) : (State.setBus v s).bus = v := (rfl)
@[simp] theorem State.setBus_cfg (v : Bus) : (State.setBus v s).cfg = s.cfg := (rfl)
@[simp] theorem State.setBus_pwr (v : Bus) : (State.setBus v s).pwr = s.pwr := (rfl)
@[simp] theorem State.setCfg_pending (v : Cfg) : (State.setCfg v s).pending = s.pending := (rfl)
@[simp] theorem State.setCfg_free (v : Cfg) : (State.setCfg v s).free = s.free := (rfl)
@[simp] theorem State.setCfg_dev (v : Cfg) : (State.setCfg v s).dev = s.dev := (rfl)
@[simp] theorem State.setCfg_regs (v : Cfg) : (State.setCfg v s).regs = s.regs := (rfl)
@[simp] theorem State.setCfg_mem (v : Cfg) : (State.setCfg v s).mem = s.mem := (rfl)
@[simp] theorem State.setCfg_flt (v : Cfg) : (State.setCfg v s).flt = s.flt := (rfl)
@[simp] theorem State.setCfg_sense (v : Cfg) : (State.setCfg v s).sense = s.sense := (rfl)
@[simp] theorem State.setCfg_pos (v : Cfg) : (State.setCfg v s).pos = s.pos := (rfl)
@[simp] theorem State.setCfg_drive (v : Cfg) : (State.setCfg v s).drive = s.drive := (rfl)
@[simp] theorem State.setCfg_saf (v : Cfg) : (State.setCfg v s).saf = s.saf := (rfl)
@[simp] theorem State.setCfg_grp (v : Cfg) : (State.setCfg v s).grp = s.grp := (rfl)
@[simp] theorem State.setCfg_bst (v : Cfg) : (State.setCfg v s).bst = s.bst := (rfl)
@[simp] theorem State.setCfg_net (v : Cfg) : (State.setCfg v s).net = s.net := (rfl)
@[simp] theorem State.setCfg_bus (v : Cfg) : (State.setCfg v s).bus = s.bus := (rfl)
@[simp] theorem State.setCfg_cfg (v : Cfg) : (State.setCfg v s).cfg = v := (rfl)
@[simp] theorem State.setCfg_pwr (v : Cfg) : (State.setCfg v s).pwr = s.pwr := (rfl)
@[simp] theorem State.setPwr_pending (v : Pwr) : (State.setPwr v s).pending = s.pending := (rfl)
@[simp] theorem State.setPwr_free (v : Pwr) : (State.setPwr v s).free = s.free := (rfl)
@[simp] theorem State.setPwr_dev (v : Pwr) : (State.setPwr v s).dev = s.dev := (rfl)
@[simp] theorem State.setPwr_regs (v : Pwr) : (State.setPwr v s).regs = s.regs := (rfl)
@[simp] theorem State.setPwr_mem (v : Pwr) : (State.setPwr v s).mem = s.mem := (rfl)
@[simp] theorem State.setPwr_flt (v : Pwr) : (State.setPwr v s).flt = s.flt := (rfl)
@[simp] theorem State.setPwr_sense (v : Pwr) : (State.setPwr v s).sense = s.sense := (rfl)
@[simp] theorem State.setPwr_pos (v : Pwr) : (State.setPwr v s).pos = s.pos := (rfl)
@[simp] theorem State.setPwr_drive (v : Pwr) : (State.setPwr v s).drive = s.drive := (rfl)
@[simp] theorem State.setPwr_saf (v : Pwr) : (State.setPwr v s).saf = s.saf := (rfl)
@[simp] theorem State.setPwr_grp (v : Pwr) : (State.setPwr v s).grp = s.grp := (rfl)
@[simp] theorem State.setPwr_bst (v : Pwr) : (State.setPwr v s).bst = s.bst := (rfl)
@[simp] theorem State.setPwr_net (v : Pwr) : (State.setPwr v s).net = s.net := (rfl)
@[simp] theorem State.setPwr_bus (v : Pwr) : (State.setPwr v s).bus = s.bus := (rfl)
@[simp] theorem State.setPwr_cfg (v : Pwr) : (State.setPwr v s).cfg = s.cfg := (rfl)
@[simp] theorem State.setPwr_pwr (v : Pwr) : (State.setPwr v s).pwr = v := (rfl)

end Sys2Proof.Machine
end

