-- ==== Sys2Proof/Laws/Tables.lean ====
section
/-! SUPPORT. Laws of the sparse tables: a read after a write, and that a write keeps the canonical form. -/
namespace Sys2Proof.Machine
variable {α : Type}

theorem tget_tdrop_same (d : Nat → α) (k : Nat) : ∀ t : Tbl α, tget d (tdrop k t) k = d k
  | [] => rfl
  | (j, v) :: t => by
    by_cases h : j = k
    · simp [tdrop, h, tget_tdrop_same d k t]
    · simp [tdrop, tget, h, tget_tdrop_same d k t]

theorem tget_tdrop_other (d : Nat → α) {k i : Nat} (hne : i ≠ k) : ∀ t : Tbl α, tget d (tdrop k t) i = tget d t i
  | [] => rfl
  | (j, v) :: t => by
    by_cases h : j = k
    · have : j ≠ i := fun e => hne (e ▸ h)
      simp [tdrop, h, tget, tget_tdrop_other d hne t, Ne.symm hne]
    · simp [tdrop, tget, h, tget_tdrop_other d hne t]

theorem tget_tins_same (d : Nat → α) (k : Nat) (v : α) : ∀ t : Tbl α, (∀ p ∈ t, p.1 ≠ k) → tget d (tins k v t) k = v
  | [], _ => by simp [tins, tget]
  | (j, w) :: t, hk => by
    have hj : j ≠ k := hk (j, w) (by simp)
    by_cases h : k < j
    · simp [tins, h, tget]
    · simp [tins, h, tget, hj, tget_tins_same d k v t fun p hp => hk p (by simp [hp])]

theorem tget_tins_other (d : Nat → α) {k i : Nat} (v : α) (hne : i ≠ k) : ∀ t : Tbl α, tget d (tins k v t) i = tget d t i
  | [] => by simp [tins, tget, Ne.symm hne]
  | (j, w) :: t => by
    by_cases h : k < j
    · simp [tins, h, tget, Ne.symm hne]
    · simp [tins, h, tget, tget_tins_other d v hne t]

theorem tdrop_free (k : Nat) : ∀ t : Tbl α, ∀ p ∈ tdrop k t, p.1 ≠ k
  | [], p, hp => by simp [tdrop] at hp
  | (j, v) :: t, p, hp => by
    by_cases h : j = k
    · simp only [tdrop, h, if_true] at hp; exact tdrop_free k t p hp
    · simp only [tdrop, h, if_false, List.mem_cons] at hp
      rcases hp with rfl | hp
      · exact h
      · exact tdrop_free k t p hp

/-- A read after a write: the key written reads as the value written, every other key as before. -/
theorem tget_tset [DecidableEq α] (d : Nat → α) (t : Tbl α) (k : Nat) (v : α) (i : Nat) :
    tget d (tset d t k v) i = if i = k then v else tget d t i := by
  unfold tset
  by_cases hv : v = d k <;> by_cases hi : i = k
  · subst hi; simp [hv, tget_tdrop_same]
  · simp [hv, hi, tget_tdrop_other d hi]
  · subst hi; simp [hv, tget_tins_same d i v _ (tdrop_free i t)]
  · simp [hv, hi, tget_tins_other d v hi, tget_tdrop_other d hi]

/-- A canonical table above a bound is canonical above any bound below that one. -/
theorem twf_mono [DecidableEq α] (d : Nat → α) {m : Nat} {t : Tbl α} : ∀ (a : Option Nat), (∀ l, a = some l → l < m) →
    twf d (some m) t = true → twf d a t = true := by
  intro a ha h
  cases t with
  | nil => rfl
  | cons p t =>
    obtain ⟨k, v⟩ := p
    simp only [twf, Bool.and_eq_true, decide_eq_true_eq] at h ⊢
    refine ⟨?_, h.2⟩
    cases a with
    | none => rfl
    | some l => simpa using Nat.lt_trans (ha l rfl) h.1

theorem twf_tdrop [DecidableEq α] (d : Nat → α) (k : Nat) : ∀ (lo : Option Nat) (t : Tbl α), twf d lo t = true → twf d lo (tdrop k t) = true
  | _, [], _ => rfl
  | lo, (j, v) :: t, h => by
    simp only [twf, Bool.and_eq_true] at h
    by_cases hj : j = k
    · simp only [tdrop, hj, if_true]
      refine twf_mono d lo (fun l hl => ?_) (twf_tdrop d k (some j) t h.2.2)
      subst hl
      simpa using h.1
    · simp only [tdrop, hj, if_false, twf, Bool.and_eq_true]
      exact ⟨h.1, h.2.1, twf_tdrop d k (some j) t h.2.2⟩

theorem twf_tins [DecidableEq α] (d : Nat → α) {k : Nat} {v : α} (hv : v ≠ d k) :
    ∀ (lo : Option Nat) (t : Tbl α), (match lo with | none => true | some l => decide (l < k)) = true → (∀ p ∈ t, p.1 ≠ k) →
      twf d lo t = true → twf d lo (tins k v t) = true
  | lo, [], hlo, _, _ => by
    simp only [tins, twf, Bool.and_eq_true]; exact ⟨hlo, by simpa using hv, trivial⟩
  | lo, (j, w) :: t, hlo, hk, h => by
    have hjk : j ≠ k := hk (j, w) (by simp)
    simp only [twf, Bool.and_eq_true] at h
    by_cases hj : k < j
    · simp only [tins, hj, if_true, twf, Bool.and_eq_true]
      exact ⟨hlo, by simpa using hv, by simp, h.2.1, h.2.2⟩
    · simp only [tins, hj, if_false, twf, Bool.and_eq_true]
      exact ⟨h.1, h.2.1, twf_tins d hv (some j) t (by simp; omega) (fun p hp => hk p (by simp [hp])) h.2.2⟩

/-- A write keeps the canonical form. -/
theorem twf_tset [DecidableEq α] (d : Nat → α) (t : Tbl α) (k : Nat) (v : α) (h : twf d none t = true) : twf d none (tset d t k v) = true := by
  unfold tset
  by_cases hv : v = d k
  · simp only [hv, if_true]; exact twf_tdrop d k none t h
  · simp only [hv, if_false]
    exact twf_tins d hv none _ rfl (tdrop_free k t) (twf_tdrop d k none t h)

/-- A write of a list keeps the canonical form. -/
theorem twf_tsetList [DecidableEq α] (d : Nat → α) : ∀ (vs : List α) (t : Tbl α) (k : Nat), twf d none t = true → twf d none (tsetList d t k vs) = true
  | [], _, _, h => h
  | v :: vs, t, k, h => twf_tsetList d vs _ (k + 1) (twf_tset d t k v h)

/-- A write of a list leaves every key outside the keys written as it was. -/
theorem tget_tsetList_other [DecidableEq α] (d : Nat → α) : ∀ (vs : List α) (t : Tbl α) (k i : Nat), i < k ∨ k + vs.length ≤ i →
    tget d (tsetList d t k vs) i = tget d t i
  | [], _, _, _, _ => rfl
  | v :: vs, t, k, i, h => by
    simp only [List.length_cons] at h
    simp only [tsetList]
    rw [tget_tsetList_other d vs _ (k + 1) i (by omega), tget_tset]
    have : i ≠ k := by omega
    simp [this]

/-- What holds at the start and is kept by each application holds at the end. -/
theorem each_ind {σ β : Type} {P : σ → Prop} (f : β → σ → σ) (hf : ∀ x s, P s → P (f x s)) : ∀ (l : List β) (s : σ), P s → P (each f l s)
  | [], _, h => h
  | x :: xs, s, h => each_ind f hf xs (f x s) (hf x s h)

/-- The same for `upto`. -/
theorem upto_ind {σ : Type} {P : σ → Prop} (f : Nat → σ → σ) (hf : ∀ n s, P s → P (f n s)) : ∀ (n : Nat) (s : σ), P s → P (upto f n s)
  | 0, _, h => h
  | n + 1, s, h => hf n _ (upto_ind f hf n s h)

/-- What every application leaves unchanged, `each` leaves unchanged. -/
theorem each_keep {σ β γ : Type} (g : σ → γ) (f : β → σ → σ) (hf : ∀ x s, g (f x s) = g s) (l : List β) (s : σ) : g (each f l s) = g s :=
  each_ind (P := fun t => g t = g s) f (fun x t h => (hf x t).trans h) l s rfl

/-- What every application leaves unchanged, `upto` leaves unchanged. -/
theorem upto_keep {σ γ : Type} (g : σ → γ) (f : Nat → σ → σ) (hf : ∀ n s, g (f n s) = g s) (n : Nat) (s : σ) : g (upto f n s) = g s :=
  upto_ind (P := fun t => g t = g s) f (fun k t h => (hf k t).trans h) n s rfl

end Sys2Proof.Machine
end

