-- ==== Sys2Proof/Laws/Registers.lean ====
section
/-! SUPPORT. Reads after writes of registers, fields and memory bytes. -/
namespace Sys2Proof.Machine
open Sys2Proof

/-! ### Fields of a word -/

theorem getFld_lt (w : Word) (lo n : Nat) : getFld w lo n < 2 ^ n := (w.extractLsb' lo n).isLt

/-- The bits of a word after a field write. -/
theorem putFld_getLsbD (w : Word) (lo n v i : Nat) (hn : n ≤ 32) (hi : i < 32) :
    (putFld w lo n v).getLsbD i = if lo ≤ i ∧ i < lo + n then v.testBit (i - lo) else w.getLsbD i := by
  have hmask : ∀ j, j < 32 → ((1#32 <<< n) - 1#32).getLsbD j = decide (j < n) := by
    intro j hj
    rcases Nat.lt_or_ge n 32 with h | h
    · have e : (1#32 <<< n) - 1#32 = BitVec.ofNat 32 (2 ^ n - 1) := by
        apply BitVec.eq_of_toNat_eq
        have h1 : 2 ^ n < 2 ^ 32 := Nat.pow_lt_pow_right (by omega) h
        have h2 : 0 < 2 ^ n := Nat.two_pow_pos n
        simp only [BitVec.toNat_sub, BitVec.toNat_shiftLeft, BitVec.toNat_ofNat, Nat.shiftLeft_eq]
        omega
      rw [e, BitVec.getLsbD_ofNat]
      simp [hj, Nat.testBit_two_pow_sub_one]
    · have hn : n = 32 := by omega
      subst hn
      have e : (1#32 <<< 32) - 1#32 = BitVec.allOnes 32 := by decide
      rw [e, BitVec.getLsbD_allOnes]
  simp only [putFld, BitVec.getLsbD_or, BitVec.getLsbD_and, BitVec.getLsbD_not, BitVec.getLsbD_shiftLeft, BitVec.getLsbD_ofNat, hi,
    decide_true, Bool.true_and]
  by_cases hlo : i < lo
  · have : ¬ lo ≤ i := by omega
    simp [hlo, this]
  · rw [hmask _ (by omega)]
    by_cases hh : i < lo + n
    · have h1 : i - lo < n := by omega
      have h2 : lo ≤ i := by omega
      simp [hlo, hh, h1, h2]; omega
    · have h1 : ¬ i - lo < n := by omega
      simp [hlo, hh, h1]

/-- A field read after it was written holds the low bits of the number. -/
theorem getFld_putFld_same (w : Word) (lo n v : Nat) (h : lo + n ≤ 32) : getFld (putFld w lo n v) lo n = v % 2 ^ n := by
  apply Nat.eq_of_testBit_eq
  intro i
  simp only [getFld, BitVec.testBit_toNat, BitVec.getLsbD_extractLsb', Nat.testBit_mod_two_pow]
  by_cases hi : i < n
  · rw [putFld_getLsbD _ _ _ _ _ (by omega) (by omega)]
    have h1 : lo ≤ lo + i ∧ lo + i < lo + n := by omega
    simp [hi]
  · simp [hi]

/-- A field that a write does not overlap keeps its number. -/
theorem getFld_putFld_other (w : Word) (lo n v lo' n' : Nat) (h : lo + n ≤ 32) (h' : lo' + n' ≤ 32) (hd : lo + n ≤ lo' ∨ lo' + n' ≤ lo) :
    getFld (putFld w lo n v) lo' n' = getFld w lo' n' := by
  apply Nat.eq_of_testBit_eq
  intro i
  simp only [getFld, BitVec.testBit_toNat, BitVec.getLsbD_extractLsb']
  by_cases hi : i < n'
  · rw [putFld_getLsbD _ _ _ _ _ (by omega) (by omega)]
    have : ¬ (lo ≤ lo' + i ∧ lo' + i < lo + n) := by omega
    simp [this]
  · simp [hi]

/-! ### Registers -/

/-- A register read after a register write. -/
theorem reg_setReg (s : State) (o : Nat) (w : Word) (p : Nat) : (s.setReg o w).reg p = if p = o then w else s.reg p := by
  simp [State.reg, State.setReg, State.setRegs, tget_tset]

theorem reg_wr_other (s : State) (f : Fld) (v p : Nat) (h : p ≠ f.off) : (wr f v s).reg p = s.reg p := by
  simp [wr, reg_setReg, h]

/-- A field read after it was written. -/
theorem rd_wr_same (s : State) (f : Fld) (v : Nat) (h : f.lo + f.w ≤ 32) : rd (wr f v s) f = v % 2 ^ f.w := by
  simp [rd, wr, reg_setReg, getFld_putFld_same _ _ _ _ h]

/-- A field of another register is not touched by a field write. -/
theorem rd_wr_off (s : State) (f g : Fld) (v : Nat) (h : g.off ≠ f.off) : rd (wr f v s) g = rd s g := by
  simp [rd, reg_wr_other _ _ _ _ h]

/-- A field of the same register that does not overlap is not touched by a field write. -/
theorem rd_wr_disj (s : State) (f g : Fld) (v : Nat) (hf : f.lo + f.w ≤ 32) (hg : g.lo + g.w ≤ 32)
    (h : f.lo + f.w ≤ g.lo ∨ g.lo + g.w ≤ f.lo) : rd (wr f v s) g = rd s g := by
  by_cases ho : g.off = f.off
  · simp [rd, wr, reg_setReg, ho, getFld_putFld_other _ _ _ _ _ _ hf hg h]
  · exact rd_wr_off s f g v ho

theorem rd_lt (s : State) (f : Fld) : rd s f < 2 ^ f.w := getFld_lt _ _ _

/-! ### What a register write leaves alone -/

@[simp] theorem wr_pending (f : Fld) (v : Nat) (s : State) : (wr f v s).pending = s.pending := (rfl)
@[simp] theorem wr_free (f : Fld) (v : Nat) (s : State) : (wr f v s).free = s.free := (rfl)
@[simp] theorem wr_dev (f : Fld) (v : Nat) (s : State) : (wr f v s).dev = s.dev := (rfl)
@[simp] theorem wr_mem (f : Fld) (v : Nat) (s : State) : (wr f v s).mem = s.mem := (rfl)
@[simp] theorem wr_flt (f : Fld) (v : Nat) (s : State) : (wr f v s).flt = s.flt := (rfl)
@[simp] theorem wr_sense (f : Fld) (v : Nat) (s : State) : (wr f v s).sense = s.sense := (rfl)
@[simp] theorem wr_pos (f : Fld) (v : Nat) (s : State) : (wr f v s).pos = s.pos := (rfl)
@[simp] theorem wr_drive (f : Fld) (v : Nat) (s : State) : (wr f v s).drive = s.drive := (rfl)
@[simp] theorem wr_saf (f : Fld) (v : Nat) (s : State) : (wr f v s).saf = s.saf := (rfl)
@[simp] theorem wr_grp (f : Fld) (v : Nat) (s : State) : (wr f v s).grp = s.grp := (rfl)
@[simp] theorem wr_bst (f : Fld) (v : Nat) (s : State) : (wr f v s).bst = s.bst := (rfl)
@[simp] theorem wr_net (f : Fld) (v : Nat) (s : State) : (wr f v s).net = s.net := (rfl)
@[simp] theorem wr_bus (f : Fld) (v : Nat) (s : State) : (wr f v s).bus = s.bus := (rfl)
@[simp] theorem wr_cfg (f : Fld) (v : Nat) (s : State) : (wr f v s).cfg = s.cfg := (rfl)
@[simp] theorem wr_pwr (f : Fld) (v : Nat) (s : State) : (wr f v s).pwr = s.pwr := (rfl)

/-! ### The canonical forms -/

/-- A register write keeps the canonical form of the registers. -/
theorem regs_wf_setReg (s : State) (o : Nat) (w : Word) (h : twf regReset none s.regs = true) : twf regReset none (s.setReg o w).regs = true :=
  twf_tset _ _ _ _ h

/-- A field write keeps the canonical form of the registers. -/
theorem regs_wf_wr (s : State) (f : Fld) (v : Nat) (h : twf regReset none s.regs = true) : twf regReset none (wr f v s).regs = true :=
  twf_tset _ _ _ _ h

/-! ### Memory -/

/-- A byte outside the bytes written reads as before. -/
theorem rdB_wrBytes_other (s : State) (a : Nat) (bs : List Byte) (i : Nat) (h : i < a ∨ a + bs.length ≤ i) : rdB (wrBytes a bs s) i = rdB s i := by
  simp [rdB, wrBytes, State.setMem, tget_tsetList_other _ _ _ _ _ h]

/-- A memory write keeps the canonical form of memory. -/
theorem mem_wf_wrBytes (s : State) (a : Nat) (bs : List Byte) (h : twf memReset none s.mem = true) : twf memReset none (wrBytes a bs s).mem = true :=
  twf_tsetList _ _ _ _ h

theorem leBytes_length : ∀ n v : Nat, (leBytes n v).length = n
  | 0, _ => rfl
  | n + 1, v => by simp [leBytes, leBytes_length n]

end Sys2Proof.Machine
end

