-- ==== Sys2Proof/Laws/Operations.lean ====
section
/-! SUPPORT. What each shared operation can do: the fields of State it leaves alone, the registers it can write, and records read after
they are changed. -/
namespace Sys2Proof.Machine
open Sys2Proof

/-! ### Writes of fields and of memory -/

@[simp] theorem setReg_pending (o : Nat) (w : Word) (s : State) : (s.setReg o w).pending = s.pending := (rfl)
@[simp] theorem setReg_free (o : Nat) (w : Word) (s : State) : (s.setReg o w).free = s.free := (rfl)
@[simp] theorem setReg_dev (o : Nat) (w : Word) (s : State) : (s.setReg o w).dev = s.dev := (rfl)
@[simp] theorem setReg_mem (o : Nat) (w : Word) (s : State) : (s.setReg o w).mem = s.mem := (rfl)
@[simp] theorem setReg_flt (o : Nat) (w : Word) (s : State) : (s.setReg o w).flt = s.flt := (rfl)
@[simp] theorem setReg_sense (o : Nat) (w : Word) (s : State) : (s.setReg o w).sense = s.sense := (rfl)
@[simp] theorem setReg_pos (o : Nat) (w : Word) (s : State) : (s.setReg o w).pos = s.pos := (rfl)
@[simp] theorem setReg_drive (o : Nat) (w : Word) (s : State) : (s.setReg o w).drive = s.drive := (rfl)
@[simp] theorem setReg_saf (o : Nat) (w : Word) (s : State) : (s.setReg o w).saf = s.saf := (rfl)
@[simp] theorem setReg_grp (o : Nat) (w : Word) (s : State) : (s.setReg o w).grp = s.grp := (rfl)
@[simp] theorem setReg_bst (o : Nat) (w : Word) (s : State) : (s.setReg o w).bst = s.bst := (rfl)
@[simp] theorem setReg_net (o : Nat) (w : Word) (s : State) : (s.setReg o w).net = s.net := (rfl)
@[simp] theorem setReg_bus (o : Nat) (w : Word) (s : State) : (s.setReg o w).bus = s.bus := (rfl)
@[simp] theorem setReg_cfg (o : Nat) (w : Word) (s : State) : (s.setReg o w).cfg = s.cfg := (rfl)
@[simp] theorem setReg_pwr (o : Nat) (w : Word) (s : State) : (s.setReg o w).pwr = s.pwr := (rfl)

@[simp] theorem wrI_pending (f : Fld) (v : Int) (s : State) : (wrI f v s).pending = s.pending := (rfl)
@[simp] theorem wrI_free (f : Fld) (v : Int) (s : State) : (wrI f v s).free = s.free := (rfl)
@[simp] theorem wrI_dev (f : Fld) (v : Int) (s : State) : (wrI f v s).dev = s.dev := (rfl)
@[simp] theorem wrI_mem (f : Fld) (v : Int) (s : State) : (wrI f v s).mem = s.mem := (rfl)
@[simp] theorem wrI_flt (f : Fld) (v : Int) (s : State) : (wrI f v s).flt = s.flt := (rfl)
@[simp] theorem wrI_sense (f : Fld) (v : Int) (s : State) : (wrI f v s).sense = s.sense := (rfl)
@[simp] theorem wrI_pos (f : Fld) (v : Int) (s : State) : (wrI f v s).pos = s.pos := (rfl)
@[simp] theorem wrI_drive (f : Fld) (v : Int) (s : State) : (wrI f v s).drive = s.drive := (rfl)
@[simp] theorem wrI_saf (f : Fld) (v : Int) (s : State) : (wrI f v s).saf = s.saf := (rfl)
@[simp] theorem wrI_grp (f : Fld) (v : Int) (s : State) : (wrI f v s).grp = s.grp := (rfl)
@[simp] theorem wrI_bst (f : Fld) (v : Int) (s : State) : (wrI f v s).bst = s.bst := (rfl)
@[simp] theorem wrI_net (f : Fld) (v : Int) (s : State) : (wrI f v s).net = s.net := (rfl)
@[simp] theorem wrI_bus (f : Fld) (v : Int) (s : State) : (wrI f v s).bus = s.bus := (rfl)
@[simp] theorem wrI_cfg (f : Fld) (v : Int) (s : State) : (wrI f v s).cfg = s.cfg := (rfl)
@[simp] theorem wrI_pwr (f : Fld) (v : Int) (s : State) : (wrI f v s).pwr = s.pwr := (rfl)

@[simp] theorem wrW_pending (f : Fld) (v : Word) (s : State) : (wrW f v s).pending = s.pending := (rfl)
@[simp] theorem wrW_free (f : Fld) (v : Word) (s : State) : (wrW f v s).free = s.free := (rfl)
@[simp] theorem wrW_dev (f : Fld) (v : Word) (s : State) : (wrW f v s).dev = s.dev := (rfl)
@[simp] theorem wrW_mem (f : Fld) (v : Word) (s : State) : (wrW f v s).mem = s.mem := (rfl)
@[simp] theorem wrW_flt (f : Fld) (v : Word) (s : State) : (wrW f v s).flt = s.flt := (rfl)
@[simp] theorem wrW_sense (f : Fld) (v : Word) (s : State) : (wrW f v s).sense = s.sense := (rfl)
@[simp] theorem wrW_pos (f : Fld) (v : Word) (s : State) : (wrW f v s).pos = s.pos := (rfl)
@[simp] theorem wrW_drive (f : Fld) (v : Word) (s : State) : (wrW f v s).drive = s.drive := (rfl)
@[simp] theorem wrW_saf (f : Fld) (v : Word) (s : State) : (wrW f v s).saf = s.saf := (rfl)
@[simp] theorem wrW_grp (f : Fld) (v : Word) (s : State) : (wrW f v s).grp = s.grp := (rfl)
@[simp] theorem wrW_bst (f : Fld) (v : Word) (s : State) : (wrW f v s).bst = s.bst := (rfl)
@[simp] theorem wrW_net (f : Fld) (v : Word) (s : State) : (wrW f v s).net = s.net := (rfl)
@[simp] theorem wrW_bus (f : Fld) (v : Word) (s : State) : (wrW f v s).bus = s.bus := (rfl)
@[simp] theorem wrW_cfg (f : Fld) (v : Word) (s : State) : (wrW f v s).cfg = s.cfg := (rfl)
@[simp] theorem wrW_pwr (f : Fld) (v : Word) (s : State) : (wrW f v s).pwr = s.pwr := (rfl)

@[simp] theorem wrB_pending (f : Fld) (b : Bool) (s : State) : (wrB f b s).pending = s.pending := (rfl)
@[simp] theorem wrB_free (f : Fld) (b : Bool) (s : State) : (wrB f b s).free = s.free := (rfl)
@[simp] theorem wrB_dev (f : Fld) (b : Bool) (s : State) : (wrB f b s).dev = s.dev := (rfl)
@[simp] theorem wrB_mem (f : Fld) (b : Bool) (s : State) : (wrB f b s).mem = s.mem := (rfl)
@[simp] theorem wrB_flt (f : Fld) (b : Bool) (s : State) : (wrB f b s).flt = s.flt := (rfl)
@[simp] theorem wrB_sense (f : Fld) (b : Bool) (s : State) : (wrB f b s).sense = s.sense := (rfl)
@[simp] theorem wrB_pos (f : Fld) (b : Bool) (s : State) : (wrB f b s).pos = s.pos := (rfl)
@[simp] theorem wrB_drive (f : Fld) (b : Bool) (s : State) : (wrB f b s).drive = s.drive := (rfl)
@[simp] theorem wrB_saf (f : Fld) (b : Bool) (s : State) : (wrB f b s).saf = s.saf := (rfl)
@[simp] theorem wrB_grp (f : Fld) (b : Bool) (s : State) : (wrB f b s).grp = s.grp := (rfl)
@[simp] theorem wrB_bst (f : Fld) (b : Bool) (s : State) : (wrB f b s).bst = s.bst := (rfl)
@[simp] theorem wrB_net (f : Fld) (b : Bool) (s : State) : (wrB f b s).net = s.net := (rfl)
@[simp] theorem wrB_bus (f : Fld) (b : Bool) (s : State) : (wrB f b s).bus = s.bus := (rfl)
@[simp] theorem wrB_cfg (f : Fld) (b : Bool) (s : State) : (wrB f b s).cfg = s.cfg := (rfl)
@[simp] theorem wrB_pwr (f : Fld) (b : Bool) (s : State) : (wrB f b s).pwr = s.pwr := (rfl)

@[simp] theorem bumpSat_pending (f : Fld) (s : State) : (bumpSat f s).pending = s.pending := (rfl)
@[simp] theorem bumpSat_free (f : Fld) (s : State) : (bumpSat f s).free = s.free := (rfl)
@[simp] theorem bumpSat_dev (f : Fld) (s : State) : (bumpSat f s).dev = s.dev := (rfl)
@[simp] theorem bumpSat_mem (f : Fld) (s : State) : (bumpSat f s).mem = s.mem := (rfl)
@[simp] theorem bumpSat_flt (f : Fld) (s : State) : (bumpSat f s).flt = s.flt := (rfl)
@[simp] theorem bumpSat_sense (f : Fld) (s : State) : (bumpSat f s).sense = s.sense := (rfl)
@[simp] theorem bumpSat_pos (f : Fld) (s : State) : (bumpSat f s).pos = s.pos := (rfl)
@[simp] theorem bumpSat_drive (f : Fld) (s : State) : (bumpSat f s).drive = s.drive := (rfl)
@[simp] theorem bumpSat_saf (f : Fld) (s : State) : (bumpSat f s).saf = s.saf := (rfl)
@[simp] theorem bumpSat_grp (f : Fld) (s : State) : (bumpSat f s).grp = s.grp := (rfl)
@[simp] theorem bumpSat_bst (f : Fld) (s : State) : (bumpSat f s).bst = s.bst := (rfl)
@[simp] theorem bumpSat_net (f : Fld) (s : State) : (bumpSat f s).net = s.net := (rfl)
@[simp] theorem bumpSat_bus (f : Fld) (s : State) : (bumpSat f s).bus = s.bus := (rfl)
@[simp] theorem bumpSat_cfg (f : Fld) (s : State) : (bumpSat f s).cfg = s.cfg := (rfl)
@[simp] theorem bumpSat_pwr (f : Fld) (s : State) : (bumpSat f s).pwr = s.pwr := (rfl)

@[simp] theorem bumpWrap_pending (f : Fld) (s : State) : (bumpWrap f s).pending = s.pending := (rfl)
@[simp] theorem bumpWrap_free (f : Fld) (s : State) : (bumpWrap f s).free = s.free := (rfl)
@[simp] theorem bumpWrap_dev (f : Fld) (s : State) : (bumpWrap f s).dev = s.dev := (rfl)
@[simp] theorem bumpWrap_mem (f : Fld) (s : State) : (bumpWrap f s).mem = s.mem := (rfl)
@[simp] theorem bumpWrap_flt (f : Fld) (s : State) : (bumpWrap f s).flt = s.flt := (rfl)
@[simp] theorem bumpWrap_sense (f : Fld) (s : State) : (bumpWrap f s).sense = s.sense := (rfl)
@[simp] theorem bumpWrap_pos (f : Fld) (s : State) : (bumpWrap f s).pos = s.pos := (rfl)
@[simp] theorem bumpWrap_drive (f : Fld) (s : State) : (bumpWrap f s).drive = s.drive := (rfl)
@[simp] theorem bumpWrap_saf (f : Fld) (s : State) : (bumpWrap f s).saf = s.saf := (rfl)
@[simp] theorem bumpWrap_grp (f : Fld) (s : State) : (bumpWrap f s).grp = s.grp := (rfl)
@[simp] theorem bumpWrap_bst (f : Fld) (s : State) : (bumpWrap f s).bst = s.bst := (rfl)
@[simp] theorem bumpWrap_net (f : Fld) (s : State) : (bumpWrap f s).net = s.net := (rfl)
@[simp] theorem bumpWrap_bus (f : Fld) (s : State) : (bumpWrap f s).bus = s.bus := (rfl)
@[simp] theorem bumpWrap_cfg (f : Fld) (s : State) : (bumpWrap f s).cfg = s.cfg := (rfl)
@[simp] theorem bumpWrap_pwr (f : Fld) (s : State) : (bumpWrap f s).pwr = s.pwr := (rfl)

@[simp] theorem wrBit_pending (f : Fld) (i : Nat) (b : Bool) (s : State) : (wrBit f i b s).pending = s.pending := (rfl)
@[simp] theorem wrBit_free (f : Fld) (i : Nat) (b : Bool) (s : State) : (wrBit f i b s).free = s.free := (rfl)
@[simp] theorem wrBit_dev (f : Fld) (i : Nat) (b : Bool) (s : State) : (wrBit f i b s).dev = s.dev := (rfl)
@[simp] theorem wrBit_mem (f : Fld) (i : Nat) (b : Bool) (s : State) : (wrBit f i b s).mem = s.mem := (rfl)
@[simp] theorem wrBit_flt (f : Fld) (i : Nat) (b : Bool) (s : State) : (wrBit f i b s).flt = s.flt := (rfl)
@[simp] theorem wrBit_sense (f : Fld) (i : Nat) (b : Bool) (s : State) : (wrBit f i b s).sense = s.sense := (rfl)
@[simp] theorem wrBit_pos (f : Fld) (i : Nat) (b : Bool) (s : State) : (wrBit f i b s).pos = s.pos := (rfl)
@[simp] theorem wrBit_drive (f : Fld) (i : Nat) (b : Bool) (s : State) : (wrBit f i b s).drive = s.drive := (rfl)
@[simp] theorem wrBit_saf (f : Fld) (i : Nat) (b : Bool) (s : State) : (wrBit f i b s).saf = s.saf := (rfl)
@[simp] theorem wrBit_grp (f : Fld) (i : Nat) (b : Bool) (s : State) : (wrBit f i b s).grp = s.grp := (rfl)
@[simp] theorem wrBit_bst (f : Fld) (i : Nat) (b : Bool) (s : State) : (wrBit f i b s).bst = s.bst := (rfl)
@[simp] theorem wrBit_net (f : Fld) (i : Nat) (b : Bool) (s : State) : (wrBit f i b s).net = s.net := (rfl)
@[simp] theorem wrBit_bus (f : Fld) (i : Nat) (b : Bool) (s : State) : (wrBit f i b s).bus = s.bus := (rfl)
@[simp] theorem wrBit_cfg (f : Fld) (i : Nat) (b : Bool) (s : State) : (wrBit f i b s).cfg = s.cfg := (rfl)
@[simp] theorem wrBit_pwr (f : Fld) (i : Nat) (b : Bool) (s : State) : (wrBit f i b s).pwr = s.pwr := (rfl)

@[simp] theorem faultN_pending  (s : State) : (faultN s).pending = s.pending := (rfl)
@[simp] theorem faultN_free  (s : State) : (faultN s).free = s.free := (rfl)
@[simp] theorem faultN_dev  (s : State) : (faultN s).dev = s.dev := (rfl)
@[simp] theorem faultN_mem  (s : State) : (faultN s).mem = s.mem := (rfl)
@[simp] theorem faultN_flt  (s : State) : (faultN s).flt = s.flt := (rfl)
@[simp] theorem faultN_sense  (s : State) : (faultN s).sense = s.sense := (rfl)
@[simp] theorem faultN_pos  (s : State) : (faultN s).pos = s.pos := (rfl)
@[simp] theorem faultN_drive  (s : State) : (faultN s).drive = s.drive := (rfl)
@[simp] theorem faultN_saf  (s : State) : (faultN s).saf = s.saf := (rfl)
@[simp] theorem faultN_grp  (s : State) : (faultN s).grp = s.grp := (rfl)
@[simp] theorem faultN_bst  (s : State) : (faultN s).bst = s.bst := (rfl)
@[simp] theorem faultN_net  (s : State) : (faultN s).net = s.net := (rfl)
@[simp] theorem faultN_bus  (s : State) : (faultN s).bus = s.bus := (rfl)
@[simp] theorem faultN_cfg  (s : State) : (faultN s).cfg = s.cfg := (rfl)
@[simp] theorem faultN_pwr  (s : State) : (faultN s).pwr = s.pwr := (rfl)

@[simp] theorem wrBytes_pending (a : Nat) (bs : List Byte) (s : State) : (wrBytes a bs s).pending = s.pending := (rfl)
@[simp] theorem wrBytes_free (a : Nat) (bs : List Byte) (s : State) : (wrBytes a bs s).free = s.free := (rfl)
@[simp] theorem wrBytes_dev (a : Nat) (bs : List Byte) (s : State) : (wrBytes a bs s).dev = s.dev := (rfl)
@[simp] theorem wrBytes_regs (a : Nat) (bs : List Byte) (s : State) : (wrBytes a bs s).regs = s.regs := (rfl)
@[simp] theorem wrBytes_flt (a : Nat) (bs : List Byte) (s : State) : (wrBytes a bs s).flt = s.flt := (rfl)
@[simp] theorem wrBytes_sense (a : Nat) (bs : List Byte) (s : State) : (wrBytes a bs s).sense = s.sense := (rfl)
@[simp] theorem wrBytes_pos (a : Nat) (bs : List Byte) (s : State) : (wrBytes a bs s).pos = s.pos := (rfl)
@[simp] theorem wrBytes_drive (a : Nat) (bs : List Byte) (s : State) : (wrBytes a bs s).drive = s.drive := (rfl)
@[simp] theorem wrBytes_saf (a : Nat) (bs : List Byte) (s : State) : (wrBytes a bs s).saf = s.saf := (rfl)
@[simp] theorem wrBytes_grp (a : Nat) (bs : List Byte) (s : State) : (wrBytes a bs s).grp = s.grp := (rfl)
@[simp] theorem wrBytes_bst (a : Nat) (bs : List Byte) (s : State) : (wrBytes a bs s).bst = s.bst := (rfl)
@[simp] theorem wrBytes_net (a : Nat) (bs : List Byte) (s : State) : (wrBytes a bs s).net = s.net := (rfl)
@[simp] theorem wrBytes_bus (a : Nat) (bs : List Byte) (s : State) : (wrBytes a bs s).bus = s.bus := (rfl)
@[simp] theorem wrBytes_cfg (a : Nat) (bs : List Byte) (s : State) : (wrBytes a bs s).cfg = s.cfg := (rfl)
@[simp] theorem wrBytes_pwr (a : Nat) (bs : List Byte) (s : State) : (wrBytes a bs s).pwr = s.pwr := (rfl)

@[simp] theorem wr32_pending (a : Nat) (v : Word) (s : State) : (wr32 a v s).pending = s.pending := (rfl)
@[simp] theorem wr32_free (a : Nat) (v : Word) (s : State) : (wr32 a v s).free = s.free := (rfl)
@[simp] theorem wr32_dev (a : Nat) (v : Word) (s : State) : (wr32 a v s).dev = s.dev := (rfl)
@[simp] theorem wr32_regs (a : Nat) (v : Word) (s : State) : (wr32 a v s).regs = s.regs := (rfl)
@[simp] theorem wr32_flt (a : Nat) (v : Word) (s : State) : (wr32 a v s).flt = s.flt := (rfl)
@[simp] theorem wr32_sense (a : Nat) (v : Word) (s : State) : (wr32 a v s).sense = s.sense := (rfl)
@[simp] theorem wr32_pos (a : Nat) (v : Word) (s : State) : (wr32 a v s).pos = s.pos := (rfl)
@[simp] theorem wr32_drive (a : Nat) (v : Word) (s : State) : (wr32 a v s).drive = s.drive := (rfl)
@[simp] theorem wr32_saf (a : Nat) (v : Word) (s : State) : (wr32 a v s).saf = s.saf := (rfl)
@[simp] theorem wr32_grp (a : Nat) (v : Word) (s : State) : (wr32 a v s).grp = s.grp := (rfl)
@[simp] theorem wr32_bst (a : Nat) (v : Word) (s : State) : (wr32 a v s).bst = s.bst := (rfl)
@[simp] theorem wr32_net (a : Nat) (v : Word) (s : State) : (wr32 a v s).net = s.net := (rfl)
@[simp] theorem wr32_bus (a : Nat) (v : Word) (s : State) : (wr32 a v s).bus = s.bus := (rfl)
@[simp] theorem wr32_cfg (a : Nat) (v : Word) (s : State) : (wr32 a v s).cfg = s.cfg := (rfl)
@[simp] theorem wr32_pwr (a : Nat) (v : Word) (s : State) : (wr32 a v s).pwr = s.pwr := (rfl)

@[simp] theorem draw_pending (w : Nat) (s : State) : (draw w s).2.pending = s.pending := (rfl)
@[simp] theorem draw_dev (w : Nat) (s : State) : (draw w s).2.dev = s.dev := (rfl)
@[simp] theorem draw_regs (w : Nat) (s : State) : (draw w s).2.regs = s.regs := (rfl)
@[simp] theorem draw_mem (w : Nat) (s : State) : (draw w s).2.mem = s.mem := (rfl)
@[simp] theorem draw_flt (w : Nat) (s : State) : (draw w s).2.flt = s.flt := (rfl)
@[simp] theorem draw_sense (w : Nat) (s : State) : (draw w s).2.sense = s.sense := (rfl)
@[simp] theorem draw_pos (w : Nat) (s : State) : (draw w s).2.pos = s.pos := (rfl)
@[simp] theorem draw_drive (w : Nat) (s : State) : (draw w s).2.drive = s.drive := (rfl)
@[simp] theorem draw_saf (w : Nat) (s : State) : (draw w s).2.saf = s.saf := (rfl)
@[simp] theorem draw_grp (w : Nat) (s : State) : (draw w s).2.grp = s.grp := (rfl)
@[simp] theorem draw_bst (w : Nat) (s : State) : (draw w s).2.bst = s.bst := (rfl)
@[simp] theorem draw_net (w : Nat) (s : State) : (draw w s).2.net = s.net := (rfl)
@[simp] theorem draw_bus (w : Nat) (s : State) : (draw w s).2.bus = s.bus := (rfl)
@[simp] theorem draw_cfg (w : Nat) (s : State) : (draw w s).2.cfg = s.cfg := (rfl)
@[simp] theorem draw_pwr (w : Nat) (s : State) : (draw w s).2.pwr = s.pwr := (rfl)

/-! ### Updates of one record -/

@[simp] theorem modAx_pending (n : Nat) (f : Axis → Axis) (s : State) : (modAx n f s).pending = s.pending := (rfl)
@[simp] theorem modAx_free (n : Nat) (f : Axis → Axis) (s : State) : (modAx n f s).free = s.free := (rfl)
@[simp] theorem modAx_dev (n : Nat) (f : Axis → Axis) (s : State) : (modAx n f s).dev = s.dev := (rfl)
@[simp] theorem modAx_regs (n : Nat) (f : Axis → Axis) (s : State) : (modAx n f s).regs = s.regs := (rfl)
@[simp] theorem modAx_mem (n : Nat) (f : Axis → Axis) (s : State) : (modAx n f s).mem = s.mem := (rfl)
@[simp] theorem modAx_flt (n : Nat) (f : Axis → Axis) (s : State) : (modAx n f s).flt = s.flt := (rfl)
@[simp] theorem modAx_sense (n : Nat) (f : Axis → Axis) (s : State) : (modAx n f s).sense = s.sense := (rfl)
@[simp] theorem modAx_pos (n : Nat) (f : Axis → Axis) (s : State) : (modAx n f s).pos = s.pos := (rfl)
@[simp] theorem modAx_saf (n : Nat) (f : Axis → Axis) (s : State) : (modAx n f s).saf = s.saf := (rfl)
@[simp] theorem modAx_grp (n : Nat) (f : Axis → Axis) (s : State) : (modAx n f s).grp = s.grp := (rfl)
@[simp] theorem modAx_bst (n : Nat) (f : Axis → Axis) (s : State) : (modAx n f s).bst = s.bst := (rfl)
@[simp] theorem modAx_net (n : Nat) (f : Axis → Axis) (s : State) : (modAx n f s).net = s.net := (rfl)
@[simp] theorem modAx_bus (n : Nat) (f : Axis → Axis) (s : State) : (modAx n f s).bus = s.bus := (rfl)
@[simp] theorem modAx_cfg (n : Nat) (f : Axis → Axis) (s : State) : (modAx n f s).cfg = s.cfg := (rfl)
@[simp] theorem modAx_pwr (n : Nat) (f : Axis → Axis) (s : State) : (modAx n f s).pwr = s.pwr := (rfl)

/-- A record of this kind read after one is changed. -/
theorem ax_modAx (n i : Nat) (f : Axis → Axis) (s : State) : (modAx n f s).ax i = if i = n then f (s.ax n) else s.ax i :=
  tget_tset _ _ _ _ _

@[simp] theorem modLeg_pending (n : Nat) (f : Leg → Leg) (s : State) : (modLeg n f s).pending = s.pending := (rfl)
@[simp] theorem modLeg_free (n : Nat) (f : Leg → Leg) (s : State) : (modLeg n f s).free = s.free := (rfl)
@[simp] theorem modLeg_dev (n : Nat) (f : Leg → Leg) (s : State) : (modLeg n f s).dev = s.dev := (rfl)
@[simp] theorem modLeg_regs (n : Nat) (f : Leg → Leg) (s : State) : (modLeg n f s).regs = s.regs := (rfl)
@[simp] theorem modLeg_mem (n : Nat) (f : Leg → Leg) (s : State) : (modLeg n f s).mem = s.mem := (rfl)
@[simp] theorem modLeg_flt (n : Nat) (f : Leg → Leg) (s : State) : (modLeg n f s).flt = s.flt := (rfl)
@[simp] theorem modLeg_sense (n : Nat) (f : Leg → Leg) (s : State) : (modLeg n f s).sense = s.sense := (rfl)
@[simp] theorem modLeg_pos (n : Nat) (f : Leg → Leg) (s : State) : (modLeg n f s).pos = s.pos := (rfl)
@[simp] theorem modLeg_saf (n : Nat) (f : Leg → Leg) (s : State) : (modLeg n f s).saf = s.saf := (rfl)
@[simp] theorem modLeg_grp (n : Nat) (f : Leg → Leg) (s : State) : (modLeg n f s).grp = s.grp := (rfl)
@[simp] theorem modLeg_bst (n : Nat) (f : Leg → Leg) (s : State) : (modLeg n f s).bst = s.bst := (rfl)
@[simp] theorem modLeg_net (n : Nat) (f : Leg → Leg) (s : State) : (modLeg n f s).net = s.net := (rfl)
@[simp] theorem modLeg_bus (n : Nat) (f : Leg → Leg) (s : State) : (modLeg n f s).bus = s.bus := (rfl)
@[simp] theorem modLeg_cfg (n : Nat) (f : Leg → Leg) (s : State) : (modLeg n f s).cfg = s.cfg := (rfl)
@[simp] theorem modLeg_pwr (n : Nat) (f : Leg → Leg) (s : State) : (modLeg n f s).pwr = s.pwr := (rfl)

/-- A record of this kind read after one is changed. -/
theorem leg_modLeg (n i : Nat) (f : Leg → Leg) (s : State) : (modLeg n f s).leg i = if i = n then f (s.leg n) else s.leg i :=
  tget_tset _ _ _ _ _

@[simp] theorem modTeam_pending (n : Nat) (f : Team → Team) (s : State) : (modTeam n f s).pending = s.pending := (rfl)
@[simp] theorem modTeam_free (n : Nat) (f : Team → Team) (s : State) : (modTeam n f s).free = s.free := (rfl)
@[simp] theorem modTeam_dev (n : Nat) (f : Team → Team) (s : State) : (modTeam n f s).dev = s.dev := (rfl)
@[simp] theorem modTeam_regs (n : Nat) (f : Team → Team) (s : State) : (modTeam n f s).regs = s.regs := (rfl)
@[simp] theorem modTeam_mem (n : Nat) (f : Team → Team) (s : State) : (modTeam n f s).mem = s.mem := (rfl)
@[simp] theorem modTeam_flt (n : Nat) (f : Team → Team) (s : State) : (modTeam n f s).flt = s.flt := (rfl)
@[simp] theorem modTeam_sense (n : Nat) (f : Team → Team) (s : State) : (modTeam n f s).sense = s.sense := (rfl)
@[simp] theorem modTeam_pos (n : Nat) (f : Team → Team) (s : State) : (modTeam n f s).pos = s.pos := (rfl)
@[simp] theorem modTeam_saf (n : Nat) (f : Team → Team) (s : State) : (modTeam n f s).saf = s.saf := (rfl)
@[simp] theorem modTeam_grp (n : Nat) (f : Team → Team) (s : State) : (modTeam n f s).grp = s.grp := (rfl)
@[simp] theorem modTeam_bst (n : Nat) (f : Team → Team) (s : State) : (modTeam n f s).bst = s.bst := (rfl)
@[simp] theorem modTeam_net (n : Nat) (f : Team → Team) (s : State) : (modTeam n f s).net = s.net := (rfl)
@[simp] theorem modTeam_bus (n : Nat) (f : Team → Team) (s : State) : (modTeam n f s).bus = s.bus := (rfl)
@[simp] theorem modTeam_cfg (n : Nat) (f : Team → Team) (s : State) : (modTeam n f s).cfg = s.cfg := (rfl)
@[simp] theorem modTeam_pwr (n : Nat) (f : Team → Team) (s : State) : (modTeam n f s).pwr = s.pwr := (rfl)

/-- A record of this kind read after one is changed. -/
theorem team_modTeam (n i : Nat) (f : Team → Team) (s : State) : (modTeam n f s).team i = if i = n then f (s.team n) else s.team i :=
  tget_tset _ _ _ _ _

@[simp] theorem modDcl_pending (n : Nat) (f : Dcl → Dcl) (s : State) : (modDcl n f s).pending = s.pending := (rfl)
@[simp] theorem modDcl_free (n : Nat) (f : Dcl → Dcl) (s : State) : (modDcl n f s).free = s.free := (rfl)
@[simp] theorem modDcl_dev (n : Nat) (f : Dcl → Dcl) (s : State) : (modDcl n f s).dev = s.dev := (rfl)
@[simp] theorem modDcl_regs (n : Nat) (f : Dcl → Dcl) (s : State) : (modDcl n f s).regs = s.regs := (rfl)
@[simp] theorem modDcl_mem (n : Nat) (f : Dcl → Dcl) (s : State) : (modDcl n f s).mem = s.mem := (rfl)
@[simp] theorem modDcl_flt (n : Nat) (f : Dcl → Dcl) (s : State) : (modDcl n f s).flt = s.flt := (rfl)
@[simp] theorem modDcl_sense (n : Nat) (f : Dcl → Dcl) (s : State) : (modDcl n f s).sense = s.sense := (rfl)
@[simp] theorem modDcl_pos (n : Nat) (f : Dcl → Dcl) (s : State) : (modDcl n f s).pos = s.pos := (rfl)
@[simp] theorem modDcl_saf (n : Nat) (f : Dcl → Dcl) (s : State) : (modDcl n f s).saf = s.saf := (rfl)
@[simp] theorem modDcl_grp (n : Nat) (f : Dcl → Dcl) (s : State) : (modDcl n f s).grp = s.grp := (rfl)
@[simp] theorem modDcl_bst (n : Nat) (f : Dcl → Dcl) (s : State) : (modDcl n f s).bst = s.bst := (rfl)
@[simp] theorem modDcl_net (n : Nat) (f : Dcl → Dcl) (s : State) : (modDcl n f s).net = s.net := (rfl)
@[simp] theorem modDcl_bus (n : Nat) (f : Dcl → Dcl) (s : State) : (modDcl n f s).bus = s.bus := (rfl)
@[simp] theorem modDcl_cfg (n : Nat) (f : Dcl → Dcl) (s : State) : (modDcl n f s).cfg = s.cfg := (rfl)
@[simp] theorem modDcl_pwr (n : Nat) (f : Dcl → Dcl) (s : State) : (modDcl n f s).pwr = s.pwr := (rfl)

/-- A record of this kind read after one is changed. -/
theorem dcl_modDcl (n i : Nat) (f : Dcl → Dcl) (s : State) : (modDcl n f s).dcl i = if i = n then f (s.dcl n) else s.dcl i :=
  tget_tset _ _ _ _ _

@[simp] theorem modChan_pending (n : Nat) (f : Chan → Chan) (s : State) : (modChan n f s).pending = s.pending := (rfl)
@[simp] theorem modChan_free (n : Nat) (f : Chan → Chan) (s : State) : (modChan n f s).free = s.free := (rfl)
@[simp] theorem modChan_dev (n : Nat) (f : Chan → Chan) (s : State) : (modChan n f s).dev = s.dev := (rfl)
@[simp] theorem modChan_regs (n : Nat) (f : Chan → Chan) (s : State) : (modChan n f s).regs = s.regs := (rfl)
@[simp] theorem modChan_mem (n : Nat) (f : Chan → Chan) (s : State) : (modChan n f s).mem = s.mem := (rfl)
@[simp] theorem modChan_flt (n : Nat) (f : Chan → Chan) (s : State) : (modChan n f s).flt = s.flt := (rfl)
@[simp] theorem modChan_pos (n : Nat) (f : Chan → Chan) (s : State) : (modChan n f s).pos = s.pos := (rfl)
@[simp] theorem modChan_drive (n : Nat) (f : Chan → Chan) (s : State) : (modChan n f s).drive = s.drive := (rfl)
@[simp] theorem modChan_saf (n : Nat) (f : Chan → Chan) (s : State) : (modChan n f s).saf = s.saf := (rfl)
@[simp] theorem modChan_grp (n : Nat) (f : Chan → Chan) (s : State) : (modChan n f s).grp = s.grp := (rfl)
@[simp] theorem modChan_bst (n : Nat) (f : Chan → Chan) (s : State) : (modChan n f s).bst = s.bst := (rfl)
@[simp] theorem modChan_net (n : Nat) (f : Chan → Chan) (s : State) : (modChan n f s).net = s.net := (rfl)
@[simp] theorem modChan_bus (n : Nat) (f : Chan → Chan) (s : State) : (modChan n f s).bus = s.bus := (rfl)
@[simp] theorem modChan_cfg (n : Nat) (f : Chan → Chan) (s : State) : (modChan n f s).cfg = s.cfg := (rfl)
@[simp] theorem modChan_pwr (n : Nat) (f : Chan → Chan) (s : State) : (modChan n f s).pwr = s.pwr := (rfl)

/-- A record of this kind read after one is changed. -/
theorem chan_modChan (n i : Nat) (f : Chan → Chan) (s : State) : (modChan n f s).chan i = if i = n then f (s.chan n) else s.chan i :=
  tget_tset _ _ _ _ _

@[simp] theorem modIfc_pending (n : Nat) (f : Ifc → Ifc) (s : State) : (modIfc n f s).pending = s.pending := (rfl)
@[simp] theorem modIfc_free (n : Nat) (f : Ifc → Ifc) (s : State) : (modIfc n f s).free = s.free := (rfl)
@[simp] theorem modIfc_dev (n : Nat) (f : Ifc → Ifc) (s : State) : (modIfc n f s).dev = s.dev := (rfl)
@[simp] theorem modIfc_regs (n : Nat) (f : Ifc → Ifc) (s : State) : (modIfc n f s).regs = s.regs := (rfl)
@[simp] theorem modIfc_mem (n : Nat) (f : Ifc → Ifc) (s : State) : (modIfc n f s).mem = s.mem := (rfl)
@[simp] theorem modIfc_flt (n : Nat) (f : Ifc → Ifc) (s : State) : (modIfc n f s).flt = s.flt := (rfl)
@[simp] theorem modIfc_sense (n : Nat) (f : Ifc → Ifc) (s : State) : (modIfc n f s).sense = s.sense := (rfl)
@[simp] theorem modIfc_drive (n : Nat) (f : Ifc → Ifc) (s : State) : (modIfc n f s).drive = s.drive := (rfl)
@[simp] theorem modIfc_saf (n : Nat) (f : Ifc → Ifc) (s : State) : (modIfc n f s).saf = s.saf := (rfl)
@[simp] theorem modIfc_grp (n : Nat) (f : Ifc → Ifc) (s : State) : (modIfc n f s).grp = s.grp := (rfl)
@[simp] theorem modIfc_bst (n : Nat) (f : Ifc → Ifc) (s : State) : (modIfc n f s).bst = s.bst := (rfl)
@[simp] theorem modIfc_net (n : Nat) (f : Ifc → Ifc) (s : State) : (modIfc n f s).net = s.net := (rfl)
@[simp] theorem modIfc_bus (n : Nat) (f : Ifc → Ifc) (s : State) : (modIfc n f s).bus = s.bus := (rfl)
@[simp] theorem modIfc_cfg (n : Nat) (f : Ifc → Ifc) (s : State) : (modIfc n f s).cfg = s.cfg := (rfl)
@[simp] theorem modIfc_pwr (n : Nat) (f : Ifc → Ifc) (s : State) : (modIfc n f s).pwr = s.pwr := (rfl)

/-- A record of this kind read after one is changed. -/
theorem ifc_modIfc (n i : Nat) (f : Ifc → Ifc) (s : State) : (modIfc n f s).ifc i = if i = n then f (s.ifc n) else s.ifc i :=
  tget_tset _ _ _ _ _

@[simp] theorem modMon_pending (n : Nat) (f : Mon → Mon) (s : State) : (modMon n f s).pending = s.pending := (rfl)
@[simp] theorem modMon_free (n : Nat) (f : Mon → Mon) (s : State) : (modMon n f s).free = s.free := (rfl)
@[simp] theorem modMon_dev (n : Nat) (f : Mon → Mon) (s : State) : (modMon n f s).dev = s.dev := (rfl)
@[simp] theorem modMon_regs (n : Nat) (f : Mon → Mon) (s : State) : (modMon n f s).regs = s.regs := (rfl)
@[simp] theorem modMon_mem (n : Nat) (f : Mon → Mon) (s : State) : (modMon n f s).mem = s.mem := (rfl)
@[simp] theorem modMon_flt (n : Nat) (f : Mon → Mon) (s : State) : (modMon n f s).flt = s.flt := (rfl)
@[simp] theorem modMon_sense (n : Nat) (f : Mon → Mon) (s : State) : (modMon n f s).sense = s.sense := (rfl)
@[simp] theorem modMon_pos (n : Nat) (f : Mon → Mon) (s : State) : (modMon n f s).pos = s.pos := (rfl)
@[simp] theorem modMon_drive (n : Nat) (f : Mon → Mon) (s : State) : (modMon n f s).drive = s.drive := (rfl)
@[simp] theorem modMon_grp (n : Nat) (f : Mon → Mon) (s : State) : (modMon n f s).grp = s.grp := (rfl)
@[simp] theorem modMon_bst (n : Nat) (f : Mon → Mon) (s : State) : (modMon n f s).bst = s.bst := (rfl)
@[simp] theorem modMon_net (n : Nat) (f : Mon → Mon) (s : State) : (modMon n f s).net = s.net := (rfl)
@[simp] theorem modMon_bus (n : Nat) (f : Mon → Mon) (s : State) : (modMon n f s).bus = s.bus := (rfl)
@[simp] theorem modMon_cfg (n : Nat) (f : Mon → Mon) (s : State) : (modMon n f s).cfg = s.cfg := (rfl)
@[simp] theorem modMon_pwr (n : Nat) (f : Mon → Mon) (s : State) : (modMon n f s).pwr = s.pwr := (rfl)

/-- A record of this kind read after one is changed. -/
theorem mon_modMon (n i : Nat) (f : Mon → Mon) (s : State) : (modMon n f s).mon i = if i = n then f (s.mon n) else s.mon i :=
  tget_tset _ _ _ _ _

@[simp] theorem modDev_pending (f : Dev → Dev) (s : State) : (modDev f s).pending = s.pending := (rfl)
@[simp] theorem modDev_free (f : Dev → Dev) (s : State) : (modDev f s).free = s.free := (rfl)
@[simp] theorem modDev_regs (f : Dev → Dev) (s : State) : (modDev f s).regs = s.regs := (rfl)
@[simp] theorem modDev_mem (f : Dev → Dev) (s : State) : (modDev f s).mem = s.mem := (rfl)
@[simp] theorem modDev_flt (f : Dev → Dev) (s : State) : (modDev f s).flt = s.flt := (rfl)
@[simp] theorem modDev_sense (f : Dev → Dev) (s : State) : (modDev f s).sense = s.sense := (rfl)
@[simp] theorem modDev_pos (f : Dev → Dev) (s : State) : (modDev f s).pos = s.pos := (rfl)
@[simp] theorem modDev_drive (f : Dev → Dev) (s : State) : (modDev f s).drive = s.drive := (rfl)
@[simp] theorem modDev_saf (f : Dev → Dev) (s : State) : (modDev f s).saf = s.saf := (rfl)
@[simp] theorem modDev_grp (f : Dev → Dev) (s : State) : (modDev f s).grp = s.grp := (rfl)
@[simp] theorem modDev_bst (f : Dev → Dev) (s : State) : (modDev f s).bst = s.bst := (rfl)
@[simp] theorem modDev_net (f : Dev → Dev) (s : State) : (modDev f s).net = s.net := (rfl)
@[simp] theorem modDev_bus (f : Dev → Dev) (s : State) : (modDev f s).bus = s.bus := (rfl)
@[simp] theorem modDev_cfg (f : Dev → Dev) (s : State) : (modDev f s).cfg = s.cfg := (rfl)
@[simp] theorem modDev_pwr (f : Dev → Dev) (s : State) : (modDev f s).pwr = s.pwr := (rfl)

@[simp] theorem bumpCounter_pending (i : Nat) (s : State) : (bumpCounter i s).pending = s.pending := (rfl)
@[simp] theorem bumpCounter_free (i : Nat) (s : State) : (bumpCounter i s).free = s.free := (rfl)
@[simp] theorem bumpCounter_dev (i : Nat) (s : State) : (bumpCounter i s).dev = s.dev := (rfl)
@[simp] theorem bumpCounter_regs (i : Nat) (s : State) : (bumpCounter i s).regs = s.regs := (rfl)
@[simp] theorem bumpCounter_mem (i : Nat) (s : State) : (bumpCounter i s).mem = s.mem := (rfl)
@[simp] theorem bumpCounter_flt (i : Nat) (s : State) : (bumpCounter i s).flt = s.flt := (rfl)
@[simp] theorem bumpCounter_sense (i : Nat) (s : State) : (bumpCounter i s).sense = s.sense := (rfl)
@[simp] theorem bumpCounter_pos (i : Nat) (s : State) : (bumpCounter i s).pos = s.pos := (rfl)
@[simp] theorem bumpCounter_drive (i : Nat) (s : State) : (bumpCounter i s).drive = s.drive := (rfl)
@[simp] theorem bumpCounter_saf (i : Nat) (s : State) : (bumpCounter i s).saf = s.saf := (rfl)
@[simp] theorem bumpCounter_grp (i : Nat) (s : State) : (bumpCounter i s).grp = s.grp := (rfl)
@[simp] theorem bumpCounter_bst (i : Nat) (s : State) : (bumpCounter i s).bst = s.bst := (rfl)
@[simp] theorem bumpCounter_net (i : Nat) (s : State) : (bumpCounter i s).net = s.net := (rfl)
@[simp] theorem bumpCounter_bus (i : Nat) (s : State) : (bumpCounter i s).bus = s.bus := (rfl)
@[simp] theorem bumpCounter_cfg (i : Nat) (s : State) : (bumpCounter i s).cfg = s.cfg := (rfl)

@[simp] theorem recAsk_pending (c : Nat) (s : State) : (recAsk c s).pending = s.pending := (rfl)
@[simp] theorem recAsk_free (c : Nat) (s : State) : (recAsk c s).free = s.free := (rfl)
@[simp] theorem recAsk_dev (c : Nat) (s : State) : (recAsk c s).dev = s.dev := (rfl)
@[simp] theorem recAsk_regs (c : Nat) (s : State) : (recAsk c s).regs = s.regs := (rfl)
@[simp] theorem recAsk_mem (c : Nat) (s : State) : (recAsk c s).mem = s.mem := (rfl)
@[simp] theorem recAsk_flt (c : Nat) (s : State) : (recAsk c s).flt = s.flt := (rfl)
@[simp] theorem recAsk_sense (c : Nat) (s : State) : (recAsk c s).sense = s.sense := (rfl)
@[simp] theorem recAsk_pos (c : Nat) (s : State) : (recAsk c s).pos = s.pos := (rfl)
@[simp] theorem recAsk_drive (c : Nat) (s : State) : (recAsk c s).drive = s.drive := (rfl)
@[simp] theorem recAsk_saf (c : Nat) (s : State) : (recAsk c s).saf = s.saf := (rfl)
@[simp] theorem recAsk_grp (c : Nat) (s : State) : (recAsk c s).grp = s.grp := (rfl)
@[simp] theorem recAsk_bst (c : Nat) (s : State) : (recAsk c s).bst = s.bst := (rfl)
@[simp] theorem recAsk_net (c : Nat) (s : State) : (recAsk c s).net = s.net := (rfl)
@[simp] theorem recAsk_bus (c : Nat) (s : State) : (recAsk c s).bus = s.bus := (rfl)
@[simp] theorem recAsk_cfg (c : Nat) (s : State) : (recAsk c s).cfg = s.cfg := (rfl)

@[simp] theorem setSt_pending (st : DState) (s : State) : (setSt st s).pending = s.pending := (rfl)
@[simp] theorem setSt_free (st : DState) (s : State) : (setSt st s).free = s.free := (rfl)
@[simp] theorem setSt_regs (st : DState) (s : State) : (setSt st s).regs = s.regs := (rfl)
@[simp] theorem setSt_mem (st : DState) (s : State) : (setSt st s).mem = s.mem := (rfl)
@[simp] theorem setSt_flt (st : DState) (s : State) : (setSt st s).flt = s.flt := (rfl)
@[simp] theorem setSt_sense (st : DState) (s : State) : (setSt st s).sense = s.sense := (rfl)
@[simp] theorem setSt_pos (st : DState) (s : State) : (setSt st s).pos = s.pos := (rfl)
@[simp] theorem setSt_drive (st : DState) (s : State) : (setSt st s).drive = s.drive := (rfl)
@[simp] theorem setSt_saf (st : DState) (s : State) : (setSt st s).saf = s.saf := (rfl)
@[simp] theorem setSt_grp (st : DState) (s : State) : (setSt st s).grp = s.grp := (rfl)
@[simp] theorem setSt_bst (st : DState) (s : State) : (setSt st s).bst = s.bst := (rfl)
@[simp] theorem setSt_net (st : DState) (s : State) : (setSt st s).net = s.net := (rfl)
@[simp] theorem setSt_bus (st : DState) (s : State) : (setSt st s).bus = s.bus := (rfl)
@[simp] theorem setSt_cfg (st : DState) (s : State) : (setSt st s).cfg = s.cfg := (rfl)
@[simp] theorem setSt_pwr (st : DState) (s : State) : (setSt st s).pwr = s.pwr := (rfl)

end Sys2Proof.Machine
end

