-- ==== Sys2Proof/Laws/Cisterns.lean ====
section
/-! SUPPORT. Cisterns: the read words of a packet carry exactly its bytes, its room is a whole number of words, the mark stands on an unreleased
frame, what `modCis` and `modHop` leave alone, and that a change of one cistern keeps `Sequenced`. -/
namespace Sys2Proof.Machine
open Sys2Proof

/-! ### Bytes and numbers -/

theorem leNat_lt : ∀ bs : List Byte, leNat bs < 256 ^ bs.length
  | [] => by simp [leNat]
  | b :: bs => by
    have h := leNat_lt bs
    have hb := b.isLt
    simp only [leNat, List.length_cons, Nat.pow_succ]
    omega
theorem leBytes_leNat : ∀ bs : List Byte, leBytes bs.length (leNat bs) = bs
  | [] => rfl
  | b :: bs => by
    have hb := b.isLt
    have h1 : (b.toNat + 256 * leNat bs) / 256 = leNat bs := by omega
    have h2 : BitVec.ofNat 8 (b.toNat + 256 * leNat bs) = b := by
      apply BitVec.eq_of_toNat_eq
      rw [BitVec.toNat_ofNat]
      omega
    simp only [List.length_cons, leNat, leBytes, h1, h2, leBytes_leNat bs]

/-! ### Read words (R310) -/

theorem packWords_length : ∀ (n : Nat) (bs : List Byte), (packWords n bs).length = n
  | 0, _ => rfl
  | n + 1, bs => by simp only [packWords, List.length_cons, packWords_length n]
/-- Only the last word has EOP. -/
theorem packWords_eop : ∀ (n : Nat) (bs : List Byte) (i : Nat) (w : BitVec 128 × BitVec 5), (packWords n bs)[i]? = some w →
    w.2.getLsbD 4 = decide (i + 1 = n)
  | 0, _, _, _, h => by simp [packWords] at h
  | n + 1, bs, 0, w, h => by
    have hl : (bs.take 16).length ≤ 16 := by simp only [List.length_take]; omega
    simp only [packWords, List.getElem?_cons_zero, Option.some.injEq] at h
    subst h
    simp only [BitVec.getLsbD_ofNat]
    generalize (bs.take 16).length = k at hl
    rcases n with _ | n
    · have : k ∈ List.range 17 := by simp; omega
      revert this
      revert k
      decide
    · have : k ∈ List.range 17 := by simp; omega
      have hd : decide (0 + 1 = n + 1 + 1) = false := by simp
      rw [hd, if_neg (by omega)]
      revert this
      clear hd
      revert k
      decide
  | n + 1, bs, i + 1, w, h => by
    simp only [packWords, List.getElem?_cons_succ] at h
    rw [packWords_eop n (bs.drop 16) i w h]
    simp
/-- The words carry the bytes they were made of. -/
theorem wordBytes16_packWords : ∀ (n : Nat) (bs : List Byte), bs.length ≤ 16 * n → 16 * n < bs.length + 16 → wordBytes16 (packWords n bs) = bs
  | 0, bs, h, _ => by
    have : bs = [] := List.eq_nil_of_length_eq_zero (by omega)
    subst this
    rfl
  | n + 1, bs, h, h2 => by
    have hl : (bs.take 16).length = min 16 bs.length := List.length_take
    have hpos : 1 ≤ (bs.take 16).length := by omega
    have hle : (bs.take 16).length ≤ 16 := by omega
    have ht : leNat (bs.take 16) < 2 ^ 128 := by
      have h3 := leNat_lt (bs.take 16)
      have h4 : 256 ^ (bs.take 16).length ≤ 256 ^ 16 := Nat.pow_le_pow_right (by omega) hle
      have h5 : (256 : Nat) ^ 16 = 2 ^ 128 := by decide
      omega
    have hc : ((if n = 0 then 16 else 0) + ((bs.take 16).length - 1)) % 2 ^ 5 % 16 + 1 = (bs.take 16).length := by split <;> omega
    have hw : leBytes (((if n = 0 then 16 else 0) + ((bs.take 16).length - 1)) % 2 ^ 5 % 16 + 1) (leNat (bs.take 16) % 2 ^ 128) = bs.take 16 := by
      rw [hc, Nat.mod_eq_of_lt ht, leBytes_leNat]
    have hr : wordBytes16 (packWords n (bs.drop 16)) = bs.drop 16 := by
      rcases n with _ | n
      · have : bs.drop 16 = [] := List.drop_eq_nil_of_le (by omega)
        rw [this]
        rfl
      · apply wordBytes16_packWords <;> simp only [List.length_drop] <;> omega
    have hs : wordBytes16 (packWords (n + 1) bs) = leBytes (((if n = 0 then 16 else 0) + ((bs.take 16).length - 1)) % 2 ^ 5 % 16 + 1)
        (leNat (bs.take 16) % 2 ^ 128) ++ wordBytes16 (packWords n (bs.drop 16)) := by
      simp [wordBytes16, packWords]
    rw [hs, hw, hr, List.take_append_drop]
/-- The read words of a packet carry its bytes. -/
theorem wordBytes16_words (eth : Bool) (p : Pkt) : wordBytes16 (p.words eth) = p.stored eth :=
  wordBytes16_packWords _ _ (by omega) (by omega)
/-- A packet takes the room of its words. -/
theorem room_words (eth : Bool) (p : Pkt) : p.room eth = 16 * (p.words eth).length := by
  have h : (p.stored eth).length = (if eth then 0 else 16) + p.body.length := by
    cases eth <;> (simp [Pkt.stored, leBytes_length]; try omega)
  simp only [Pkt.words, packWords_length, Pkt.room, h]
  omega

/-! ### The mark (R312) -/

/-- Behind a change the oldest frame held is one still unreleased. -/
theorem settle_head (c : Cis) (p : Pkt) (h : c.settle.pkts.head? = some p) : p.freed = false := by
  have := List.head?_dropWhile_not (fun q : Pkt => q.freed) c.pkts
  simp only [Cis.settle] at h
  rw [h] at this
  simpa using this
@[simp] theorem settle_opened (c : Cis) : c.settle.opened = c.opened := (rfl)

/-! ### What a change of a cistern or a hop leaves alone -/

theorem cis_modCis (n : Nat) (f : Cis → Cis) (s : State) (m : Nat) : (modCis n f s).cis m = if m = n then (f (s.cis n)).settle else s.cis m :=
  tget_tset _ _ _ _ _
theorem hop_modHop (n : Nat) (f : HopSt → HopSt) (s : State) (m : Nat) : (modHop n f s).hop m = if m = n then f (s.hop n) else s.hop m :=
  tget_tset _ _ _ _ _
@[simp] theorem modCis_pending (n : Nat) (f : Cis → Cis) (s : State) : (modCis n f s).pending = s.pending := (rfl)
@[simp] theorem modCis_dev (n : Nat) (f : Cis → Cis) (s : State) : (modCis n f s).dev = s.dev := (rfl)
@[simp] theorem modCis_mem (n : Nat) (f : Cis → Cis) (s : State) : (modCis n f s).mem = s.mem := (rfl)
@[simp] theorem modCis_drive (n : Nat) (f : Cis → Cis) (s : State) : (modCis n f s).drive = s.drive := (rfl)
@[simp] theorem modCis_saf (n : Nat) (f : Cis → Cis) (s : State) : (modCis n f s).saf = s.saf := (rfl)
@[simp] theorem modCis_hop (n m : Nat) (f : Cis → Cis) (s : State) : (modCis n f s).hop m = s.hop m := (rfl)
@[simp] theorem modHop_pending (n : Nat) (f : HopSt → HopSt) (s : State) : (modHop n f s).pending = s.pending := (rfl)
@[simp] theorem modHop_dev (n : Nat) (f : HopSt → HopSt) (s : State) : (modHop n f s).dev = s.dev := (rfl)
@[simp] theorem modHop_regs (n : Nat) (f : HopSt → HopSt) (s : State) : (modHop n f s).regs = s.regs := (rfl)
@[simp] theorem modHop_mem (n : Nat) (f : HopSt → HopSt) (s : State) : (modHop n f s).mem = s.mem := (rfl)
@[simp] theorem modHop_drive (n : Nat) (f : HopSt → HopSt) (s : State) : (modHop n f s).drive = s.drive := (rfl)
@[simp] theorem modHop_saf (n : Nat) (f : HopSt → HopSt) (s : State) : (modHop n f s).saf = s.saf := (rfl)
@[simp] theorem modHop_cis (n m : Nat) (f : HopSt → HopSt) (s : State) : (modHop n f s).cis m = s.cis m := (rfl)

/-! ### What a run keeps of the frames (Sequenced) -/

/-- A cistern changed to one whose packets are as a run leaves them keeps the rest so. -/
theorem modCis_sequenced (n : Nat) (f : Cis → Cis) (s : State) (h : Sequenced s)
    (hf : n < 14 → ∀ p ∈ (f (s.cis n)).pkts, (p.sent ≠ none ∨ p.again ≠ none → 3 ≤ p.cls) ∧ (p.freed = true → p.sent = none ∧ p.again = none)) :
    Sequenced (modCis n f s) := by
  intro m hm p hp
  rw [cis_modCis] at hp
  split at hp
  · next e => exact hf (e ▸ hm) p (List.dropWhile_subset _ hp)
  · exact h m hm p hp
/-- What leaves every cistern as it was keeps them so. -/
theorem sequenced_congr {s t : State} (e : ∀ n, t.cis n = s.cis n) (h : Sequenced s) : Sequenced t := by
  intro m hm p hp
  exact h m hm p (e m ▸ hp)

end Sys2Proof.Machine
end

