-- ==== Sys2Proof/Laws/PerInstr.lean ====
section
/-! SUPPORT. Statements made of every command as syntax: no word of the table spells it. -/
namespace Sys2Proof.Laws.NoWord

/-- No word spells the command: the table of operations and events gives no row any bits. -/
def Statement (i : Instr) : Prop := ∀ nbits w : Nat, decodeTableWord nbits w ≠ some i

theorem powerupComplete (res : PowerupResult) : Statement (.powerupComplete res) := fun _ _ h => nomatch h
theorem selftestComplete (r : SelfTestResult) : Statement (.selftestComplete r) := fun _ _ h => nomatch h
theorem loadComplete (r : LoadResult) : Statement (.loadComplete r) := fun _ _ h => nomatch h
theorem identityRead (k : Fin 64) (answer : Option (List Byte)) (t : ReadTime) : Statement (.identityRead k answer t) := fun _ _ h => nomatch h
theorem dspiTransaction (t : TeamNo) (readback : List Word) : Statement (.dspiTransaction t readback) := fun _ _ h => nomatch h
theorem identifyComplete : Statement (.identifyComplete) := fun _ _ h => nomatch h
theorem syncAligned : Statement (.syncAligned) := fun _ _ h => nomatch h
theorem serviceRequest (r : Req) : Statement (.serviceRequest r) := fun _ _ h => nomatch h
theorem axesModeRequest (r : Req) (m : ModeReq) (axmask : Word) : Statement (.axesModeRequest r m axmask) := fun _ _ h => nomatch h
theorem sleepRequest (r : Req) : Statement (.sleepRequest r) := fun _ _ h => nomatch h
theorem sleepCmd (who : Requestor) : Statement (.sleepCmd who) := fun _ _ h => nomatch h
theorem wakeComparator (n : Fin 6) (rising : Bool) : Statement (.wakeComparator n rising) := fun _ _ h => nomatch h
theorem wakeTimer : Statement (.wakeTimer) := fun _ _ h => nomatch h
theorem supplyReturn : Statement (.supplyReturn) := fun _ _ h => nomatch h
theorem supplySag : Statement (.supplySag) := fun _ _ h => nomatch h
theorem stateRecordWritten (mismatch : Option (Fin 4096 × Byte)) : Statement (.stateRecordWritten mismatch) := fun _ _ h => nomatch h
theorem periodicRecord : Statement (.periodicRecord) := fun _ _ h => nomatch h
theorem sagRecovery : Statement (.sagRecovery) := fun _ _ h => nomatch h
theorem resetNAssert (lowNs : Nat) : Statement (.resetNAssert lowNs) := fun _ _ h => nomatch h
theorem resetNRelease (holdMs : Nat) : Statement (.resetNRelease holdMs) := fun _ _ h => nomatch h
theorem vsafeTrip : Statement (.vsafeTrip) := fun _ _ h => nomatch h
theorem vsafeGood : Statement (.vsafeGood) := fun _ _ h => nomatch h
theorem vkeepPowerOn : Statement (.vkeepPowerOn) := fun _ _ h => nomatch h
theorem supplyMonitor (rail : RailReport) : Statement (.supplyMonitor rail) := fun _ _ h => nomatch h
theorem clockMonitorWindow (dev : Int) (lost : Bool) : Statement (.clockMonitorWindow dev lost) := fun _ _ h => nomatch h
theorem islandClockLost : Statement (.islandClockLost) := fun _ _ h => nomatch h
theorem rtcOscFail : Statement (.rtcOscFail) := fun _ _ h => nomatch h
theorem rtcSet (who : Requestor) : Statement (.rtcSet who) := fun _ _ h => nomatch h
theorem rtcSubRead : Statement (.rtcSubRead) := fun _ _ h => nomatch h
theorem strideMark : Statement (.strideMark) := fun _ _ h => nomatch h
theorem samplePhase (t : TeamNo) : Statement (.samplePhase t) := fun _ _ h => nomatch h
theorem loopEngineRun (t : TeamNo) (ecc : Option EccEvent) : Statement (.loopEngineRun t ecc) := fun _ _ h => nomatch h
theorem commitPhase (t : TeamNo) : Statement (.commitPhase t) := fun _ _ h => nomatch h
theorem updatePhase (t : TeamNo) : Statement (.updatePhase t) := fun _ _ h => nomatch h
theorem applicationCommit : Statement (.applicationCommit) := fun _ _ h => nomatch h
theorem idleWindow (w : IdleWork) : Statement (.idleWindow w) := fun _ _ h => nomatch h
theorem islandSlice (res : SliceResult) : Statement (.islandSlice res) := fun _ _ h => nomatch h
theorem sliceSkipLong : Statement (.sliceSkipLong) := fun _ _ h => nomatch h
theorem slicePostponed : Statement (.slicePostponed) := fun _ _ h => nomatch h
theorem taskCommit (who : Requestor) (mask : Word) (recs : List (AxisNo × List Word)) : Statement (.taskCommit who mask recs) := fun _ _ h => nomatch h
theorem strCountLoRead : Statement (.strCountLoRead) := fun _ _ h => nomatch h
theorem syncFrame (ring : Ring) (f : SyncFrame) : Statement (.syncFrame ring f) := fun _ _ h => nomatch h
theorem syncLost : Statement (.syncLost) := fun _ _ h => nomatch h
theorem sourceTakeover : Statement (.sourceTakeover) := fun _ _ h => nomatch h
theorem d0BecomesSource : Statement (.d0BecomesSource) := fun _ _ h => nomatch h
theorem syncRetry (ring : Ring) : Statement (.syncRetry ring) := fun _ _ h => nomatch h
theorem senseResult (n : ChanNo) (w : Window) (dupFlip : BitVec 18) : Statement (.senseResult n w dupFlip) := fun _ _ h => nomatch h
theorem resolverResult (n : ChanNo) (w : DupWindow) (exPh : Nat) : Statement (.resolverResult n w exPh) := fun _ _ h => nomatch h
theorem plausibilityCheck (t : TeamNo) : Statement (.plausibilityCheck t) := fun _ _ h => nomatch h
theorem fastTrip (n : ChanNo) (bits : List Bool) (ph : Nat) : Statement (.fastTrip n bits ph) := fun _ _ h => nomatch h
theorem streamStuck (n : ChanNo) (level : Bool) : Statement (.streamStuck n level) := fun _ _ h => nomatch h
theorem offsetTrimComplete (a : AxisNo) : Statement (.offsetTrimComplete a) := fun _ _ h => nomatch h
theorem encoderEdge (n : IfNo) (aLvl bLvl : Bool) (ph : Nat) : Statement (.encoderEdge n aLvl bLvl ph) := fun _ _ h => nomatch h
theorem indexEdge (n : IfNo) (ph : Nat) : Statement (.indexEdge n ph) := fun _ _ h => nomatch h
theorem hallChange (n : IfNo) (code : BitVec 3) (ph : Nat) : Statement (.hallChange n code ph) := fun _ _ h => nomatch h
theorem posHallIllegal (n : IfNo) : Statement (.posHallIllegal n) := fun _ _ h => nomatch h
theorem ssiRequest (n : IfNo) (lineLow : Bool) : Statement (.ssiRequest n lineLow) := fun _ _ h => nomatch h
theorem ssiWord (n : IfNo) (word : BitVec 64) (age : Nat) (ph : Nat) : Statement (.ssiWord n word age ph) := fun _ _ h => nomatch h
theorem posTimeout (n : IfNo) : Statement (.posTimeout n) := fun _ _ h => nomatch h
theorem resolverHalfPeriod (n : IfNo) (age : Nat) (ph : Nat) : Statement (.resolverHalfPeriod n age ph) := fun _ _ h => nomatch h
theorem observerUpdate (n : IfNo) : Statement (.observerUpdate n) := fun _ _ h => nomatch h
theorem posAngRead (n : IfNo) : Statement (.posAngRead n) := fun _ _ h => nomatch h
theorem posNpRead (n : IfNo) : Statement (.posNpRead n) := fun _ _ h => nomatch h
theorem compareWrite (c : Fin 32) (v : Word) : Statement (.compareWrite c v) := fun _ _ h => nomatch h
theorem posRecovery (n : IfNo) : Statement (.posRecovery n) := fun _ _ h => nomatch h
theorem spanUpFrame (a : AxisNo) (f : SpanUp) : Statement (.spanUpFrame a f) := fun _ _ h => nomatch h
theorem spanDownFrame (a : AxisNo) (f : SpanDown) : Statement (.spanDownFrame a f) := fun _ _ h => nomatch h
theorem spanFrameLost (a : AxisNo) : Statement (.spanFrameLost a) := fun _ _ h => nomatch h
theorem accessFault (who : Requestor) (addr : Word) (write : Bool) : Statement (.accessFault who addr write) := fun _ _ h => nomatch h
theorem edgeProcessing (n : LegNo) (j : Fin 4) (both : Option (Nat × Nat)) : Statement (.edgeProcessing n j both) := fun _ _ h => nomatch h
theorem ilkcntWindowClear (t : TeamNo) : Statement (.ilkcntWindowClear t) := fun _ _ h => nomatch h
theorem legFault (n : LegNo) (t : FaultTime) : Statement (.legFault n t) := fun _ _ h => nomatch h
theorem blankWindowEnd (n : LegNo) (stillAsserted : Bool) : Statement (.blankWindowEnd n stillAsserted) := fun _ _ h => nomatch h
theorem gsuvLockout (t : TeamNo) : Statement (.gsuvLockout t) := fun _ _ h => nomatch h
theorem gsuvReleased (t : TeamNo) : Statement (.gsuvReleased t) := fun _ _ h => nomatch h
theorem gsuvClear (t : TeamNo) : Statement (.gsuvClear t) := fun _ _ h => nomatch h
theorem prechargeLegEnd (n : LegNo) : Statement (.prechargeLegEnd n) := fun _ _ h => nomatch h
theorem legFaultClear (n : LegNo) (v : Word) (released : Bool) : Statement (.legFaultClear n v released) := fun _ _ h => nomatch h
theorem axisModeRequest (a : AxisNo) (req : Byte) : Statement (.axisModeRequest a req) := fun _ _ h => nomatch h
theorem controlledStopComplete (a : AxisNo) : Statement (.controlledStopComplete a) := fun _ _ h => nomatch h
theorem fieldStepComplete (a : AxisNo) : Statement (.fieldStepComplete a) := fun _ _ h => nomatch h
theorem catchWindowEnd (a : AxisNo) : Statement (.catchWindowEnd a) := fun _ _ h => nomatch h
theorem alignComplete (a : AxisNo) : Statement (.alignComplete a) := fun _ _ h => nomatch h
theorem brakeTimeout (a : AxisNo) : Statement (.brakeTimeout a) := fun _ _ h => nomatch h
theorem blendComplete (a : AxisNo) : Statement (.blendComplete a) := fun _ _ h => nomatch h
theorem startTimeout (a : AxisNo) : Statement (.startTimeout a) := fun _ _ h => nomatch h
theorem estimatorLost (a : AxisNo) : Statement (.estimatorLost a) := fun _ _ h => nomatch h
theorem ascReleased (a : AxisNo) : Statement (.ascReleased a) := fun _ _ h => nomatch h
theorem dischargeStart (g : Fin 4) : Statement (.dischargeStart g) := fun _ _ h => nomatch h
theorem dischargeAbort (g : Fin 4) : Statement (.dischargeAbort g) := fun _ _ h => nomatch h
theorem dischargeComplete (g : Fin 4) : Statement (.dischargeComplete g) := fun _ _ h => nomatch h
theorem dischTimeout (g : Fin 4) : Statement (.dischTimeout g) := fun _ _ h => nomatch h
theorem smcStartChecks (romOk crcOk monOk : Bool) (path : PathFail) : Statement (.smcStartChecks romOk crcOk monOk path) := fun _ _ h => nomatch h
theorem enableReadback (t : TeamNo) (rb : Bool) : Statement (.enableReadback t rb) := fun _ _ h => nomatch h
theorem vartabStale (a : AxisNo) : Statement (.vartabStale a) := fun _ _ h => nomatch h
theorem smcHeartbeat : Statement (.smcHeartbeat) := fun _ _ h => nomatch h
theorem torqueDiscrepancy (a : AxisNo) : Statement (.torqueDiscrepancy a) := fun _ _ h => nomatch h
theorem freewheelEscalation (n : LegNo) : Statement (.freewheelEscalation n) := fun _ _ h => nomatch h
theorem axisFaultClear (a : AxisNo) : Statement (.axisFaultClear a) := fun _ _ h => nomatch h
theorem teamLatchClear (mask : Word) : Statement (.teamLatchClear mask) := fun _ _ h => nomatch h
theorem safeInputChange (n : Fin 16) (aLvl bLvl : Bool) : Statement (.safeInputChange n aLvl bLvl) := fun _ _ h => nomatch h
theorem siDiscrepancy (n : Fin 16) : Statement (.siDiscrepancy n) := fun _ _ h => nomatch h
theorem safeBrakeSlot (n : Fin 8) : Statement (.safeBrakeSlot n) := fun _ _ h => nomatch h
theorem sbReadback (n : Fin 8) (fbh fbl : Bool) : Statement (.sbReadback n fbh fbl) := fun _ _ h => nomatch h
theorem sbTestPulse (n : Fin 8) : Statement (.sbTestPulse n) := fun _ _ h => nomatch h
theorem sbTestPulseEnd (n : Fin 8) (fb : Bool) : Statement (.sbTestPulseEnd n fb) := fun _ _ h => nomatch h
theorem sbFaultClear (n : Fin 8) (v : Word) (fbh fbl : Bool) : Statement (.sbFaultClear n v fbh fbl) := fun _ _ h => nomatch h
theorem groupGo (g : Fin 4) (who : Requestor) (arbok : Bool) : Statement (.groupGo g who arbok) := fun _ _ h => nomatch h
theorem groupRelease (g : Fin 4) (who : Requestor) : Statement (.groupRelease g who) := fun _ _ h => nomatch h
theorem safeFrameCopy (c : Fin 32) (path : Ring) (bytes : List Byte) : Statement (.safeFrameCopy c path bytes) := fun _ _ h => nomatch h
theorem safeFrameSingle (c : Fin 32) : Statement (.safeFrameSingle c) := fun _ _ h => nomatch h
theorem sfWatchdog (c : Fin 32) : Statement (.sfWatchdog c) := fun _ _ h => nomatch h
theorem cfailClear (c : Fin 32) : Statement (.cfailClear c) := fun _ _ h => nomatch h
theorem reinRevoked (g : Fin 4) (c : GroupCmd) : Statement (.reinRevoked g c) := fun _ _ h => nomatch h
theorem reinGranted (g : Fin 4) (c : GroupCmd) : Statement (.reinGranted g c) := fun _ _ h => nomatch h
theorem memberAdmitted (g : Fin 4) (c : GroupCmd) : Statement (.memberAdmitted g c) := fun _ _ h => nomatch h
theorem hostGroupFrame (g : Fin 4) (bytes : List Byte) : Statement (.hostGroupFrame g bytes) := fun _ _ h => nomatch h
theorem leaseExpired (g : Fin 4) : Statement (.leaseExpired g) := fun _ _ h => nomatch h
theorem noRein (g : Fin 4) : Statement (.noRein g) := fun _ _ h => nomatch h
theorem reinTaken (g : Fin 4) : Statement (.reinTaken g) := fun _ _ h => nomatch h
theorem quorumLost (g : Fin 4) : Statement (.quorumLost g) := fun _ _ h => nomatch h
theorem listenComplete (g : Fin 4) : Statement (.listenComplete g) := fun _ _ h => nomatch h
theorem lockstepMismatch (p : PairNo) (groups : Byte) (railA railB parity : Bool) : Statement (.lockstepMismatch p groups railA railB parity) := fun _ _ h => nomatch h
theorem lockstepAttribution (p : PairNo) (fails : BitVec 2) : Statement (.lockstepAttribution p fails) := fun _ _ h => nomatch h
theorem msigdWrite (p : PairNo) (master checker : Word) : Statement (.msigdWrite p master checker) := fun _ _ h => nomatch h
theorem msigendWrite (p : PairNo) : Statement (.msigendWrite p) := fun _ _ h => nomatch h
theorem sigWindowEnd (p : PairNo) : Statement (.sigWindowEnd p) := fun _ _ h => nomatch h
theorem pairSplit (p : PairNo) : Statement (.pairSplit p) := fun _ _ h => nomatch h
theorem pairJoin (p : PairNo) : Statement (.pairJoin p) := fun _ _ h => nomatch h
theorem rejoinTransferComplete (p : PairNo) (cycles : Nat) : Statement (.rejoinTransferComplete p cycles) := fun _ _ h => nomatch h
theorem tapReset : Statement (.tapReset) := fun _ _ h => nomatch h
theorem idcode : Statement (.idcode) := fun _ _ h => nomatch h
theorem samplePreload (v : List Bool) : Statement (.samplePreload v) := fun _ _ h => nomatch h
theorem extest : Statement (.extest) := fun _ _ h => nomatch h
theorem clamp : Statement (.clamp) := fun _ _ h => nomatch h
theorem highz : Statement (.highz) := fun _ _ h => nomatch h
theorem dtmcs : Statement (.dtmcs) := fun _ _ h => nomatch h
theorem dmi (addr : BitVec 7) (write : Bool) (data : Word) : Statement (.dmi addr write data) := fun _ _ h => nomatch h
theorem scanen : Statement (.scanen) := fun _ _ h => nomatch h
theorem bypass (opcode : BitVec 5) : Statement (.bypass opcode) := fun _ _ h => nomatch h
theorem authCapture : Statement (.authCapture) := fun _ _ h => nomatch h
theorem authUnlock (level : BitVec 2) (key : List Byte) (sig : List Byte) : Statement (.authUnlock level key sig) := fun _ _ h => nomatch h
theorem debugHalt (h : Fin 4) : Statement (.debugHalt h) := fun _ _ h => nomatch h
theorem debugResume (h : Fin 4) : Statement (.debugResume h) := fun _ _ h => nomatch h
theorem singleStep (h : Fin 4) : Statement (.singleStep h) := fun _ _ h => nomatch h
theorem abstractCommand (h : Fin 4) (cmd : AbstractCmd) : Statement (.abstractCommand h cmd) := fun _ _ h => nomatch h
theorem hopUp (h : Ring) : Statement (.hopUp h) := fun _ _ h => nomatch h
theorem linkLost (h : Ring) (cause : LossCause) : Statement (.linkLost h cause) := fun _ _ h => nomatch h
theorem hopRetrain (h : Ring) : Statement (.hopRetrain h) := fun _ _ h => nomatch h
theorem idle (h : Ring) (credit : BitVec 16) : Statement (.idle h credit) := fun _ _ h => nomatch h
theorem align (h : Ring) : Statement (.align h) := fun _ _ h => nomatch h
theorem ack (h : Ring) (seq : BitVec 16) : Statement (.ack h seq) := fun _ _ h => nomatch h
theorem nak (h : Ring) (seq : BitVec 16) : Statement (.nak h seq) := fun _ _ h => nomatch h
theorem resync (h : Ring) (seq : BitVec 16) : Statement (.resync h seq) := fun _ _ h => nomatch h
theorem linkFault (h : Ring) (cause : BitVec 4) : Statement (.linkFault h cause) := fun _ _ h => nomatch h
theorem ident (h : Ring) (data : BitVec 48) : Statement (.ident h data) := fun _ _ h => nomatch h
theorem delayReq (h : Ring) (num : Byte) : Statement (.delayReq h num) := fun _ _ h => nomatch h
theorem delayResp (h : Ring) (num : Byte) (roundTrip : Nat) (turnaround : BitVec 24) : Statement (.delayResp h num roundTrip turnaround) := fun _ _ h => nomatch h
theorem enum (h : Ring) (count : BitVec 6) (ring : Ring) : Statement (.enum h count ring) := fun _ _ h => nomatch h
theorem equalise (h : Ring) (preset : Byte) (adapted : Bool) : Statement (.equalise h preset adapted) := fun _ _ h => nomatch h
theorem unwrapPropose (h : Ring) (u : BitVec 48) : Statement (.unwrapPropose h u) := fun _ _ h => nomatch h
theorem unwrapConfirm (h : Ring) (u : BitVec 48) : Statement (.unwrapConfirm h u) := fun _ _ h => nomatch h
theorem syncCopy0 (h : Ring) (count : BitVec 48) : Statement (.syncCopy0 h count) := fun _ _ h => nomatch h
theorem syncCopy1 (h : Ring) (f : SyncFrame) : Statement (.syncCopy1 h f) := fun _ _ h => nomatch h
theorem ringUnwrap (h : Ring) : Statement (.ringUnwrap h) := fun _ _ h => nomatch h
theorem ringFrame (ring : Ring) (bytes : List Byte) (e : RxEnd) : Statement (.ringFrame ring bytes e) := fun _ _ h => nomatch h
theorem reservedSlot (h : Ring) (slot : Fin 64) (t : LinkTx) : Statement (.reservedSlot h slot t) := fun _ _ h => nomatch h
theorem linkTransmit (h : Ring) (t : LinkTx) : Statement (.linkTransmit h t) := fun _ _ h => nomatch h
theorem ackTimeout (h : Ring) : Statement (.ackTimeout h) := fun _ _ h => nomatch h
theorem grantFrame (ring : Ring) (payload : List Byte) : Statement (.grantFrame ring payload) := fun _ _ h => nomatch h
theorem creditStall : Statement (.creditStall) := fun _ _ h => nomatch h
theorem demandFrame (port : Fin 2) (dev : BitVec 6) (bytes : List Byte) : Statement (.demandFrame port dev bytes) := fun _ _ h => nomatch h
theorem hostRegisterRead (r : Req) (ofs : BitVec 24) (x : ReadSpan) : Statement (.hostRegisterRead r ofs x) := fun _ _ h => nomatch h
theorem hostRegisterWrite (r : Req) (list : List (BitVec 24 × Word)) : Statement (.hostRegisterWrite r list) := fun _ _ h => nomatch h
theorem nvmErase (r : Req) (bank : Byte) (ofs len : Word) : Statement (.nvmErase r bank ofs len) := fun _ _ h => nomatch h
theorem nvmProgram (r : Req) (bank : Byte) (ofs : Word) (plen : BitVec 16) (data : List Byte) : Statement (.nvmProgram r bank ofs plen data) := fun _ _ h => nomatch h
theorem nvmHeaderWrite (r : Req) (bank : Byte) (data : List Byte) : Statement (.nvmHeaderWrite r bank data) := fun _ _ h => nomatch h
theorem nvmRead (r : Req) (bank port : Byte) (ofs : Word) (n : BitVec 16) : Statement (.nvmRead r bank port ofs n) := fun _ _ h => nomatch h
theorem restart (m : MaintReq) : Statement (.restart m) := fun _ _ h => nomatch h
theorem logRead (r : Req) (log : Byte) (first : Word) (n : LogSpan) : Statement (.logRead r log first n) := fun _ _ h => nomatch h
theorem nvmOpComplete (res : NvmEnd) : Statement (.nvmOpComplete res) := fun _ _ h => nomatch h
theorem telemetrySample (k : Fin 32) : Statement (.telemetrySample k) := fun _ _ h => nomatch h
theorem pauseFrame (p : Fin 2) (quanta : BitVec 16) : Statement (.pauseFrame p quanta) := fun _ _ h => nomatch h
theorem ethLink (p : Fin 2) (up : Bool) (rate : BitVec 2) : Statement (.ethLink p up rate) := fun _ _ h => nomatch h
theorem packetOpen (n : CisNo) : Statement (.packetOpen n) := fun _ _ h => nomatch h
theorem packetClose (n : CisNo) (bytes : List Byte) (skidFull : Bool) : Statement (.packetClose n bytes skidFull) := fun _ _ h => nomatch h
theorem cisOpenTimeout (n : CisNo) : Statement (.cisOpenTimeout n) := fun _ _ h => nomatch h
theorem cisPtrMismatch (n : CisNo) (mask : Byte) : Statement (.cisPtrMismatch n mask) := fun _ _ h => nomatch h
theorem canSlotBegin (c : Fin 8) (sl : Fin 32) (busy : Bool) : Statement (.canSlotBegin c sl busy) := fun _ _ h => nomatch h
theorem canSlotMissed (c : Fin 8) : Statement (.canSlotMissed c) := fun _ _ h => nomatch h
theorem canCommit (who : Requestor) (c : Fin 8) (m : Fin 32) (dlc : BitVec 4) (busy : Bool) : Statement (.canCommit who c m dlc busy) := fun _ _ h => nomatch h
theorem canCancel (who : Requestor) (c : Fin 8) (m : Fin 32) : Statement (.canCancel who c m) := fun _ _ h => nomatch h
theorem canTransmissionEnd (c : Fin 8) (res : CanTxResult) (tdcv : BitVec 7) : Statement (.canTransmissionEnd c res tdcv) := fun _ _ h => nomatch h
theorem canBusOffRecovery (c : Fin 8) (seqs : Fin 129) : Statement (.canBusOffRecovery c seqs) := fun _ _ h => nomatch h
theorem canFrameReceived (c : Fin 8) (f : CanData) : Statement (.canFrameReceived c f) := fun _ _ h => nomatch h
theorem rxnewClear (c : Fin 8) (m : Fin 32) : Statement (.rxnewClear c m) := fun _ _ h => nomatch h
theorem sentFrame (r : Fin 12) (f : SentFrame) : Statement (.sentFrame r f) := fun _ _ h => nomatch h
theorem sentTimeout (r : Fin 12) : Statement (.sentTimeout r) := fun _ _ h => nomatch h
theorem sentFastRead (r : Fin 12) : Statement (.sentFastRead r) := fun _ _ h => nomatch h
theorem linEntryStart (l : Fin 4) : Statement (.linEntryStart l) := fun _ _ h => nomatch h
theorem linResponse (l : Fin 4) (bytes : List Byte) (framing bitErr : Bool) : Statement (.linResponse l bytes framing bitErr) := fun _ _ h => nomatch h
theorem linNoResponse (l : Fin 4) : Statement (.linNoResponse l) := fun _ _ h => nomatch h
theorem linData1Write (who : Requestor) (l : Fin 4) (e : Fin 32) (v : Word) : Statement (.linData1Write who l e v) := fun _ _ h => nomatch h
theorem fltLogRead (sl : Fin 1024) (l : LogLook) : Statement (.fltLogRead sl l) := fun _ _ h => nomatch h
theorem registerWrite (who : Requestor) (off : BitVec 24) (v : Word) : Statement (.registerWrite who off v) := fun _ _ h => nomatch h
theorem xoscRestart : Statement (.xoscRestart) := fun _ _ h => nomatch h
theorem canReceiveError (c : Fin 8) (e : CanRxError) : Statement (.canReceiveError c e) := fun _ _ h => nomatch h
theorem pauseExpired (p : Fin 2) : Statement (.pauseExpired p) := fun _ _ h => nomatch h
theorem hostPortTransmit (p : Fin 2) (k : PortCis) : Statement (.hostPortTransmit p k) := fun _ _ h => nomatch h
theorem hostFrameRejected (p : Fin 2) (cause : RejectCause) : Statement (.hostFrameRejected p cause) := fun _ _ h => nomatch h
theorem vkeepLoss : Statement (.vkeepLoss) := fun _ _ h => nomatch h
theorem railsRemovedInSleep : Statement (.railsRemovedInSleep) := fun _ _ h => nomatch h

end Sys2Proof.Laws.NoWord
end

