-- ==== Sys2Proof/Laws/Reactions.lean ====
section
/-! SUPPORT. What the fault log and the reactions can change: all they leave alone, said once for each operation. -/
namespace Sys2Proof.Machine
open Sys2Proof

/-! ### What lies outside an operation's reach

An operation that writes registers and one group of records leaves the rest as it was: the rest is the state with those parts
taken out, and its equality gives every field by congruence. -/

/-- The state without its registers and its fault log. -/
def beyondLog (s : State) : State := (s.setRegs []).setFlt {}
/-- The state without its registers, the drive's records and the counter of free values. -/
def beyondDrive (s : State) : State := ((s.setRegs []).setDrive {}).setFree 0
/-- The state without what a reaction can change: registers, fault log, the drive's records, the device record, state records asked for. -/
def beyondReact (s : State) : State := ((beyondDrive s).setFlt {}).setDev {} |>.setPwr {}

theorem beyondReact_of_drive {s t : State} (h : beyondDrive t = beyondDrive s) : beyondReact t = beyondReact s :=
  congrArg (fun u : State => (u.setFlt {}).setDev {} |>.setPwr {}) h
theorem beyondReact_of_log {s t : State} (h : beyondLog t = beyondLog s) : beyondReact t = beyondReact s :=
  congrArg (fun u : State => ((u.setDrive {}).setFree 0).setDev {} |>.setPwr {}) h

@[simp] theorem beyondLog_wr (f : Fld) (v : Nat) (s : State) : beyondLog (wr f v s) = beyondLog s := rfl
@[simp] theorem beyondLog_setFlt (v : FltLog) (s : State) : beyondLog (s.setFlt v) = beyondLog s := rfl
@[simp] theorem beyondLog_wrBit (f : Fld) (i : Nat) (b : Bool) (s : State) : beyondLog (wrBit f i b s) = beyondLog s := by
  unfold wrBit; exact beyondLog_wr _ _ _
@[simp] theorem beyondLog_bumpSat (f : Fld) (s : State) : beyondLog (bumpSat f s) = beyondLog s := by unfold bumpSat; exact beyondLog_wr _ _ _
@[simp] theorem beyondDrive_wrBit (f : Fld) (i : Nat) (b : Bool) (s : State) : beyondDrive (wrBit f i b s) = beyondDrive s := by
  unfold wrBit; rfl
@[simp] theorem beyondDrive_wr (f : Fld) (v : Nat) (s : State) : beyondDrive (wr f v s) = beyondDrive s := rfl
@[simp] theorem beyondDrive_modAx (n : Nat) (f : Axis → Axis) (s : State) : beyondDrive (modAx n f s) = beyondDrive s := rfl
@[simp] theorem beyondDrive_modLeg (n : Nat) (f : Leg → Leg) (s : State) : beyondDrive (modLeg n f s) = beyondDrive s := rfl
@[simp] theorem beyondDrive_modTeam (n : Nat) (f : Team → Team) (s : State) : beyondDrive (modTeam n f s) = beyondDrive s := rfl
@[simp] theorem beyondDrive_modDcl (n : Nat) (f : Dcl → Dcl) (s : State) : beyondDrive (modDcl n f s) = beyondDrive s := rfl

/-! ### The fault log -/

/-- An event raised to the cores changes their pending events, and nothing else. -/
theorem coreEvent_beyond (b : Nat) (s : State) : State.setBst {} (coreEvent b s) = State.setBst {} s := by
  unfold coreEvent; refine each_keep (fun s : State => s.setBst {}) _ ?_ _ _; intro _ _; rfl
@[simp] theorem coreEvent_regs (b : Nat) (s : State) : (coreEvent b s).regs = s.regs := by
  have h := congrArg (fun u : State => u.regs) (coreEvent_beyond b s); exact h
theorem countCls_beyond (c : Nat) (s : State) : beyondLog (countCls c s) = beyondLog s := by unfold countCls; split <;> simp only [beyondLog_bumpSat]
theorem putEntry_beyond (code src c data : Nat) (s : State) : beyondLog (putEntry code src c data s) = beyondLog s := by
  unfold putEntry; dsimp only; simp only [beyondLog_wr, beyondLog_wrBit, beyondLog_setFlt]
/-- A fault logged changes registers and the log, and nothing else. -/
theorem logFault_beyond (code src c data : Nat) (s : State) : beyondLog (logFault code src c data s) = beyondLog s := by
  unfold logFault; split
  · exact (putEntry_beyond _ _ _ _ _).trans (countCls_beyond _ _)
  · rfl
/-- The same at the limited rate. -/
theorem logRated_beyond (code src c data : Nat) (s : State) : beyondLog (logRated code src c data s) = beyondLog s := by
  have h := countCls_beyond c s
  unfold logRated; split
  · dsimp only
    generalize countCls c s = u at h
    have hp : ∀ b : Bool, beyondLog (if b = true then putEntry code src c data (u.setFlt
        { u.flt with rate := tset (fun _ => none) u.flt.rate (code * 65536 + src) (some u.dev.count) }) else u) = beyondLog s := by
      intro b; cases b
      · exact h
      · exact (putEntry_beyond _ _ _ _ _).trans h
    exact hp _
  · rfl
@[simp] theorem logFault_pending (code src c data : Nat) (s : State) : (logFault code src c data s).pending = s.pending := by
  have h := congrArg (fun u : State => u.pending) (logFault_beyond code src c data s); exact h
@[simp] theorem logFault_free (code src c data : Nat) (s : State) : (logFault code src c data s).free = s.free := by
  have h := congrArg (fun u : State => u.free) (logFault_beyond code src c data s); exact h
@[simp] theorem logFault_dev (code src c data : Nat) (s : State) : (logFault code src c data s).dev = s.dev := by
  have h := congrArg (fun u : State => u.dev) (logFault_beyond code src c data s); exact h
@[simp] theorem logFault_mem (code src c data : Nat) (s : State) : (logFault code src c data s).mem = s.mem := by
  have h := congrArg (fun u : State => u.mem) (logFault_beyond code src c data s); exact h
@[simp] theorem logFault_sense (code src c data : Nat) (s : State) : (logFault code src c data s).sense = s.sense := by
  have h := congrArg (fun u : State => u.sense) (logFault_beyond code src c data s); exact h
@[simp] theorem logFault_pos (code src c data : Nat) (s : State) : (logFault code src c data s).pos = s.pos := by
  have h := congrArg (fun u : State => u.pos) (logFault_beyond code src c data s); exact h
@[simp] theorem logFault_drive (code src c data : Nat) (s : State) : (logFault code src c data s).drive = s.drive := by
  have h := congrArg (fun u : State => u.drive) (logFault_beyond code src c data s); exact h
@[simp] theorem logFault_saf (code src c data : Nat) (s : State) : (logFault code src c data s).saf = s.saf := by
  have h := congrArg (fun u : State => u.saf) (logFault_beyond code src c data s); exact h
@[simp] theorem logFault_grp (code src c data : Nat) (s : State) : (logFault code src c data s).grp = s.grp := by
  have h := congrArg (fun u : State => u.grp) (logFault_beyond code src c data s); exact h
@[simp] theorem logFault_bst (code src c data : Nat) (s : State) : (logFault code src c data s).bst = s.bst := by
  have h := congrArg (fun u : State => u.bst) (logFault_beyond code src c data s); exact h
@[simp] theorem logFault_net (code src c data : Nat) (s : State) : (logFault code src c data s).net = s.net := by
  have h := congrArg (fun u : State => u.net) (logFault_beyond code src c data s); exact h
@[simp] theorem logFault_bus (code src c data : Nat) (s : State) : (logFault code src c data s).bus = s.bus := by
  have h := congrArg (fun u : State => u.bus) (logFault_beyond code src c data s); exact h
@[simp] theorem logFault_cfg (code src c data : Nat) (s : State) : (logFault code src c data s).cfg = s.cfg := by
  have h := congrArg (fun u : State => u.cfg) (logFault_beyond code src c data s); exact h
@[simp] theorem logFault_pwr (code src c data : Nat) (s : State) : (logFault code src c data s).pwr = s.pwr := by
  have h := congrArg (fun u : State => u.pwr) (logFault_beyond code src c data s); exact h

/-- A fault logged raises a count and the summary, and writes no other register. -/
theorem logFault_reg (code src c data p : Nat) (s : State)
    (h : p ≠ A.FLT_CNT0 ∧ p ≠ A.FLT_CNT1 ∧ p ≠ A.FLT_CNT2 ∧ p ≠ A.FLT_STAT) : (logFault code src c data s).reg p = s.reg p := by
  obtain ⟨h0, h1, h2, h3⟩ := h
  have hc : (countCls c s).reg p = s.reg p := by
    unfold countCls
    split <;> exact reg_wr_other s _ _ p (by assumption)
  unfold logFault; split
  · refine Eq.trans ?_ hc
    unfold putEntry; dsimp only
    rw [reg_wr_other _ _ _ p h3]; exact reg_wr_other _ _ _ p h3
  · rfl

/-- The batch written to the log changes FLT_WIDX, the slots and the pending core events, and nothing else. -/
theorem flushLog_beyond (s : State) : State.setBst {} (beyondLog (flushLog s)) = State.setBst {} (beyondLog s) := by
  unfold flushLog; split
  · rfl
  · dsimp only
    refine (each_keep (fun s : State => State.setBst {} (beyondLog s)) _ ?_ _ _).trans ?_
    · intro _ _; unfold storeEntry; simp only [beyondLog_wr, beyondLog_setFlt]
    · split
      · rw [beyondLog_setFlt]; exact congrArg (fun u : State => (u.setRegs []).setFlt {}) (coreEvent_beyond 6 s)
      · rw [beyondLog_setFlt]
@[simp] theorem flushLog_pending (s : State) : (flushLog s).pending = s.pending := by
  have h := congrArg (fun u : State => u.pending) (flushLog_beyond s); exact h
@[simp] theorem flushLog_free (s : State) : (flushLog s).free = s.free := by
  have h := congrArg (fun u : State => u.free) (flushLog_beyond s); exact h
@[simp] theorem flushLog_dev (s : State) : (flushLog s).dev = s.dev := by
  have h := congrArg (fun u : State => u.dev) (flushLog_beyond s); exact h
@[simp] theorem flushLog_mem (s : State) : (flushLog s).mem = s.mem := by
  have h := congrArg (fun u : State => u.mem) (flushLog_beyond s); exact h
@[simp] theorem flushLog_sense (s : State) : (flushLog s).sense = s.sense := by
  have h := congrArg (fun u : State => u.sense) (flushLog_beyond s); exact h
@[simp] theorem flushLog_pos (s : State) : (flushLog s).pos = s.pos := by
  have h := congrArg (fun u : State => u.pos) (flushLog_beyond s); exact h
@[simp] theorem flushLog_drive (s : State) : (flushLog s).drive = s.drive := by
  have h := congrArg (fun u : State => u.drive) (flushLog_beyond s); exact h
@[simp] theorem flushLog_saf (s : State) : (flushLog s).saf = s.saf := by
  have h := congrArg (fun u : State => u.saf) (flushLog_beyond s); exact h
@[simp] theorem flushLog_grp (s : State) : (flushLog s).grp = s.grp := by
  have h := congrArg (fun u : State => u.grp) (flushLog_beyond s); exact h
@[simp] theorem flushLog_net (s : State) : (flushLog s).net = s.net := by
  have h := congrArg (fun u : State => u.net) (flushLog_beyond s); exact h
@[simp] theorem flushLog_bus (s : State) : (flushLog s).bus = s.bus := by
  have h := congrArg (fun u : State => u.bus) (flushLog_beyond s); exact h
@[simp] theorem flushLog_cfg (s : State) : (flushLog s).cfg = s.cfg := by
  have h := congrArg (fun u : State => u.cfg) (flushLog_beyond s); exact h
@[simp] theorem flushLog_pwr (s : State) : (flushLog s).pwr = s.pwr := by
  have h := congrArg (fun u : State => u.pwr) (flushLog_beyond s); exact h

/-- The batch written to the log moves FLT_WIDX and no other register. -/
theorem flushLog_reg (p : Nat) (s : State) (h : p ≠ A.FLT_WIDX) : (flushLog s).reg p = s.reg p := by
  unfold flushLog; split
  · rfl
  · dsimp only
    refine (each_keep (fun s : State => s.reg p) _ ?_ _ _).trans ?_
    · intro e s; exact reg_wr_other _ _ _ p h
    · split
      · exact congrArg (fun r => tget regReset r p) (coreEvent_regs 6 s)
      · rfl

/-- Once a command's entries are written none waits. -/
theorem flushLog_batch (s : State) : (flushLog s).flt.batch = [] := by
  unfold flushLog; split
  · assumption
  · dsimp only
    refine each_ind (P := fun t : State => t.flt.batch = []) _ ?_ _ _ rfl
    intro _ _ h; exact h

/-- A command that ends with `done` answers a next state. -/
theorem done_eq (s : State) : done s = .next (flushLog s) := rfl
/-- A command whose condition does not hold answers the state it found. -/
theorem unmet_eq (s : State) : unmet s = .next s := rfl

/-! ### Reactions -/

theorem freezeMasks_beyond (a : Nat) (s : State) : beyondDrive (freezeMasks a s) = beyondDrive s := by
  unfold freezeMasks; refine each_keep beyondDrive _ ?_ _ _; intro _ _; simp only [beyondDrive_modLeg]
theorem setBlk_beyond (a : Nat) (b : Bool) (s : State) : beyondDrive (setBlk a b s) = beyondDrive s := by
  unfold setBlk; refine each_keep beyondDrive _ ?_ _ _; intro _ _; simp only [beyondDrive_modLeg]
theorem legsHiz_beyond (a : Nat) (s : State) : beyondDrive (legsHiz a s) = beyondDrive s := by
  have h : beyondDrive (carNow (a / 4) s).2 = beyondDrive s := by unfold carNow; split <;> rfl
  unfold legsHiz; refine (each_keep beyondDrive _ ?_ _ _).trans h; intro _ _; simp only [beyondDrive_modLeg]
theorem noteOn_beyond (a : Nat) (s : State) : beyondDrive (noteOn a s) = beyondDrive s := by
  unfold noteOn; simp only [beyondDrive_modDcl]
theorem driveVar_beyond (a v : Nat) (s : State) : beyondDrive (driveVar a v s) = beyondDrive s := by
  unfold driveVar; split
  · dsimp only; rw [noteOn_beyond, beyondDrive_modAx]
    refine (each_keep beyondDrive _ ?_ _ _).trans ?_
    · intro _ _; simp only [beyondDrive_modLeg]
    · split
      · exact freezeMasks_beyond a s
      · rfl
  · rw [setBlk_beyond, beyondDrive_modAx]
/-- An axis that enters SAFE has registers and the drive's records changed, and nothing else. -/
theorem enterSafe_beyond (a : Nat) (r : React) (s : State) : beyondDrive (enterSafe a r s) = beyondDrive s := by
  unfold enterSafe; dsimp only
  simp only [driveVar_beyond, legsHiz_beyond, beyondDrive_modAx, beyondDrive_wr]
  split <;> simp only [beyondDrive_wr]
theorem flagAx_beyond (a : Nat) (b : Nat → Fld) (s : State) : beyondDrive (flagAx a b s) = beyondDrive s := by
  unfold flagAx; simp only [beyondDrive_wr]
theorem flagReact_beyond (a : Nat) (b : Nat → Fld) (s : State) : beyondDrive (flagReact a b s) = beyondDrive s := by
  unfold flagReact; simp only [flagAx_beyond, beyondDrive_modAx]
theorem reactOne_beyond (now : Bool) (a : Nat) (r : React) (b : Nat → Fld) (s : State) : beyondDrive (reactOne now a r b s) = beyondDrive s := by
  unfold reactOne; dsimp only
  have h := flagReact_beyond a b s
  generalize flagReact a b s = u at h
  repeat' split
  all_goals simp only [enterSafe_beyond, beyondDrive_modAx, h]
/-- So has an axis with its pair that takes a reaction. -/
theorem axisReact_beyond (now : Bool) (a k : Nat) (v : Option Nat) (c : Nat) (b : Nat → Fld) (s : State) :
    beyondDrive (axisReact now a k v c b s) = beyondDrive s := by
  unfold axisReact; dsimp only
  split <;> simp only [reactOne_beyond]
theorem blockReact_beyond (now : Bool) (a c : Nat) (s : State) : beyondDrive (blockReact now a c s) = beyondDrive s := by
  unfold blockReact; exact axisReact_beyond _ _ _ _ _ _ _
/-- A reaction of class TM changes registers and the drive's records, and nothing else. -/
theorem teamReact_beyond (code t : Nat) (s : State) : beyondDrive (teamReact code t s) = beyondDrive s := by
  unfold teamReact; dsimp only
  refine (each_keep beyondDrive _ ?_ _ _).trans ?_
  · intro _ _; simp only [axisReact_beyond]
  · simp only [beyondDrive_modTeam, beyondDrive_wrBit]
/-- A fault of class AX or W is logged and the axes react. -/
theorem axFault_beyond (now : Bool) (code src data c : Nat) (as : List Nat) (s : State) :
    beyondReact (axFault now code src data c as s) = beyondReact s := by
  unfold axFault; dsimp only
  refine (each_keep beyondReact _ ?_ _ _).trans (beyondReact_of_log (logFault_beyond _ _ _ _ _))
  intro _ _; exact beyondReact_of_drive (blockReact_beyond _ _ _ _)
/-- So is a fault whose class stays AX without an axis. -/
theorem axFaultAll_beyond (now : Bool) (code src data c : Nat) (as : List Nat) (s : State) :
    beyondReact (axFaultAll now code src data c as s) = beyondReact s := by
  unfold axFaultAll
  refine (each_keep beyondReact _ ?_ _ _).trans (beyondReact_of_log (logFault_beyond _ _ _ _ _))
  intro _ _; exact beyondReact_of_drive (blockReact_beyond _ _ _ _)
/-- A fault of class TM is logged and the team reacts. -/
theorem tmFault_beyond (code src data t : Nat) (s : State) : beyondReact (tmFault code src data t s) = beyondReact s :=
  (beyondReact_of_drive (teamReact_beyond code t _)).trans (beyondReact_of_log (logFault_beyond _ _ _ _ _))
theorem dischTrigger_beyond (g src : Nat) (s : State) : beyondDrive (dischTrigger g src s) = beyondDrive s := by
  have h : beyondDrive (if src = 2 then wr (F.LE_DCL_DSTAT_CRASHLOCK g) 1 s else s) = beyondDrive s := by split <;> simp only [beyondDrive_wr]
  unfold dischTrigger; dsimp only
  generalize (if src = 2 then wr (F.LE_DCL_DSTAT_CRASHLOCK g) 1 s else s) = u at h
  split
  · split
    · exact h
    · rw [beyondDrive_wr, beyondDrive_modDcl]; exact h
  · refine (each_keep beyondDrive _ ?_ _ _).trans ?_
    · intro _ _; split
      · exact axisReact_beyond _ _ _ _ _ _ _
      · exact Eq.refl _
    · split <;> simp only [beyondDrive_modDcl, beyondDrive_wr, h]
theorem brakesOff_beyond (s : State) : beyondDrive (brakesOff s) = beyondDrive s := by
  unfold brakesOff; refine upto_keep beyondDrive _ ?_ _ _; intro _ _; simp only [beyondDrive_wr]
/-- A fault latched on a leg changes registers and the drive's records, and nothing else. -/
theorem latchLeg_beyond (n : Nat) (c : Nat → Fld) (side : Nat) (s : State) : beyondDrive (latchLeg n c side s) = beyondDrive s := by
  let sided := wr (F.MOD_LEG_FLT_SIDE n) side (modLeg n (fun l => { l with edges := [], lastHi := if side = 3 then l.lastHi else some (side = 1) }) s)
  have h : beyondDrive (if isSet s (F.MOD_LEG_FLT_FAULTED n) then s else sided) = beyondDrive s := by
    split
    · rfl
    · simp only [sided, beyondDrive_wr, beyondDrive_modLeg]
  unfold latchLeg; dsimp only
  change beyondDrive (match legAxis (wr _ 1 (wr _ 1 (if isSet s (F.MOD_LEG_FLT_FAULTED n) then s else sided))) n with
    | none => _
    | some a => _) = _
  generalize (if isSet s (F.MOD_LEG_FLT_FAULTED n) then s else sided) = u at h
  split
  · simp only [beyondDrive_wr, h]
  · split <;> simp only [flagReact_beyond, beyondDrive_modAx, beyondDrive_wr, h]

/-- The variant R149 leaves an axis is none that was not asked for but FREEWHEEL. -/
theorem axVar_le (s : State) (a v : Nat) (h : v ≤ 3) : axVar s a v ≤ 3 := by
  unfold axVar; split <;> omega

/-- The speed rule answers a variant of SAFE: 1 ASC_LOW, 2 ASC_HIGH, 3 FREEWHEEL, for every axis that is no spanned partner. -/
theorem speedRule_range (s : State) (a : Nat) (h : axType s a ≠ 7) : speedRule s a = 1 ∨ speedRule s a = 2 ∨ speedRule s a = 3 := by
  have hv : ascVar s a = 1 ∨ ascVar s a = 2 := by unfold ascVar; split <;> simp
  unfold speedRule; simp only [h, if_false]
  repeat' split
  all_goals first | exact .inr (.inr rfl) | exact hv.imp id .inl

end Sys2Proof.Machine
end

