-- ==== Sys2Proof/Laws/Starts.lean ====
section
/-! SUPPORT. What a start over cuts short in the MRAM, and what an instruction of the test port leaves alone. -/
namespace Sys2Proof.Machine
open Sys2Proof

/-- The MRAM test broken off changes no register. -/
@[simp] theorem mramTorn_regs (s : State) : (mramTorn s).regs = s.regs := by unfold mramTorn draw; dsimp only; (repeat' split) <;> rfl
@[simp] theorem mramTorn_dev (s : State) : (mramTorn s).dev = s.dev := by unfold mramTorn draw; dsimp only; (repeat' split) <;> rfl
@[simp] theorem mramTorn_pending (s : State) : (mramTorn s).pending = s.pending := by unfold mramTorn draw; dsimp only; (repeat' split) <;> rfl
@[simp] theorem mramTorn_cfg (s : State) : (mramTorn s).cfg = s.cfg := by unfold mramTorn draw; dsimp only; (repeat' split) <;> rfl
/-- Outside SELFTEST there is no test to break off. -/
theorem mramTorn_outside (s : State) (h : s.dev.st ≠ .selftest) : mramTorn s = s := by unfold mramTorn; simp [h]
/-- With no record being written there is no write to break off. -/
theorem recBreak_none (s : State) (h : s.pwr.recs = []) : recBreak s = s := by unfold recBreak; rw [h]
/-- Outside SELFTEST and with no record being written nothing is cut short. -/
theorem cutShort_none (s : State) (h : s.pwr.recs = []) (hs : s.dev.st ≠ .selftest) : cutShort s = s := by
  unfold cutShort; rw [recBreak_none s h, mramTorn_outside s hs]

/-- Where the security engine does not run, an instruction that acts on the pins is selected and changes nothing else. -/
theorem pinIr_idle (ir : BitVec 5) (dr : List Byte) (m : PinMode) (s : State) (h : monitored s = false) : pinIr ir dr m s = selectIr ir dr s := by
  unfold pinIr
  have e : monitored (selectIr ir dr s) = monitored s := rfl
  simp [e, h]
/-- Where it runs, the keys are zero, the OTP port blocked and the pins taken. -/
theorem pinIr_runs (ir : BitVec 5) (dr : List Byte) (m : PinMode) (s : State) (h : monitored s = true) :
    pinIr ir dr m s = modDbg (fun d => { d with pins := m }) (zeroise (selectIr ir dr s)) := by
  unfold pinIr
  have e : monitored (selectIr ir dr s) = monitored s := rfl
  simp [e, h]

end Sys2Proof.Machine
end

