-- ==== Sys2Proof/WellFormed.lean ====
section
/-! DEFINITION. Which commands are well formed: the operands that the outside world can bring, where their types allow more. -/
namespace Sys2Proof
open Sys2Proof.Machine

/-- A CAN frame as ISO 11898-1 allows it (R329): the data of its DLC, none in a remote frame, an identifier of 11 bits unless extended,
bit rate switch and error state only in FD, a remote frame only in classic CAN. -/
def CanData.wf (f : CanData) : Bool :=
  f.data.length == (if f.rtr then 0 else canLen f.fdf f.dlc.toNat) && (f.ide || decide (f.id.toNat < 2048)) &&
  (f.fdf || (!f.brs && !f.esi)) && !(f.fdf && f.rtr)

/-- A memory identity of R272, or 28 and 29 for the ROMs (R401). -/
def memKnown (m : Nat) : Bool := decide (m ≤ 5) || (decide (8 ≤ m) && decide (m ≤ 18)) || [20, 24, 25, 28, 29].contains m

/-- The checks by command; every other command is well formed whatever its operands. -/
def Instr.wf : Instr → Bool
  | .selftestComplete r => decide (r.item.toNat ≤ 5)
  | .loadComplete r => r.readErr.all (decide <| · < 4)
  | .idleWindow w => match w.ecc with
    | none => true
    | some (m, _) => memKnown m.val
  | .identityRead _ answer _ => match answer with
    | none => true
    | some b => decide (b.length ≤ 256)
  | .taskCommit _ _ recs => recs.all fun p => p.2.length == 16
  | .senseResult _ w _ => decide (0 < w.bits.length)
  | .edgeProcessing _ _ both => match both with
    | none => true
    | some (b, e) => decide (b ≤ e)
  | .nvmOpComplete res => match res with
    | .done => true
    | .fail fc _ _ _ => decide (fc ≠ 0)
  | .canFrameReceived _ f => f.wf
  | .sentFrame _ f => decide (f.nibs.length ≤ 8)
  | .linResponse _ bytes _ _ => decide (bytes.length ≤ 9)
  | .restart m => !([1, 2, 3, 4, 6].contains m.mop.toNat)
  | .registerWrite _ off _ => off.toNat % 4 == 0
  | .packetClose _ bytes _ => decide (0 < bytes.length)
  | _ => true

end Sys2Proof
end

