-- ==== Sys2Proof/Tests/Slice0.lean ====
section
/-! SUPPORT. The model's own tests: ill-formed commands, single commands with the results the spec gives, and for every statement of
Obligations.lean a state and operands that meet its hypotheses, clause by clause. -/
namespace Sys2Proof.Tests
open Sys2Proof Sys2Proof.Machine
-- One theorem after the other: the kernel evaluates each, and theorems that wait hold memory of their own.
set_option Elab.async false

/-! ### Small states -/

/-- A state with fields of registers written. -/
def put (l : List (Fld × Nat)) (s : State) : State := each (fun p => wr p.1 p.2) l s
/-- The device in a state, its timebase and modulator clocks running. -/
def dev (st : DState) : State := modDev (fun d => { d with st := st, started := true, running := true, mclk := true, wasArmed := true }) {}
/-- The device in ARMED. -/
def armed : State := dev .armed
/-- The device in SERVICE. -/
def service : State := dev .service
/-- Axis a in a state, of a type. -/
def axis (a ty st : Nat) (s : State) : State := put [(F.LE_AX_CFG_TYPE a, ty), (F.LE_AX_STATE_STATE a, st)] s
/-- Device 1 of a string with both rings in use. -/
def ring (s : State) : State := put [(F.STR_SYNCCFG_RINGEN, 1), (F.CFG_STAT_LOADED, 1), (F.RNG_CFG_DEVNUM, 1), (F.RNG_CFG_NDEVM1, 3)] s
/-- A hop in a state. -/
def hopIn (h st : Nat) (s : State) : State := put [(F.RNG_HOP_STAT_STATE h, st)] s
/-- A sync frame of device 0. -/
def syncF : SyncFrame := ⟨7, 0, false, 100, 0, true, 400⟩
/-- A safe frame of SEQ 1 without data on a connection whose IDs are 0. -/
def frame0 : List Byte := [0, 0, 0, 0, 1, 0, 0, 0, 0, 0, 0, 0] ++ leBytes 4 (safeCrc [0, 0, 0, 0, 1, 0, 0, 0, 0, 0, 0, 0] 0)
/-- A request of a TYPE and body with its CMAC. -/
def rq (typ : Nat) (body : List Byte) : Req :=
  let r : Req := { port := 0, ring := false, dev := 0, auth := true, tag := 1, fresh := 0, mac := 0 }
  { r with mac := cmac64 0 (reqText typ r body) }
/-- A device with an image whose port 0 is in use, its CMAC key 0. -/
def hosted (s : State) : State :=
  let s := put [(F.ETH_P_CFG_EN 0, 1), (F.CFG_STAT_LOADED, 1)] s
  s.setBst { s.bst with se := { s.bst.se with cmacKey := 0 } }
def pktA : Pkt := { dest := 2, src := 1, cls := 3, body := [1, 2, 3] }
def pktB : Pkt := { dest := 2, src := 1, cls := 0, body := [1, 2, 3] }
def rframe (p : Pkt) (q : Nat) : List Byte :=
  let b := leBytes 4 (p.dest + 64 * p.src + 4096 * p.cls + 1048576 * p.body.length) ++ leBytes 2 q ++ leBytes 8 0
  let b := b ++ leBytes 2 (crc16 b) ++ p.body
  b ++ leBytes 4 (crc32 b)
/-- A public key of P-256 and its signature over the unlock message of level 1, nonce 1 and serial number 7. -/
def authKey : List Byte := beBytes 64
  0x60b30b54a5891376c6d733f0a81a859ee68a9a3e818c5f904a5470d8108b7bd36d6b47c981b430d1b54d0a34830cc964324baca20bc0ea2334444840ad4abf31
def authSig : List Byte := beBytes 64
  0x432f2c42f742951eecc2fbc777ccbb20e7894dbd063ecb9fd04320cb5b1116dc432f2c42f742951eecc2fbc777ccbb20e7894dbd063ecb9fd04320cb5b1116dc
/-- A device that holds the key's hash and that serial number, with nonce 1 in force. -/
def unlockable : State :=
  let s := modDbg (fun d => { d with nonce := some 1 })
    (modDev (fun d => { d with otp := { d.otp with serial := 7, debugHash := 0x2b6e78fd56e0781fb6d383547a5abba95e32b196085594e049e2e0c34ac65f9f } }) service)
  s.setBst { s.bst with se := { s.bst.se with otpBlocked := false } }
/-- A device whose ring A output has one slot, for its own cistern 0 at PHASE 0. -/
def slotted (s : State) : State := s.setCfg { s.cfg with slots := [(0, [⟨0, 100, 64, 0, some 0⟩])] }
/-- A device whose field buses have started. -/
def bused (l : List (Fld × Nat)) : State := put l (armed.setBus { armed.bus with on := true })

/-- A request with the CMAC of its text is accepted where it arrives, is fresh and is new. -/
theorem accepted_rq (typ : Nat) (body : List Byte) (s : State)
    (h : (arrives s (rq typ body) && (0 == s.devNum) && (!romDefault s || typ == 5) && !isSet s F.BST_DBG_STAT_ZEROISED &&
      s.bst.se.cmacKey == 0 && isFresh s (rq typ body) && isNewer s (rq typ body)) = true) : Accepted typ (rq typ body) body s := by
  simp only [Bool.and_eq_true, beq_iff_eq, Bool.or_eq_true, Bool.not_eq_true'] at h
  obtain ⟨⟨⟨⟨⟨⟨h1, h2⟩, h3⟩, h4⟩, h7⟩, h5⟩, h6⟩ := h
  refine ⟨h1, by rw [← h2]; rfl, h3, ?_, h5, h6⟩
  simp [macOk, rq, reqText, h4, h7]

/-! ### Statements have states that meet their hypotheses -/

theorem witness_setpoints_change_together :
    ((fun (who : Requestor) (ws : List Word) (s : State) => fromCore s who = true ∧ ws.length = 16) .ac0 (List.replicate 16 5) armed) ∧
    ((fun (s : State) => coresRun s = true) service) ∧
    ((fun (s : State) => armedOn s = true ∧ s.dev.running = true ∧ held s = false) (put [(F.STR_TASK_CFG_USED 31, 1),
      (F.STR_TASK_AXES_AXES 31, 2 ^ 31)] (axis 31 1 4 (modDev (fun d => { d with commits := 2 ^ 31 }) (wr32 (pendBase 31) 9 armed))))) := by
  refine ⟨?_, ?_, ?_⟩ <;> decide

theorem witness_stride_mark_advances :
    (fun (s : State) => marksRun s = true) armed := by decide

theorem witness_count_read_latches :
    (fun (s : State) => coresRun s = true) (modDev (fun d => { d with count := 0xFFFF00000001 }) armed) := by decide

theorem witness_sync_frames_are_heard :
    ((fun (f : SyncFrame) (s : State) => syncRuns s = true ∧ hopUp s 0 = true ∧ f.src.toNat ≠ s.devNum ∧ f.crcOk = true) syncF (hopIn 0 2
      (ring armed))) ∧
    ((fun (f : SyncFrame) (s : State) => syncRuns s = true ∧ hopUp s 1 = true ∧ f.src.toNat ≠ s.devNum ∧ f.crcOk = true) syncF (hopIn 1 2
      (ring (dev .sync)))) ∧
    ((fun (h : Ring) (s : State) => hopLive s h.toNat = true) .b (ring armed)) ∧
    ((fun (c : Stamp) (s : State) => (s.hop 0).copy0 = some c ∧ hopLive s 0 = true ∧ syncRuns s = true ∧ isSet s F.STR_SYNCSTAT_SYNCED =
      false) 7 (modHop 0 (fun x => { x with copy0 := some 7 }) (ring armed))) ∧
    ((fun (c : Stamp) (s : State) => (s.hop 1).copy0 = some c ∧ hopLive s 1 = true ∧ syncRuns s = true ∧ isSet s F.STR_SYNCSTAT_SYNCED =
      false) 7 (modHop 1 (fun x => { x with copy0 := some 7 }) (ring armed))) ∧
    ((fun (s : State) => syncRuns s = true ∧ 16 ≤ rd s F.STR_SYNCSTAT_HOLDCNT ∧ isSet s F.STR_SYNCSTAT_HOLDOVER = true ∧ s.dev.lostLogged
      = false) (put [(F.STR_SYNCSTAT_HOLDCNT, 16), (F.STR_SYNCSTAT_HOLDOVER, 1)] (ring armed))) ∧
    ((fun (s : State) => syncRuns s = true ∧ isSet s F.STR_SYNCCFG_STBY_EN = true ∧ rd s F.STR_SYNCCFG_STBY_DEV = s.devNum ∧ 8 ≤ rd s
      F.STR_SYNCSTAT_HOLDCNT ∧ isSet s F.STR_SYNCSTAT_SOURCE = false) (put [(F.STR_SYNCCFG_STBY_EN, 1), (F.STR_SYNCCFG_STBY_DEV, 1),
      (F.STR_SYNCSTAT_HOLDCNT, 8)] (ring armed))) ∧
    ((fun (s : State) => syncRuns s = true ∧ isSet s F.RNG_CFG_HEAD = true ∧ s.dev.st = .sync ∧ s.dev.running = true ∧ isSet s
      F.STR_SYNCSTAT_SOURCE = false ∧ ((64 ≤ s.dev.noSync ∨ (s.dev.hopSeen = false ∧ 20 * 800000 ≤ s.dev.syncStrides * s.per)))) (put
      [(F.RNG_CFG_HEAD, 1)] (modDev (fun d => { d with noSync := 64 }) (ring (dev .sync))))) ∧
    ((fun (s : State) => ringRuns s = true ∧ s.dev.st = .sync) (ring (dev .sync))) := by
  refine ⟨?_, ?_, ?_, ?_, ?_, ?_, ?_, ?_, ?_⟩ <;> decide

theorem witness_sense_results_are_delivered :
    ((fun (n : ChanNo) (s : State) => rd s (F.SNS_CH_CFG_ROLE n) ∉ [0, 5, 6] ∧ s.dev.mclk = true ∧ n.val < 24 * s.nTeams) 191 (put
      [(F.SNS_CH_CFG_ROLE 191, 1), (F.SNS_CH_CFG_MOSR 191, 2), (F.SNS_CH_GAIN_G 191, 2097152)] armed)) ∧
    ((fun (n : ChanNo) (exPh : Nat) (s : State) => rd s (F.SNS_CH_CFG_ROLE n) = 5 ∧ s.dev.mclk = true ∧ n.val < 24 * s.nTeams ∧
      resultEarly s n (rd s (F.SNS_CH_CFG_OBJ n)) exPh = false) 191 400 (put [(F.SNS_CH_CFG_ROLE 191, 5), (F.SNS_CH_CFG_MOSR 191, 2),
      (F.SNS_CH_GAIN_G 191, 2097152)] armed)) ∧
    ((fun (n : ChanNo) (exPh : Nat) (s : State) => rd s (F.SNS_CH_CFG_ROLE n) = 6 ∧ s.dev.mclk = true ∧ n.val < 24 * s.nTeams ∧
      resultEarly s n (rd s (F.SNS_CH_CFG_OBJ n)) exPh = false) 191 400 (put [(F.SNS_CH_CFG_ROLE 191, 6), (F.SNS_CH_CFG_MOSR 191, 2),
      (F.SNS_CH_GAIN_G 191, 2097152)] armed)) ∧
    ((fun (n : ChanNo) (bits : List Bool) (s : State) => ((rd s (F.SNS_CH_CFG_ROLE n) = 1 ∨ rd s (F.SNS_CH_CFG_ROLE n) = 4)) ∧ armedOn s =
      true ∧ (s.chan n).uncal = false ∧ n.val < 24 * s.nTeams ∧ fastSum (8 * (rd s (F.SNS_CH_CFG_FOSR n) + 1)) bits * 32768 > rdI s
      (F.SNS_CH_FTHR_FTH_HI n) * ((8 * (rd s (F.SNS_CH_CFG_FOSR n) + 1)) * (8 * (rd s (F.SNS_CH_CFG_FOSR n) + 1)) : Nat)) 191
      (List.replicate 40 true) (put [(F.SNS_CH_CFG_FTGT 191, 1), (F.SNS_CH_CFG_OBJ 191, 95), (F.SNS_CH_FTHR_FTH_HI 191, 100)] (put
      [(F.SNS_CH_CFG_ROLE 191, 1), (F.SNS_CH_CFG_MOSR 191, 2), (F.SNS_CH_GAIN_G 191, 2097152)] armed))) ∧
    ((fun (n : ChanNo) (bits : List Bool) (s : State) => ((rd s (F.SNS_CH_CFG_ROLE n) = 1 ∨ rd s (F.SNS_CH_CFG_ROLE n) = 4)) ∧ armedOn s =
      true ∧ (s.chan n).uncal = false ∧ n.val < 24 * s.nTeams ∧ fastSum (8 * (rd s (F.SNS_CH_CFG_FOSR n) + 1)) bits * 32768 ≤ rdI s
      (F.SNS_CH_FTHR_FTH_HI n) * ((8 * (rd s (F.SNS_CH_CFG_FOSR n) + 1)) * (8 * (rd s (F.SNS_CH_CFG_FOSR n) + 1)) : Nat) ∧ fastSum (8 *
      (rd s (F.SNS_CH_CFG_FOSR n) + 1)) bits * 32768 < rdI s (F.SNS_CH_FTHR_FTH_LO n) * ((8 * (rd s (F.SNS_CH_CFG_FOSR n) + 1)) * (8 * (rd
      s (F.SNS_CH_CFG_FOSR n) + 1)) : Nat)) 191 (List.replicate 40 false) (put [(F.SNS_CH_CFG_FTGT 191, 1), (F.SNS_CH_CFG_OBJ 191, 95)]
      (put [(F.SNS_CH_CFG_ROLE 191, 1), (F.SNS_CH_CFG_MOSR 191, 2), (F.SNS_CH_GAIN_G 191, 2097152)] armed))) ∧
    ((fun (n : ChanNo) (s : State) => rd s (F.SNS_CH_CFG_ROLE n) ≠ 0 ∧ s.dev.mclk = true ∧ n.val < 24 * s.nTeams ∧ isSet s
      (F.SNS_CH_STAT_STUCK n) = false) 191 (put [(F.SNS_CH_CFG_ROLE 191, 7), (F.SNS_CH_CFG_MOSR 191, 2), (F.SNS_CH_GAIN_G 191, 2097152)]
      armed)) ∧
    ((fun (t : TeamNo) (k : Fin 32) (s : State) => armedOn s = true ∧ t.val < s.nTeams ∧ isSet s (F.SNS_KSET_CFG_EN k) = true ∧ rd s
      (F.SNS_KSET_CFG_CHA k) / 24 = t.val ∧ isSet s (F.SNS_KSET_LIM_KFLT k) = false ∧ ((∀ c ∈ [rd s (F.SNS_KSET_CFG_CHA k), rd s
      (F.SNS_KSET_CFG_CHB k), rd s (F.SNS_KSET_CFG_CHC k)], c < 192 ∧ isSet s (F.SNS_CH_RES_VALID c) = true)) ∧ (rdI s (F.SNS_CH_RES_VALUE
      (rd s (F.SNS_KSET_CFG_CHA k))) + rdI s (F.SNS_CH_RES_VALUE (rd s (F.SNS_KSET_CFG_CHB k))) + rdI s (F.SNS_CH_RES_VALUE (rd s
      (F.SNS_KSET_CFG_CHC k)))).natAbs > rd s (F.SNS_KSET_LIM_KLIM k) ∧ rd s (F.SNS_KSET_CFG_KCNT k) ≤ tget (fun _ => 0) s.sense.kCnt k) 7
      31 (put [(F.SNS_KSET_CFG_EN 31, 1), (F.SNS_KSET_CFG_CHA 31, 168), (F.SNS_KSET_CFG_CHB 31, 169), (F.SNS_KSET_CFG_CHC 31, 191),
      (F.SNS_CH_RES_VALID 168, 1), (F.SNS_CH_RES_VALID 169, 1), (F.SNS_CH_RES_VALID 191, 1), (F.SNS_CH_RES_VALUE 191, 1)] armed)) ∧
    ((fun (t : TeamNo) (n : ChanNo) (s : State) => armedOn s = true ∧ t.val < s.nTeams ∧ n.val / 24 = t.val ∧ isSet s
      (F.SNS_CH_PAIR_PAIREN n) = true ∧ isSet s (F.SNS_CH_PAIR_PRIMARY n) = true ∧ rd s (F.SNS_CH_CFG_ROLE n) ≠ 0 ∧ isSet s
      (F.SNS_CH_STAT_PAIRFLT n) = false ∧ isSet s (F.SNS_CH_RES_VALID n) = true ∧ rd s (F.SNS_CH_PAIR_PARTNER n) < 192 ∧ isSet s
      (F.SNS_CH_RES_VALID (rd s (F.SNS_CH_PAIR_PARTNER n))) = true ∧ (rdI s (F.SNS_CH_RES_VALUE n) - rdI s (F.SNS_CH_RES_VALUE (rd s
      (F.SNS_CH_PAIR_PARTNER n)))).natAbs > rd s (F.SNS_CH_PAIR_DLIM n) ∧ rd s (F.SNS_CH_PAIR_DCNT n) ≤ (s.chan n).pairCnt) 7 191 (put
      [(F.SNS_CH_PAIR_PAIREN 191, 1), (F.SNS_CH_PAIR_PRIMARY 191, 1), (F.SNS_CH_PAIR_PARTNER 191, 190), (F.SNS_CH_RES_VALID 190, 1),
      (F.SNS_CH_RES_VALID 191, 1), (F.SNS_CH_RES_VALUE 191, 1)] (put [(F.SNS_CH_CFG_ROLE 191, 1), (F.SNS_CH_CFG_MOSR 191, 2),
      (F.SNS_CH_GAIN_G 191, 2097152)] armed))) ∧
    ((fun (a : AxisNo) (tr : Trim) (s : State) => armedOn s = true ∧ (s.ax a).trim = some tr ∧ axState s a = 2 ∧ tr.wait = 0 ∧ trimN s ≤
      tr.taken ∧ ((∀ p ∈ tr.chans.zip tr.sums, p.1 < 192 ∧ (Flt.roundAway p.2 (trimN s) - rdI s (F.SNS_CH_OFS_OFS_ID p.1)).natAbs ≤ rd s
      (F.SNS_CH_LIM_TRIMLIM p.1)))) 31 (⟨0, 16, [191], [0]⟩) (modAx 31 (fun x => { x with trim := some ⟨0, 16, [191], [0]⟩ }) (put
      [(F.STR_PERIOD_PERIOD, 160000)] (axis 31 1 2 armed)))) ∧
    ((fun (a : AxisNo) (tr : Trim) (s : State) => armedOn s = true ∧ (s.ax a).trim = some tr ∧ axState s a = 2 ∧ tr.wait = 0 ∧ trimN s ≤
      tr.taken ∧ (∃ p ∈ tr.chans.zip tr.sums, (Flt.roundAway p.2 (trimN s) - rdI s (F.SNS_CH_OFS_OFS_ID p.1)).natAbs > rd s
      (F.SNS_CH_LIM_TRIMLIM p.1))) 31 (⟨0, 16, [191], [100000]⟩) (modAx 31 (fun x => { x with trim := some ⟨0, 16, [191], [100000]⟩ })
      (put [(F.STR_PERIOD_PERIOD, 160000)] (axis 31 1 2 armed)))) := by
  refine ⟨?_, ?_, ?_, ?_, ?_, ?_, ?_, ?_, ?_, ?_⟩ <;> decide

theorem witness_position_inputs_move_the_count :
    ((fun (n : IfNo) (aLvl : Bool) (bLvl : Bool) (s : State) => ifRuns s n = true ∧ ifMode s n = 1 ∧ (aLvl != (s.ifc n).aLvl) ≠ (bLvl !=
      (s.ifc n).bLvl)) 15 true false (put [(F.POS_IF_CFG_MODE 15, 1), (F.POS_IF_CPR_CPR 15, 4096)] armed)) ∧
    ((fun (n : IfNo) (aLvl : Bool) (bLvl : Bool) (s : State) => ifRuns s n = true ∧ ifMode s n = 1 ∧ aLvl ≠ (s.ifc n).aLvl ∧ bLvl ≠ (s.ifc
      n).bLvl) 15 true true (put [(F.POS_IF_CFG_MODE 15, 1), (F.POS_IF_CPR_CPR 15, 4096)] armed)) ∧
    ((fun (n : IfNo) (s : State) => ifRuns s n = true ∧ ifMode s n = 1 ∧ (s.ifc n).aLvl = true ∧ (s.ifc n).bLvl = true ∧ ((rd s
      (F.POS_IF_CFG_ZMODE n) = 1 ∨ rd s (F.POS_IF_CFG_ZMODE n) = 2)) ∧ (s.ifc n).refSteps = 0) 15 (put [(F.POS_IF_CFG_ZMODE 15, 1)]
      (modIfc 15 (fun x => { x with aLvl := true, bLvl := true }) (put [(F.POS_IF_CFG_MODE 15, 1), (F.POS_IF_CPR_CPR 15, 4096)] armed)))) ∧
    ((fun (n : IfNo) (code : BitVec 3) (h : Nat) (s : State) => ifRuns s n = true ∧ ifMode s n = 2 ∧ hallSector code = some h ∧ (s.ifc
      n).first = true) 15 1 0 (modIfc 15 (fun x => { x with first := true, hall := 5, sector := 5 }) (put [(F.POS_IF_CFG_MODE 15, 2),
      (F.POS_IF_CPR_CPR 15, 4096)] armed))) ∧
    ((fun (n : IfNo) (s : State) => ifRuns s n = true ∧ ifMode s n = 2 ∧ hallSector (s.ifc n).hall = none ∧ isSet s (F.POS_IF_FLT_HALL n)
      = false) 15 (modIfc 15 (fun x => { x with hall := 7 }) (put [(F.POS_IF_CFG_MODE 15, 2), (F.POS_IF_CPR_CPR 15, 4096)] armed))) ∧
    ((fun (n : IfNo) (s : State) => ifRuns s n = true ∧ ifMode s n = 3 ∧ ssiDue s n = true) 15 (put [(F.POS_IF_SSI3_RPER 15, 10)] (modIfc
      15 (fun x => { x with us := 20 }) (put [(F.POS_IF_CFG_MODE 15, 3), (F.POS_IF_CPR_CPR 15, 4096)] armed)))) ∧
    ((fun (n : IfNo) (word : BitVec 64) (s : State) => ifRuns s n = true ∧ ifMode s n = 3 ∧ (s.ifc n).reqOut = true ∧ ssiVerdict s n word
      = none) 15 0x123 (put [(F.POS_IF_SSI0_WLEN 15, 24), (F.POS_IF_SSI1_STBITS 15, 24)] (modIfc 15 (fun x => { x with reqOut := true })
      (put [(F.POS_IF_CFG_MODE 15, 3), (F.POS_IF_CPR_CPR 15, 4096)] armed)))) ∧
    ((fun (n : IfNo) (word : BitVec 64) (kind : Nat) (data : Nat) (s : State) => ifRuns s n = true ∧ ifMode s n = 3 ∧ (s.ifc n).reqOut =
      true ∧ ssiVerdict s n word = some (kind, data)) 15 0x123 1 0 (put [(F.POS_IF_SSI0_WLEN 15, 24), (F.POS_IF_SSI1_STBITS 15, 24),
      (F.POS_IF_SSI0_ERREN 15, 1), (F.POS_IF_SSI0_ERRPOL 15, 1)] (modIfc 15 (fun x => { x with reqOut := true }) (put [(F.POS_IF_CFG_MODE
      15, 3), (F.POS_IF_CPR_CPR 15, 4096)] armed)))) ∧
    ((fun (n : IfNo) (s : State) => ifRuns s n = true ∧ ifMode s n = 3 ∧ (s.ifc n).reqOut = true) 15 (modIfc 15 (fun x =>
      { x with reqOut := true }) (put [(F.POS_IF_CFG_MODE 15, 3), (F.POS_IF_CPR_CPR 15, 4096)] armed))) ∧
    ((fun (n : IfNo) (s : State) => ifRuns s n = true ∧ ifMode s n = 4) 15 (put [(F.POS_IF_CFG_MODE 15, 4), (F.POS_IF_CPR_CPR 15, 4096)]
      armed)) := by
  refine ⟨?_, ?_, ?_, ?_, ?_, ?_, ?_, ?_, ?_, ?_⟩ <;> decide

theorem witness_observer_registers_latch :
    ((fun (n : IfNo) (v : Int) (age : Int) (s : State) => ifRuns s n = true ∧ ifFailed s n = false ∧ 3 ≤ ifMode s n ∧ (s.ifc n).meas =
      some (v, age) ∧ age ≤ 51200 ∧ (s.ifc n).fresh = true) 15 12 51200 (modIfc 15 (fun x =>
      { x with meas := some (12, 51200), fresh := true }) (put [(F.POS_IF_CFG_MODE 15, 3), (F.POS_IF_CPR_CPR 15, 4096)] armed))) ∧
    ((fun (n : IfNo) (v : Int) (s : State) => ifRuns s n = true ∧ ifFailed s n = false ∧ 3 ≤ ifMode s n ∧ (s.ifc n).meas = some (v, 0) ∧
      (s.ifc n).fresh = false ∧ (s.ifc n).rest = false ∧ (s.ifc n).still + 1 ≤ 1000 * rd s (F.POS_IF_OBS_REST n)) 15 12 (put
      [(F.POS_IF_OBS_REST 15, 1)] (modIfc 15 (fun x => { x with meas := some (12, 0), fresh := false }) (put [(F.POS_IF_CFG_MODE 15, 3),
      (F.POS_IF_CPR_CPR 15, 4096)] armed)))) ∧
    ((fun (s : State) => coresRun s = true) (modIfc 15 (fun x => { x with lvTurn := 5, lvSpd := 6, lvAcc := 7, lvErr := 8 }) armed)) ∧
    ((fun (s : State) => coresRun s = true) (modIfc 15 (fun x => { x with np := -3 }) (put [(F.POS_IF_CFG_MODE 15, 1), (F.POS_IF_CPR_CPR
      15, 4096)] armed))) ∧
    ((fun (s : State) => coresRun s = true) (modIfc 15 (fun x => { x with dir := 1 }) (put [(F.POS_CMP_CFG_IF 31, 15)] (put
      [(F.POS_IF_CFG_MODE 15, 1), (F.POS_IF_CPR_CPR 15, 4096)] armed)))) ∧
    ((fun (n : IfNo) (s : State) => coresRun s = true ∧ mayRecover s n = true) 15 (put [(F.POS_IF_FLT_FAILED 15, 1), (F.POS_IF_FLT_HALL
      15, 1)] armed)) := by
  refine ⟨?_, ?_, ?_, ?_, ?_, ?_⟩ <;> decide

theorem witness_sample_phase_latches_setpoints :
    (fun (t : TeamNo) (s : State) => armedOn s = true ∧ t.val < s.nTeams) 7 (axis 31 1 4 (axis 28 1 4 armed)) := by decide

theorem witness_loop_engine_writes_readback :
    (fun (t : TeamNo) (s : State) => armedOn s = true ∧ t.val < s.nTeams) 7 (put [(F.STR_PERIOD_PERIOD, 16000)] (axis 31 3 4 armed)) := by decide

theorem witness_duties_move_by_phase :
    (fun (t : TeamNo) (s : State) => armedOn s = true ∧ t.val < s.nTeams) 7 (put [(F.LE_AX_LEGS_NLEG 31, 1), (F.LE_AX_LEGS_LEG0_LEG5 31,
      11)] (modLeg 95 (fun l => { l with staged := some 9, shadow := some 4 }) (axis 31 1 4 armed))) := by decide

theorem witness_span_frames_are_taken :
    ((fun (a : AxisNo) (f : SpanUp) (s : State) => armedOn s = true ∧ axType s a = 6 ∧ spanOk s f.stamp f.crcOk f.late = true ∧
      f.payload.length = 56 ∧ (s.ax a).span.got = false) 31 (⟨List.replicate 56 3, 0, true, false⟩) (axis 31 6 4 armed)) ∧
    ((fun (a : AxisNo) (f : SpanDown) (s : State) => armedOn s = true ∧ axType s a = 7 ∧ spanOk s f.stamp f.crcOk f.late = true ∧
      f.payload.length = 32 ∧ (s.ax a).span.got = false) 31 (⟨List.replicate 32 3, 0, true, false⟩) (axis 31 7 4 armed)) ∧
    ((fun (a : AxisNo) (s : State) => armedOn s = true ∧ ((axType s a = 6 ∨ axType s a = 7)) ∧ (s.ax a).span.got = false) 31 (put
      [(F.LE_AX_SPANSTAT_CONSEC 31, 1)] (axis 31 6 4 armed))) := by
  refine ⟨?_, ?_, ?_⟩ <;> decide

theorem witness_leg_faults_latch :
    ((fun (n : LegNo) (ph : Nat) (since : Nat) (s : State) => armedOn s = true ∧ n.val < 12 * s.nTeams ∧ blanked s n (carPos s (n.val /
      12) ph + 1280 : Nat) since = false) 95 0 0 armed) ∧
    ((fun (n : LegNo) (ph : Nat) (since : Nat) (s : State) => armedOn s = true ∧ n.val < 12 * s.nTeams ∧ blanked s n (carPos s (n.val /
      12) ph + 1280 : Nat) since = true) 95 0 0 (put [(F.MOD_LEG_CFG_BLANK 95, 255), (F.STR_PERIOD_PERIOD, 16000)] (modLeg 95 (fun l =>
      { l with edges := [((carPos (put [(F.STR_PERIOD_PERIOD, 16000)] armed) 7 0 + 1280 : Nat), 3)] }) armed))) ∧
    ((fun (n : LegNo) (s : State) => armedOn s = true ∧ isSet s (F.MOD_LEG_FLT_PEND n) = true) 95 (put [(F.MOD_LEG_FLT_PEND 95, 1)]
      armed)) ∧
    ((fun (n : LegNo) (s : State) => coresRun s = true ∧ n.val < 12 * s.nTeams ∧ ((∀ a, legAxis s n = some a → axIdle s a = true))) 95
      (put [(F.MOD_LEG_FLT_FAULTED 95, 1), (F.MOD_LEG_FLT_SIDE 95, 2)] armed)) ∧
    ((fun (n : LegNo) (s : State) => coresRun s = true ∧ n.val < 12 * s.nTeams ∧ ((∀ a, legAxis s n = some a → axIdle s a = true))) 95
      (put [(F.MOD_LEG_FLT_FAULTED 95, 1), (F.MOD_LEG_FLT_LFLT 95, 1)] armed)) := by
  refine ⟨?_, ?_, ?_, ?_, ?_⟩ <;> decide

theorem witness_gate_supply_locks_out :
    ((fun (t : TeamNo) (s : State) => armedOn s = true ∧ t.val < s.nTeams ∧ isSet s (F.MOD_TEAM_STAT_GSUV t) = false) 7 (axis 31 1 4
      armed)) ∧
    ((fun (t : TeamNo) (s : State) => armedOn s = true ∧ t.val < s.nTeams) 7 armed) ∧
    ((fun (s : State) => coresRun s = true) (put [(F.MOD_TEAM_STAT_GSUV 7, 1), (F.MOD_TEAM_STAT_GSREL 7, 1)] armed)) ∧
    ((fun (n : LegNo) (s : State) => armedOn s = true ∧ n.val / 12 < s.nTeams ∧ switching s n = true) 95 (put [(F.LE_AX_LEGS_NLEG 31, 1),
      (F.LE_AX_LEGS_LEG0_LEG5 31, 11), (F.STR_PERIOD_PERIOD, 16000), (F.SAF_TEAMEN_EN, 128)] (modLeg 95 (fun l =>
      { l with duty := 30000, prev := 30000, hiz := false }) (axis 31 1 4 armed)))) ∧
    ((fun (t : TeamNo) (s : State) => armedOn s = true ∧ t.val < s.nTeams ∧ rd s (F.MOD_TEAM_CFG_ILKWIN t) ≠ 0 ∧ s.dev.count.toNat % rd s
      (F.MOD_TEAM_CFG_ILKWIN t) = 0) 7 (put [(F.MOD_TEAM_CFG_ILKWIN 7, 1), (F.MOD_LEG_CNT_ILKCNT 95, 4)] armed)) ∧
    ((fun (n : LegNo) (s : State) => armedOn s = true ∧ (s.leg n).preOn = true) 95 (modLeg 95 (fun l => { l with preOn := true }) armed)) ∧
    ((fun (t : TeamNo) (s : State) => s.dev.st = .identify ∧ isSet s (F.MOD_DSPI_CFG_EN t) = true ∧ isSet s (F.MOD_DSPI_STAT_DONE t) =
      false) 7 (put [(F.MOD_DSPI_CFG_EN 7, 1)] (dev .identify))) := by
  refine ⟨?_, ?_, ?_, ?_, ?_, ?_, ?_⟩ <;> decide

set_option maxRecDepth 20000 in
theorem witness_axis_requests_and_starts :
    ((fun (a : AxisNo) (s : State) => coresRun s = true ∧ axType s a ≠ 0 ∧ a.val < s.nAxes ∧ axType s a ≠ 7 ∧ statorOf s a = none) 31
      (axis 31 1 7 armed)) ∧
    ((fun (a : AxisNo) (s : State) => ((axType s a = 0 ∨ s.nAxes ≤ a.val ∨ axType s a = 7 ∨ statorOf s a ≠ none))) 31 (axis 31 7 1 armed)) ∧
    ((fun (a : AxisNo) (s : State) => isSet s (F.LE_AX_STATE_STOPPING a) = true ∧ 8 ≤ (s.ax a).stopCnt) 31 (modAx 31 (fun x =>
      { x with stopCnt := 8, stopTo := 3 }) (put [(F.LE_AX_STATE_STEP 31, 0), (F.STR_PERIOD_PERIOD, 16000), (F.LE_AX_STATE_STOPPING 31,
      1)] (axis 31 1 4 armed)))) ∧
    ((fun (a : AxisNo) (s : State) => starting s a 1 = true ∧ 16 ≤ (s.ax a).fieldCnt) 31 (modAx 31 (fun x =>
      { x with fieldCnt := 16, path := 2 }) (put [(F.LE_AX_STATE_STEP 31, 1), (F.STR_PERIOD_PERIOD, 16000)] (axis 31 1 3 armed)))) ∧
    ((fun (a : AxisNo) (s : State) => starting s a 4 = true ∧ s.msStrides (prm s a 0x8D4).toNat ≤ (s.ax a).stepCnt ∧ (s.ax a).path = 2 ∧
      inRest s a = true) 31 (wr32 (inBase 31 + 4) 0x40000 (modAx 31 (fun x => { x with path := 2, stepCnt := 0 }) (put
      [(F.LE_AX_STATE_STEP 31, 4), (F.STR_PERIOD_PERIOD, 16000), (F.LE_AX_MOTOR_POLEP 31, 3)] (axis 31 1 3 armed))))) ∧
    ((fun (a : AxisNo) (s : State) => starting s a 4 = true ∧ s.msStrides (prm s a 0x8D4).toNat ≤ (s.ax a).stepCnt ∧ (s.ax a).path ≠ 2) 31
      (modAx 31 (fun x => { x with path := 3 }) (put [(F.LE_AX_STATE_STEP 31, 4), (F.STR_PERIOD_PERIOD, 16000)] (axis 31 1 3 armed)))) ∧
    ((fun (a : AxisNo) (s : State) => starting s a 6 = true ∧ 16 ≤ (s.ax a).blend) 31 (modAx 31 (fun x => { x with blend := 16 }) (put
      [(F.LE_AX_STATE_STEP 31, 6), (F.STR_PERIOD_PERIOD, 16000)] (axis 31 1 3 armed)))) ∧
    ((fun (a : AxisNo) (s : State) => starting s a 2 = true ∧ s.strides 2000 ≤ (s.ax a).catches.length ∧ ((Flt.lt (catchFit (s.ax
      a).catches).2.2.2 (prm s a 0x8BC) = true ∨ (Flt.lt 0x3e4ccccd (catchFit (s.ax a).catches).2.2.1 = false ∧ Flt.lt (Flt.abs (catchSpd
      s a)) (prm s a 0x8C0) = true)))) 31 (wr32 (prmBase 31 + 0x8BC) 0x3f800000 (modAx 31 (fun x =>
      { x with catches := List.replicate 100 (0, 0) }) (put [(F.LE_AX_STATE_STEP 31, 2), (F.STR_PERIOD_PERIOD, 16000)] (axis 31 1 3
      armed))))) ∧
    ((fun (a : AxisNo) (s : State) => starting s a 2 = true ∧ s.strides 2000 ≤ (s.ax a).catches.length ∧ Flt.lt (catchFit (s.ax
      a).catches).2.2.2 (prm s a 0x8BC) = false ∧ Flt.lt 0x3e4ccccd (catchFit (s.ax a).catches).2.2.1 = true) 31 (modAx 31 (fun x =>
      { x with catches := (List.range 125).map fun k => (if k % 2 = 0 then 0 else 0x3f800000, 0x3f800000) }) (put [(F.LE_AX_STATE_STEP 31,
      2), (F.STR_PERIOD_PERIOD, 16000)] (axis 31 1 3 armed)))) ∧
    ((fun (a : AxisNo) (s : State) => starting s a 2 = true ∧ s.strides 2000 ≤ (s.ax a).catches.length ∧ Flt.lt (catchFit (s.ax
      a).catches).2.2.2 (prm s a 0x8BC) = false ∧ Flt.lt 0x3e4ccccd (catchFit (s.ax a).catches).2.2.1 = false ∧ Flt.lt (Flt.abs (catchSpd
      s a)) (prm s a 0x8C0) = false) 31 (modAx 31 (fun x => { x with catches := List.replicate 125 (0, 0x3f800000) }) (put
      [(F.LE_AX_STATE_STEP 31, 2), (F.STR_PERIOD_PERIOD, 16000)] (axis 31 1 3 armed)))) ∧
    ((fun (a : AxisNo) (s : State) => starting s a 3 = true ∧ (s.ax a).brkEnd = false ∧ s.msStrides (prm s a 0x8DC).toNat ≤ (s.ax
      a).stepCnt) 31 (modAx 31 (fun x => { x with stepCnt := 0 }) (put [(F.LE_AX_STATE_STEP 31, 3), (F.STR_PERIOD_PERIOD, 16000)] (axis 31
      1 3 armed)))) ∧
    ((fun (a : AxisNo) (s : State) => axState s a = 3 ∧ (s.ax a).closed = false ∧ isMachine s a = true ∧ rd s (F.LE_AX_STATE_STEP a) ≠ 3 ∧
      s.msStrides (prm s a 0x8D8).toNat ≤ (s.ax a).startCnt) 31 (modAx 31 (fun x => { x with startCnt := 0 }) (put [(F.LE_AX_STATE_STEP
      31, 4), (F.STR_PERIOD_PERIOD, 16000)] (axis 31 1 3 armed)))) ∧
    ((fun (a : AxisNo) (s : State) => angSrc s a = 1 ∧ ((axState s a = 4 ∨ axState s a = 5)) ∧ ((32 ≤ (s.ax a).estClr ∨ 16 ≤ (s.ax
      a).estLow))) 31 (modAx 31 (fun x => { x with estLow := 16 }) (put [(F.LE_AX_STATE_STEP 31, 0), (F.STR_PERIOD_PERIOD, 16000),
      (F.LE_AX_STATE_ANGSRC 31, 1)] (axis 31 1 5 armed)))) ∧
    ((fun (a : AxisNo) (s : State) => armedOn s = true ∧ axState s a = 6 ∧ ((rd s (F.LE_AX_STATE_SAFEVAR a) = 1 ∨ rd s
      (F.LE_AX_STATE_SAFEVAR a) = 2)) ∧ 64 ≤ (s.ax a).relCnt) 31 (modAx 31 (fun x => { x with relCnt := 64 }) (put [(F.LE_AX_STATE_STEP
      31, 0), (F.STR_PERIOD_PERIOD, 16000), (F.LE_AX_STATE_SAFEVAR 31, 2)] (axis 31 1 6 armed)))) := by
  refine ⟨?_, ?_, ?_, ?_, ?_, ?_, ?_, ?_, ?_, ?_, ?_, ?_, ?_, ?_⟩ <;> decide +kernel

theorem witness_discharges_begin_and_end :
    ((fun (g : Fin 4) (s : State) => coresRun s = true ∧ isSet s (F.LE_DCL_DCFG_EN g) = true ∧ isSet s (F.LE_DCL_DCFG_TRGHOST g) = true ∧
      ((∀ a ∈ dclAxes s g, axActive s a = false))) 3 (put [(F.LE_DCL_DCFG_EN 3, 1), (F.LE_DCL_DCFG_TRGHOST 3, 1)] (axis 31 1 1 armed))) ∧
    ((fun (g : Fin 4) (s : State) => (∃ a ∈ dclAxes s g, axActive s a = true)) 3 (put [(F.LE_AX_CFG_DCL 31, 3)] (axis 31 1 4 armed))) ∧
    ((fun (g : Fin 4) (s : State) => coresRun s = true ∧ isSet s (F.LE_DCL_DSTAT_ACTIVE g) = true ∧ rd s (F.LE_DCL_DSTAT_SRC g) = 1) 3
      (put [(F.LE_DCL_DSTAT_ACTIVE 3, 1), (F.LE_DCL_DSTAT_SRC 3, 1)] armed)) ∧
    ((fun (g : Fin 4) (s : State) => armedOn s = true ∧ isSet s (F.LE_DCL_DSTAT_ACTIVE g) = true ∧ 16 ≤ (s.dcl g).low) 3 (put
      [(F.LE_DCL_DSTAT_ACTIVE 3, 1), (F.LE_DCL_DSTAT_RES 3, 1)] (modDcl 3 (fun d => { d with low := 16 }) armed))) ∧
    ((fun (g : Fin 4) (s : State) => armedOn s = true ∧ isSet s (F.LE_DCL_DSTAT_ACTIVE g) = true ∧ s.msStrides (rd s
      (F.LE_DCL_DCFG_TDCHMAX g)) ≤ (s.dcl g).strides) 3 (put [(F.LE_DCL_DSTAT_ACTIVE 3, 1), (F.LE_DCL_DSTAT_RES 3, 1),
      (F.LE_DCL_DCFG_TDCHMAX 3, 1), (F.STR_PERIOD_PERIOD, 16000)] (modDcl 3 (fun d => { d with strides := 50 }) armed))) := by
  refine ⟨?_, ?_, ?_, ?_, ?_⟩ <;> decide

theorem witness_smc_starts_and_watches :
    ((fun (s : State) => s.dev.st = .armed ∧ isSet s F.CFG_STAT_LOADED = true ∧ isSet s F.SAF_STAT_SMCOK = false ∧ isSet s
      F.SAF_STAT_DVLAT = false ∧ ((∀ t < s.nTeams, (s.team t).pathFail = false))) (put [(F.CFG_STAT_LOADED, 1)] (axis 31 1 1 armed))) ∧
    ((fun (low : Byte) (high : Byte) (k : TeamNo) (s : State) => s.dev.st = .armed ∧ isSet s F.CFG_STAT_LOADED = true ∧ isSet s
      F.SAF_STAT_SMCOK = false ∧ k.val < s.nTeams ∧ ((∀ t < s.nTeams, (s.team t).pathFail = false)) ∧ ((low.getLsbD k = true ∨
      high.getLsbD k = true))) 0x80 0 7 (put [(F.CFG_STAT_LOADED, 1)] (axis 31 1 1 armed))) ∧
    ((fun (s : State) => monitored s = true) (put [(F.SAF_TEAMEN_EN, 128)] service)) ∧
    ((fun (a : AxisNo) (s : State) => smcStrides s = true ∧ axType s a ≠ 0 ∧ 64 ≤ (s.mon a).age ∧ isSet s (F.SAF_AX_TMSTAT_STALE a) =
      false) 31 (modMon 31 (fun m => { m with age := 64 }) (axis 31 1 1 armed))) ∧
    ((fun (s : State) => smcRuns s = true ∧ isSet s F.SAF_STAT_DVLAT = false) (axis 31 1 4 service)) := by
  refine ⟨?_, ?_, ?_, ?_, ?_⟩ <;> decide

theorem witness_monitors_request_safe_states :
    ((fun (a : AxisNo) (s : State) => smcRuns s = true ∧ (s.mon a).judged = false ∧ a.val ∈ axesUsed s ∧ tmDue (tmStride a s) a = true) 31
      (modMon 31 (fun m => { m with on := true }) ((put [(F.SAF_AX_TMCFG_MODE 31, 2), (F.STR_PERIOD_PERIOD, 16000)] (axis 31 3 4
      service)).setSaf { service.saf with blocks := [(32326, 0x80), (32327, 0xBF)] }))) ∧
    ((fun (n : LegNo) (a : Nat) (s : State) => smcStrides s = true ∧ legAxis s n = some a ∧ a < 32 ∧ (s.ax a).fwWatch = some 2) 95 31
      (modAx 31 (fun x => { x with fwWatch := some 2 }) (put [(F.LE_AX_LEGS_NLEG 31, 1), (F.LE_AX_LEGS_LEG0_LEG5 31, 11)] (axis 31 1 6
      service)))) ∧
    ((fun (a : AxisNo) (s : State) => coresRun s = true ∧ isSet s (F.SAF_AX_FLT_AXF a) = true) 31 (put [(F.SAF_AX_FLT_AXF 31, 1)]
      service)) ∧
    ((fun (s : State) => coresRun s = true) (put [(F.SAF_TEAMFLT_TMLAT, 0x81)] service)) := by
  refine ⟨?_, ?_, ?_, ?_⟩ <;> decide +kernel

theorem witness_safe_inputs_agree_or_fault :
    ((fun (n : Fin 16) (s : State) => siRuns s n = true) 15 (put [(F.SAF_SI_CFG_EN 15, 1), (F.SAF_SI_CFG_ANTI 15, 1)] service)) ∧
    ((fun (n : Fin 16) (s : State) => siRuns s n = true ∧ isSet s (F.SAF_SI_STAT_DISC n) = true ∧ (tget (fun _ => {}) s.saf.ins n).expired
      = false) 15 (put [(F.SAF_SI_CFG_EN 15, 1), (F.SAF_SI_STAT_DISC 15, 1)] service)) := by
  refine ⟨?_, ?_⟩ <;> decide

theorem witness_safe_brakes_follow_their_conditions :
    ((fun (n : Fin 8) (s : State) => s.saf.islandClk = true ∧ (s.brk n).cond = true ∧ s.dev.st = .service ∧ isSet s F.SAF_STAT_DVLAT =
      false ∧ sbOn s n = false) 7 (modBrk 7 (fun b => { b with cond := true }) service)) ∧
    ((fun (n : Fin 8) (s : State) => s.saf.islandClk = true ∧ (((s.brk n).cond = false ∨ s.dev.st ≠ .service ∨ isSet s F.SAF_STAT_DVLAT =
      true))) 7 (put [(F.SAF_SB_STAT_RELEASED 7, 1), (F.SAF_SB_STAT_CMDH 7, 1), (F.SAF_SB_STAT_CMDL 7, 1)] service)) ∧
    ((fun (n : Fin 8) (h : Bool) (l : Bool) (s : State) => monitored s = true ∧ isSet s (F.SAF_SB_CFG_EN n) = true ∧ isSet s
      (F.SAF_SB_STAT_TESTING n) = false ∧ isSet s (F.SAF_SB_STAT_RBFLT n) = false ∧ ((h ≠ isSet s (F.SAF_SB_STAT_CMDH n) ∨ l ≠ isSet s
      (F.SAF_SB_STAT_CMDL n)))) 7 true false (put [(F.SAF_SB_CFG_EN 7, 1)] service)) ∧
    ((fun (n : Fin 8) (s : State) => smcStrides s = true ∧ isSet s (F.SAF_SB_STAT_RELEASED n) = true) 7 (put [(F.SAF_SB_STAT_RELEASED 7,
      1), (F.SAF_SB_STAT_CMDH 7, 1), (F.SAF_SB_STAT_CMDL 7, 1)] service)) ∧
    ((fun (n : Fin 8) (s : State) => smcStrides s = true ∧ isSet s (F.SAF_SB_STAT_TESTING n) = true) 7 (put [(F.SAF_SB_STAT_TESTING 7, 1),
      (F.SAF_SB_STAT_CMDL 7, 1)] service)) ∧
    ((fun (n : Fin 8) (s : State) => coresRun s = true ∧ isSet s (F.SAF_SB_STAT_CMDH n) = false ∧ isSet s (F.SAF_SB_STAT_CMDL n) = false)
      7 (put [(F.SAF_SB_STAT_TESTFLT 7, 1), (F.SAF_SB_STAT_RBFLT 7, 1)] service)) := by
  refine ⟨?_, ?_, ?_, ?_, ?_, ?_⟩ <;> decide

theorem witness_clock_monitor_classes :
    ((fun (dev : Int) (lost : Bool) (s : State) => s.saf.islandClk = true ∧ held s = false ∧ s.dev.st ≠ .parked ∧ s.dev.st ≠ .sleep ∧
      dev.natAbs ≤ 600 ∧ lost = false) (-600) false service) ∧
    ((fun (dev : Int) (lost : Bool) (s : State) => s.saf.islandClk = true ∧ held s = false ∧ ((600 < dev.natAbs ∨ lost = true)) ∧
      ((s.dev.st = .armed ∨ s.dev.st = .service))) 601 false (axis 31 1 4 service)) ∧
    ((fun (s : State) => monitored s = true ∧ s.saf.islandClk = true) (put [(F.SAF_TEAMEN_EN, 3)] (axis 31 1 4 service))) := by
  refine ⟨?_, ?_, ?_⟩ <;> decide

set_option maxRecDepth 20000 in
theorem witness_safe_frames_are_paired :
    ((fun (c : Fin 32) (bytes : List Byte) (s : State) => connRx s c = true ∧ copyOk s c bytes = false) 31 ([1, 2]) (put
      [(F.GRP_CONN_CFG_EN 31, 1), (F.GRP_CONN_STAT_REF 31, 1)] service)) ∧
    ((fun (c : Fin 32) (bytes : List Byte) (s : State) => connRx s c = true ∧ isSet s (F.GRP_CONN_STAT_CFAIL c) = false ∧ copyOk s c bytes
      = true ∧ isSet s (F.GRP_CONN_STAT_REF c) = true ∧ seqNewer (field bytes 4 4) (s.conn c).ref = true ∧ (s.conn c).mism.contains (field
      bytes 4 4) = false ∧ (s.conn c).waits.find? (fun w => w.seq == field bytes 4 4) = none) 31 frame0 (put [(F.GRP_CONN_CFG_EN 31, 1),
      (F.GRP_CONN_STAT_REF 31, 1)] service)) ∧
    ((fun (c : Fin 32) (path : Ring) (bytes : List Byte) (w : Copy) (s : State) => connRx s c = true ∧ isSet s (F.GRP_CONN_STAT_CFAIL c) =
      false ∧ copyOk s c bytes = true ∧ isSet s (F.GRP_CONN_STAT_REF c) = true ∧ seqNewer (field bytes 4 4) (s.conn c).ref = true ∧
      (s.conn c).mism.contains (field bytes 4 4) = false ∧ (s.conn c).waits.find? (fun w => w.seq == field bytes 4 4) = some w ∧ w.path ≠
      path.toNat ∧ w.bytes = bytes) 31 .b frame0 (⟨0, 1, frame0, 0⟩) (modConn 31 (fun x => { x with waits := [⟨0, 1, frame0, 0⟩] }) (put
      [(F.GRP_CONN_CFG_EN 31, 1), (F.GRP_CONN_STAT_REF 31, 1)] service))) ∧
    ((fun (c : Fin 32) (path : Ring) (bytes : List Byte) (w : Copy) (s : State) => connRx s c = true ∧ isSet s (F.GRP_CONN_STAT_CFAIL c) =
      false ∧ copyOk s c bytes = true ∧ isSet s (F.GRP_CONN_STAT_REF c) = true ∧ seqNewer (field bytes 4 4) (s.conn c).ref = true ∧
      (s.conn c).mism.contains (field bytes 4 4) = false ∧ (s.conn c).waits.find? (fun w => w.seq == field bytes 4 4) = some w ∧ w.path ≠
      path.toNat ∧ w.bytes ≠ bytes) 31 .b frame0 (⟨0, 1, [], 0⟩) (modConn 31 (fun x => { x with waits := [⟨0, 1, [], 0⟩] }) (put
      [(F.GRP_CONN_CFG_EN 31, 1), (F.GRP_CONN_STAT_REF 31, 1)] service))) ∧
    ((fun (c : Fin 32) (w : Copy) (l : List Copy) (s : State) => connRx s c = true ∧ dueCopies s c = w :: l) 31 (⟨1, 1, frame0, 1⟩) ([])
      (modConn 31 (fun x => { x with waits := [⟨1, 1, frame0, 1⟩] }) (put [(F.GRP_CONN_CFG_EN 31, 1), (F.GRP_CONN_STAT_REF 31, 1),
      (F.GRP_CONN_STAT_SPRUN 31, 254), (F.GRP_CONN_CFG_SPLIM 31, 253)] service))) ∧
    ((fun (c : Fin 32) (s : State) => coresRun s = true ∧ isSet s (F.GRP_CONN_STAT_CFAIL c) = true) 31 (put [(F.GRP_CONN_CFG_EN 31, 1),
      (F.GRP_CONN_STAT_REF 31, 1), (F.GRP_CONN_STAT_CFAIL 31, 1)] service)) ∧
    ((fun (c : Fin 32) (s : State) => connRx s c = true ∧ (s.conn c).wdOn = true ∧ rd s (F.GRP_CONN_CFG_WDT c) ≤ (s.conn c).wd ∧ isSet s
      (F.GRP_CONN_STAT_WDEXP c) = false) 31 (modConn 31 (fun x => { x with wdOn := true }) (put [(F.GRP_CONN_CFG_EN 31, 1),
      (F.GRP_CONN_STAT_REF 31, 1), (F.GRP_G_CFG_EN 3, 1), (F.GRP_G_CONN_HEN 3, 1), (F.GRP_G_CONN_HC 3, 31)] service))) := by
  refine ⟨?_, ?_, ?_, ?_, ?_, ?_, ?_⟩ <;> decide

theorem witness_rein_commands_are_obeyed :
    ((fun (g : Fin 4) (term : BitVec 16) (s : State) => grpRuns s g = true ∧ isSet s (F.GRP_G_CFG_TRIPLEX g) = false ∧ term ≠ 0 ∧ (s.group
      g).revoked ≠ term.toNat ∧ termNewer (grpTerm s g) term.toNat = false) 3 5 (put [(F.GRP_G_STAT_TERM 3, 5), (F.GRP_G_STAT_HOLDER 3,
      1)] (put [(F.GRP_G_CFG_EN 3, 1), (F.GRP_G_STAT_STATE 3, 3)] service))) ∧
    ((fun (g : Fin 4) (term : BitVec 16) (s : State) => grpRuns s g = true ∧ isSet s (F.GRP_G_CFG_TRIPLEX g) = false ∧ termNewer
      term.toNat (grpTerm s g) = true ∧ ((grpL s g < grpAge s g ∨ grpTerm s g = 0)) ∧ (s.group g).cand = none) 3 6 (put
      [(F.GRP_G_STAT_TERM 3, 5), (F.GRP_G_STAT_HOLDER 3, 1), (F.GRP_G_LEASE_AGE 3, 2)] (put [(F.GRP_G_CFG_EN 3, 1), (F.GRP_G_STAT_STATE 3,
      3)] service))) ∧
    ((fun (g : Fin 4) (rank : Byte) (s : State) => grpRuns s g = true ∧ isSet s (F.GRP_G_CFG_TRIPLEX g) = false ∧ rank.toNat = grpRank s g
      ∧ rd s (F.GRP_G_STAT_STATE g) = 2 ∧ isSet s (F.GRP_G_STAT_HEALTHY g) = true) 3 1 (put [(F.GRP_G_CFG_EN 3, 1), (F.GRP_G_STAT_STATE 3,
      2), (F.GRP_G_CFG_RANK 3, 1), (F.GRP_G_STAT_HEALTHY 3, 1)] service)) ∧
    ((fun (g : Fin 4) (src : CmdSource) (s : State) => cmdFrom s g src = false) 3 (.member 1 true) (put [(F.GRP_G_CFG_EN 3, 1),
      (F.GRP_G_STAT_STATE 3, 3)] service)) := by
  refine ⟨?_, ?_, ?_, ?_⟩ <;> decide

theorem witness_leases_end_on_time :
    ((fun (who : Requestor) (s : State) => fromCore s who = true) .ac0 service) ∧
    ((fun (who : Requestor) (s : State) => fromCore s who = true) .ac0 (put [(F.GRP_G_STAT_HOLDER 3, 1)] service)) ∧
    ((fun (g : Fin 4) (bytes : List Byte) (s : State) => grpRuns s g = true ∧ isSet s (F.GRP_G_CFG_TRIPLEX g) = true ∧ field bytes 0 1 =
      1) 3 ([1, 0, 0, 0, 0, 2]) (put [(F.GRP_G_CFG_EN 3, 1), (F.GRP_G_STAT_STATE 3, 3), (F.GRP_G_CFG_TRIPLEX 3, 1), (F.GRP_G_CFG_RANK 3,
      2)] service)) ∧
    ((fun (g : Fin 4) (bytes : List Byte) (s : State) => grpRuns s g = true ∧ isSet s (F.GRP_G_CFG_TRIPLEX g) = false ∧ field bytes 0 1 =
      1) 3 ([1, 0, 0, 0, 0, 2]) (put [(F.GRP_G_CFG_EN 3, 1), (F.GRP_G_STAT_STATE 3, 3), (F.GRP_G_CFG_RANK 3, 2)] service)) ∧
    ((fun (g : Fin 4) (s : State) => grpRuns s g = true ∧ (s.group g).stamp ≠ none ∧ grpL s g < grpAge s g ∧ (s.group g).expLogged =
      false) 3 (modGroup 3 (fun x => { x with stamp := some 1 }) (put [(F.GRP_G_CFG_EN 3, 1), (F.GRP_G_STAT_STATE 3, 3),
      (F.GRP_G_LEASE_AGE 3, 2)] service))) ∧
    ((fun (g : Fin 4) (s : State) => grpRuns s g = true ∧ grpAdmitted s g = true ∧ (s.group g).renMark = false ∧ grpL s g + 3 ≤ grpAge s g
      ∧ isSet s (F.GRP_G_STAT_NOREIN g) = false) 3 (put [(F.GRP_G_CFG_EN 3, 1), (F.GRP_G_STAT_STATE 3, 3), (F.GRP_G_LEASE_AGE 3, 4),
      (F.GRP_G_STAT_NOREIN 3, 0)] service)) ∧
    ((fun (g : Fin 4) (s : State) => grpRuns s g = true ∧ isSet s (F.GRP_G_CFG_TRIPLEX g) = false ∧ grpAdmitted s g = true ∧ isSet s
      (F.GRP_G_STAT_HEALTHY g) = true ∧ hostSilent s g = true ∧ isSet s (F.GRP_G_STAT_HOLDER g) = false ∧ grpTerm s g ≠ 0 ∧ grpAge s g =
      grpL s g + 3) 3 (put [(F.GRP_G_CFG_EN 3, 1), (F.GRP_G_STAT_STATE 3, 3), (F.GRP_G_LEASE_AGE 3, 4), (F.GRP_G_STAT_HEALTHY 3, 1),
      (F.GRP_G_STAT_TERM 3, 65535)] service)) ∧
    ((fun (g : Fin 4) (s : State) => grpRuns s g = true ∧ grpL s g ≤ grpQage s g ∧ isSet s (F.GRP_G_STAT_QUORUM g) = true) 3 (put
      [(F.GRP_G_CFG_EN 3, 1), (F.GRP_G_STAT_STATE 3, 3), (F.GRP_G_LEASE_QAGE 3, 1), (F.GRP_G_STAT_QUORUM 3, 1), (F.GRP_G_STAT_HOLDER 3,
      1)] service)) ∧
    ((fun (g : Fin 4) (s : State) => grpRuns s g = true ∧ rd s (F.GRP_G_STAT_STATE g) = 1 ∧ 64 ≤ rd s (F.GRP_G_LEASE_LISTEN g)) 3 (put
      [(F.GRP_G_CFG_EN 3, 1), (F.GRP_G_STAT_STATE 3, 1), (F.GRP_G_LEASE_LISTEN 3, 64)] service)) := by
  refine ⟨?_, ?_, ?_, ?_, ?_, ?_, ?_, ?_, ?_⟩ <;> decide

theorem witness_lockstep_holds_the_pair :
    ((fun (p : PairNo) (groups : Byte) (ra : Bool) (rb : Bool) (par : Bool) (s : State) => lockOn s p = true ∧ (((groups ≠ 0 ∧ (ra = true
      ∨ rb = true)) ∨ par = true)) ∧ ((s.dev.st = .armed ∨ s.dev.st = .service))) 1 32 false true false service) ∧
    ((fun (p : PairNo) (m : Word) (c : Word) (s : State) => lockOn s p = true ∧ m ≠ c ∧ ((s.dev.st = .armed ∨ s.dev.st = .service))) 1 1 2
      armed) ∧
    ((fun (p : PairNo) (s : State) => coresRun s = true ∧ (s.pair p).attrPend = true ∧ rd s F.BST_LSFLT_PAIR = p.val) 1 (put
      [(F.BST_LSFLT_PAIR, 1)] (modPair 1 (fun x => { x with attrPend := true }) service))) ∧
    ((fun (p : PairNo) (s : State) => lockOn s p = true) 1 service) ∧
    ((fun (p : PairNo) (s : State) => coresRun s = true ∧ (s.pair p).verdict = 2) 1 (put [(F.BST_PAIR_SIG_MISSCNT 1, 1)] (modPair 1 (fun x
      => { x with verdict := 2 }) service))) := by
  refine ⟨?_, ?_, ?_, ?_, ?_⟩ <;> decide

theorem witness_pairs_split_and_rejoin :
    ((fun (p : PairNo) (s : State) => coresRun s = true ∧ isSet s (F.BST_PAIR_CFG_SPLITEN p) = true ∧ isSet s F.SAF_STAT_SMCOK = true ∧
      isSet s F.SAF_STAT_DVLAT = false ∧ pairMode s p ≤ 1) 1 (put [(F.BST_PAIR_CFG_SPLITEN 1, 1), (F.BST_PAIR_STAT_MODE 1, 1),
      (F.SAF_STAT_SMCOK, 1)] service)) ∧
    ((fun (p : PairNo) (s : State) => coresRun s = true ∧ ((isSet s (F.BST_PAIR_CFG_SPLITEN p) = false ∨ isSet s F.SAF_STAT_SMCOK = false
      ∨ isSet s F.SAF_STAT_DVLAT = true ∨ 2 ≤ pairMode s p))) 1 service) ∧
    ((fun (p : PairNo) (s : State) => coresRun s = true ∧ pairMode s p = 2) 1 (put [(F.BST_PAIR_STAT_MODE 1, 2)] service)) ∧
    ((fun (p : PairNo) (s : State) => coresRun s = true ∧ pairMode s p ≠ 2) 1 (put [(F.BST_PAIR_STAT_MODE 1, 3)] service)) ∧
    ((fun (p : PairNo) (cycles : Nat) (s : State) => coresRun s = true ∧ pairMode s p = 3 ∧ (s.pair p).xferDone = false ∧ (s.pair p).held
      = false ∧ cycles ≤ 32000) 1 32000 (put [(F.BST_PAIR_STAT_MODE 1, 3)] service)) := by
  refine ⟨?_, ?_, ?_, ?_, ?_⟩ <;> decide

theorem witness_slices_advance_or_skip :
    ((fun (s : State) => sliceState s = true ∧ coresRun s = true ∧ sliceMay s = true) (put [(F.BST_SLICE_NEXT, 20479)] armed)) ∧
    ((fun (s : State) => sliceState s = true ∧ coresRun s = true ∧ islMay s = true) (put [(F.BST_ISLSLICE_NEXT, 511)] armed)) ∧
    ((fun (s : State) => sliceState s = true ∧ coresRun s = true ∧ sliceMay s = false) (put [(F.SAF_CLK_CLASS, 1)] armed)) ∧
    ((fun (s : State) => sliceState s = true ∧ coresRun s = true ∧ islMay s = false) (armed.setSaf { armed.saf with islandClk := false })) ∧
    ((fun (s : State) => sliceState s = true ∧ coresRun s = true ∧ sliceMay s = true ∧ 16384 ≤ rd s F.BST_SLICE_NEXT ∧ rd s
      F.BST_SLICE_NEXT < 19456) (put [(F.BST_SLICE_NEXT, 16384)] armed)) ∧
    ((fun (s : State) => ((s.dev.st = .armed ∨ s.dev.st = .service)) ∧ coresRun s = true ∧ sliceMay s = true) (put [(F.BST_SLICE_NEXT,
      20479)] service)) ∧
    ((fun (s : State) => coresRun s = true ∧ 20480 < rd s F.BST_SLICECNT_SKIPRUN ∧ s.bst.skipLogged = false) (put
      [(F.BST_SLICECNT_SKIPRUN, 20481)] armed)) ∧
    ((fun (s : State) => coresRun s = true ∧ rd s F.BST_SLICECNT_SKIPRUN ≤ 20480 ∧ 512 < s.bst.islSkip ∧ s.bst.islLogged = false)
      (armed.setBst { armed.bst with islSkip := 513 })) ∧
    ((fun (s : State) => coresRun s = true ∧ 16 ≤ s.bst.postponed ∧ s.bst.postLogged = false) (armed.setBst
      { armed.bst with postponed := 16 })) := by
  refine ⟨?_, ?_, ?_, ?_, ?_, ?_, ?_, ?_, ?_⟩ <;> decide

theorem witness_jtag_instructions_select :
    ((fun (s : State) => tapOn s = true) service) ∧
    ((fun (s : State) (op : BitVec 5) => tapOn s = true ∧ [1, 2, 4, 5, 6, 0x10, 0x11, 0x12, 0x18].contains op.toNat = false) service 31) ∧
    ((fun (s : State) => tapOn s = true ∧ monitored s = true) (dev .selftest)) ∧
    ((fun (s : State) => tapOn s = true ∧ monitored s = true) (dev .save)) ∧
    ((fun (s : State) => tapOn s = true ∧ monitored s = false) (dev .sleep)) ∧
    ((fun (s : State) => tapOn s = true ∧ monitored s = false) (dev .parked)) ∧
    ((fun (s : State) => tapOn s = true ∧ monitored s = true ∧ rd s F.BST_DBG_STAT_LEVEL = 2) (put [(F.BST_DBG_STAT_LEVEL, 2)] service)) ∧
    ((fun (s : State) => tapOn s = true ∧ ((rd s F.BST_DBG_STAT_LEVEL ≠ 2 ∨ monitored s = false))) service) ∧
    ((fun (s : State) => tapOn s = true ∧ rd s F.BST_DBG_STAT_LEVEL = 0) service) ∧
    ((fun (s : State) => tapOn s = true ∧ rd s F.BST_DBG_STAT_LEVEL ≠ 0) (put [(F.BST_DBG_STAT_LEVEL, 1)] service)) ∧
    ((fun (s : State) => tapOn s = true ∧ rd s F.BST_DBG_STAT_LEVEL ≠ 0 ∧ s.bst.dbg.dmactive = true) (modDbg (fun d =>
      { d with dmactive := true }) (put [(F.BST_DBG_STAT_LEVEL, 1)] service))) ∧
    ((fun (s : State) => tapOn s = true ∧ monitored s = true ∧ isSet s F.BST_DBG_STAT_LOCKOUT = false ∧ s.bst.se.otpBlocked = false)
      service) ∧
    ((fun (level : BitVec 2) (key : List Byte) (sig : List Byte) (s : State) => tapOn s = true ∧ monitored s = true ∧ isSet s
      F.BST_DBG_STAT_LOCKOUT = false ∧ (authOk s level.toNat key sig).1 = true) 1 authKey authSig unlockable) ∧
    ((fun (level : BitVec 2) (key : List Byte) (sig : List Byte) (s : State) => tapOn s = true ∧ monitored s = true ∧ isSet s
      F.BST_DBG_STAT_LOCKOUT = false ∧ (authOk s level.toNat key sig).1 = false) 1 ([]) ([]) (put [(F.BST_DBG_STAT_FAILS, 2)] service)) := by
  refine ⟨?_, ?_, ?_, ?_, ?_, ?_, ?_, ?_, ?_, ?_, ?_, ?_, ?_, ?_⟩ <;> decide +kernel

theorem witness_debug_acts_on_harts :
    ((fun (h : Fin 4) (s : State) => debugOn s h = true ∧ ((pairMode s (h / 2) ≠ 3 ∨ (s.pair (h / 2)).xferDone = true))) 2 (put
      [(F.BST_DBG_STAT_LEVEL, 1)] service)) ∧
    ((fun (h : Fin 4) (s : State) => debugOn s h = true ∧ pairMode s (h / 2) = 3 ∧ (s.pair (h / 2)).xferDone = false) 2 (put
      [(F.BST_DBG_STAT_LEVEL, 1), (F.BST_PAIR_STAT_MODE 1, 3)] service)) ∧
    ((fun (h : Fin 4) (s : State) => debugOn s h = true ∧ (s.hart h).halted = true ∧ (s.hart h).dcsr.getLsbD 2 = false) 2 (modHart 2 (fun
      x => { x with halted := true, dpc := 5 }) (put [(F.BST_DBG_STAT_LEVEL, 1)] service))) ∧
    ((fun (h : Fin 4) (s : State) => debugOn s h = true ∧ (s.hart h).halted = true ∧ (s.hart h).dcsr.getLsbD 2 = true) 2 (modHart 2 (fun x
      => { x with dcsr := 4 }) (modHart 2 (fun x => { x with halted := true, dpc := 5 }) (put [(F.BST_DBG_STAT_LEVEL, 1)] service)))) ∧
    ((fun (h : Fin 4) (s : State) => debugOn s h = true ∧ (s.hart h).halted = true) 2 (modHart 2 (fun x =>
      { x with halted := true, dpc := 5 }) (put [(F.BST_DBG_STAT_LEVEL, 1)] service))) ∧
    ((fun (h : Fin 4) (s : State) => debugOn s h = true ∧ s.bst.dbg.cmderr ≠ 0) 2 (modDbg (fun d => { d with cmderr := 4 }) (modHart 2
      (fun x => { x with halted := true, dpc := 5 }) (put [(F.BST_DBG_STAT_LEVEL, 1)] service)))) ∧
    ((fun (h : Fin 4) (s : State) => debugOn s h = true ∧ s.bst.dbg.cmderr = 0 ∧ (s.hart h).halted = false) 2 (put [(F.BST_DBG_STAT_LEVEL,
      1)] service)) ∧
    ((fun (h : Fin 4) (cmd : AbstractCmd) (s : State) => debugOn s h = true ∧ s.bst.dbg.cmderr = 0 ∧ (s.hart h).halted = true ∧
      cmd.transfer = true ∧ cmd.size ≠ 2) 2 (⟨0x1001, true, false, false, 3⟩) (modHart 2 (fun x => { x with halted := true, dpc := 5 })
      (put [(F.BST_DBG_STAT_LEVEL, 1)] service))) ∧
    ((fun (h : Fin 4) (n : BitVec 16) (s : State) => debugOn s h = true ∧ s.bst.dbg.cmderr = 0 ∧ (s.hart h).halted = true ∧ 0x1001 ≤
      n.toNat ∧ n.toNat ≤ 0x101F) 2 0x1005 (modHart 2 (fun x => { x with halted := true, dpc := 5 }) (put [(F.BST_DBG_STAT_LEVEL, 1)]
      service))) ∧
    ((fun (h : Fin 4) (n : BitVec 16) (v : Word) (s : State) => debugOn s h = true ∧ s.bst.dbg.cmderr = 0 ∧ (s.hart h).halted = true ∧
      0x1001 ≤ n.toNat ∧ n.toNat ≤ 0x101F ∧ tget (fun _ => none) (s.hart h).regs n.toNat = some v) 2 0x1005 77 (modHart 2 (fun x =>
      { x with regs := [(0x1005, some 77)] }) (modHart 2 (fun x => { x with halted := true, dpc := 5 }) (put [(F.BST_DBG_STAT_LEVEL, 1)]
      service)))) ∧
    ((fun (h : Fin 4) (s : State) => debugOn s h = true ∧ s.bst.dbg.cmderr = 0 ∧ (s.hart h).halted = true) 2 (modHart 2 (fun x =>
      { x with halted := true, dpc := 5 }) (put [(F.BST_DBG_STAT_LEVEL, 1)] service))) := by
  refine ⟨?_, ?_, ?_, ?_, ?_, ?_, ?_, ?_, ?_, ?_, ?_⟩ <;> decide

theorem witness_hops_train_and_are_lost :
    ((fun (h : Ring) (s : State) => ringRuns s = true ∧ hopState s h.toNat = 1 ∧ 256 ≤ (s.hop h.toNat).exch ∧ hopDelay s h.toNat ≤ 12800)
      .b (put [(F.RNG_HOP_STAT_STATE 1, 1)] (modHop 1 (fun x => { x with exch := 256 }) (ring armed)))) ∧
    ((fun (h : Ring) (s : State) => ringRuns s = true ∧ hopState s h.toNat = 1 ∧ 256 ≤ (s.hop h.toNat).exch ∧ 12800 < hopDelay s h.toNat)
      .b (put [(F.RNG_HOP_STAT_STATE 1, 1), (F.STR_HOPB_HOP, 12801)] (modHop 1 (fun x => { x with exch := 256 }) (ring armed)))) ∧
    ((fun (h : Ring) (s : State) => ringRuns s = true ∧ (s.hop h.toNat).tooLong = true ∧ hopState s h.toNat = 0) .b (put
      [(F.RNG_HOP_STAT_STATE 1, 0)] (modHop 1 (fun x => { x with tooLong := true, exch := 5 }) (ring armed)))) ∧
    ((fun (h : Ring) (cause : LossCause) (s : State) => ringRuns s = true ∧ hopUp s h.toNat = true ∧ ((cause = .timeouts → 4 ≤ (s.hop
      h.toNat).timeouts))) .b .timeouts (put [(F.RNG_HOP_STAT_STATE 1, 2)] (modHop 1 (fun x => { x with timeouts := 4 }) (ring armed)))) ∧
    ((fun (h : Ring) (s : State) => ringRuns s = true ∧ hopUp s h.toNat = true) .b (put [(F.RNG_HOP_STAT_STATE 1, 2)] (modHop 1 (fun x =>
      { x with exch := x.exch }) (ring armed)))) ∧
    ((fun (h : Ring) (s : State) => ringRuns s = true ∧ hopUp s h.toNat = true ∧ isSet s F.STR_SYNCSTAT_SYNCED = true) .b (put
      [(F.RNG_HOP_STAT_STATE 1, 2), (F.STR_SYNCSTAT_SYNCED, 1)] (modHop 1 (fun x => { x with exch := x.exch }) (ring armed)))) ∧
    ((fun (h : Ring) (u : BitVec 48) (s : State) => ringRuns s = true ∧ hopUp s h.toNat = true ∧ (s.hop h.toNat).prop = some u) .b 9 (put
      [(F.RNG_HOP_STAT_STATE 1, 2)] (modHop 1 (fun x => { x with prop := some 9 }) (ring armed)))) ∧
    ((fun (h : Ring) (s : State) => ringRuns s = true ∧ (s.hop h.toNat).unwrap = some s.dev.count) .b (put [(F.RNG_HOP_STAT_STATE 1, 2),
      (F.RNG_HOP_STAT_WRAPPED 1, 1), (F.RNG_HOP_STAT_UNWPEND 1, 1)] (modHop 1 (fun x => { x with unwrap := some 0 }) (ring armed)))) := by
  refine ⟨?_, ?_, ?_, ?_, ?_, ?_, ?_, ?_⟩ <;> decide

theorem witness_control_blocks_act_on_a_hop :
    ((fun (h : Ring) (s : State) => ringRuns s = true ∧ hopUp s h.toNat = true) .b (put [(F.RNG_HOP_STAT_STATE 1, 2)] (modHop 1 (fun x =>
      { x with exch := x.exch }) (ring armed)))) ∧
    ((fun (h : Ring) (s : State) => ringRuns s = true ∧ hopUp s h.toNat = true) .b (modCis 13 (fun c =>
      { c with pkts := [{ pktA with sent := some (1, 7) }, { pktA with sent := some (1, 8) }] }) (put [(F.RNG_HOP_STAT_STATE 1, 2)]
      (modHop 1 (fun x => { x with timeouts := 3 }) (ring armed))))) ∧
    ((fun (h : Ring) (s : State) => ringRuns s = true ∧ hopUp s h.toNat = true) .b (put [(F.RNG_HOP_STAT_STATE 1, 2)] (modHop 1 (fun x =>
      { x with nakked := true }) (ring armed)))) ∧
    ((fun (h : Ring) (v : BitVec 16) (s : State) => ringRuns s = true ∧ hopUp s h.toNat = true ∧ Sequenced s ∧ (∃ n ∈ List.range 14, ∃ p ∈
      (s.cis n).pkts, p.sent = some (h.toNat, v.toNat))) .b 7 (modCis 10 (fun c => { c with pkts := [{ pktA with sent := some (1, 7) }] })
      (put [(F.RNG_HOP_STAT_STATE 1, 2)] (modHop 1 (fun x => { x with exch := x.exch }) (ring armed))))) ∧
    ((fun (h : Ring) (s : State) => hopLive s h.toNat = true ∧ hopState s h.toNat = 0) .b (put [(F.RNG_HOP_STAT_STATE 1, 0)] (modHop 1
      (fun x => { x with exch := x.exch }) (ring armed)))) ∧
    ((fun (h : Ring) (s : State) => hopLive s h.toNat = true ∧ hopState s h.toNat = 1 ∧ (s.hop h.toNat).exch < 255) .b (put
      [(F.RNG_HOP_STAT_STATE 1, 1)] (modHop 1 (fun x => { x with exch := 254, exchSum := 1000 }) (ring armed)))) ∧
    ((fun (h : Ring) (s : State) => hopLive s h.toNat = true ∧ hopState s h.toNat = 1 ∧ (s.hop h.toNat).exch = 255) .b (put
      [(F.RNG_HOP_STAT_STATE 1, 1)] (modHop 1 (fun x => { x with exch := 255, exchSum := 1000 }) (ring armed)))) ∧
    ((fun (s : State) => hopLive s 0 = true ∧ isSet s F.RNG_CFG_HEAD = false) (ring armed)) ∧
    ((fun (s : State) => hopLive s 1 = true ∧ isSet s F.RNG_CFG_HEAD = false ∧ isSet s F.CFG_STAT_LOADED = true) (ring armed)) ∧
    ((fun (h : Ring) (s : State) => hopLive s h.toNat = true ∧ isSet s F.RNG_CFG_HEAD = true) .b (put [(F.RNG_CFG_HEAD, 1)] (ring armed))) := by
  refine ⟨?_, ?_, ?_, ?_, ?_, ?_, ?_, ?_, ?_, ?_⟩ <;> decide

set_option maxRecDepth 20000 in
theorem witness_links_send_and_repeat :
    ((fun (h : Ring) (ph : Nat) (n : Nat) (i : Nat) (p : Pkt) (s : State) => Sequenced s ∧ ringRuns s = true ∧ hopUp s h.toNat = true ∧
      nextPkt s h.toNat ph = some (n, i, p)) .b 0 3 0 pktA (modCis 3 (fun c => { c with pkts := [pktA] }) (put [(F.CIS_CFG_SIZE 3, 4)]
      (put [(F.RNG_HOP_STAT_STATE 1, 2)] (modHop 1 (fun x => { x with credit := 4000 }) (ring armed)))))) ∧
    ((fun (h : Ring) (ph : Nat) (s : State) => ringRuns s = true ∧ hopUp s h.toNat = true ∧ nextPkt s h.toNat ph = none) .b 0 (put
      [(F.RNG_HOP_STAT_STATE 1, 2)] (modHop 1 (fun x => { x with exch := x.exch }) (ring armed)))) ∧
    ((fun (h : Ring) (ph : Nat) (n : Nat) (i : Nat) (p : Pkt) (s : State) => ringRuns s = true ∧ hopUp s h.toNat = true ∧ nextPkt s
      h.toNat ph = some (n, i, p)) .b 0 3 0 pktA (modCis 3 (fun c => { c with pkts := [pktA] }) (put [(F.CIS_CFG_SIZE 3, 4)] (put
      [(F.RNG_HOP_STAT_STATE 1, 2)] (modHop 1 (fun x => { x with credit := 4000 }) (ring armed)))))) ∧
    ((fun (h : Ring) (slot : Fin 64) (ph : Nat) (n : Nat) (i : Nat) (e : Config.Slot) (p : Pkt) (s : State) => Sequenced s ∧ ringRuns s =
      true ∧ hopUp s h.toNat = true ∧ (slotsOf s h.toNat)[slot.val]? = some e ∧ e.src = some n ∧ headPkt s n = some (i, p) ∧ p.cls = e.cls
      ∧ p.cls < 3 ∧ e.phase ≤ ph ∧ (cisOnHop s h.toNat).contains n = true ∧ ((missed s h.toNat (some n) p ph = true ∨ (ownSlot s h.toNat
      (some n) p).all (fun q => q.1 == slot.val) = true))) .b 0 0 0 0 (⟨0, 100, 64, 0, some 0⟩) pktB (slotted (modCis 0 (fun c =>
      { c with pkts := [pktB] }) (put [(F.CIS_CFG_SIZE 0, 4)] (put [(F.RNG_HOP_STAT_STATE 1, 2)] (modHop 1 (fun x =>
      { x with credit := 4000 }) (ring armed))))))) ∧
    ((fun (h : Ring) (q : Nat) (s : State) => Sequenced s ∧ ringRuns s = true ∧ hopUp s h.toNat = true ∧ oldestUnacked s h.toNat = some q)
      .b 7 (modCis 10 (fun c => { c with pkts := [{ pktA with sent := some (1, 7) }] }) (put [(F.RNG_HOP_STAT_STATE 1, 2)] (modHop 1 (fun
      x => { x with exch := x.exch }) (ring armed))))) ∧
    ((fun (h : Ring) (bytes : List Byte) (s : State) => ringRuns s = true ∧ hopUp s h.toNat = true ∧ headerOk bytes = false) .b ([1, 2])
      (put [(F.RNG_HOP_STAT_STATE 1, 2)] (modHop 1 (fun x => { x with exch := x.exch }) (ring armed)))) ∧
    ((fun (h : Ring) (bytes : List Byte) (s : State) => ringRuns s = true ∧ hopUp s h.toNat = true ∧ headerOk bytes = true ∧ frameOk bytes
      = true ∧ 3 ≤ (parsePkt bytes).cls ∧ field bytes 4 2 ≠ (s.hop h.toNat).rxSeq) .b (rframe pktA 1) (put [(F.RNG_HOP_STAT_STATE 1, 2)]
      (modHop 1 (fun x => { x with exch := x.exch }) (ring armed)))) ∧
    ((fun (h : Ring) (bytes : List Byte) (s : State) => ringRuns s = true ∧ hopUp s h.toNat = true ∧ headerOk bytes = true ∧ frameOk bytes
      = true ∧ 3 ≤ (parsePkt bytes).cls ∧ field bytes 4 2 = (s.hop h.toNat).rxSeq ∧ ageDrop s (parsePkt bytes) = false ∧ (parsePkt
      bytes).src ≠ s.devNum) .b (rframe { pktA with src := 3 } 0) (put [(F.RNG_HOP_STAT_STATE 1, 2)] (modHop 1 (fun x =>
      { x with exch := x.exch }) (ring armed)))) ∧
    ((fun (h : Ring) (bytes : List Byte) (s : State) => ringRuns s = true ∧ hopUp s h.toNat = true ∧ headerOk bytes = true ∧ frameOk bytes
      = true ∧ (parsePkt bytes).cls < 3 ∧ (((parsePkt bytes).cls ≠ 0 ∨ (parsePkt bytes).stream ≠ 0)) ∧ (parsePkt bytes).src ≠ s.devNum ∧
      (parsePkt bytes).dest ≠ s.devNum ∧ hopUp s (1 - h.toNat) = true ∧ wrapped s (1 - h.toNat) = false) .b (rframe
      { pktB with src := 3, cls := 1 } 0) (put [(F.RNG_HOP_STAT_STATE 0, 2), (F.RNG_HOP_STAT_STATE 1, 2)] (ring armed))) := by
  refine ⟨?_, ?_, ?_, ?_, ?_, ?_, ?_, ?_, ?_⟩ <;> decide

theorem witness_grants_and_cisterns :
    ((fun (payload : List Byte) (s : State) => ringRuns s = true ∧ field payload 0 4 = s.dev.count.toNat % 2 ^ 32) (List.replicate 10 0)
      (put [(F.RNG_HOP_STAT_STATE 1, 2)] (modHop 1 (fun x => { x with exch := x.exch }) (ring armed)))) ∧
    ((fun (payload : List Byte) (s : State) => ringRuns s = true ∧ field payload 0 4 = s.dev.count.toNat % 2 ^ 32) ([0, 0, 0, 0, 1, 1, 2,
      2]) (put [(F.RNG_HOP_STAT_STATE 1, 2)] (modHop 1 (fun x => { x with exch := x.exch }) (ring armed)))) ∧
    ((fun (s : State) => portsOn s = true ∧ 64 ≤ s.net.poolRun ∧ s.net.poolLogged = false) (armed.setNet
      { armed.net with poolRun := 64 })) ∧
    ((fun (n : CisNo) (s : State) => (s.cis n).opened = none ∧ portsOn s = true ∧ (s.cis n).count (cisEth n) + 16 ≤ cisSize s n) 23 (put
      [(F.CIS_CFG_SIZE 23, 1)] armed)) ∧
    ((fun (n : CisNo) (s : State) => (s.cis n).opened = none ∧ portsOn s = true ∧ cisSize s n < (s.cis n).count (cisEth n) + 16) 23 (put
      [(F.CIS_CFG_SIZE 23, 0)] (modCis 23 (fun c => { c with pkts := [pktA] }) armed))) ∧
    ((fun (n : CisNo) (c : Stamp) (s : State) => portsOn s = true ∧ (s.cis n).opened = some c) 23 5 (modCis 23 (fun c =>
      { c with opened := some 5 }) (put [(F.CIS_CFG_SIZE 23, 1)] (ring armed)))) ∧
    ((fun (n : CisNo) (c : Stamp) (bytes : List Byte) (s : State) => portsOn s = true ∧ (s.cis n).opened = some c ∧ isSet s
      (F.CIS_STAT_GAPPEND n) = false ∧ grantLen s n bytes = none ∧ cisFits s n (if cisEth n then { body := bytes } else parsePkt bytes) =
      true) 23 5 ([1]) (modCis 23 (fun c => { c with opened := some 5 }) (put [(F.CIS_CFG_SIZE 23, 1)] (ring armed)))) ∧
    ((fun (n : CisNo) (c : Stamp) (l : Nat) (bytes : List Byte) (s : State) => portsOn s = true ∧ (s.cis n).opened = some c ∧ isSet s
      (F.CIS_STAT_GAPPEND n) = false ∧ ringOn s = true ∧ romRing s = false ∧ grantLen s n bytes = some l ∧ rd s F.RNG_GRANT_USED +
      grantCost l ≤ rd s F.RNG_GRANT_GRANT ∧ cisFits s n (if cisEth n then { body := bytes } else parsePkt bytes) = true) 3 5 3 (rframe
      pktA 0) (modCis 3 (fun c => { c with opened := some 5 }) (put [(F.CIS_CFG_SIZE 3, 1), (F.RNG_GRANT_GRANT, 1)] (ring armed)))) ∧
    ((fun (n : CisNo) (c : Stamp) (l : Nat) (bytes : List Byte) (s : State) => portsOn s = true ∧ (s.cis n).opened = some c ∧ ringOn s =
      true ∧ romRing s = false ∧ grantLen s n bytes = some l ∧ rd s F.RNG_GRANT_GRANT < rd s F.RNG_GRANT_USED + grantCost l) 3 5 3 (rframe
      pktA 0) (modCis 3 (fun c => { c with opened := some 5 }) (put [(F.CIS_CFG_SIZE 3, 1)] (ring armed)))) ∧
    ((fun (n : CisNo) (c : Stamp) (s : State) => portsOn s = true ∧ (s.cis n).opened = some c ∧ c ≠ s.dev.count) 23 5 (modCis 23 (fun c =>
      { c with opened := some 5 }) armed)) ∧
    ((fun (mask : Byte) (s : State) => mask ≠ 0 ∧ portsOn s = true) 128 (modCis 23 (fun c => { c with opened := some 5, pkts := [pktA] })
      armed)) := by
  refine ⟨?_, ?_, ?_, ?_, ?_, ?_, ?_, ?_, ?_, ?_, ?_⟩ <;> decide

theorem witness_ethernet_ports_follow_the_link :
    ((fun (p : Fin 2) (rate : BitVec 2) (s : State) => portsOn s = true ∧ romDefault s = false ∧ isSet s (F.ETH_P_CFG_EN p) = true ∧ rdBit
      s (F.ETH_P_CFG_RATES p) rate.toNat = true) 1 2 (put [(F.ETH_P_CFG_EN 1, 1), (F.CFG_STAT_LOADED, 1), (F.ETH_P_STAT_LINK 1, 1),
      (F.ETH_P_CFG_RATES 1, 4)] (ring armed))) ∧
    ((fun (p : Fin 2) (up : Bool) (rate : BitVec 2) (s : State) => portsOn s = true ∧ romDefault s = false ∧ isSet s (F.ETH_P_CFG_EN p) =
      true ∧ ((up = false ∨ rdBit s (F.ETH_P_CFG_RATES p) rate.toNat = false))) 1 true 2 (put [(F.ETH_P_CFG_EN 1, 1), (F.CFG_STAT_LOADED,
      1), (F.ETH_P_STAT_LINK 1, 1)] (ring armed))) ∧
    ((fun (p : Fin 2) (s : State) => portsOn s = true ∧ isSet s (F.ETH_P_STAT_LINK p) = true ∧ isSet s (F.ETH_P_CFG_PAUSEEN p) = true) 1
      (put [(F.ETH_P_CFG_EN 1, 1), (F.CFG_STAT_LOADED, 1), (F.ETH_P_STAT_LINK 1, 1), (F.ETH_P_CFG_PAUSEEN 1, 1), (F.ETH_P_STAT_PAUSED 1,
      1)] (ring armed))) ∧
    ((fun (p : Fin 2) (s : State) => portsOn s = true ∧ isSet s (F.ETH_P_STAT_PAUSED p) = true) 1 (put [(F.ETH_P_CFG_EN 1, 1),
      (F.CFG_STAT_LOADED, 1), (F.ETH_P_STAT_LINK 1, 1), (F.ETH_P_STAT_PAUSED 1, 1)] (ring armed))) ∧
    ((fun (p : Fin 2) (k : Fin 5) (x : Pkt) (l : List Pkt) (s : State) => portsOn s = true ∧ isSet s (F.ETH_P_STAT_LINK p) = true ∧ isSet
      s (F.ETH_P_STAT_PAUSED p) = false ∧ (s.cis (txCis s p k)).pkts = x :: l) 1 4 pktA ([pktB]) (modCis 23 (fun c =>
      { c with pkts := [pktA, pktB] }) (put [(F.ETH_P_CFG_EN 1, 1), (F.CFG_STAT_LOADED, 1), (F.ETH_P_STAT_LINK 1, 1)] (ring armed)))) ∧
    ((fun (s : State) => portsOn s = true) armed) ∧
    ((fun (p : Fin 2) (dst : BitVec 48) (etype : BitVec 16) (s : State) => portsOn s = true ∧ ((dst ≠ portMac s p ∨ etype ≠ 0x9A7C))) 1 5
      0x9A7C (put [(F.ETH_P_CFG_EN 1, 1), (F.CFG_STAT_LOADED, 1), (F.ETH_P_STAT_LINK 1, 1)] (armed))) ∧
    ((fun (p : Fin 2) (dev : BitVec 6) (bytes : List Byte) (s : State) => portsOn s = true ∧ romDefault s = false ∧ isSet s
      (F.ETH_P_CFG_EN p) = true ∧ dev.toNat ≠ s.devNum ∧ isSet s F.RNG_CFG_HEAD = true ∧ ringOn s = true ∧ (s.cis (2 + 7 * p.val)).pkts =
      [] ∧ bytes.length + 31 ≤ cisSize s (2 + 7 * p.val)) 1 3 ([1, 2, 3]) (put [(F.RNG_CFG_HEAD, 1), (F.CIS_CFG_SIZE 9, 1)] (put
      [(F.ETH_P_CFG_EN 1, 1), (F.CFG_STAT_LOADED, 1), (F.ETH_P_STAT_LINK 1, 1)] (ring armed)))) ∧
    ((fun (k : Fin 32) (s : State) => telDue s k = true) 31 (put [(F.ETH_TEL_CFG_EN 31, 1), (F.CIS_CFG_SIZE 17, 1)] (put [(F.ETH_P_CFG_EN
      1, 1), (F.CFG_STAT_LOADED, 1), (F.ETH_P_STAT_LINK 1, 1)] (ring armed)))) := by
  refine ⟨?_, ?_, ?_, ?_, ?_, ?_, ?_, ?_, ?_⟩ <;> decide

theorem witness_mode_requests_are_served :
    ((fun (r : Req) (s : State) => Accepted 2 r (modeBody 1 0 0) s ∧ serviceOk s = true) (rq 2 (modeBody 1 0 0)) (hosted (put
      [(F.SAF_STAT_SMCOK, 1)] armed))) ∧
    ((fun (r : Req) (s : State) => Accepted 2 r (modeBody 1 0 0) s ∧ serviceOk s = false) (rq 2 (modeBody 1 0 0)) (hosted armed)) ∧
    ((fun (r : Req) (req : Byte) (mask : Word) (s : State) => Accepted 2 r (modeBody 3 req mask) s ∧ req.toNat ≤ 4 ∧ modeNone s mask = [])
      (rq 2 (modeBody 3 4 0x80000000)) 4 0x80000000 (hosted (axis 31 1 1 armed))) ∧
    ((fun (r : Req) (req : Byte) (mask : Word) (s : State) => Accepted 2 r (modeBody 3 req mask) s ∧ 1 ≤ req.toNat ∧ req.toNat ≤ 4 ∧
      modeNone s mask ≠ []) (rq 2 (modeBody 3 4 0xC0000000)) 4 0xC0000000 (hosted (axis 31 1 1 armed))) ∧
    ((fun (r : Req) (mask : Word) (s : State) => Accepted 2 r (modeBody 3 0 mask) s ∧ modeNone s mask ≠ []) (rq 2 (modeBody 3 0
      0xC0000000)) 0xC0000000 (hosted (axis 31 1 1 armed))) ∧
    ((fun (r : Req) (req : Byte) (mask : Word) (s : State) => Accepted 2 r (modeBody 3 req mask) s ∧ 5 ≤ req.toNat) (rq 2 (modeBody 3 8
      0x80000000)) 8 0x80000000 (hosted (axis 31 1 1 armed))) ∧
    ((fun (r : Req) (kind : Byte) (req : Byte) (mask : Word) (s : State) => Accepted 2 r (modeBody kind.toNat req mask) s ∧ ((kind = 0 ∨ 4
      ≤ kind.toNat))) (rq 2 (modeBody 9 0 0)) 9 0 0 (hosted armed)) ∧
    ((fun (r : Req) (s : State) => Accepted 2 r (modeBody 2 0 0) s) (rq 2 (modeBody 2 0 0)) (hosted armed)) ∧
    ((fun (r : Req) (s : State) => arrives s r = true ∧ r.dev.toNat = s.devNum ∧ romDefault s = false ∧ macOk s 2 r (modeBody 1 0 0) =
      false) (rq 3 []) (hosted (put [(F.BST_DBG_STAT_ZEROISED, 1)] armed))) :=
  ⟨⟨accepted_rq _ _ _ (by decide), by decide⟩, ⟨accepted_rq _ _ _ (by decide), by decide⟩, ⟨accepted_rq _ _ _ (by decide), by decide⟩, ⟨accepted_rq _ _ _ (by decide), by decide⟩, ⟨accepted_rq _ _ _ (by decide), by decide⟩, ⟨accepted_rq _ _ _ (by decide), by decide⟩, ⟨accepted_rq _ _ _ (by decide), by decide⟩, accepted_rq _ _ _ (by decide), by decide⟩

theorem witness_register_requests_are_served :
    ((fun (r : Req) (ofs : BitVec 24) (n : BitVec 16) (s : State) => Accepted 3 r (leBytes 4 ofs.toNat ++ leBytes 2 n.toNat ++ [0, 0]) s ∧
      ((n = 0 ∨ 256 < n.toNat ∨ ofs.toNat % 4 ≠ 0 ∨ 0x100000 < ofs.toNat + 4 * n.toNat))) (rq 3 (leBytes 4 0xFFFFC ++ leBytes 2 2 ++ [0,
      0])) 0xFFFFC 2 (hosted armed)) ∧
    ((fun (r : Req) (ofs : BitVec 24) (n : BitVec 16) (s : State) => Accepted 3 r (leBytes 4 ofs.toNat ++ leBytes 2 n.toNat ++ [0, 0]) s ∧
      1 ≤ n.toNat ∧ n.toNat ≤ 256 ∧ ofs.toNat % 4 = 0 ∧ ofs.toNat + 4 * n.toNat ≤ 0x100000) (rq 3 (leBytes 4 A.FLT_WIDX ++ leBytes 2 1 ++
      [0, 0])) (BitVec.ofNat 24 A.FLT_WIDX) 1 (hosted armed)) ∧
    ((fun (r : Req) (l : List (BitVec 24 × Word)) (s : State) => Accepted 4 r (leBytes 2 l.length ++ [0, 0] ++ l.flatMap fun (p : BitVec
      24 × Word) => leBytes 4 p.1.toNat ++ leBytes 4 p.2.toNat) s ∧ ((l = [] ∨ 184 < l.length))) (rq 4 [0, 0, 0, 0]) ([]) (hosted armed)) ∧
    ((fun (r : Req) (l : List (BitVec 24 × Word)) (s : State) => Accepted 4 r (leBytes 2 l.length ++ [0, 0] ++ l.flatMap fun (p : BitVec
      24 × Word) => leBytes 4 p.1.toNat ++ leBytes 4 p.2.toNat) s ∧ l ≠ [] ∧ l.length ≤ 184 ∧ (writeList 0 l (accepted r s)).2.2 = []) (rq
      4 ([1, 0, 0, 0] ++ leBytes 4 A.PWR_RTCSET_LO ++ leBytes 4 5)) ([(BitVec.ofNat 24 A.PWR_RTCSET_LO, 5)]) (hosted armed)) ∧
    ((fun (r : Req) (l : List (BitVec 24 × Word)) (s : State) => Accepted 4 r (leBytes 2 l.length ++ [0, 0] ++ l.flatMap fun (p : BitVec
      24 × Word) => leBytes 4 p.1.toNat ++ leBytes 4 p.2.toNat) s ∧ l ≠ [] ∧ l.length ≤ 184 ∧ (writeList 0 l (accepted r s)).2.2 ≠ []) (rq
      4 ([1, 0, 0, 0] ++ leBytes 4 A.SAF_TEAMFLT ++ leBytes 4 1)) ([(BitVec.ofNat 24 A.SAF_TEAMFLT, 1)]) (put [(F.SAF_TEAMFLT_TMLAT, 1)]
      (hosted armed))) :=
  ⟨⟨accepted_rq _ _ _ (by decide), by decide⟩, ⟨accepted_rq _ _ _ (by decide), by decide⟩, ⟨accepted_rq _ _ _ (by decide), by decide⟩, ⟨accepted_rq _ _ _ (by decide), by decide⟩, ⟨accepted_rq _ _ _ (by decide), by decide⟩⟩

theorem witness_can_slots_queue_and_expire :
    ((fun (c : Fin 8) (sl : Fin 32) (y : Nat) (m : Nat) (s : State) => (s.can c).cycle = some y ∧ canOn s c = true ∧ isSet s
      (F.CAN_CH_SLOT_EN c sl) = true ∧ (s.can c).queued = none ∧ (s.can c).next = none ∧ (s.can c).slotOver = false ∧ (s.can c).tx = none
      ∧ canOff s c = false ∧ canCell s c y sl = some m ∧ isSet s (F.CAN_MB_STAT_VALID c m) = true ∧ ((isSet s (F.CAN_MB_CFG_FRESHONLY c m)
      = false ∨ (s.mbox c m).fresh = true))) 7 31 0 31 (modCan 7 (fun x => { x with cycle := some 0 }) (bused [(F.CAN_CH_CFG_EN 7, 1),
      (F.CAN_MB_CFG_EN 7 31, 1), (F.CAN_CH_SLOT_EN 7 31, 1), (F.CAN_CH_CELL_EN 7 7 3, 1), (F.CAN_CH_CELL_MB 7 7 3, 31),
      (F.CAN_MB_STAT_VALID 7 31, 1)]))) ∧
    ((fun (c : Fin 8) (sl : Fin 32) (y : Nat) (m : Nat) (s : State) => (s.can c).cycle = some y ∧ canOn s c = true ∧ isSet s
      (F.CAN_CH_SLOT_EN c sl) = true ∧ canCell s c y sl = some m ∧ (s.can c).queued = none ∧ (s.can c).next = none ∧ ((isSet s
      (F.CAN_MB_STAT_VALID c m) = false ∨ (isSet s (F.CAN_MB_CFG_FRESHONLY c m) = true ∧ (s.mbox c m).fresh = false)))) 7 31 0 31 (modCan
      7 (fun x => { x with cycle := some 0 }) (bused [(F.CAN_CH_CFG_EN 7, 1), (F.CAN_MB_CFG_EN 7 31, 1), (F.CAN_CH_SLOT_EN 7 31, 1),
      (F.CAN_CH_CELL_EN 7 7 3, 1), (F.CAN_CH_CELL_MB 7 7 3, 31)]))) ∧
    ((fun (c : Fin 8) (q : SlotFrame) (s : State) => canOn s c = true ∧ (s.can c).queued = some q ∧ (s.can c).next = none ∧ (s.can c).tx =
      none ∧ q.mb < 32) 7 (⟨31, 31, 0, 0, []⟩) (modCan 7 (fun x => { x with queued := some ⟨31, 31, 0, 0, []⟩ }) (bused [(F.CAN_CH_CFG_EN
      7, 1), (F.CAN_MB_CFG_EN 7 31, 1)]))) ∧
    ((fun (who : Requestor) (c : Fin 8) (m : Fin 32) (s : State) => fromCore s who = true ∧ canOn s c = true ∧ isSet s (F.CAN_MB_CFG_EN c
      m) = true ∧ ((rd s (F.CAN_MB_CFG_KIND c m) = 1 ∨ rd s (F.CAN_MB_CFG_KIND c m) = 2)) ∧ (s.can c).tx ≠ some m.val) .ac0 7 31 (modCan 7
      (fun x => { x with busy := x.busy }) (bused [(F.CAN_CH_CFG_EN 7, 1), (F.CAN_MB_CFG_EN 7 31, 1), (F.CAN_MB_CFG_KIND 7 31, 1)]))) ∧
    ((fun (who : Requestor) (c : Fin 8) (m : Fin 32) (s : State) => fromCore s who = true ∧ canOn s c = true ∧ isSet s (F.CAN_MB_CFG_EN c
      m) = true ∧ ((rd s (F.CAN_MB_CFG_KIND c m) = 1 ∨ rd s (F.CAN_MB_CFG_KIND c m) = 2)) ∧ (s.can c).tx = some m.val) .ac0 7 31 (modCan 7
      (fun x => { x with tx := some 31 }) (bused [(F.CAN_CH_CFG_EN 7, 1), (F.CAN_MB_CFG_EN 7 31, 1), (F.CAN_MB_CFG_KIND 7 31, 1)]))) ∧
    ((fun (who : Requestor) (s : State) => fromCore s who = false) .host (modCan 7 (fun x => { x with busy := x.busy }) (bused
      [(F.CAN_CH_CFG_EN 7, 1), (F.CAN_MB_CFG_EN 7 31, 1)]))) ∧
    ((fun (who : Requestor) (c : Fin 8) (m : Fin 32) (s : State) => fromCore s who = true ∧ canOn s c = true ∧ rd s (F.CAN_MB_CFG_KIND c
      m) = 2 ∧ (s.can c).tx ≠ some m.val) .ac2 7 31 (modCan 7 (fun x => { x with busy := x.busy }) (bused [(F.CAN_CH_CFG_EN 7, 1),
      (F.CAN_MB_CFG_EN 7 31, 1), (F.CAN_MB_CFG_KIND 7 31, 2), (F.CAN_MB_STAT_PEND 7 31, 1)]))) ∧
    ((fun (who : Requestor) (c : Fin 8) (m : Fin 32) (s : State) => fromCore s who = true ∧ canOn s c = true ∧ rd s (F.CAN_MB_CFG_KIND c
      m) = 2 ∧ (s.can c).tx = some m.val) .ac2 7 31 (modCan 7 (fun x => { x with tx := some 31 }) (bused [(F.CAN_CH_CFG_EN 7, 1),
      (F.CAN_MB_CFG_EN 7 31, 1), (F.CAN_MB_CFG_KIND 7 31, 2), (F.CAN_MB_STAT_PEND 7 31, 1)]))) ∧
    ((fun (c : Fin 8) (m : Nat) (s : State) => (s.can c).tx = some m ∧ m < 32 ∧ canOn s c = true) 7 31 (modCan 7 (fun x =>
      { x with tx := some 31, txSlot := true }) (bused [(F.CAN_CH_CFG_EN 7, 1), (F.CAN_MB_CFG_EN 7 31, 1)]))) ∧
    ((fun (c : Fin 8) (m : Nat) (s : State) => (s.can c).tx = some m ∧ m < 32 ∧ canOn s c = true ∧ (s.can c).txSlot = false ∧ (s.mbox c
      m).cancel = false ∧ isSet s (F.CAN_MB_STAT_PEND c m) = true) 7 31 (modCan 7 (fun x => { x with tx := some 31 }) (bused
      [(F.CAN_CH_CFG_EN 7, 1), (F.CAN_MB_CFG_EN 7 31, 1), (F.CAN_MB_STAT_PEND 7 31, 1)]))) ∧
    ((fun (c : Fin 8) (m : Nat) (s : State) => (s.can c).tx = some m ∧ m < 32 ∧ canOn s c = true) 7 31 (modCan 7 (fun x =>
      { x with tx := some 31 }) (bused [(F.CAN_CH_CFG_EN 7, 1), (F.CAN_MB_CFG_EN 7 31, 1)]))) := by
  refine ⟨?_, ?_, ?_, ?_, ?_, ?_, ?_, ?_, ?_, ?_, ?_⟩ <;> decide

theorem witness_can_errors_confine :
    ((fun (c : Fin 8) (f : CanData) (m : Nat) (s : State) => canOn s c = true ∧ canOff s c = false ∧ (s.can c).tx = none ∧ (List.range
      32).find? (mbTakes s c f) = some m ∧ isSet s (F.CAN_MB_STAT_RXNEW c m) = false) 7 (⟨0x1FFFFFFF, true, false, false, false, false, 8,
      [1,2,3,4,5,6,7,8]⟩) 31 (modCan 7 (fun x => { x with busy := x.busy }) (bused [(F.CAN_CH_CFG_EN 7, 1), (F.CAN_MB_CFG_EN 7 31, 1),
      (F.CAN_MB_CFG_KIND 7 31, 3), (F.CAN_MB_CFG_IDE 7 31, 1)]))) ∧
    ((fun (c : Fin 8) (f : CanData) (m : Nat) (s : State) => canOn s c = true ∧ canOff s c = false ∧ (s.can c).tx = none ∧ (List.range
      32).find? (mbTakes s c f) = some m ∧ isSet s (F.CAN_MB_STAT_RXNEW c m) = true) 7 (⟨0x1FFFFFFF, true, false, false, false, false, 8,
      [1,2,3,4,5,6,7,8]⟩) 31 (modMbox 7 31 (fun x =>
      { x with pend := some (⟨0x1FFFFFFF, true, false, false, false, false, 8, [1,2,3,4,5,6,7,8]⟩, 3) }) (modCan 7 (fun x =>
      { x with busy := x.busy }) (bused [(F.CAN_CH_CFG_EN 7, 1), (F.CAN_MB_CFG_EN 7 31, 1), (F.CAN_MB_CFG_KIND 7 31, 3), (F.CAN_MB_CFG_IDE
      7 31, 1), (F.CAN_MB_STAT_RXNEW 7 31, 1)])))) ∧
    ((fun (c : Fin 8) (f : CanData) (s : State) => canOn s c = true ∧ canOff s c = false ∧ (s.can c).tx = none ∧ (List.range 32).find?
      (mbTakes s c f) = none) 7 (⟨0x1FFFFFFF, true, false, false, false, false, 8, [1,2,3,4,5,6,7,8]⟩) (modCan 7 (fun x =>
      { x with busy := x.busy }) (bused [(F.CAN_CH_CFG_EN 7, 1), (F.CAN_MB_CFG_EN 7 31, 1)]))) ∧
    ((fun (c : Fin 8) (m : Fin 32) (s : State) => coresRun s = true ∧ isSet s (F.CAN_MB_STAT_RXNEW c m) = true ∧ (s.mbox c m).pend = none)
      7 31 (modCan 7 (fun x => { x with busy := x.busy }) (bused [(F.CAN_CH_CFG_EN 7, 1), (F.CAN_MB_CFG_EN 7 31, 1), (F.CAN_MB_CFG_KIND 7
      31, 3), (F.CAN_MB_CFG_IDE 7 31, 1), (F.CAN_MB_STAT_RXNEW 7 31, 1)]))) ∧
    ((fun (c : Fin 8) (m : Fin 32) (f : CanData) (st : BitVec 16) (s : State) => coresRun s = true ∧ isSet s (F.CAN_MB_STAT_RXNEW c m) =
      true ∧ (s.mbox c m).pend = some (f, st)) 7 31 (⟨0x1FFFFFFF, true, false, false, false, false, 8, [1,2,3,4,5,6,7,8]⟩) 3 (modMbox 7 31
      (fun x => { x with pend := some (⟨0x1FFFFFFF, true, false, false, false, false, 8, [1,2,3,4,5,6,7,8]⟩, 3) }) (modCan 7 (fun x =>
      { x with busy := x.busy }) (bused [(F.CAN_CH_CFG_EN 7, 1), (F.CAN_MB_CFG_EN 7 31, 1), (F.CAN_MB_CFG_KIND 7 31, 3), (F.CAN_MB_CFG_IDE
      7 31, 1), (F.CAN_MB_STAT_RXNEW 7 31, 1)])))) ∧
    ((fun (c : Fin 8) (m : Nat) (more : Nat) (s : State) => (s.can c).tx = some m ∧ m < 32 ∧ canOn s c = true ∧ canOff s c = false ∧ 255 <
      rd s (F.CAN_CH_STAT_TEC c) + 8 * (1 + more)) 7 31 0 (modCan 7 (fun x => { x with tx := some 31 }) (bused [(F.CAN_CH_CFG_EN 7, 1),
      (F.CAN_MB_CFG_EN 7 31, 1), (F.CAN_CH_STAT_TEC 7, 248)]))) ∧
    ((fun (c : Fin 8) (n : Fin 129) (s : State) => canOn s c = true ∧ canOff s c = true ∧ rd s (F.CAN_CH_STAT_RECSEQ c) ≤ n.val ∧ n.val <
      128) 7 127 (modCan 7 (fun x => { x with busy := x.busy }) (bused [(F.CAN_CH_CFG_EN 7, 1), (F.CAN_MB_CFG_EN 7 31, 1),
      (F.CAN_CH_STAT_ESTATE 7, 2)]))) ∧
    ((fun (c : Fin 8) (s : State) => canOn s c = true ∧ canOff s c = true ∧ rd s (F.CAN_CH_STAT_RECSEQ c) ≤ 128) 7 (modCan 7 (fun x =>
      { x with busy := x.busy }) (bused [(F.CAN_CH_CFG_EN 7, 1), (F.CAN_MB_CFG_EN 7 31, 1), (F.CAN_CH_STAT_ESTATE 7, 2),
      (F.CAN_CH_STAT_TEC 7, 255)]))) ∧
    ((fun (c : Fin 8) (s : State) => canOn s c = true ∧ canOff s c = false ∧ (s.can c).tx = none ∧ rd s (F.CAN_CH_STAT_TEC c) ≤ 255 ∧ rd s
      (F.CAN_CH_STAT_REC c) ≤ 247) 7 (modCan 7 (fun x => { x with busy := x.busy }) (bused [(F.CAN_CH_CFG_EN 7, 1), (F.CAN_MB_CFG_EN 7 31,
      1), (F.CAN_CH_STAT_REC 7, 247)]))) := by
  refine ⟨?_, ?_, ?_, ?_, ?_, ?_, ?_, ?_, ?_⟩ <;> decide

theorem witness_sent_and_lin_frames_are_judged :
    ((fun (r : Fin 12) (f : SentFrame) (s : State) => sentOn s r = true ∧ sentCalOk s r f = false) 11 (⟨2000, [], false⟩) (bused
      [(F.SENT_RX_CFG_EN 11, 1), (F.SENT_RX_CFG_TICK 11, 3), (F.SENT_RX_CFG_NNIB 11, 6)])) ∧
    ((fun (r : Fin 12) (f : SentFrame) (s : State) => sentOn s r = true ∧ sentCalOk s r f = true ∧ f.nibs.length = 2 + rd s
      (F.SENT_RX_CFG_NNIB r) ∧ ((∀ p ∈ f.nibs, 12 ≤ sentTicks f.cal p ∧ sentTicks f.cal p ≤ 27)) ∧ f.pause = isSet s (F.SENT_RX_CFG_PAUSE
      r) ∧ sentTicks f.cal (f.nibs.getD (1 + rd s (F.SENT_RX_CFG_NNIB r)) 0) - 12 = sentCrc (isSet s (F.SENT_RX_CFG_CRCLEG r))
      (((f.nibs.map fun p => sentTicks f.cal p - 12).drop 1).take (rd s (F.SENT_RX_CFG_NNIB r)))) 11 (⟨1344, [288, 288, 312, 336, 360,
      384, 408, 312], false⟩) (bused [(F.SENT_RX_CFG_EN 11, 1), (F.SENT_RX_CFG_TICK 11, 3), (F.SENT_RX_CFG_NNIB 11, 6)])) ∧
    ((fun (r : Fin 12) (s : State) => sentOn s r = true ∧ (s.sentRx r).timedOut = false) 11 (bused [(F.SENT_RX_CFG_EN 11, 1),
      (F.SENT_RX_CFG_TICK 11, 3), (F.SENT_RX_CFG_NNIB 11, 6)])) ∧
    ((fun (s : State) => coresRun s = true) (modSent 11 (fun x => { x with liveStamp := 77 }) (bused [(F.SENT_RX_CFG_EN 11, 1),
      (F.SENT_RX_CFG_TICK 11, 3), (F.SENT_RX_CFG_NNIB 11, 6)]))) ∧
    ((fun (l : Fin 4) (e : Nat) (s : State) => linOn s l = true ∧ linDue s l = some e ∧ e < 32) 3 0 (bused [(F.LIN_CH_CFG_EN 3, 1),
      (F.LIN_CH_ENT_FID 3 0, 5)])) ∧
    ((fun (l : Fin 4) (data : List Byte) (s : State) => linOn s l = true ∧ (s.lin l).openRsp = true ∧ isSet s (F.LIN_CH_ENT_DIR l (rd s
      (F.LIN_CH_STAT_ENTRY l))) = true ∧ data.length = linLen s l (rd s (F.LIN_CH_STAT_ENTRY l))) 3 ([7]) (modLin 3 (fun x =>
      { x with openRsp := true }) (bused [(F.LIN_CH_CFG_EN 3, 1), (F.LIN_CH_STAT_ENTRY 3, 31), (F.LIN_CH_ENT_DIR 3 31, 1),
      (F.LIN_CH_ENT_FID 3 31, 5)]))) ∧
    ((fun (l : Fin 4) (data : List Byte) (x : Byte) (s : State) => linOn s l = true ∧ (s.lin l).openRsp = true ∧ isSet s (F.LIN_CH_ENT_DIR
      l (rd s (F.LIN_CH_STAT_ENTRY l))) = true ∧ data.length = linLen s l (rd s (F.LIN_CH_STAT_ENTRY l)) ∧ x ≠ linCheck s l (rd s
      (F.LIN_CH_STAT_ENTRY l)) data) 3 ([7]) 0 (modLin 3 (fun x => { x with openRsp := true }) (bused [(F.LIN_CH_CFG_EN 3, 1),
      (F.LIN_CH_STAT_ENTRY 3, 31), (F.LIN_CH_ENT_DIR 3 31, 1), (F.LIN_CH_ENT_FID 3 31, 5)]))) ∧
    ((fun (l : Fin 4) (s : State) => linOn s l = true ∧ (s.lin l).openRsp = true ∧ isSet s (F.LIN_CH_ENT_DIR l (rd s (F.LIN_CH_STAT_ENTRY
      l))) = true) 3 (modLin 3 (fun x => { x with openRsp := true }) (bused [(F.LIN_CH_CFG_EN 3, 1), (F.LIN_CH_STAT_ENTRY 3, 31),
      (F.LIN_CH_ENT_DIR 3 31, 1), (F.LIN_CH_ENT_FID 3 31, 5)]))) ∧
    ((fun (who : Requestor) (l : Fin 4) (e : Fin 32) (s : State) => fromCore s who = true ∧ isSet s (F.LIN_CH_ENT_DIR l e) = false) .ac0 3
      31 (bused [(F.LIN_CH_CFG_EN 3, 1)])) := by
  refine ⟨?_, ?_, ?_, ?_, ?_, ?_, ?_, ?_, ?_⟩ <;> decide

theorem witness_load_chooses_a_copy :
    ((fun (res : LoadResult) (s : State) => s.dev.st = .load ∧ res.romErr = none) (⟨false, 2, [], 50, none⟩) (dev .load)) ∧
    ((fun (res : LoadResult) (s : State) => s.dev.st = .load ∧ res.romErr = none ∧ s.cfg.flash = []) (⟨false, 2, [], 50, none⟩) (dev
      .load)) ∧
    ((fun (res : LoadResult) (s : State) => s.dev.st = .load ∧ res.romErr ≠ none) (⟨false, 2, [], 50, some 5⟩) (dev .load)) := by
  refine ⟨?_, ?_, ?_⟩ <;> decide

set_option maxRecDepth 20000 in
theorem witness_identify_judges_records :
    ((fun (k : Fin 64) (r : List Byte) (w : ReadTime) (s : State) => s.dev.st = .identify ∧ k.val < identCount s ∧ rd s
      (F.IDM_REC_STAT_RSN k) = 0 ∧ busRead s (field (identEntry s k) 0 1) k = true ∧ tget (fun _ => 0) s.cfg.busEnd (field (identEntry s
      k) 0 1) ≤ w.startUs ∧ w.startUs ≤ w.endUs ∧ recLate s (field (identEntry s k) 0 1) w = false ∧ r.length = 256) 0 (List.replicate 256
      7) (⟨0, 6000⟩) (put [(F.IDM_BUS_CFG_FAST 0, 1)] ((dev .identify).setCfg
      { (dev .identify).cfg with ident := List.replicate 2560 0 }))) ∧
    ((fun (k : Fin 64) (answer : Option (List Byte)) (w : ReadTime) (s : State) => s.dev.st = .identify ∧ k.val < identCount s ∧ rd s
      (F.IDM_REC_STAT_RSN k) = 0 ∧ busRead s (field (identEntry s k) 0 1) k = true ∧ tget (fun _ => 0) s.cfg.busEnd (field (identEntry s
      k) 0 1) ≤ w.startUs ∧ w.startUs ≤ w.endUs ∧ ((answer = none ∨ recLate s (field (identEntry s k) 0 1) w = true))) 0 (some
      (List.replicate 256 7)) (⟨0, 6001⟩) (put [(F.IDM_BUS_CFG_FAST 0, 1)] ((dev .identify).setCfg
      { (dev .identify).cfg with ident := List.replicate 2560 0 }))) ∧
    ((fun (k : Fin 64) (r : List Byte) (w : ReadTime) (s : State) => s.dev.st = .identify ∧ k.val < identCount s ∧ mayReread s k = true ∧
      busRead s (field (identEntry s k) 0 1) (identCount s) = true ∧ tget (fun _ => 0) s.cfg.busEnd (field (identEntry s k) 0 1) ≤
      w.startUs ∧ w.startUs ≤ w.endUs ∧ w.endUs ≤ 50000 ∧ recLate s (field (identEntry s k) 0 1) w = false ∧ r.length = 256) 0
      (List.replicate 256 7) (⟨44000, 50000⟩) (put [(F.IDM_BUS_CFG_FAST 0, 1)] (put [(F.IDM_REC_STAT_RSN 0, 2)] ((dev .identify).setCfg
      { (dev .identify).cfg with ident := List.replicate 40 0 })))) ∧
    ((fun (s : State) => s.dev.st = .identify ∧ ((∀ t < s.nTeams, isSet s (F.MOD_DSPI_CFG_EN t) = true → isSet s (F.MOD_DSPI_STAT_DONE t)
      = true)) ∧ ((∀ k < identCount s, rd s (F.IDM_REC_STAT_RSN k) ≠ 0))) (dev .identify)) ∧
    ((fun (s : State) => s.dev.st = .sync ∧ syncReady s = true ∧ ((∀ a < 32, (s.ax a).taken = none))) (axis 31 1 0 (dev .sync))) := by
  refine ⟨?_, ?_, ?_, ?_, ?_⟩ <;> decide

set_option maxRecDepth 20000 in
theorem witness_maintenance_requests_are_served :
    ((fun (r : Req) (bank : Byte) (ofs : Word) (len : Word) (s : State) => Accepted 5 r ([1, 0, 0, 0, bank, 0, 0, 0] ++ leBytes 4
      ofs.toNat ++ leBytes 4 len.toNat) s ∧ s.cfg.op = none ∧ s.cfg.restart = false ∧ nvmState s = true ∧ bank.toNat < 2 ∧ bankInUse s
      bank.toNat = false ∧ ofs.toNat % 0x10000 = 0 ∧ len.toNat % 0x10000 = 0 ∧ ofs.toNat + len.toNat ≤ 0x800000) (rq 5 ([1, 0, 0, 0, 1, 0,
      0, 0] ++ leBytes 4 0x7F0000 ++ leBytes 4 0x10000)) 1 0x7F0000 0x10000 (hosted armed)) ∧
    ((fun (r : Req) (bank : Byte) (ofs : Word) (data : List Byte) (s : State) => Accepted 5 r ([2, 0, 0, 0, bank, 0, 0, 0] ++ leBytes 4
      ofs.toNat ++ leBytes 2 data.length ++ [0, 0] ++ data) s ∧ s.cfg.op = none ∧ s.cfg.restart = false ∧ nvmState s = true ∧ bank.toNat <
      2 ∧ bankInUse s bank.toNat = false ∧ 0x40 ≤ ofs.toNat ∧ ofs.toNat % 4 = 0 ∧ 4 ≤ data.length ∧ data.length ≤ 1024 ∧ data.length % 4 =
      0 ∧ ofs.toNat + data.length ≤ 0x800000) (rq 5 ([2, 0, 0, 0, 1, 0, 0, 0] ++ leBytes 4 0x7FFFFC ++ leBytes 2 4 ++ [0, 0] ++ [1, 2, 3,
      4])) 1 0x7FFFFC ([1, 2, 3, 4]) (hosted armed)) ∧
    ((fun (r : Req) (bank : Byte) (data : List Byte) (s : State) => Accepted 5 r ([3, 0, 0, 0, bank, 0, 0, 0] ++ data) s ∧ s.cfg.op = none
      ∧ s.cfg.restart = false ∧ nvmState s = true ∧ bank.toNat < 2 ∧ bankInUse s bank.toNat = false ∧ data.length = 64 ∧ headerBlank s
      bank.toNat = true) (rq 5 ([3, 0, 0, 0, 1, 0, 0, 0] ++ List.replicate 64 5)) 1 (List.replicate 64 5) (hosted armed)) ∧
    ((fun (r : Req) (bank : Byte) (port : Byte) (ofs : Word) (n : BitVec 16) (s : State) => Accepted 5 r ([4, 0, 0, 0, bank, port, 0, 0]
      ++ leBytes 4 ofs.toNat ++ leBytes 2 n.toNat ++ [0, 0]) s ∧ s.cfg.op = none ∧ s.cfg.restart = false ∧ nvmState s = true ∧ bank.toNat
      < 2 ∧ (nvmPorts s).contains port.toNat = true ∧ 4 ≤ n.toNat ∧ n.toNat ≤ 1024 ∧ n.toNat % 4 = 0 ∧ ofs.toNat + n.toNat ≤ 0x800000) (rq
      5 ([4, 0, 0, 0, 1, 1, 0, 0] ++ leBytes 4 0x7FFFFC ++ leBytes 2 4 ++ [0, 0])) 1 1 0x7FFFFC 4 (put [(F.CFG_XSPI_P1PRES, 1)] (hosted
      armed))) ∧
    ((fun (r : Req) (s : State) => Accepted 5 r [5, 0, 0, 0] s ∧ s.cfg.op = none ∧ restartOk s = true) (rq 5 ([5, 0, 0, 0])) (hosted
      armed)) ∧
    ((fun (r : Req) (s : State) => Accepted 5 r [5, 0, 0, 0] s ∧ s.cfg.op = none ∧ restartOk s = false) (rq 5 ([5, 0, 0, 0])) (hosted
      (axis 31 1 4 armed))) ∧
    ((fun (r : Req) (s : State) => Accepted 5 r [5, 0, 0, 0] s ∧ s.cfg.op ≠ none) (rq 5 ([5, 0, 0, 0])) ((hosted armed).setCfg
      { (hosted armed).cfg with op := some ⟨2, 1, 64, 4, [1, 2, 3, 4]⟩ })) ∧
    ((fun (r : Req) (mop : Byte) (data : List Byte) (s : State) => Accepted 5 r ([mop, 0, 0, 0] ++ data) s ∧ s.cfg.op = none ∧ ((mop ≠ 5 ∨
      data ≠ [])) ∧ [1, 2, 3, 4, 6].contains mop.toNat = false) (rq 5 ([9, 0, 0, 0])) 9 ([]) (hosted armed)) ∧
    ((fun (r : Req) (log : Byte) (first : Word) (n : BitVec 16) (s : State) => Accepted 5 r ([6, 0, 0, 0, log, 0, 0, 0] ++ leBytes 4
      first.toNat ++ leBytes 2 n.toNat ++ [0, 0]) s ∧ s.cfg.op = none ∧ log.toNat < 2 ∧ ((log = 1 → isSet s F.STS_STAT_RESTORED = true)) ∧
      1 ≤ n.toNat ∧ n.toNat ≤ 64) (rq 5 ([6, 0, 0, 0, 0, 0, 0, 0] ++ leBytes 4 0 ++ leBytes 2 64 ++ [0, 0])) 0 0 64 (logFault 0x0101 0 0 5
      (hosted armed))) ∧
    ((fun (r : Req) (log : Byte) (first : Word) (n : BitVec 16) (s : State) => Accepted 5 r ([6, 0, 0, 0, log, 0, 0, 0] ++ leBytes 4
      first.toNat ++ leBytes 2 n.toNat ++ [0, 0]) s ∧ s.cfg.op = none ∧ ((n = 0 ∨ 64 < n.toNat))) (rq 5 ([6, 0, 0, 0, 0, 0, 0, 0] ++
      leBytes 4 0 ++ leBytes 2 0 ++ [0, 0])) 0 0 0 (logFault 0x0101 0 0 5 (hosted armed))) ∧
    ((fun (op : NvmOp) (s : State) => s.cfg.op = some op ∧ ((op.mop = 1 ∨ op.mop = 2)) ∧ op.bank < 2 ∧ op.ofs + op.len ≤ 0x800000 ∧ op.len
      = (nvmBytes op).length) (⟨2, 1, 64, 4, [1, 2, 3, 4]⟩) ((hosted armed).setCfg
      { (hosted armed).cfg with op := some ⟨2, 1, 64, 4, [1, 2, 3, 4]⟩ })) ∧
    ((fun (op : NvmOp) (s : State) => s.cfg.op = some op ∧ op.mop = 3 ∧ nvmVerified op.bank (nvmWritten op s) = false) (⟨3, 1, 0, 64,
      List.replicate 64 5⟩) ((hosted armed).setCfg { (hosted armed).cfg with op := some ⟨3, 1, 0, 64, List.replicate 64 5⟩ })) ∧
    ((fun (op : NvmOp) (fcode : Byte) (unit : Nat) (port : Bool) (s : State) => s.cfg.op = some op ∧ nvmFcode op fcode.toNat = true ∧
      nvmHas s op port unit = true ∧ nvmLeft s op port unit ≤ rd s F.CFG_NVM_REMAIN) (⟨2, 1, 64, 4, [1, 2, 3, 4]⟩) 2 0 false (put
      [(F.CFG_NVM_REMAIN, 1)] ((hosted armed).setCfg { (hosted armed).cfg with op := some ⟨2, 1, 64, 4, [1, 2, 3, 4]⟩ }))) :=
  ⟨⟨accepted_rq _ _ _ (by decide), by decide⟩, ⟨accepted_rq _ _ _ (by decide), by decide⟩, ⟨accepted_rq _ _ _ (by decide), by decide⟩, ⟨accepted_rq _ _ _ (by decide), by decide⟩, ⟨accepted_rq _ _ _ (by decide), by decide⟩, ⟨accepted_rq _ _ _ (by decide), by decide⟩, ⟨accepted_rq _ _ _ (by decide), by decide⟩, ⟨accepted_rq _ _ _ (by decide), by decide⟩, ⟨accepted_rq _ _ _ (by decide), by decide⟩, ⟨accepted_rq _ _ _ (by decide), by decide⟩, by decide, by decide, by decide⟩

theorem witness_starts_go_through_selftest :
    ((fun (c : Nat) (l : List Nat) (s : State) => s.dev.st = .powerup ∧ held s = false ∧ bitsOf s.pwr.causes 7 = c :: l) 1 ([5]) ((dev
      .powerup).setPwr { (dev .powerup).pwr with causes := 34 })) ∧
    ((fun (s : State) => s.dev.st = .powerup ∧ held s = false) (dev .powerup)) ∧
    ((fun (r : SelfTestResult) (s : State) => s.dev.st = .selftest ∧ held s = false ∧ r.item ≠ 0) (⟨5, 3, 100⟩) (dev .selftest)) ∧
    ((fun (r : SelfTestResult) (s : State) => s.dev.st = .selftest ∧ held s = false ∧ r.item = 0) (⟨0, 3, 100⟩) (put
      [(F.PWR_STFAILREC_ITEM, 3)] (dev .selftest))) := by
  refine ⟨?_, ?_, ?_, ?_⟩ <;> decide

theorem witness_sag_parks_the_device :
    ((fun (s : State) => sagSeen s = true ∧ s.pwr.recs = []) (put [(F.SAF_TEAMEN_EN, 255), (F.SAF_TEAMEN_RB, 255)] (axis 31 1 4 armed))) ∧
    ((fun (s : State) => s.pwr.recs = [1]) ((dev .save).setPwr { (dev .save).pwr with recs := [1] })) ∧
    ((fun (s : State) => s.dev.st = .parked ∧ held s = false) ((dev .parked).setPwr { (dev .parked).pwr with causes := 1 })) ∧
    ((fun (l : List Nat) (s : State) => s.pwr.recs = 4 :: l) ([3]) ((armed).setPwr { (armed).pwr with recs := [4, 3] })) ∧
    ((fun (v : Byte) (l : List Nat) (s : State) => s.pwr.recs = 4 :: l ∧ v ≠ 0x47) 7 ([3]) ((armed).setPwr
      { (armed).pwr with recs := [4, 3] })) ∧
    ((fun (s : State) => ((s.dev.st = .armed ∨ s.dev.st = .service ∨ s.dev.st = .recovery)) ∧ periodDue s = true) ((put
      [(F.STR_PERIOD_PERIOD, 16000)] armed).setPwr { armed.pwr with since := 500000 })) := by
  refine ⟨?_, ?_, ?_, ?_, ?_, ?_⟩ <;> decide

theorem witness_resets_keep_the_wellhead :
    ((fun (s : State) => s.dev.resetLow = true ∧ s.dev.vsafeLow = false ∧ s.dev.testHold = false ∧ s.dev.dead = false ∧ s.bst.dbg.pins ≠
      .scan) (modDev (fun d => { d with resetLow := true }) (dev .powerup))) ∧
    ((fun (s : State) => s.dev.dead = false ∧ s.dev.vsafeLow = false ∧ s.dev.st ≠ .sleep ∧ twf regReset none s.regs = true) (put
      [(F.SAF_TEAMEN_EN, 255), (F.PWR_WAKESEC_SEC, 7)] service)) ∧
    ((fun (s : State) => s.dev.vsafeLow = true) (modDev (fun d => { d with vsafeLow := true }) (dev .powerup))) ∧
    ((fun (s : State) => s.dev.dead = false) service) := by
  refine ⟨?_, ?_, ?_, ?_⟩ <;> decide

theorem witness_rails_and_the_clock_are_watched :
    ((fun (r : RailReport) (s : State) => held s = false ∧ s.dev.dead = false ∧ ((s.dev.st = .armed ∨ s.dev.st = .service)) ∧ r.ev ≠
      .good) (⟨.vcore, .low⟩) (put [(F.SAF_TEAMEN_EN, 255)] service)) ∧
    ((fun (r : RailReport) (s : State) => monitored s = false ∧ s.dev.dead = false ∧ s.dev.st ≠ .sleep ∧ r.ev ≠ .good) (⟨.viop, .high⟩)
      (dev .parked)) ∧
    ((fun (s : State) => s.dev.dead = false ∧ s.dev.st ≠ .sleep) (armed.setPwr { armed.pwr with lowRails := 8 })) ∧
    ((fun (s : State) => isSet s F.PWR_STAT_XOSCOK = true ∧ s.dev.dead = false) (put [(F.PWR_STAT_XOSCOK, 1), (F.PWR_STAT_RTCVALID, 1)]
      armed)) ∧
    ((fun (s : State) => s.dev.dead = false) armed) ∧
    ((fun (who : Requestor) (s : State) => mayIssue s who = true) .host (put [(F.PWR_RTCSET_HI_SEC, 65535), (F.PWR_RTCSET_LO_SEC, 5)]
      armed)) ∧
    ((fun (s : State) => coresRun s = true) armed) := by
  refine ⟨?_, ?_, ?_, ?_, ?_, ?_, ?_⟩ <;> decide

theorem witness_sleep_ends_with_a_wake :
    ((fun (who : Requestor) (s : State) => fromCore s who = true) .ac0 armed) ∧
    ((fun (s : State) => s.pwr.recs = [3] ∧ s.pwr.wakeLatch = 0) ((armed).setPwr { (armed).pwr with recs := [3] })) ∧
    ((fun (n : Fin 6) (rising : Bool) (s : State) => s.dev.dead = false ∧ s.dev.st = .sleep ∧ (rd s (F.PWR_WK_CFG_EDGE n) = (if rising
      then 1 else 2) ∨ rd s (F.PWR_WK_CFG_EDGE n) = 3)) 5 true (put [(F.PWR_WK_CFG_EDGE 5, 3)] (dev .sleep))) ∧
    ((fun (n : Fin 6) (s : State) => s.dev.dead = false ∧ s.dev.st = .sleep ∧ rd s (F.PWR_WK_CFG_EDGE n) = 0) 5 (dev .sleep)) ∧
    ((fun (s : State) => s.dev.st = .sleep ∧ isSet s F.PWR_WAKESEC_SEC = true) (put [(F.PWR_WAKESEC_SEC, 1)] (dev .sleep))) ∧
    ((fun (s : State) => s.dev.st = .sleep ∧ s.pwr.railsOff = false) (dev .sleep)) ∧
    ((fun (s : State) => s.dev.st = .sleep ∧ s.pwr.railsOff = true) ((dev .sleep).setPwr { (dev .sleep).pwr with railsOff := true })) := by
  refine ⟨?_, ?_, ?_, ?_, ?_, ?_, ?_⟩ <;> decide

theorem witness_reset_pulses_are_filtered :
    ((fun (lowNs : Nat) => lowNs < 1000) 999) ∧
    ((fun (s : State) => ((s.dev.dead = true ∨ s.dev.resetLow = true))) (modDev (fun d => { d with resetLow := true }) (dev .powerup))) ∧
    ((fun (lowNs : Nat) (s : State) => 1000 ≤ lowNs ∧ lowNs < 10000 ∧ s.dev.dead = false ∧ s.dev.resetLow = false) 9999 service) ∧
    ((fun (lowNs : Nat) (s : State) => 10000 ≤ lowNs ∧ s.dev.dead = false ∧ s.dev.resetLow = false ∧ twf regReset none s.regs = true)
      10000 (put [(F.SAF_TEAMEN_EN, 255), (F.PWR_WAKESEC_SEC, 7)] service)) := by
  refine ⟨?_, ?_, ?_, ?_⟩ <;> decide

theorem witness_the_start_cause_is_reported :
    (fun (c : Nat) (l : List Nat) (bad : List (Fin 64)) (s : State) => s.dev.st = .powerup ∧ held s = false ∧ bitsOf s.pwr.causes 7 = c ::
      l ∧ s.flt.batch = [] ∧ bad.length ≤ 64 ∧ s.pwr.wkmask < 64) 1 ([5]) ([3]) ((dev .powerup).setPwr
      { (dev .powerup).pwr with causes := 0x22, wkmask := 63 }) := by decide

theorem witness_register_writes_keep_their_fields :
    ((fun (who : Requestor) (s : State) => mayIssue s who = true) .host service) ∧
    ((fun (who : Requestor) (s : State) => fromCore s who = true ∧ s.dev.st = .service) .ac0 service) ∧
    ((fun (who : Requestor) (s : State) => ((fromCore s who = false ∨ s.dev.st ≠ .service))) .host service) ∧
    ((fun (who : Requestor) (s : State) => ((fromCore s who = false ∨ s.dev.st ≠ .service))) .ac0 armed) ∧
    ((fun (off : BitVec 24) => findReg off.toNat = none) 0x000003) ∧
    ((fun (who : Requestor) (off : BitVec 24) (r : RegRow) (is : List Nat) (f : Nat × Nat × Acc) (s : State) => mayIssue s who = true ∧
      findReg off.toNat = some (r, is) ∧ WritesFieldByField r.id = true ∧ f ∈ r.flds) .ac1 (BitVec.ofNat 24 A.STR_PERIOD) (⟨.STR_PERIOD,
      0x010000, [], [(0, 18, .img)]⟩) ([]) ((0, 18, .img)) (put [(F.BST_PAIR_STAT_MODE 0, 2)] service)) ∧
    ((fun (who : Requestor) (addr : Word) (wrt : Bool) (s : State) => who ≠ .host ∧ (if wrt then fabricWrites s who addr.toNat else
      fabricReads addr.toNat) = true) .ac0 0x40000000 true service) ∧
    ((fun (who : Requestor) (addr : Word) (wrt : Bool) (s : State) => who ≠ .host ∧ mayIssue s who = true ∧ (if wrt then fabricWrites s
      who addr.toNat else fabricReads addr.toNat) = false ∧ logging s = true) .ac0 0x60000000 true service) ∧
    ((fun (s : State) => coresRun s = true) (logFault 0x0101 0 0 5 service)) := by
  refine ⟨?_, ?_, ?_, ?_, ?_, ?_, ?_, ?_, ?_⟩ <;> decide

/-! ### Witnesses of the statements over every command -/

theorem witness_step_runs_front_command : State.reset.pending = [] := rfl
theorem witness_step_keeps_canonical :
    ∃ s t : State, Canonical s ∧ step s = .next t := ⟨State.reset, State.reset, ⟨rfl, rfl⟩, rfl⟩
theorem witness_commands_leave_the_queue :
    ∃ (c : Instr) (s t : State), exec c s = .next t ∧ s.flt.batch = [] := ⟨.wakeTimer, State.reset, State.reset, rfl, rfl⟩
theorem witness_count_read_latches_run :
    ∃ t u : State, exec .strCountLoRead armed = .next t ∧ (∀ c ∈ [Instr.xoscRestart], ReadsCount c = false ∧ Restarts c = false) ∧
      Runs [.xoscRestart] t u := ⟨_, _, rfl, by decide, _, rfl, rfl⟩
theorem witness_count_read_latches_command :
    ∃ (c : Instr) (s t : State), ReadsCount c = false ∧ exec c s = .next t := ⟨.xoscRestart, armed, _, rfl, rfl⟩
theorem witness_links_keep_sequenced :
    ∃ (c : Instr) (s t : State), MovesFrames c = true ∧ Sequenced s ∧ exec c s = .next t :=
  ⟨.ack .b 7, hopIn 1 2 (ring (modCis 10 (fun c => { c with pkts := [{ pktA with sent := some (1, 7) }] }) armed)), _, rfl, by decide, rfl⟩
theorem witness_memory_and_store_frame :
    ∃ (c : Instr) (s t : State), exec c s = .next t ∧ StoresMemory c = false ∧ (∀ res, c ≠ .nvmOpComplete res) ∧ s.cfg.op = none ∧
      ChangesStore c = false := ⟨.pairSplit 1, State.reset, _, rfl, rfl, nofun, rfl, rfl⟩
theorem witness_sense_drive_and_safety_frame :
    ∃ (c : Instr) (s t : State), exec c s = .next t ∧ ChangesSense c = false ∧ ChangesPosition c = false ∧ ChangesDrive c = false ∧ ChangesSafety c = false :=
  ⟨.pairSplit 1, State.reset, _, rfl, rfl, rfl, rfl, rfl⟩
theorem witness_groups_buses_and_cores_frame :
    ∃ (c : Instr) (s t : State), exec c s = .next t ∧ ChangesGroups c = false ∧ ChangesBuses c = false ∧ ChangesPairs c = false ∧
      ChangesDebug c = false ∧ ChangesHarts c = false := ⟨.gsuvClear 7, State.reset, _, rfl, rfl, rfl, rfl, rfl, rfl⟩
theorem witness_device_registers_frame :
    ∃ (c : Instr) (l : List Fld) (f : Fld) (s t : State), deviceFields c = some l ∧ f.lo + f.w ≤ 32 ∧ (∀ g ∈ l ++ logFields, Apart f g) ∧
      exec c s = .next t :=
  ⟨.gsuvClear 7, _, F.MOD_TEAM_STAT_GSREL 7, State.reset, _, rfl, by decide, by unfold Apart; decide, rfl⟩
theorem witness_network_registers_frame :
    ∃ (c : Instr) (l : List Fld) (f : Fld) (s t : State), networkFields s c = some l ∧ f.lo + f.w ≤ 32 ∧ (∀ g ∈ l ++ logFields, Apart f g) ∧
      exec c s = .next t :=
  ⟨.sentFastRead 11, _, F.SENT_RX_FAST_VALID 11, State.reset, _, rfl, by decide, by unfold Apart; decide, rfl⟩

/-! ### Ill-formed commands are refused, one for each check of Instr.wf -/

theorem test_wf_item : (Instr.selftestComplete ⟨6, 0, 0⟩).wf = false := by decide
theorem test_wf_load_copy : (Instr.loadComplete ⟨false, 0, [4], 0, none⟩).wf = false := by decide
theorem test_wf_memory : (Instr.idleWindow ⟨.pass, some (6, ⟨0, true⟩)⟩).wf = false := by decide
theorem test_wf_restart : (Instr.restart ⟨⟨0, false, 0, true, 1, 0, 0⟩, 1, []⟩).wf = false := by decide
theorem test_wf_identity : (Instr.identityRead 0 (some (List.replicate 257 0)) ⟨0, 0⟩).wf = false := by decide +kernel
theorem test_wf_commit : (Instr.taskCommit .ac0 1 [(0, [0])]).wf = false := by decide
theorem test_wf_window : (Instr.senseResult 0 ⟨[], false, true⟩ 0).wf = false := by decide
theorem test_wf_overlap : (Instr.edgeProcessing 0 0 (some (2, 1))).wf = false := by decide
theorem test_wf_fcode : (Instr.nvmOpComplete (.fail 0 0 false [])).wf = false := by decide
theorem test_wf_can_length : (Instr.canFrameReceived 0 ⟨1, false, false, false, false, false, 2, [0]⟩).wf = false := by decide
theorem test_wf_can_base : (Instr.canFrameReceived 0 ⟨2048, false, false, false, false, false, 0, []⟩).wf = false := by decide
theorem test_wf_can_classic : (Instr.canFrameReceived 0 ⟨1, false, false, true, false, false, 0, []⟩).wf = false := by decide
theorem test_wf_can_remote : (Instr.canFrameReceived 0 ⟨1, false, true, false, false, true, 0, []⟩).wf = false := by decide
theorem test_wf_sent : (Instr.sentFrame 0 ⟨1, List.replicate 9 0, false⟩).wf = false := by decide
theorem test_wf_lin : (Instr.linResponse 0 (List.replicate 10 0) false false).wf = false := by decide
theorem test_wf_offset : (Instr.registerWrite .host 2 0).wf = false := by decide
theorem test_wf_packet : (Instr.packetClose 0 [] false).wf = false := by decide
theorem test_wf_accepts : (Instr.canFrameReceived 0 ⟨1, false, true, true, false, false, 9, List.replicate 12 0⟩).wf = true := by decide

/-! ### The worked examples of the spec -/

/-- The command answers a next state with the property. -/
def after (c : Instr) (s : State) (p : State → Bool) : Bool :=
  match exec c s with
  | .next t => p t
  | _ => false

/-- For each bound of MemoryAndStoreFrame a state in which the command acts, and the byte at address 0 outside what it stores to. -/
theorem witness_memory_bounds :
    after (.samplePhase 7) (axis 31 1 4 armed) (fun t => ((teamAxes (axis 31 1 4 armed) 7).all fun a => decide (0 < inBase a)) && rdB t 0 == rdB armed 0) = true ∧
    after (.loopEngineRun 7 none) armed (fun _ => (teamAxes armed 7).all fun a => decide (0 < rbBase a)) = true ∧
    after (.taskCommit .ac0 3 [(31, List.replicate 16 5), (30, [9])]) armed (fun t => decide (0 < pendBase 31) && decide (0 < pendBase 30) &&
      rd32 t (pendBase 30) == 9) = true ∧
    after .applicationCommit armed (fun _ => (List.range 32).all fun a => decide (0 < actBase a)) = true ∧
    after .strideMark armed (fun _ => decide (0 < xferBase 0) && decide (0 < xferBase 1)) = true ∧
    after .supplySag armed (fun t => decide (0 < mramBase (recBank armed)) && t.dev.st == .save) = true ∧
    after (.loadComplete ⟨false, 2, [], 50, none⟩) (dev .load) (fun _ => (loadTried ⟨false, 2, [], 50, none⟩ (dev .load)).2 == none) = true ∧
    after (.stateRecordWritten none) (armed.setPwr { armed.pwr with recs := [4] }) (fun t => decide (0 < mramBase (recBank armed)) && t.pwr.recs == []) = true ∧
    after .wakeTimer (wr32 0x50000000 7 (put [(F.PWR_WAKESEC_SEC, 1)] (dev .sleep))) (fun t => t.dev.st == .powerup && rd32 t 0x50000000 == 7) = true := by
  decide +kernel
/-- The example behind R70: RAW 49,000 with O = −134 and G = 1,024,000. -/
theorem test_sense_value : corrOf 49000 (-134) 1024000 = 23991 := by decide
/-- The example behind R72: T = ±1,500 A, FS = 2,000 A, O = −134. -/
theorem test_sense_threshold :
    fthOf (-134) (Flt.ofRat 1500 1) (Flt.ofRat 2000 1) = 24543 ∧ fthOf (-134) (Flt.ofRat (-1500) 1) (Flt.ofRat 2000 1) = -24610 := by decide +kernel
/-- D_t in the example behind R66: M = 64, k = 40. -/
theorem test_filter_delay :
    teamD (put [(F.SNS_CH_CFG_ROLE 0, 1), (F.SNS_CH_CFG_MOSR 0, 8), (F.SNS_MCLK_CFG_DIV 0, 40)] armed) 0 = 3872 := by decide +kernel
/-- Table 4.3: the reported count and DIR. -/
theorem test_reported_count :
    ((each (fun (n : Int) (p : Ifc × List (Int × Nat)) => let x := npRule { p.1 with nr := n }; (x, p.2 ++ [(x.np, x.dir.toNat)]))
      [101, 100, 101, 102, 103, 104, 103, 102, 101, 100, 101] ({ np := 100, nr := 100, first := true }, [])).2) =
      [(100, 0), (100, 0), (100, 0), (101, 1), (102, 1), (103, 1), (103, 1), (103, 1), (102, 2), (101, 2), (101, 2)] := by decide +kernel
/-- The example behind R100: speed and acceleration half a microsecond behind the update. -/
theorem test_snapshot :
    let s := modIfc 3 (fun x => { x with spdValid := true, spd := 150 * 2 ^ 44, acc := 2000 * 2 ^ 44 }) (put [(F.POS_IF_CPR_CPR 3, 2 ^ 20)] armed)
    (snapOf s 3 0 8000).spd = 9830482 ∧ (snapOf s 3 0 8000).acc = 512000 ∧ (snapOf s 3 0 8000).ang = 402654 := by decide +kernel
/-- The example behind R108: P behind an upward motion is passed, and fires on the way back. -/
theorem test_compare :
    let s := modIfc 15 (fun x => { x with first := true, np := 5000, nr := 5001, dir := 1 }) (put [(F.POS_CMP_CFG_IF 31, 15), (F.POS_CMP_CFG_EN 31, 1),
      (F.POS_IF_CFG_MODE 15, 1), (F.POS_IF_CPR_CPR 15, 65536)] armed)
    after (.compareWrite 31 4990) s (fun t => isSet t (F.POS_CMP_STAT_PASSED 31) && !isSet t (F.POS_CMP_STAT_FIRED 31) &&
      (let u := setNr 15 4989 1 (setNr 15 4992 0 t)
       isSet u (F.POS_CMP_STAT_FIRED 31) && !isSet u (F.POS_CMP_STAT_PASSED 31))) = true := by decide +kernel
/-- The example behind R134: KPQ interpolated in cell (1, 1). -/
theorem test_gain_schedule :
    let c := fun (n : Int) => Flt.ofRat n 100
    locate [0, c 100000, c 200000] (c 125000) = (1, c 25, false) ∧
    interp (fun i j => if i = 1 then (if j = 1 then c 80 else c 70) else if j = 1 then c 60 else c 50) 1 1 (c 25) (c 30) = c 72 := by decide +kernel
/-- Table 5.7 at stride s + 4: the ramp stops at zero where ZDWELL is 2, and goes on where it is 0. -/
theorem test_ramp_reversal :
    let r : Ramp := ⟨Flt.ofRat 2 10, 0⟩
    let go := fun z => (rampStep (Flt.ofRat 2 100000) (Flt.ofRat 25000 1) z (Flt.ofRat (-15) 10) r).1
    (go 2).y = 0 ∧ (go 2).dwell = 2 ∧ Flt.lt (go 0).y 0 = true := by decide +kernel
/-- The refresh example of R157 at its fourth carrier: GHI off 0.75 µs before the valley, GLO on from 0.25 µs before to 0.75 µs after it,
GHI on 1.25 µs after it. -/
theorem test_bootstrap_refresh :
    let s := modLeg 95 (fun l => { l with duty := (Flt.ofRat 99 100, 0), prev := (Flt.ofRat 99 100, 0), hiz := false, lastHi := some true, refRun := true, refCnt := 3 })
      (put [(F.LE_AX_LEGS_NLEG 31, 1), (F.LE_AX_LEGS_LEG0_LEG5 31, 11), (F.STR_PERIOD_PERIOD, 16000), (F.STR_TEAM_CFG_CARMUL 7, 1), (F.SAF_TEAMEN_EN, 128),
        (F.MOD_LEG_CFG_BOOT 95, 1), (F.MOD_LEG_CFG_DT 95, 6400), (F.MOD_LEG_TIM_MINPW 95, 2560), (F.MOD_LEG_REF_TREF 95, 800), (F.MOD_LEG_REF_NREF 95, 3)]
        (axis 31 1 4 armed))
    after (.edgeProcessing 95 0 none) s (fun t => (t.leg 95).edges == [(54400, 0), (60800, 1), (73600, 2), (80000, 3)] &&
      rd t (F.MOD_LEG_CNT_REFCLIP 95) == 1 && (t.leg 95).refCnt == 0) = true := by decide +kernel
/-- The example behind R203: twenty axes of TYPE 1, six of TYPE 2 and eight connections. -/
theorem test_island_budget :
    smcCost (put ((List.range 26).flatMap (fun a => [(F.LE_AX_CFG_TYPE a, if a < 20 then 1 else 2), (F.SAF_AX_TMCFG_MODE a, 1)]) ++
      (List.range 8).map fun c => (F.GRP_CONN_CFG_EN c, 1)) armed) = 1256 := by decide +kernel
/-- The example behind R295: cap 780 and 3,200 bytes of backlog give a pool of 650; here two devices of equal share divide it. -/
theorem test_grants :
    let s := modCis 14 (fun c => { c with pkts := [{ body := List.replicate 3184 0 }] })
      (put (((List.range 16).map fun d => (F.RNG_SHARE_SHARE d, 0x01010101)) ++ [(F.RNG_CFG_HEAD, 1), (F.RNG_CFG_DEVNUM, 0), (F.RNG_CFG_NDEVM1, 1),
        (F.RNG_CRCFG_EGRFRAC, 230), (F.STR_PERIOD_PERIOD, 16000), (F.ETH_P_STAT_LINK 0, 1), (F.ETH_P_STAT_LINK 1, 1), (F.RNG_HOP_STAT_STATE 0, 2)])
        (ring armed))
    grantCap s = 780 ∧ rd (grantMark s) F.RNG_POOL_POOL = 650 ∧ rd (grantMark s) F.RNG_GRANT_GRANT = 325 := by decide +kernel
/-- The teams entry of a GH9648 (the example behind R396). -/
theorem test_capabilities :
    [0x114, 0x118, 0x11C, 0x120].map (fun o => (peekReg (modDev (fun d => { d with part := .gh9648 }) armed) o).1) =
      [0x02010010, 0x00000024, 0x00103004, 0x000F0C60] := by decide +kernel
/-- The example behind R399: WIDX 1,500, FIRST 400, N 64. -/
theorem test_log_slice :
    let l := logSlice (wr F.FLT_WIDX_WIDX 1500 armed) false 400 64
    l.1 = 476 ∧ l.2.length = 64 := by decide +kernel
/-- The bank example behind R348: SEQ 0x0000_0003 is newer than 0xFFFF_FFFE by 5. -/
theorem test_seq_wraps : seqNewer 3 0xFFFFFFFE = true ∧ seqNewer 0xFFFFFFFE 3 = false := by decide

/-! ### Single commands -/

/-- The check values of the CRCs the spec names, over the digits 1 to 9 (R232, R287). -/
theorem test_crcs :
    let b : List Byte := [0x31, 0x32, 0x33, 0x34, 0x35, 0x36, 0x37, 0x38, 0x39]
    crc32 b = 0xCBF43926 ∧ crc32c b = 0xE3069283 ∧ crc16 b = 0x29B1 := by decide +kernel
/-- No row of the opcode table gives bits. -/
theorem test_no_table_words : Sys2Proof.decodeTableWord 32 0 = none := rfl
/-- R387: 999 ns is ignored, 5 µs must not be driven. -/
theorem test_reset_pulse :
    exec (.resetNAssert 999) State.reset = .next State.reset ∧ exec (.resetNAssert 5000) State.reset = .fault .outsideRatings := ⟨rfl, rfl⟩
/-- R55: the mark counts. -/
theorem test_mark_counts : after .strideMark ((dev .sync).setSaf { (dev .sync).saf with islandClk := false }) (fun t => t.dev.count == 1) = true := by decide +kernel
/-- R84: A rising with B low steps up; A and B together count nothing. -/
theorem test_encoder :
    after (.encoderEdge 15 true false 0) (put [(F.POS_IF_CFG_MODE 15, 1), (F.POS_IF_CPR_CPR 15, 4096)] armed) (fun t => (t.ifc 15).nr == 1) = true ∧
    after (.encoderEdge 15 true true 0) (put [(F.POS_IF_CFG_MODE 15, 1), (F.POS_IF_CPR_CPR 15, 4096)] armed)
      (fun t => (t.ifc 15).nr == 0 && rd t (F.POS_IF_EVCNT_SEQCNT 15) == 1) = true := by decide +kernel
/-- R385: a retained word is written by a core in SERVICE and by nobody else. -/
theorem test_retained_word :
    after (.registerWrite .ac0 (BitVec.ofNat 24 0x0D0140) 7) service (fun t => t.reg 0x0D0140 == 7) = true ∧
    after (.registerWrite .host (BitVec.ofNat 24 0x0D0140) 7) service (fun t => t.reg 0x0D0140 == 0) = true ∧
    after (.registerWrite .ac0 (BitVec.ofNat 24 0x0D0140) 7) armed (fun t => t.reg 0x0D0140 == 0) = true := by decide +kernel
/-- R330: eight per error while transmitting, and 128 sequences of recessive bits after bus-off. -/
theorem test_can_bus_off :
    let s := modCan 7 (fun x => { x with tx := some 31 }) (bused [(F.CAN_CH_CFG_EN 7, 1), (F.CAN_CH_STAT_TEC 7, 248)])
    after (.canTransmissionEnd 7 (.error 0) 0) s (fun t => rd t (F.CAN_CH_STAT_ESTATE 7) == 2 &&
      after (.canBusOffRecovery 7 128) t (fun u => rd u (F.CAN_CH_STAT_ESTATE 7) == 0 && rd u (F.CAN_CH_STAT_TEC 7) == 0)) = true := by decide +kernel
/-- R337: the protected identifiers of ISO 17987 for identifiers 0x01, 0x3C and 0x3D. -/
theorem test_lin_pid : linPid 0x01 = 0xC1 ∧ linPid 0x3C = 0x3C ∧ linPid 0x3D = 0x7D := by decide
/-- R313: 16 header and 22 payload bytes fill three words of 16. -/
theorem test_cistern_words : ({ body := List.replicate 22 0 } : Pkt).room false = 48 := by decide +kernel
/-- R369: a trip of VSAFE drops the team enables at once. -/
theorem test_vsafe_trip :
    after .vsafeTrip (put [(F.SAF_TEAMEN_EN, 255)] service) (fun t => rd t F.SAF_TEAMEN_EN == 0 && t.dev.st == .powerup && held t) = true := by decide +kernel
/-- R352: a sag abandons an NVM operation and logs nothing for it. -/
theorem test_sag_abandons :
    after .supplySag (armed.setCfg { armed.cfg with op := some ⟨2, 1, 64, 4, [1, 2, 3, 4]⟩ })
      (fun t => t.cfg.op.isNone && rd t F.FLT_WIDX_WIDX == 1) = true := by decide +kernel
/-- R413, Table 16.8: gate outputs are low in POWERUP, a transmitter of a field bus is high, a gate output in HIGHZ is undriven. -/
theorem test_out_levels :
    outLevel State.reset .gate = .undriven ∧ outLevel (railMark 3 false State.reset) .gate = .low ∧
    outLevel (railMark 2 false State.reset) (.canTx 7) = .high ∧ outLevel (railMark 2 false service) (.linTx 3) = .high ∧
    outLevel (railMark 3 false (modDbg (fun d => { d with pins := .highz }) service)) .gate = .undriven := by decide +kernel
/-- R298: a hop is unwrapped at the stride agreed. -/
theorem test_unwrap :
    after (.ringUnwrap .b) (put [(F.RNG_HOP_STAT_WRAPPED 1, 1)] (modHop 1 (fun x => { x with unwrap := some 0 }) (ring armed)))
      (fun t => !wrapped t 1) = true := by decide +kernel

/-! ### A copy that passes LOAD, and a header write that verifies -/

/-- An image of Tables 13.1 and 13.2 for a GH9696: a key, the REG pairs without which a check of step 7 fails, an application of four bytes, an empty
safety section, the start section, and the signature. -/
def img : List Byte :=
  beBytes 64 0x4757594e010000000100000000010000969600003bc2eb0405000000400000000000000000000000000000000000000000000000000000000000000000000000 ++
  beBytes 64 0x0100000090000000400000000000000002000000d0000000200000000000000003000000f0000000040000000000001005000000f40000000400000000000000 ++
  beBytes 64 0x0b000000f80000000800000000000000088bb9ff22ab291a74c86fc677ba897baadee370cc6129b82d170ba3fc26415c442da9a716067956d91eaa02b93ad409 ++
  beBytes 64 0x490e87cd5e758ea6a331a1deb75ba84600000100803e000010000100401f000014000100e02e0000401008000100000001000000000000000000001000000000 ++
  beBytes 64 0x10a490523955cbc2c2d3452458fcdf97c4733469f187905f5cb67347f4244eb8df342c80e9eca8ca56240c74b9422c0deeefe9bcf3e70a12caf98348e0bc94b2
def imgKey : BitVec 256 := 0x0f8a212d4f085087c3547aae01e8f656e297a664b1373995bd4e554efb036244
/-- A device with some bytes of the image in bank A of port 0 and the key's hash in its OTP. -/
def imaged (n : Nat) (s : State) : State :=
  let s := s.setCfg { s.cfg with flash := ((img.zipIdx.drop n).filter (·.1 != 0xFF)).map fun p => (p.2, p.1) }
  s.setBst { s.bst with se := { s.bst.se with keyHash := imgKey } }
def loadable : State := imaged 0 (dev .load)
def passing : LoadResult := ⟨false, 2, [], 50, none⟩
def headerOp : NvmOp := ⟨3, 0, 0, 64, img.take 64⟩
def headerless : State :=
  let s := imaged 64 armed
  s.setCfg { s.cfg with op := some headerOp }

theorem verifyKeys_congr (b p : Nat) (err : Bool) (s t : State) (hf : s.cfg.flash = t.cfg.flash) (hk : s.bst.se.keyHash = t.bst.se.keyHash) :
    verifyKeys s b p err = verifyKeys t b p err := by
  simp only [verifyKeys, sane, imgLen, imgNum, imgBytes, secsOf, secBytes, imgSecs, imgStofs, imgNsec, hf, hk]
  rfl
theorem verifyKeys_ok {s : State} {b p : Nat} {x : Sec} {key body : List Byte} {digest : BitVec 256} (h1 : sane s b p = true)
    (hx : secsOf s b p 1 = [x]) (hk : secBytes s b p x = key) (hb : imgBytes s b p 0 (imgLen s b p) = body) (h2 : crc32 (body.drop 0x18) = imgNum s b p 0x14 4)
    (h3 : sha256 key = s.bst.se.keyHash) (h4 : sha256 body = digest) (h5 : ecdsaOk key digest (imgBytes s b p (imgLen s b p) 64) = true) :
    verifyKeys s b p false = none := by
  subst hk hb h4
  unfold verifyKeys
  rw [hx]
  dsimp only
  rw [h1, h5, h2, h3]
  simp only [Bool.not_true, Bool.false_eq_true, if_false, ne_eq, not_true_eq_false]
theorem place_policies (h : ∀ l a, Config.sagPol l a = 0) (b p : Nat) (s : State) : place b p s = placeWith (fun _ => 0) b p s :=
  congrArg (fun f => placeWith f b p s) (funext (h _))
theorem verifyLoad_ok (b p : Nat) (err : Bool) (s : State) (h1 : verifyKeys s b p err = none) (h2 : verifyPart s (place b p s) b p = none)
    (h3 : checksFormat s b p = none) (h4 : checksLoad (place b p s) ((secsOf s b p 3).map fun x => (x.dest, x.len)) = none) :
    (verifyLoad b p err s).1 = (0, 0, 0) := by
  simp only [verifyLoad, h1, h2, h3, h4]
theorem tryCopies_first (b p : Nat) (l : List (Nat × Nat)) (errs : List Nat) (s : State) (h : (verifyLoad b p (errs.contains (b + 2 * p)) s).1 = (0, 0, 0)) :
    (tryCopies errs ((b, p) :: l) s).2 = some (b, p) := by
  unfold tryCopies
  generalize verifyLoad b p (errs.contains (b + 2 * p)) s = x at h ⊢
  obtain ⟨q, u⟩ := x
  subst h; rfl
theorem loadTried_first (b p : Nat) (l : List (Nat × Nat)) (r : LoadResult) (s : State) (o : copyOrder s r.p1 = (b, p) :: l) (e : r.readErr.contains (b + 2 * p) = false)
    (h : (verifyLoad b p false (loadShown r s)).1 = (0, 0, 0)) : (loadTried r s).2 = some (b, p) := by
  unfold loadTried
  rw [o]
  exact tryCopies_first b p l _ _ (e ▸ h)
theorem image_body : imgBytes loadable 0 0 0 (imgLen loadable 0 0) = img.take 256 := by decide +kernel
theorem image_secs : secsOf loadable 0 0 1 = [⟨1, 0, 0x90, 64, 0⟩] := by decide +kernel
theorem image_key : secBytes loadable 0 0 ⟨1, 0, 0x90, 64, 0⟩ = (img.drop 144).take 64 := by decide +kernel
theorem image_tail : imgBytes loadable 0 0 (imgLen loadable 0 0) 64 = img.drop 256 := by decide +kernel
theorem image_crc : sane loadable 0 0 = true ∧ crc32 ((img.take 256).drop 0x18) = imgNum loadable 0 0 0x14 4 := by decide +kernel
theorem image_digest : sha256 (img.take 256) = 0x6e6d9d8461a9f768b81148c9d83cab2c3e0d65824b72486ec0311acb44a863d9 := by decide +kernel
theorem image_keyHash : sha256 ((img.drop 144).take 64) = imgKey := by decide +kernel
theorem image_signed : ecdsaOk ((img.drop 144).take 64) 0x6e6d9d8461a9f768b81148c9d83cab2c3e0d65824b72486ec0311acb44a863d9 (img.drop 256) = true := by
  decide +kernel
theorem image_keys : verifyKeys loadable 0 0 false = none :=
  verifyKeys_ok image_crc.1 image_secs image_key image_body image_crc.2 image_keyHash image_digest (image_tail ▸ image_signed)
theorem image_part : verifyPart (loadShown passing loadable) (placeWith (fun _ => 0) 0 0 (loadShown passing loadable)) 0 0 = none := by decide +kernel
theorem image_format : checksFormat (loadShown passing loadable) 0 0 = none := by decide +kernel
theorem image_load : checksLoad (placeWith (fun _ => 0) 0 0 (loadShown passing loadable))
    ((secsOf (loadShown passing loadable) 0 0 3).map fun x => (x.dest, x.len)) = none := by decide +kernel
theorem image_order : copyOrder loadable passing.p1 = [(0, 0), (1, 0)] := by decide +kernel
theorem header_flash : (nvmWritten headerOp headerless).cfg.flash = loadable.cfg.flash := by decide +kernel
theorem header_part : verifyPart (nvmWritten headerOp headerless) (placeWith (fun _ => 0) 0 0 (nvmWritten headerOp headerless)) 0 0 = none := by
  decide +kernel

/-- A copy passes, where the sag policies of its safety section, whose layout the spec does not give (assumption 11), are 0. -/
theorem witness_load_passes (h : ∀ l a, Config.sagPol l a = 0) :
    loadable.dev.st = .load ∧ passing.romErr = none ∧ (loadTried passing loadable).2 = some (0, 0) := by
  refine ⟨rfl, rfl, loadTried_first 0 0 [(1, 0)] passing loadable image_order rfl (verifyLoad_ok 0 0 false _ ?_ ?_ image_format ?_)⟩
  · rw [verifyKeys_congr 0 0 false (loadShown passing loadable) loadable rfl rfl]
    exact image_keys
  · rw [place_policies h]
    exact image_part
  · rw [place_policies h]
    exact image_load
/-- A header write verifies, under the same premise. -/
theorem witness_header_verifies (h : ∀ l a, Config.sagPol l a = 0) :
    headerless.cfg.op = some headerOp ∧ headerOp.mop = 3 ∧ nvmVerified headerOp.bank (nvmWritten headerOp headerless) = true := by
  refine ⟨rfl, rfl, ?_⟩
  have hp : nvmPorts (nvmWritten headerOp headerless) = [0] := by decide +kernel
  unfold nvmVerified
  rw [hp]
  simp only [List.all_cons, List.all_nil, Bool.and_true, Bool.and_eq_true, Option.isNone_iff_eq_none]
  refine ⟨?_, ?_⟩
  · rw [show headerOp.bank = 0 from rfl, verifyKeys_congr 0 0 false _ loadable header_flash rfl]
    exact image_keys
  · rw [show headerOp.bank = 0 from rfl, place_policies h]
    exact header_part

end Sys2Proof.Tests
end

section
/-! ## Every command answers a next state, but a RESET_N pulse outside the ratings (R16, R387). -/
namespace Sys2Proof.Machine
open Sys2Proof

/-- The command goes on: the outcome is a next state. -/
def Answers (o : Host.Outcome State Fault Refusal) : Prop := ∃ t, o = .next t

/-- A command whose two branches go on goes on. -/
theorem answers_ite {p : Prop} {_ : Decidable p} {a b : Host.Outcome State Fault Refusal} (ha : Answers a) (hb : Answers b) :
    Answers (if p then a else b) := by
  split
  · exact ha
  · exact hb

/-- A request of the host goes on, whether its answer is repeated, it is refused or it is served. -/
theorem hostRequest_answers (typ : Nat) (r : Req) (body : List Byte) (serve : State → State) (s : State) :
    Answers (hostRequest typ r body serve s) := by
  unfold hostRequest
  rcases s.net.replies.find? fun (p : (Nat × Nat) × List Byte) => p.1 == (r.fresh.toNat, r.tag.toNat) with _ | p
  all_goals
    repeat' apply answers_ite
    all_goals exact ⟨_, rfl⟩

theorem modeRequest_answers (r : Req) (kind req : Byte) (axmask : Word) (s : State) : Answers (modeRequest r kind req axmask s) :=
  hostRequest_answers _ _ _ _ s
theorem maintenance_answers (r : Req) (body : List Byte) (serve : State → State) (s : State) : Answers (maintenance r body serve s) :=
  hostRequest_answers _ _ _ _ s
theorem nvmRequest_answers (r : Req) (body : List Byte) (serve : State → State) (s : State) : Answers (nvmRequest r body serve s) :=
  maintenance_answers _ _ _ s

/-- Every command but a RESET_N pulse goes on: done or unmet stands at every leaf of its conditions. -/
theorem exec_answers (c : Instr) (s : State) (hr : ∀ n, c ≠ .resetNAssert n) : Answers (exec c s) := by
  cases c
  case resetNAssert n => exact absurd rfl (hr n)
  -- requests of the host share one way in
  case serviceRequest r => exact modeRequest_answers r 1 0 0 s
  case axesModeRequest r m axmask => exact modeRequest_answers r m.kind m.req axmask s
  case sleepRequest r => exact modeRequest_answers r 2 0 0 s
  case hostRegisterRead r ofs x =>
    change Answers (execHostRegisterRead r ofs x s); unfold execHostRegisterRead
    exact hostRequest_answers _ _ _ _ s
  case hostRegisterWrite r l =>
    change Answers (execHostRegisterWrite r l s); unfold execHostRegisterWrite
    exact hostRequest_answers _ _ _ _ s
  case nvmErase r bank ofs len =>
    change Answers (execNvmErase r bank ofs len s); unfold execNvmErase
    exact nvmRequest_answers _ _ _ s
  case nvmProgram r bank ofs n data =>
    change Answers (execNvmProgram r bank ofs n data s); unfold execNvmProgram
    exact nvmRequest_answers _ _ _ s
  case nvmHeaderWrite r bank data =>
    change Answers (execNvmHeaderWrite r bank data s); unfold execNvmHeaderWrite
    exact nvmRequest_answers _ _ _ s
  case nvmRead r bank port ofs n =>
    change Answers (execNvmRead r bank port ofs n s); unfold execNvmRead
    exact nvmRequest_answers _ _ _ s
  case restart m =>
    change Answers (execRestart m s); unfold execRestart
    exact maintenance_answers _ _ _ s
  case logRead r log first n =>
    change Answers (execLogRead r log first n s); unfold execLogRead
    exact maintenance_answers _ _ _ s
  -- commands whose meaning goes by the form of an operand or of something the state holds: that form first
  case' edgeProcessing n j both => rcases both with _ | ⟨b, e⟩
  case' linkLost h cause => cases cause
  case' hostFrameRejected p cause => cases cause
  case' hallChange n code ph =>
    change Answers (execHallChange n code ph s); unfold execHallChange
    rcases hallSector code with _ | h
  case' ssiWord n word age ph =>
    change Answers (execSsiWord n word age ph s); unfold execSsiWord
    rcases ssiVerdict s n word with _ | ⟨kind, data⟩
  case' observerUpdate n =>
    change Answers (execObserverUpdate n s); unfold execObserverUpdate
    extract_lets _ _ _ _ ms; rcases ms with _ | ⟨v, age⟩
  case' offsetTrimComplete a =>
    change Answers (execOffsetTrimComplete a s); unfold execOffsetTrimComplete
    rcases (s.ax a).trim with _ | tr
  case' freewheelEscalation n =>
    change Answers (execFreewheelEscalation n s); unfold execFreewheelEscalation
    rcases legAxis s n with _ | a
  case' safeFrameSingle c =>
    change Answers (execSafeFrameSingle c s); unfold execSafeFrameSingle
    rcases dueCopies s c with _ | ⟨w, l⟩
  case' sfWatchdog c =>
    change Answers (execSfWatchdog c s); unfold execSfWatchdog
    extract_lets _ s'; rcases hostConn s' c with _ | g
  case' linkTransmit h t =>
    change Answers (execLinkTransmit h t s); unfold execLinkTransmit
    extract_lets k; rcases nextPkt s k t.ph with _ | ⟨n, i, p⟩
  case' reservedSlot h slot t =>
    change Answers (execReservedSlot h slot t s); unfold execReservedSlot
    extract_lets k; rcases (slotsOf s k)[slot.val]? with _ | ⟨_, _, _, _, _ | n⟩
  case' reservedSlot.some.some => dsimp only; rcases headPkt s n with _ | ⟨i, p⟩
  case' ackTimeout h =>
    change Answers (execAckTimeout h s); unfold execAckTimeout
    extract_lets k; rcases oldestUnacked s k with _ | q
  case' cisOpenTimeout n =>
    change Answers (execCisOpenTimeout n s); unfold execCisOpenTimeout
    extract_lets k; rcases (s.cis k).opened with _ | c
  case' syncCopy1 h f =>
    change Answers (execSyncCopy1 h f s); unfold execSyncCopy1
    extract_lets k; rcases (s.hop k).copy0 with _ | c
  case' canSlotBegin c sl busy =>
    change Answers (execCanSlotBegin c sl busy s); unfold execCanSlotBegin
    rcases (s.can c).cycle with _ | y
  case' canSlotBegin.some => dsimp -zeta only; extract_lets s'; rcases canCell s' c y sl with _ | m
  case' canTransmissionEnd c res tdcv =>
    change Answers (execCanTransmissionEnd c res tdcv s); unfold execCanTransmissionEnd
    extract_lets x; rcases x.tx with _ | m; rotate_left; cases res
  case' linEntryStart l =>
    change Answers (execLinEntryStart l s); unfold execLinEntryStart
    rcases linDue s l with _ | e
  case' loadComplete r =>
    change Answers (execLoadComplete r s); unfold execLoadComplete
    rcases r.romErr with _ | o
    all_goals rcases loadTried r s with ⟨s', _ | ⟨b, p⟩⟩
  case' dspiTransaction t readback =>
    change Answers (execDspiTransaction t readback s); unfold execDspiTransaction
    extract_lets t' idx
    rcases Config.gdrvRead (tget (fun _ => []) s.cfg.gdrv t') idx with _ | ⟨want, mask⟩
  case' nvmOpComplete res =>
    change Answers (execNvmOpComplete res s); unfold execNvmOpComplete
    rcases s.cfg.op with _ | op; rotate_left; cases res
  case' stateRecordWritten mismatch =>
    change Answers (execStateRecordWritten mismatch s); unfold execStateRecordWritten
    rcases s.pwr.recs with _ | ⟨c, l⟩
    rotate_left
    rcases mismatch with _ | ⟨o, v⟩
  case' hostPortTransmit p k =>
    change Answers (execHostPortTransmit p k s); unfold execHostPortTransmit
    extract_lets n; rcases (s.cis n).pkts with _ | ⟨x, l⟩
  -- what is left is a tree of conditions, with done or unmet at each leaf
  all_goals
    repeat' apply answers_ite
    all_goals exact ⟨_, rfl⟩

/-! ### The reset pulse (R387) -/

/-- A pulse that the filter takes out, or that meets a device without supplies or already in reset. -/
theorem execResetNAssert_unseen {lowNs : Nat} {s : State} (h : s.dev.dead = true ∨ s.dev.resetLow = true ∨ lowNs < 1000) :
    exec (.resetNAssert lowNs) s = .next s := if_pos h

/-- A pulse outside the ratings. -/
theorem execResetNAssert_outside {lowNs : Nat} {s : State} (hd : s.dev.dead = false) (hr : s.dev.resetLow = false) (h1 : 1000 ≤ lowNs)
    (h2 : lowNs < 10000) : exec (.resetNAssert lowNs) s = .fault .outsideRatings :=
  (if_neg (by simp [hd, hr, h1])).trans (if_pos h2)

/-- What a pulse that resets the device leaves. -/
def resetState (s : State) : State :=
  modDbg (fun _ => {}) (modDev (fun d => { d with resetLow := true, vsafeLow := s.dev.vsafeLow }) (startOver 0 0 (cutShort s)))

/-- A pulse that resets. -/
theorem execResetNAssert_resets {lowNs : Nat} {s : State} (hd : s.dev.dead = false) (hr : s.dev.resetLow = false) (h : 10000 ≤ lowNs) :
    exec (.resetNAssert lowNs) s = done (resetState s) :=
  (if_neg (by simp [hd, hr]; omega)).trans (if_neg (by omega))

/-- Settles O5: a RESET_N pulse by its length and by whether the device sees it, every other command by `exec_answers`. -/
theorem onlyAPulseOutsideRatingsStops : Obligations.OnlyAPulseOutsideRatingsStops := by
  intro c s
  by_cases h : OutsideRatings c ∧ s.dev.dead = false ∧ s.dev.resetLow = false
  · obtain ⟨hc, hd, hr⟩ := h
    cases c
    case resetNAssert lowNs => exact .inl ⟨execResetNAssert_outside hd hr hc.1 hc.2, hc, hd, hr⟩
    all_goals exact hc.elim
  · refine .inr ⟨?_, h⟩
    by_cases hc : ∃ lowNs, c = .resetNAssert lowNs
    · obtain ⟨lowNs, rfl⟩ := hc
      by_cases hu : s.dev.dead = true ∨ s.dev.resetLow = true ∨ lowNs < 1000
      · exact ⟨s, execResetNAssert_unseen hu⟩
      · simp only [not_or, Bool.not_eq_true, not_lt] at hu
        obtain ⟨hd, hr, h1⟩ := hu
        have h2 : 10000 ≤ lowNs := by
          by_contra h2
          exact h ⟨⟨h1, by omega⟩, hd, hr⟩
        exact ⟨_, execResetNAssert_resets hd hr h2⟩
    · exact exec_answers c s fun n e => hc ⟨n, e⟩

end Sys2Proof.Machine
end

section
/-! ## What a RESET_N pulse that resets the device keeps, and what it puts to its Reset value (R387). -/
namespace Sys2Proof.Machine
open Sys2Proof

/-- A table cut down to the keys that a test keeps reads at those as before, and at the others as the table does where it holds nothing. -/
theorem tget_filter {α : Type} (d : Nat → α) (f : Nat → Bool) (k : Nat) : ∀ t : Tbl α,
    tget d (t.filter fun q => f q.1) k = if f k = true then tget d t k else d k
  | [] => by simp [tget]
  | (j, v) :: t => by
    have ih := tget_filter d f k t
    by_cases hj : j = k
    · subst hj
      by_cases hf : f j = true
      · simp [hf, tget]
      · simpa [hf] using ih
    · by_cases hf : f j = true
      · simp [hf, tget, hj, ih]
      · simpa [hf, tget, hj] using ih

/-! ### What breaking off a write to the MRAM leaves alone -/

@[simp] theorem rtcAdvance_pending (s : State) : (rtcAdvance s).pending = s.pending := by unfold rtcAdvance draw; dsimp only; (repeat' split) <;> rfl
@[simp] theorem rtcAdvance_cfg (s : State) : (rtcAdvance s).cfg = s.cfg := by unfold rtcAdvance draw; dsimp only; (repeat' split) <;> rfl
/-- The RTC running on writes no register but PWR_STAT, whose RTCVALID a new setting sets. -/
theorem rtcAdvance_reg (s : State) {p : Nat} (h : p ≠ A.PWR_STAT) : (rtcAdvance s).reg p = s.reg p := by
  have hw : (wr F.PWR_STAT_RTCVALID 1 (s.setFree (s.free + 1))).reg p = s.reg p := reg_wr_other _ _ _ p h
  unfold rtcAdvance draw
  dsimp only
  split
  · rfl
  · split
    · split
      · rfl
      · exact hw
    · rfl

theorem recBreak_pending (s : State) : (recBreak s).pending = s.pending := by
  unfold recBreak
  split
  · rfl
  · simp [wrBytes, draw]
theorem recBreak_cfg (s : State) : (recBreak s).cfg = s.cfg := by
  unfold recBreak
  split
  · rfl
  · simp [wrBytes, draw]
theorem recBreak_reg (s : State) {p : Nat} (h : p ≠ A.PWR_STAT) : (recBreak s).reg p = s.reg p := by
  unfold recBreak
  split
  · rfl
  · simpa [State.reg, wrBytes, draw] using rtcAdvance_reg s h

theorem mramTorn_rtc (s : State) : (mramTorn s).pwr.rtcSec = s.pwr.rtcSec ∧ (mramTorn s).pwr.rtcSub = s.pwr.rtcSub := by
  unfold mramTorn draw; dsimp only; (repeat' split) <;> exact ⟨rfl, rfl⟩

theorem cutShort_pending (s : State) : (cutShort s).pending = s.pending := (mramTorn_pending _).trans (recBreak_pending s)
theorem cutShort_cfg (s : State) : (cutShort s).cfg = s.cfg := (mramTorn_cfg _).trans (recBreak_cfg s)
theorem cutShort_reg (s : State) {p : Nat} (h : p ≠ A.PWR_STAT) : (cutShort s).reg p = s.reg p :=
  (congrArg (fun r => tget regReset r p) (mramTorn_regs _)).trans (recBreak_reg s h)
/-- With no record being written, what is cut short reads no clock. -/
theorem cutShort_rtc (s : State) (h : s.pwr.recs = []) : (cutShort s).pwr.rtcSec = s.pwr.rtcSec ∧ (cutShort s).pwr.rtcSub = s.pwr.rtcSub := by
  unfold cutShort
  rw [recBreak_none s h]
  exact mramTorn_rtc s

/-! ### What a start over keeps (R34, R387) -/

/-- An operation of the flash abandoned keeps what no write of the flash, no value drawn and no end of the operation changes. -/
theorem nvmAbandon_keep {γ : Type} (g : State → γ) (hf : ∀ a bs n t, g (wrFlash a bs (State.setFree n t)) = g t)
    (hc : ∀ x t, g (State.setCfg x t) = g t) (s : State) : g (nvmAbandon s) = g s := by
  unfold nvmAbandon
  split
  · rfl
  · exact (hc _ _).trans (each_keep g _ (fun _ _ => hf _ _ _ _) _ _)
theorem nvmAbandon_pending (s : State) : (nvmAbandon s).pending = s.pending := nvmAbandon_keep State.pending (fun _ _ _ _ => rfl) (fun _ _ => rfl) s
theorem nvmAbandon_regs (s : State) : (nvmAbandon s).regs = s.regs := nvmAbandon_keep State.regs (fun _ _ _ _ => rfl) (fun _ _ => rfl) s
theorem nvmAbandon_pwr (s : State) : (nvmAbandon s).pwr = s.pwr := nvmAbandon_keep State.pwr (fun _ _ _ _ => rfl) (fun _ _ => rfl) s
theorem nvmAbandon_none (s : State) (h : s.cfg.op = none) : nvmAbandon s = s := by unfold nvmAbandon; rw [h]

theorem startOver_pending (c w : Nat) (s : State) : (startOver c w s).pending = s.pending := nvmAbandon_pending s
theorem startOver_rtcSec (c w : Nat) (s : State) : (startOver c w s).pwr.rtcSec = s.pwr.rtcSec :=
  (congrArg Pwr.rtcSec (nvmAbandon_pwr s) : (nvmAbandon s).pwr.rtcSec = _)
theorem startOver_rtcSub (c w : Nat) (s : State) : (startOver c w s).pwr.rtcSub = s.pwr.rtcSub :=
  (congrArg Pwr.rtcSub (nvmAbandon_pwr s) : (nvmAbandon s).pwr.rtcSub = _)
/-- With no operation running, the flash is kept. -/
theorem startOver_flash (c w : Nat) (s : State) (h : s.cfg.op = none) : (startOver c w s).cfg.flash = s.cfg.flash :=
  (congrArg (fun u : State => u.cfg.flash) (nvmAbandon_none s h) : (nvmAbandon s).cfg.flash = _)
/-- The retained words are kept and every other register, but for PWR_STAT, is at its Reset value. -/
theorem startOver_reg (c w : Nat) (s : State) {p : Nat} (h : p ≠ A.PWR_STAT) :
    (startOver c w s).reg p = if retained p = true then s.reg p else regReset p := by
  unfold startOver wrB
  rw [reg_wr_other _ _ _ p h, reg_wr_other _ _ _ p h]
  simp only [State.reg, nvmAbandon_regs]
  exact tget_filter regReset retained p s.regs

/-! ### The device held in reset -/

theorem resetState_reg (s : State) {p : Nat} (h : p ≠ A.PWR_STAT) : (resetState s).reg p = if retained p = true then s.reg p else regReset p := by
  rw [← cutShort_reg s h]
  exact startOver_reg 0 0 (cutShort s) h
/-- A field of a register that is not retained is at its Reset value. -/
theorem resetState_rd (s : State) {f : Fld} (h : f.off ≠ A.PWR_STAT) (hr : retained f.off = false) :
    rd (resetState s) f = getFld (regReset f.off) f.lo f.w := by
  simp [rd, resetState_reg s h, hr]
theorem resetState_rtc (s : State) (h : s.pwr.recs = []) : (resetState s).pwr.rtcSec = s.pwr.rtcSec ∧ (resetState s).pwr.rtcSub = s.pwr.rtcSub :=
  (cutShort_rtc s h).imp (startOver_rtcSec 0 0 _).trans (startOver_rtcSub 0 0 _).trans
theorem resetState_flash (s : State) (h : s.cfg.op = none) : (resetState s).cfg.flash = s.cfg.flash :=
  (startOver_flash 0 0 _ ((congrArg Cfg.op (cutShort_cfg s)).trans h)).trans (congrArg Cfg.flash (cutShort_cfg s))

theorem resetState_enables (s : State) : EnablesDown (resetState s) :=
  ⟨resetState_rd s (f := F.SAF_TEAMEN_EN) (by decide) (by decide), resetState_rd s (f := F.SAF_TEAMEN_RB) (by decide) (by decide)⟩
/-- The status of a safe brake output is a register of its own that no reset keeps, and its Reset value is 0. -/
theorem sbStat_resets {n : Nat} (hn : n < 8) :
    A.SAF_SB_STAT n ≠ A.PWR_STAT ∧ retained (A.SAF_SB_STAT n) = false ∧ regReset (A.SAF_SB_STAT n) = 0 := by
  revert n; decide
theorem resetState_brakes (s : State) : BrakesOff (resetState s) := by
  intro n hn
  obtain ⟨ho, hr, h0⟩ := sbStat_resets hn
  have field_zero : ∀ f : Fld, f.off = A.SAF_SB_STAT n → getFld 0 f.lo f.w = 0 → rd (resetState s) f = 0 := by
    intro f hf hz
    rw [resetState_rd s (hf ▸ ho) (hf ▸ hr), hf, h0, hz]
  exact ⟨field_zero _ rfl rfl, field_zero _ rfl rfl⟩

/-- With nothing to log, the log stays. -/
theorem flushLog_none (s : State) (h : s.flt.batch = []) : flushLog s = s := by unfold flushLog; rw [h]

/-- Settles O53: a device held in reset has started over, which keeps the retained words, and a flash and an RTC in which nothing is
being written. -/
theorem resetPulsesAreFiltered : Obligations.ResetPulsesAreFiltered := by
  intro lowNs s
  refine ⟨fun h => execResetNAssert_unseen (.inr (.inr h)), fun h => execResetNAssert_unseen (h.imp_right .inl),
    fun h1 h2 hd hr => execResetNAssert_outside hd hr h1 h2, fun h hd hr _ => ⟨resetState s, ?_, rfl, rfl, rfl, resetState_enables s,
      resetState_brakes s, resetState_flash s, resetState_rtc s, (startOver_pending 0 0 _).trans (cutShort_pending s), fun p hp => ?_⟩⟩
  · rw [execResetNAssert_resets hd hr h, done_eq, flushLog_none (resetState s) rfl]
  · have hne : p ≠ A.PWR_STAT := by rintro rfl; exact absurd hp (by decide)
    rw [resetState_reg s hne, if_pos hp]

end Sys2Proof.Machine
end

section
/-! ## The register map: the row at an offset, and a word written by the access classes of its fields (R13, R392) -/
namespace Sys2Proof.Machine
open Sys2Proof

/-! ### The register map: the register at an offset -/

/-- The register found at an offset is a row of the map, and the offset lies in it. -/
theorem findRow_sound {o : Nat} {r : RegRow} {is : List Nat} : ∀ {l : List RegRow}, findRow o l = some (r, is) →
    r ∈ l ∧ inDims o r.base r.dims = some is
  | [], h => nomatch h
  | q :: l, h => by
    unfold findRow at h
    split at h
    next js hq =>
      obtain ⟨rfl, rfl⟩ := Prod.mk.inj (Option.some.inj h)
      exact ⟨List.mem_cons_self, hq⟩
    next => exact (findRow_sound h).imp_left (List.mem_cons_of_mem _)

theorem findReg_mem {o : Nat} {r : RegRow} {is : List Nat} (h : findReg o = some (r, is)) : r ∈ regRows := (findRow_sound h).1
theorem findReg_inDims {o : Nat} {r : RegRow} {is : List Nat} (h : findReg o = some (r, is)) : inDims o r.base r.dims = some is := (findRow_sound h).2

/-- The distance from the first to the last offset of a row of the given dimensions. -/
def dimSpan : List (Nat × Nat) → Nat
  | [] => 0
  | (s, c) :: ds => s * (c - 1) + dimSpan ds

theorem inDims_nil {o b : Nat} {is : List Nat} (h : inDims o b [] = some is) : o = b := by
  by_contra hne
  simp [inDims, hne] at h
theorem inDims_cons {o b s c : Nat} {ds : List (Nat × Nat)} {is : List Nat} (h : inDims o b ((s, c) :: ds) = some is) :
    b ≤ o ∧ (o - b) / s < c ∧ ∃ js, inDims o (b + s * ((o - b) / s)) ds = some js := by
  unfold inDims at h
  split at h
  · exact nomatch h
  next hb =>
    dsimp only at h
    split at h
    next hi =>
      obtain ⟨js, hj, -⟩ := Option.map_eq_some_iff.mp h
      exact ⟨Nat.le_of_not_lt hb, hi, js, hj⟩
    next => exact nomatch h

theorem inDims_bounds {o : Nat} : ∀ {ds : List (Nat × Nat)} {b : Nat} {is : List Nat}, inDims o b ds = some is → b ≤ o ∧ o ≤ b + dimSpan ds
  | [], b, is, h => by simp [inDims_nil h, dimSpan]
  | (s, c) :: ds, b, is, h => by
    obtain ⟨hb, hi, js, hj⟩ := inDims_cons h
    obtain ⟨-, hlast⟩ := inDims_bounds hj
    have hstep : s * ((o - b) / s) ≤ s * (c - 1) := Nat.mul_le_mul_left s (by omega)
    simp only [dimSpan]
    omega

/-- The offsets of a row agree with its base modulo whatever divides its strides. -/
theorem inDims_mod {o m : Nat} : ∀ {ds : List (Nat × Nat)} {b : Nat} {is : List Nat}, inDims o b ds = some is →
    (∀ d ∈ ds, d.1 % m = 0) → o % m = b % m
  | [], b, is, h, _ => by rw [inDims_nil h]
  | (s, c) :: ds, b, is, h, hm => by
    obtain ⟨-, -, js, hj⟩ := inDims_cons h
    rw [inDims_mod hj fun d hd => hm d (List.mem_cons_of_mem _ hd)]
    obtain ⟨k, hk⟩ := Dvd.dvd.mul_right (Nat.dvd_of_mod_eq_zero (hm (s, c) List.mem_cons_self)) ((o - b) / s)
    rw [hk, Nat.add_mul_mod_self_left]

/-- No register lies among the words of the capability list. -/
theorem findReg_beside_capabilities {o : Nat} {x : RegRow × List Nat} (h : findReg o = some x) : ¬ (0x100 ≤ o ∧ o < 0x1000) := by
  have rows : ∀ r ∈ regRows, r.base + dimSpan r.dims < 0x100 ∨ 0x1000 ≤ r.base := by decide +kernel
  have hb := inDims_bounds (findReg_inDims h)
  have hr := rows _ (findReg_mem h)
  omega

/-! ### The fields of a row -/

/-- Two fields of a word share no bit. -/
def FieldsApart (f g : Nat × Nat × Acc) : Prop := f.1 + f.2.1 ≤ g.1 ∨ g.1 + g.2.1 ≤ f.1
/-- A field lies in a word. -/
def FieldFits (f : Nat × Nat × Acc) : Prop := f.1 + f.2.1 ≤ 32

theorem rows_fields : ∀ r ∈ regRows, r.flds.Pairwise FieldsApart ∧ ∀ f ∈ r.flds, FieldFits f := by
  unfold FieldsApart FieldFits
  decide +kernel

/-- What a write of `v` leaves in a field, by its access class (R13). -/
def fieldLeft (take : Bool) (v : Word) (f : Nat × Nat × Acc) (w : Word) : Nat :=
  match f.2.2 with
  | .rw => if take then getFld v f.1 f.2.1 else getFld w f.1 f.2.1
  | .w1c => getFld w f.1 f.2.1 &&& (2 ^ f.2.1 - 1 - getFld v f.1 f.2.1)
  | _ => getFld w f.1 f.2.1
/-- The word after one of its fields is written, by its access class. -/
def fieldPut (take : Bool) (v : Word) (f : Nat × Nat × Acc) (w : Word) : Word :=
  match f.2.2 with
  | .rw => if take then putFld w f.1 f.2.1 (getFld v f.1 f.2.1) else w
  | .w1c => putFld w f.1 f.2.1 (getFld w f.1 f.2.1 &&& (2 ^ f.2.1 - 1 - getFld v f.1 f.2.1))
  | _ => w
theorem fieldLeft_readOnly (take : Bool) (v : Word) (f : Nat × Nat × Acc) (w : Word) (h : f.2.2 = .ro ∨ f.2.2 = .img ∨ f.2.2 = .rc) :
    fieldLeft take v f w = getFld w f.1 f.2.1 := by
  rcases h with h | h | h <;> simp only [fieldLeft, h]
theorem fieldLeft_taken (v : Word) (f : Nat × Nat × Acc) (w : Word) (h : f.2.2 = .rw) : fieldLeft true v f w = getFld v f.1 f.2.1 := by
  simp only [fieldLeft, h, if_true]
theorem fieldLeft_cleared (take : Bool) (v : Word) (f : Nat × Nat × Acc) (w : Word) (h : f.2.2 = .w1c) :
    fieldLeft take v f w = getFld w f.1 f.2.1 &&& (2 ^ f.2.1 - 1 - getFld v f.1 f.2.1) := by
  simp only [fieldLeft, h]
/-- A write that is refused changes no field that a 1 does not clear. -/
theorem fieldLeft_refused (v : Word) (f : Nat × Nat × Acc) (w : Word) (h : f.2.2 ≠ .w1c) : fieldLeft false v f w = getFld w f.1 f.2.1 := by
  obtain ⟨lo, n, acc⟩ := f
  cases acc with
  | w1c => exact absurd rfl h
  | _ => rfl
/-- A word is written field after field. -/
theorem plainWord_cons (take : Bool) (v : Word) (f : Nat × Nat × Acc) (fs : List (Nat × Nat × Acc)) (w : Word) :
    plainWord take v (f :: fs) w = plainWord take v fs (fieldPut take v f w) := rfl

theorem getFld_fieldPut_same (take : Bool) (v : Word) (f : Nat × Nat × Acc) (w : Word) (h : FieldFits f) :
    getFld (fieldPut take v f w) f.1 f.2.1 = fieldLeft take v f w := by
  obtain ⟨lo, n, acc⟩ := f
  cases acc with
  | rw =>
    cases take with
    | false => rfl
    | true => exact (getFld_putFld_same _ _ _ _ h).trans (Nat.mod_eq_of_lt (getFld_lt _ _ _))
  | w1c => exact (getFld_putFld_same _ _ _ _ h).trans (Nat.mod_eq_of_lt (Nat.lt_of_le_of_lt Nat.and_le_left (getFld_lt _ _ _)))
  | _ => rfl

theorem getFld_fieldPut_apart (take : Bool) (v : Word) (f g : Nat × Nat × Acc) (w : Word) (hf : FieldFits f) (hg : FieldFits g)
    (h : FieldsApart f g) :
    getFld (fieldPut take v f w) g.1 g.2.1 = getFld w g.1 g.2.1 := by
  obtain ⟨lo, n, acc⟩ := f
  cases acc with
  | rw =>
    cases take with
    | false => rfl
    | true => exact getFld_putFld_other _ _ _ _ _ _ hf hg h
  | w1c => exact getFld_putFld_other _ _ _ _ _ _ hf hg h
  | _ => rfl

/-- A field that shares no bit with the fields written keeps its number. -/
theorem getFld_plainWord_apart (take : Bool) (v : Word) (g : Nat × Nat × Acc) (hg : FieldFits g) : ∀ (fs : List (Nat × Nat × Acc)) (w : Word),
    (∀ f ∈ fs, FieldFits f) → (∀ f ∈ fs, FieldsApart g f) → getFld (plainWord take v fs w) g.1 g.2.1 = getFld w g.1 g.2.1
  | [], _, _, _ => rfl
  | f :: fs, w, hf, ha => by
    rw [plainWord_cons, getFld_plainWord_apart take v g hg fs _ (fun x hx => hf x (List.mem_cons_of_mem _ hx)) fun x hx =>
      ha x (List.mem_cons_of_mem _ hx)]
    exact getFld_fieldPut_apart take v f g w (hf f List.mem_cons_self) hg (ha f List.mem_cons_self).symm

/-- Each field of a row is written by its own access class. -/
theorem getFld_plainWord (take : Bool) (v : Word) (g : Nat × Nat × Acc) : ∀ (fs : List (Nat × Nat × Acc)) (w : Word),
    fs.Pairwise FieldsApart → (∀ f ∈ fs, FieldFits f) → g ∈ fs → getFld (plainWord take v fs w) g.1 g.2.1 = fieldLeft take v g w
  | f :: fs, w, hp, hf, hg => by
    obtain ⟨hhead, htail⟩ := List.pairwise_cons.mp hp
    have fits : ∀ x ∈ fs, FieldFits x := fun x hx => hf x (List.mem_cons_of_mem _ hx)
    rw [plainWord_cons]
    rcases List.mem_cons.mp hg with rfl | hg
    · rw [getFld_plainWord_apart take v g (hf g List.mem_cons_self) fs _ fits hhead]
      exact getFld_fieldPut_same take v g w (hf g List.mem_cons_self)
    · have same : getFld (fieldPut take v f w) g.1 g.2.1 = getFld w g.1 g.2.1 :=
        getFld_fieldPut_apart take v f g w (hf f List.mem_cons_self) (fits g hg) (hhead g hg)
      rw [getFld_plainWord take v g fs _ htail fits hg]
      unfold fieldLeft
      rw [same]

end Sys2Proof.Machine
end

section
/-! ## Register writes, access faults and reads of the fault log (R13, R31, R391, R394, R401, R402) -/
namespace Sys2Proof.Machine
open Sys2Proof

/-! ### What a write to a register does (R13, R394) -/

/-- The registers that act on a write and hold nothing: every field of theirs is WO. -/
def ActsOnly : RegId → Bool
  | .STR_COMMIT | .LE_DCL_DCMD | .GRP_G_CMD | .BST_PAIR_CMD | .PWR_SLEEPCMD | .PWR_RTCCMD => true
  | _ => false
theorem rows_actsOnly : ∀ r ∈ regRows, ActsOnly r.id = true → ∀ f ∈ r.flds, f.2.2 = .wo := by decide +kernel
/-- The CTRL of a mailbox lies 12 bytes behind a multiple of 32 and holds no bit that a write clears. -/
theorem rows_mbCtrl : ∀ r ∈ regRows, r.id = .CAN_MB_CTRL →
    r.base % 32 = 12 ∧ (∀ d ∈ r.dims, d.1 % 32 = 0) ∧ ∀ f ∈ r.flds, f.2.2 ≠ .w1c := by decide +kernel

/-- A register written field by field is none that is not. -/
theorem findReg_ne {o p : Nat} {r : RegRow} {is : List Nat} (h : findReg o = some (r, is)) (hb : WritesFieldByField r.id = true)
    (hp : (findReg p).all (fun x => !WritesFieldByField x.1.id) = true) : o ≠ p := by
  rintro rfl
  rw [h] at hp
  simp [hb] at hp
theorem findReg_ne_pwrStat {o : Nat} {r : RegRow} {is : List Nat} (h : findReg o = some (r, is)) (hb : WritesFieldByField r.id = true) :
    o ≠ A.PWR_STAT := findReg_ne h hb (by decide +kernel)
theorem findReg_ne_fltWidx {o : Nat} {r : RegRow} {is : List Nat} (h : findReg o = some (r, is)) (hb : WritesFieldByField r.id = true) :
    o ≠ A.FLT_WIDX := findReg_ne h hb (by decide +kernel)

/-- Looking at a register before it is written changes no register but PWR_STAT, where that register is written field by field. -/
theorem peekReg_reg {o p : Nat} {r : RegRow} {is : List Nat} {s : State} (h : findReg o = some (r, is)) (hb : WritesFieldByField r.id = true)
    (hp : p ≠ A.PWR_STAT) : (peekReg s o).2.reg p = s.reg p := by
  unfold peekReg
  rw [if_neg (findReg_beside_capabilities h), h]
  dsimp only
  split
  case h_7 e | h_8 e | h_24 e => rw [e] at hb; exact absurd hb (by decide)
  case h_25 => exact rtcAdvance_reg s hp
  all_goals rfl

theorem canStart_regs (c : Nat) (s : State) : (canStart c s).regs = s.regs := by
  unfold canStart
  dsimp only
  split
  · rfl
  · split
    · rfl
    · split <;> rfl

/-- A commit of a mailbox changes registers only in the status of that mailbox. -/
theorem mbCommitNow_reg (c m : Nat) (s : State) {p : Nat} (h : p ≠ A.CAN_MB_STAT c m) : (mbCommitNow c m s).reg p = s.reg p := by
  have commit : ∀ d bs, (mbCommit c m d bs s).reg p = s.reg p := by
    intro d bs
    unfold mbCommit
    dsimp only
    split
    · exact (reg_wr_other _ _ _ p h).trans (reg_wr_other _ _ _ p h)
    · exact reg_wr_other _ _ _ p h
  unfold mbCommitNow
  dsimp only
  split
  · rfl
  · split
    · rfl
    · exact (congrArg (fun x => tget regReset x p) (canStart_regs c _)).trans (commit _ _)
theorem mbCancelNow_reg (c m : Nat) (s : State) {p : Nat} (h : p ≠ A.CAN_MB_STAT c m) : (mbCancelNow c m s).reg p = s.reg p := by
  unfold mbCancelNow
  split
  · rfl
  · split
    · rfl
    · exact reg_wr_other _ _ _ p h

/-- A register written field by field holds the word that its fields leave, whatever its write does beside that. -/
theorem wrEffect_reg {id : RegId} {o : Nat} (i j : Nat) (w v : Word) (s : State) (hb : WritesFieldByField id = true) (ha : ActsOnly id = false)
    (hm : id = .CAN_MB_CTRL → o % 32 = 12) : (wrEffect id o i j w v s).reg o = w := by
  have both : (WritesFieldByField id && !ActsOnly id) = true := by rw [hb, ha]; rfl
  have set : (s.setReg o w).reg o = w := by simp [reg_setReg]
  unfold wrEffect
  split
  case h_14 => -- CAN_MB_CTRL: COMMIT and CANCEL act on the status of the mailbox
    have hs : o ≠ A.CAN_MB_STAT i j := by
      have := hm rfl
      unfold A.CAN_MB_STAT
      omega
    dsimp only
    have commit : (if bit v.toNat 4 = true then mbCommitNow i j (s.setReg o w) else s.setReg o w).reg o = w := by
      split
      · rw [mbCommitNow_reg i j _ hs, set]
      · exact set
    split
    · rw [mbCancelNow_reg i j _ hs, commit]
    · exact commit
  case h_19 => exact set
  all_goals exact absurd both (by decide)

/-- Of the registers written field by field, only a mailbox's CTRL can be refused as a whole. -/
theorem wrActs_false {id : RegId} {take : Bool} (h : wrActs id take = false) (hb : WritesFieldByField id = true) (ha : ActsOnly id = false) :
    id = .CAN_MB_CTRL ∧ take = false := by
  have both : (WritesFieldByField id && !ActsOnly id) = true := by rw [hb, ha]; rfl
  unfold wrActs at h
  split at h
  case h_5 => exact ⟨rfl, h⟩
  case h_6 => exact nomatch h
  all_goals exact absurd both (by decide)

/-- The RW fields of a row are accepted from the requestor, at the row's indices. -/
def rowTaken (who : Requestor) (s : State) (r : RegRow) (is : List Nat) : Bool := wrTaken who s r.id (is.headD 0) ((is.drop 1).headD 0)

/-- The state that a write of a register with indices leaves, once it has been looked at. -/
theorem writeReg_found {who : Requestor} {o : Nat} {v : Word} {s : State} {r : RegRow} {is : List Nat} (h : findReg o = some (r, is))
    (hc : r.id ≠ .STR_COMMIT) : (writeReg who o v s).1 =
      if wrActs r.id (rowTaken who s r is) then
        wrEffect r.id o (is.headD 0) ((is.drop 1).headD 0)
          (plainWord (rowTaken who s r is) v r.flds ((peekReg s o).2.reg o)) v (peekReg s o).2
      else (peekReg s o).2 := by
  unfold writeReg
  rw [if_neg (findReg_beside_capabilities h), h]
  dsimp only
  rw [if_neg hc]
  rfl

/-- A write to a register written field by field leaves in each field that can be read what its access class says. -/
theorem writeReg_field {who : Requestor} {o : Nat} {v : Word} {s : State} {r : RegRow} {is : List Nat} {f : Nat × Nat × Acc}
    (h : findReg o = some (r, is)) (hb : WritesFieldByField r.id = true) (hf : f ∈ r.flds) (hw : f.2.2 ≠ .wo) :
    getFld ((writeReg who o v s).1.reg o) f.1 f.2.1 = fieldLeft (rowTaken who s r is) v f (s.reg o) := by
  have hr := findReg_mem h
  obtain ⟨apart, fits⟩ := rows_fields r hr
  have ha : ActsOnly r.id = false := by
    by_contra ha
    exact hw (rows_actsOnly r hr (Bool.eq_true_of_not_eq_false ha) f hf)
  have hc : r.id ≠ .STR_COMMIT := by
    intro hc
    rw [hc] at ha
    exact absurd ha (by decide)
  have held := peekReg_reg h hb (findReg_ne_pwrStat h hb) (s := s)
  rw [writeReg_found h hc]
  generalize htake : rowTaken who s r is = take
  split
  · rw [wrEffect_reg _ _ _ v _ hb ha, held, getFld_plainWord take v f r.flds _ apart fits hf]
    intro hm
    obtain ⟨hbase, hstride, -⟩ := rows_mbCtrl r hr hm
    rw [inDims_mod (findReg_inDims h) hstride, hbase]
  next hacts =>
    obtain ⟨hm, rfl⟩ := wrActs_false (Bool.eq_false_of_not_eq_true hacts) hb ha
    obtain ⟨-, -, hclear⟩ := rows_mbCtrl r hr hm
    rw [held, fieldLeft_refused v f _ (hclear f hf)]

/-- An offset that no register has takes nothing (assumption 57). -/
theorem writeReg_none {who : Requestor} {o : Nat} {v : Word} {s : State} (h : findReg o = none) : (writeReg who o v s).1 = s := by
  unfold writeReg
  split
  · rfl
  · rw [h]

/-! ### REGISTER_WRITE -/

theorem registerWrite_completes {who : Requestor} {off : BitVec 24} {v : Word} {s : State} {P : State → Prop} (h : mayIssue s who = true)
    (hp : P (flushLog (writeReg who off.toNat v s).1)) : Completes (.registerWrite who off v) s P :=
  ⟨_, (if_pos h : exec (.registerWrite who off v) s = done _), hp⟩
theorem registerWrite_unmet {who : Requestor} {off : BitVec 24} {v : Word} {s : State} {P : State → Prop} (h : mayIssue s who = false)
    (hp : P s) : Completes (.registerWrite who off v) s P :=
  ⟨s, (if_neg (by simp [h]) : exec (.registerWrite who off v) s = unmet s), hp⟩

/-- The word that REGISTER_WRITE leaves in a register written field by field, field by field. -/
theorem registerWrite_field {who : Requestor} {off : BitVec 24} {v : Word} {s : State} {r : RegRow} {is : List Nat} {f : Nat × Nat × Acc}
    (hi : mayIssue s who = true) (h : findReg off.toNat = some (r, is)) (hb : WritesFieldByField r.id = true) (hf : f ∈ r.flds)
    (hw : f.2.2 ≠ .wo) : Completes (.registerWrite who off v) s fun t =>
      getFld (t.reg off.toNat) f.1 f.2.1 = fieldLeft (rowTaken who s r is) v f (s.reg off.toNat) := by
  refine registerWrite_completes hi ?_
  rw [flushLog_reg _ _ (findReg_ne_fltWidx h hb)]
  exact writeReg_field h hb hf hw

/-- A write to an offset without a register changes no register but the log's index. -/
theorem registerWrite_none {who : Requestor} {off : BitVec 24} {v : Word} {s : State} (h : findReg off.toNat = none) :
    Completes (.registerWrite who off v) s fun t => ∀ p, p ≠ A.FLT_WIDX → t.reg p = s.reg p := by
  cases hi : mayIssue s who with
  | false => exact registerWrite_unmet hi fun _ _ => rfl
  | true => exact registerWrite_completes hi fun p hp => by rw [flushLog_reg p _ hp, writeReg_none h]

/-! ### The set value of the RTC (R385) -/

theorem findReg_rtcSetLo : findReg A.PWR_RTCSET_LO = some (⟨.PWR_RTCSET_LO, 0x0D002C, [], [(0, 32, .rw)]⟩, []) := by decide +kernel
/-- A write of the lower set word stores it and does nothing else. -/
theorem writeReg_rtcSetLo (who : Requestor) (v : Word) (s : State) :
    (writeReg who A.PWR_RTCSET_LO v s).1 = s.setReg A.PWR_RTCSET_LO (putFld (s.reg A.PWR_RTCSET_LO) 0 32 (getFld v 0 32)) := by
  have peek : (peekReg s A.PWR_RTCSET_LO).2 = s := by
    unfold peekReg
    rw [if_neg (by decide), findReg_rtcSetLo]
  rw [writeReg_found findReg_rtcSetLo (by decide), peek]
  rfl
/-- A field of all 32 bits is the word. -/
theorem eq_of_getFld_word {a b : Word} (h : getFld a 0 32 = getFld b 0 32) : a = b := by
  simpa [getFld, ← BitVec.toNat_inj] using h
theorem putFld_word (w v : Word) : putFld w 0 32 (getFld v 0 32) = v :=
  eq_of_getFld_word ((getFld_putFld_same _ _ _ _ (by decide)).trans (Nat.mod_eq_of_lt (getFld_lt _ _ _)))

theorem registerWrite_rtcSetLo {who : Requestor} {v : Word} {s : State} (hi : mayIssue s who = true) :
    Completes (.registerWrite who (BitVec.ofNat 24 A.PWR_RTCSET_LO) v) s fun t =>
      t.reg A.PWR_RTCSET_LO = v ∧ ∀ p, p ≠ A.PWR_RTCSET_LO → p ≠ A.FLT_WIDX → t.reg p = s.reg p := by
  refine registerWrite_completes hi ?_
  rw [show (BitVec.ofNat 24 A.PWR_RTCSET_LO).toNat = A.PWR_RTCSET_LO by decide, writeReg_rtcSetLo, putFld_word]
  refine ⟨?_, fun p hp hx => ?_⟩
  · rw [flushLog_reg _ _ (by decide), reg_setReg, if_pos rfl]
  · rw [flushLog_reg _ _ hx, reg_setReg, if_neg hp]

/-! ### The words retained over SLEEP that a core writes in SERVICE (R31, R391) -/

/-- The wake timer and the words of application firmware. -/
def ServiceWord (id : RegId) : Prop := id = .PWR_WAKESEC ∨ id = .PWR_SCRATCH
theorem rowTaken_serviceWord {r : RegRow} (h : ServiceWord r.id) (who : Requestor) (s : State) (is : List Nat) :
    rowTaken who s r is = (who.isCore && s.dev.st == .service) := by
  unfold rowTaken
  rcases h with h | h <;> rw [h] <;> rfl
theorem serviceWord_fieldByField {id : RegId} (h : ServiceWord id) : WritesFieldByField id = true := by
  rcases h with rfl | rfl <;> rfl

/-- Such a word takes a core's write in SERVICE. -/
theorem registerWrite_serviceWord_takes {o lo n : Nat} {r : RegRow} {is : List Nat} (h : findReg o = some (r, is)) (hr : ServiceWord r.id)
    (hf : (lo, n, .rw) ∈ r.flds) (ho : o < 2 ^ 24) {who : Requestor} {v : Word} {s : State} (hc : fromCore s who = true)
    (hs : s.dev.st = .service) : Completes (.registerWrite who (BitVec.ofNat 24 o) v) s fun t => getFld (t.reg o) lo n = getFld v lo n := by
  obtain ⟨hcore, hi⟩ := Bool.and_eq_true_iff.mp hc
  have hoff : (BitVec.ofNat 24 o).toNat = o := Nat.mod_eq_of_lt ho
  obtain ⟨t, ht, hv⟩ := registerWrite_field (off := BitVec.ofNat 24 o) (v := v) hi (hoff.symm ▸ h) (serviceWord_fieldByField hr) hf nofun
  refine ⟨t, ht, ?_⟩
  rw [hoff, rowTaken_serviceWord hr, hcore, hs] at hv
  exact hv
/-- Such a word keeps what it holds under every other write. -/
theorem registerWrite_serviceWord_keeps {o lo n : Nat} {r : RegRow} {is : List Nat} (h : findReg o = some (r, is)) (hr : ServiceWord r.id)
    (hf : (lo, n, .rw) ∈ r.flds) (ho : o < 2 ^ 24) {who : Requestor} {v : Word} {s : State}
    (hc : fromCore s who = false ∨ s.dev.st ≠ .service) :
    Completes (.registerWrite who (BitVec.ofNat 24 o) v) s fun t => getFld (t.reg o) lo n = getFld (s.reg o) lo n := by
  cases hi : mayIssue s who with
  | false => exact registerWrite_unmet hi rfl
  | true =>
    have hoff : (BitVec.ofNat 24 o).toNat = o := Nat.mod_eq_of_lt ho
    obtain ⟨t, ht, hv⟩ := registerWrite_field (off := BitVec.ofNat 24 o) (v := v) hi (hoff.symm ▸ h) (serviceWord_fieldByField hr) hf nofun
    have refused : (who.isCore && s.dev.st == .service) = false := by
      rcases hc with hc | hc
      · have : who.isCore = false := by simpa [fromCore, hi] using hc
        simp [this]
      · simp [hc]
    refine ⟨t, ht, ?_⟩
    rw [hoff, rowTaken_serviceWord hr, refused] at hv
    exact hv

theorem findReg_wakeSec : findReg A.PWR_WAKESEC = some (⟨.PWR_WAKESEC, 0x0D0118, [], [(0, 24, .rw)]⟩, []) := by decide +kernel
theorem findReg_scratch : ∀ i : Fin 48, findReg (A.PWR_SCRATCH i) = some (⟨.PWR_SCRATCH, 0x0D0140, [(4, 48)], [(0, 32, .rw)]⟩, [i.val]) := by
  decide +kernel
theorem scratch_lt (i : Fin 48) : A.PWR_SCRATCH i < 2 ^ 24 := by
  unfold A.PWR_SCRATCH
  omega

/-! ### Access faults (R20, R32, R401) -/

theorem coresRun_of_mayIssue {s : State} {who : Requestor} (h : mayIssue s who = true) : coresRun s = true := (Bool.and_eq_true_iff.mp h).1

/-- The fabric permits the access (R20, R32). -/
def fabricPermits (s : State) (who : Requestor) (addr : Word) (wrt : Bool) : Bool :=
  if wrt then fabricWrites s who addr.toNat else fabricReads addr.toNat

/-- An access that the fabric permits changes nothing. -/
theorem accessFault_permitted {who : Requestor} {addr : Word} {wrt : Bool} {s : State} (hw : who ≠ .host)
    (hf : fabricPermits s who addr wrt = true) : exec (.accessFault who addr wrt) s = .next s := by
  change execAccessFault who addr wrt s = .next s
  unfold execAccessFault
  by_cases hc : coresRun s = true
  · rw [if_neg (not_not_intro hc), if_neg hw, if_pos (.inr hf), unmet_eq]
  · exact if_pos hc
/-- An access that the fabric forbids is logged. -/
theorem accessFault_forbidden {who : Requestor} {addr : Word} {wrt : Bool} {s : State} (hw : who ≠ .host) (hi : mayIssue s who = true)
    (hf : fabricPermits s who addr wrt = false) :
    exec (.accessFault who addr wrt) s = done (logRated 0x0F01 who.code 1 addr.toNat s) := by
  change execAccessFault who addr wrt s = _
  have refused : ¬ (¬ mayIssue s who = true ∨ fabricPermits s who addr wrt = true) := by simp [hi, hf]
  unfold execAccessFault
  exact (if_neg (by simp [coresRun_of_mayIssue hi])).trans ((if_neg hw).trans (if_neg refused))

/-- An entry put into the batch writes FLT_STAT and no other register. -/
theorem putEntry_reg (code src cls data : Nat) (s : State) {p : Nat} (h : p ≠ A.FLT_STAT) : (putEntry code src cls data s).reg p = s.reg p :=
  (reg_wr_other _ _ _ p h).trans (reg_wr_other _ _ _ p h)
theorem satAdd_le (m v d : Nat) : satAdd m v d ≤ m := by
  unfold satAdd
  split <;> omega
/-- While the log runs, a fault of class W raises the count of class W, saturating. -/
theorem logRated_countW (code src data : Nat) (s : State) (h : logging s = true) :
    rd (logRated code src 1 data s) F.FLT_CNT0_W = satAdd (2 ^ F.FLT_CNT0_W.w - 1) (rd s F.FLT_CNT0_W) 1 := by
  have counted : rd (countCls 1 s) F.FLT_CNT0_W = satAdd (2 ^ F.FLT_CNT0_W.w - 1) (rd s F.FLT_CNT0_W) 1 :=
    (rd_wr_same s F.FLT_CNT0_W _ (by decide)).trans (Nat.mod_eq_of_lt (Nat.lt_of_le_of_lt (satAdd_le _ _ _) (by decide)))
  rw [← counted]
  unfold logRated
  rw [if_pos h]
  dsimp only
  generalize countCls 1 s = t
  have entered : ∀ r, rd (putEntry code src 1 data (t.setFlt { t.flt with rate := r })) F.FLT_CNT0_W = rd t F.FLT_CNT0_W := fun r =>
    congrArg (fun w => getFld w F.FLT_CNT0_W.lo F.FLT_CNT0_W.w) (putEntry_reg code src 1 data _ (p := A.FLT_CNT0) (by decide))
  split
  · exact entered _
  · split
    · exact entered _
    · rfl

/-- It is counted in class W while the log runs. -/
theorem accessFault_counted {who : Requestor} {addr : Word} {wrt : Bool} {s : State} (hw : who ≠ .host) (hi : mayIssue s who = true)
    (hf : fabricPermits s who addr wrt = false) (hl : logging s = true) :
    Completes (.accessFault who addr wrt) s fun t => rd t F.FLT_CNT0_W = satAdd (2 ^ F.FLT_CNT0_W.w - 1) (rd s F.FLT_CNT0_W) 1 := by
  refine ⟨_, accessFault_forbidden hw hi hf, ?_⟩
  rw [← logRated_countW 0x0F01 who.code addr.toNat s hl]
  exact congrArg (fun w => getFld w F.FLT_CNT0_W.lo F.FLT_CNT0_W.w) (flushLog_reg A.FLT_CNT0 _ (by decide))

/-! ### Reads of the fault log (R402) -/

theorem coreEvent_flt (b : Nat) (s : State) : (coreEvent b s).flt = s.flt :=
  (congrArg (fun u : State => u.flt) (coreEvent_beyond b s) : (State.setBst {} (coreEvent b s)).flt = _)
/-- The batch written to the log latches no slot. -/
theorem flushLog_latch (s : State) : (flushLog s).flt.latch = s.flt.latch := by
  unfold flushLog
  split
  · rfl
  · dsimp only
    refine (each_keep (fun u : State => u.flt.latch) storeEntry (fun _ _ => rfl) _ _).trans ?_
    split
    · exact (congrArg FltLog.latch (coreEvent_flt 6 s) : (coreEvent 6 s).flt.latch = _)
    · rfl

/-- A read of a slot of the present log latches its words. -/
theorem fltLogRead_latches {sl : Fin 1024} {s : State} (h : coresRun s = true) : Completes (.fltLogRead sl ⟨false, false⟩) s fun t =>
    tget (fun _ => {}) t.flt.latch sl = tget (fun _ => {}) s.flt.slots sl ∧ ∀ p, p ≠ A.FLT_WIDX → t.reg p = s.reg p := by
  have he : exec (.fltLogRead sl ⟨false, false⟩) s = done (logLatch false false sl s) := (if_neg (not_not_intro h)).trans (if_neg (by simp))
  refine ⟨_, he, ?_, fun p hp => ?_⟩
  · rw [flushLog_latch]
    exact (tget_tset _ _ _ _ _).trans (if_pos rfl)
  · rw [flushLog_reg p _ hp]
    rfl

/-- Settles O55: the set value of the RTC and the words of SERVICE, then every register written field by field through `registerWrite_field`,
then access faults and the read of a slot of the log. -/
theorem registerWritesKeepTheirFields : Obligations.RegisterWritesKeepTheirFields := by
  refine ⟨fun who v s hi => registerWrite_rtcSetLo hi,
    fun who v s => registerWrite_serviceWord_takes findReg_wakeSec (.inl rfl) List.mem_cons_self (by decide),
    fun who v s => registerWrite_serviceWord_keeps findReg_wakeSec (.inl rfl) List.mem_cons_self (by decide),
    fun i who v s hc hs => ?_, fun i who v s hc => ?_, fun who off v s => registerWrite_none,
    fun who off v r is f s hi h hb hf => ?_, fun who addr wrt s hw hf => ⟨s, accessFault_permitted hw hf, rfl⟩,
    fun who addr wrt s hw hi hf hl => accessFault_counted hw hi hf hl, fun sl s hc => fltLogRead_latches hc⟩
  · obtain ⟨t, ht, hv⟩ := registerWrite_serviceWord_takes (findReg_scratch i) (.inr rfl) List.mem_cons_self (scratch_lt i) hc hs
    exact ⟨t, ht, eq_of_getFld_word hv⟩
  · obtain ⟨t, ht, hv⟩ := registerWrite_serviceWord_keeps (findReg_scratch i) (.inr rfl) List.mem_cons_self (scratch_lt i) hc
    exact ⟨t, ht, eq_of_getFld_word hv⟩
  · by_cases hw : f.2.2 = .wo
    · exact registerWrite_completes hi (by simp [hw])
    · obtain ⟨t, ht, hv⟩ := registerWrite_field (v := v) hi h hb hf hw
      exact ⟨t, ht, fun ha => hv.trans (fieldLeft_readOnly _ v f _ ha),
        fun ha (hn : rowTaken who s r is = false) => hv.trans (hn ▸ fieldLeft_refused v f _ (by simp [ha])),
        fun ha (hy : rowTaken who s r is = true) => hv.trans (hy ▸ fieldLeft_taken v f _ ha),
        fun ha => hv.trans (fieldLeft_cleared _ v f _ ha)⟩

end Sys2Proof.Machine
end

section
/-! ## A record that is longer than its bank (R376, R377): the frame of memory fails in a state with nine counters. -/
namespace Sys2Proof.Machine
open Sys2Proof

/-- A read after a write of a list: each key written reads as the value written there. -/
theorem tget_tsetList_same {α : Type} [DecidableEq α] (d : Nat → α) : ∀ (vs : List α) (t : Tbl α) (k i : Nat) (h : i < vs.length),
    tget d (tsetList d t k vs) (k + i) = vs[i]
  | v :: vs, t, k, 0, _ => by
    rw [tsetList, tget_tsetList_other d vs _ (k + 1) (k + 0) (by omega), tget_tset]
    exact if_pos rfl
  | v :: vs, t, k, i + 1, h => by
    have ih := tget_tsetList_same d vs (tset d t k v) (k + 1) i (Nat.lt_of_succ_lt_succ h)
    rw [tsetList, show k + (i + 1) = k + 1 + i by omega]
    exact ih
/-- A byte written reads as the byte written. -/
theorem rdB_wrBytes_same (s : State) (a : Nat) (bs : List Byte) (i : Nat) (h : i < bs.length) : rdB (wrBytes a bs s) (a + i) = bs[i] :=
  tget_tsetList_same memReset bs s.mem a i h

/-- With the oscillator stopped the RTC stands. -/
theorem rtcAdvance_stopped {s : State} (h : isSet s F.PWR_STAT_XOSCOK = false) : rtcAdvance s = s := if_pos (by simp [h])

/-- The state in which the first of the records asked for, of cause 4, has been written to its bank. -/
def recordStored (l : List Nat) (s : State) : State :=
  wrBytes (mramBase (recBank s)) (recordOf s 4) (s.setPwr { s.pwr with recs := l, bad := s.pwr.bad.filter (· != recBank s) })
theorem stateRecordWritten_stored {s : State} {l : List Nat} (hr : s.pwr.recs = 4 :: l) (hx : isSet s F.PWR_STAT_XOSCOK = false) :
    exec (.stateRecordWritten none) s = done (bumpWrap F.STS_CNT_WRITES (wr F.STS_STAT_LASTCAUSE 4 (recordStored l s))) := by
  change execStateRecordWritten none s = _
  unfold execStateRecordWritten
  rw [hr]
  dsimp only
  rw [rtcAdvance_stopped hx]
  rfl
/-- The whole record of cause 4 is in memory from the beginning of its bank on, however long it is. -/
theorem stateRecordWritten_stores {s : State} {l : List Nat} (hr : s.pwr.recs = 4 :: l) (hx : isSet s F.PWR_STAT_XOSCOK = false) :
    Completes (.stateRecordWritten none) s fun t => ∀ (i : Nat) (h : i < (recordOf s 4).length),
      rdB t (mramBase (recBank s) + i) = (recordOf s 4)[i] := by
  refine ⟨_, stateRecordWritten_stored hr hx, fun i h => ?_⟩
  simp only [rdB, flushLog_mem, bumpWrap_mem, wr_mem]
  exact rdB_wrBytes_same _ _ _ i h

/-- A record of cause 4 is about to be written, and the list of counters holds nine where Table 14.2 has eight. No run from reset gives such a
list; a state may hold it. The byte behind bank 0 is 1. -/
def nineCounters : State :=
  { pwr := { taken := true, counters := List.replicate 9 0, recs := [4] }, mem := [(mramBase 0 + 4096, 1)] }
theorem nineCounters_bank : recBank nineCounters = 0 := by decide +kernel
/-- Its record is four bytes longer than the bank of 4,096 bytes, and the first of those is 0. -/
theorem nineCounters_length : (recordOf nineCounters 4).length = 4100 := by decide +kernel
theorem nineCounters_behind : (recordOf nineCounters 4)[4096]? = some 0 := by decide +kernel

/-- Refutes O56: the record of a state with nine counters runs four bytes past the bank it is written to, so that STATE_RECORD_WRITTEN changes
the byte behind the bank. -/
theorem not_memoryAndStoreFrame : ¬ Obligations.MemoryAndStoreFrame := by
  intro h
  obtain ⟨t, he, hs⟩ := stateRecordWritten_stores (s := nineCounters) rfl rfl
  obtain ⟨-, -, -, -, -, -, -, -, frame, -⟩ := h _ _ _ he
  have kept : rdB t (mramBase 0 + 4096) = 1 :=
    frame none rfl (by decide) (by decide) (mramBase 0 + 4096) (.inr (by rw [nineCounters_bank]))
  have stored := hs 4096 (by rw [nineCounters_length]; decide)
  rw [nineCounters_bank, kept, ← Option.some_inj, ← List.getElem?_eq_getElem, nineCounters_behind] at stored
  exact absurd stored (by decide)

end Sys2Proof.Machine
end

section
/-! ## A rail outside its window where the monitors do not watch, with an entry of the fault log left in the batch (R29, R398) -/
namespace Sys2Proof.Machine
open Sys2Proof

/-- A device in POWERUP whose batch holds an entry, as no command leaves it (R398). -/
def entryWaits : State := { flt := { batch := [{}] } }
/-- Every command writes the entries of the batch, a report of a rail too. -/
theorem supplyMonitor_entryWaits :
    Completes (.supplyMonitor ⟨.vcore, .low⟩) entryWaits fun t => rd t F.FLT_WIDX_WIDX = 1 := ⟨_, rfl, by decide +kernel⟩

/-- Refutes O51: of a rail reported low in POWERUP the statement says that every register stays, but an entry that waits in the batch is
written to the log at the end of the command, which moves FLT_WIDX. -/
theorem not_railsAndTheClockAreWatched : ¬ Obligations.RailsAndTheClockAreWatched := by
  rintro ⟨-, unwatched, -⟩
  obtain ⟨t, he, -, hregs, -⟩ := unwatched ⟨.vcore, .low⟩ entryWaits rfl rfl (by decide) (by decide)
  obtain ⟨t', he', hw⟩ := supplyMonitor_entryWaits
  obtain rfl : t = t' := by simpa [he] using he'
  rw [rd, State.reg, hregs] at hw
  exact absurd hw (by decide)

end Sys2Proof.Machine
end

section
/-! ## The registers that a reaction can write (R176, R193, R207, R426) -/
namespace Sys2Proof.Machine
open Sys2Proof

/-! ### Registers under the shared operations -/

theorem reg_of_regs {s t : State} (h : t.regs = s.regs) (p : Nat) : t.reg p = s.reg p := congrArg (fun r => tget regReset r p) h
/-- A field of a register that two states hold alike reads the same in both. -/
theorem rd_of_reg {s t : State} {f : Fld} (h : t.reg f.off = s.reg f.off) : rd t f = rd s f := congrArg (fun w => getFld w f.lo f.w) h
theorem isSet_of_rd {s t : State} {f g : Fld} (h : rd t f = rd s g) : isSet t f = isSet s g := congrArg (· != 0) h

@[simp] theorem modAx_reg (n : Nat) (f : Axis → Axis) (s : State) (p : Nat) : (modAx n f s).reg p = s.reg p := rfl
@[simp] theorem modLeg_reg (n : Nat) (f : Leg → Leg) (s : State) (p : Nat) : (modLeg n f s).reg p = s.reg p := rfl
@[simp] theorem modDcl_reg (n : Nat) (f : Dcl → Dcl) (s : State) (p : Nat) : (modDcl n f s).reg p = s.reg p := rfl
@[simp] theorem modDev_reg (f : Dev → Dev) (s : State) (p : Nat) : (modDev f s).reg p = s.reg p := rfl
@[simp] theorem bumpCounter_reg (i : Nat) (s : State) (p : Nat) : (bumpCounter i s).reg p = s.reg p := rfl
@[simp] theorem recAsk_reg (c : Nat) (s : State) (p : Nat) : (recAsk c s).reg p = s.reg p := rfl
@[simp] theorem setSt_reg (st : DState) (s : State) (p : Nat) : (setSt st s).reg p = s.reg p := rfl

theorem each_regs {α : Type} (f : α → State → State) (l : List α) (s : State) (h : ∀ x u, (f x u).regs = u.regs) : (each f l s).regs = s.regs :=
  each_keep State.regs f h l s
theorem freezeMasks_regs (a : Nat) (s : State) : (freezeMasks a s).regs = s.regs := each_regs _ (axLegs s a) s fun _ _ => rfl
theorem setBlk_regs (a : Nat) (b : Bool) (s : State) : (setBlk a b s).regs = s.regs := each_regs _ (axLegs s a) s fun _ _ => rfl
theorem carNow_regs (t : Nat) (s : State) : (carNow t s).2.regs = s.regs := by
  unfold carNow
  split <;> rfl
theorem legsHiz_regs (a : Nat) (s : State) : (legsHiz a s).regs = s.regs := by
  unfold legsHiz
  dsimp only
  rw [each_regs, carNow_regs]
  exact fun _ _ => rfl
/-- The Halter's line and the block bits are no registers. -/
theorem driveVar_regs (a v : Nat) (s : State) : (driveVar a v s).regs = s.regs := by
  unfold driveVar
  split
  · simp [noteOn, each_regs, apply_ite State.regs, freezeMasks_regs]
  · exact setBlk_regs a true _

/-! ### An axis that reacts -/

/-- A register beside those that the reaction of an axis writes: its state, its status at the modulator, its fault flags. -/
def BesideAxes (p : Nat) : Prop := ∀ a < 32, p ≠ A.LE_AX_STATE a ∧ p ≠ A.MOD_AX_STAT a ∧ p ≠ A.SAF_AX_FLT a

theorem exciterOf_lt {s : State} {a e : Nat} (h : exciterOf s a = some e) : e < 32 := by
  unfold exciterOf at h
  dsimp only at h
  split at h
  · exact Option.some_inj.mp h ▸ rd_lt s (F.LE_AX_CFG_LINK a)
  · exact absurd h nofun
theorem teamAxes_lt {s : State} {t b : Nat} (ht : t < 8) (h : b ∈ teamAxes s t) : b < 32 := by
  simp only [teamAxes, List.mem_filter, List.mem_map, List.mem_range] at h
  omega
theorem statorOf_lt {s : State} {a b : Nat} (ha : a < 32) (h : statorOf s a = some b) : b < 32 := by
  unfold statorOf at h
  dsimp only at h
  split at h
  · exact teamAxes_lt (by omega) (List.mem_of_find?_eq_some h)
  · exact absurd h nofun
theorem axesUsed_lt {s : State} {a : Nat} (h : a ∈ axesUsed s) : a < 32 := by
  have hp : s.nAxes ≤ 32 := by
    unfold State.nAxes State.nTeams Part.teams
    split <;> decide
  simp only [axesUsed, List.mem_filter, List.mem_range] at h
  omega

section
variable {p a : Nat} (hp : BesideAxes p) (ha : a < 32)
include hp ha

theorem enterSafe_reg (r : React) (s : State) : (enterSafe a r s).reg p = s.reg p := by
  obtain ⟨hs, hm, -⟩ := hp a ha
  unfold enterSafe
  dsimp only
  rw [reg_of_regs (driveVar_regs _ _ _), modAx_reg, reg_wr_other _ _ _ p hs, reg_wr_other _ _ _ p hs, reg_wr_other _ _ _ p hs,
    reg_wr_other _ _ _ p hm, reg_wr_other _ _ _ p hs, reg_wr_other _ _ _ p hs, reg_of_regs (legsHiz_regs _ _)]
  split
  · exact reg_wr_other _ _ _ p hm
  · rfl

/-- The flags given lie in the fault register of the axis. -/
theorem flagReact_reg {b : Nat → Fld} (hb : ∀ x, (b x).off = A.SAF_AX_FLT x) (s : State) : (flagReact a b s).reg p = s.reg p := by
  obtain ⟨-, -, hf⟩ := hp a ha
  exact (reg_wr_other _ _ _ p hf).trans (reg_wr_other _ _ _ p (hb a ▸ hf))

theorem reactOne_reg {b : Nat → Fld} (hb : ∀ x, (b x).off = A.SAF_AX_FLT x) (now : Bool) (r : React) (s : State) :
    (reactOne now a r b s).reg p = s.reg p := by
  rw [← flagReact_reg hp ha hb s]
  unfold reactOne
  dsimp only
  repeat' split
  all_goals simp only [enterSafe_reg hp ha, modAx_reg]

/-- An axis that reacts with its pair writes the state, the status and the flags of the two, and no other register. -/
theorem axisReact_reg {b : Nat → Fld} (hb : ∀ x, (b x).off = A.SAF_AX_FLT x) (now : Bool) (k : Nat) (v : Option Nat) (c : Nat) (s : State) :
    (axisReact now a k v c b s).reg p = s.reg p := by
  unfold axisReact
  dsimp only
  split
  next e st he => exact (reactOne_reg hp (exciterOf_lt he) hb _ _ _).trans (reactOne_reg hp ha hb _ _ _)
  next st he hst => exact (reactOne_reg hp ha hb _ _ _).trans (reactOne_reg hp (statorOf_lt ha hst) hb _ _ _)
  · exact reactOne_reg hp ha hb _ _ _
theorem blockReact_reg (now : Bool) (c : Nat) (s : State) : (blockReact now a c s).reg p = s.reg p :=
  axisReact_reg hp ha (fun _ => rfl) now _ _ _ s
end

/-! ### A device that reacts -/

theorem each_reg_of_mem {α : Type} {p : Nat} (f : α → State → State) : ∀ (l : List α) (s : State),
    (∀ x ∈ l, ∀ u, (f x u).reg p = u.reg p) → (each f l s).reg p = s.reg p
  | [], _, _ => rfl
  | x :: l, s, h => (each_reg_of_mem f l (f x s) fun y hy => h y (List.mem_cons_of_mem x hy)).trans (h x List.mem_cons_self s)
theorem upto_reg_of_lt {p : Nat} (f : Nat → State → State) (s : State) : ∀ n : Nat,
    (∀ i < n, ∀ u, (f i u).reg p = u.reg p) → (upto f n s).reg p = s.reg p
  | 0, _ => rfl
  | n + 1, h => (h n (Nat.lt_succ_self n) _).trans (upto_reg_of_lt f s n fun i hi => h i (Nat.lt_succ_of_lt hi))

/-- A register beside those that a discharge with the reactions of its axes writes. -/
def BesideDischarges (p : Nat) : Prop := BesideAxes p ∧ ∀ g < 4, p ≠ A.LE_DCL_DSTAT g

theorem dischTrigger_reg {p g : Nat} (hp : BesideDischarges p) (hg : g < 4) (src : Nat) (s : State) : (dischTrigger g src s).reg p = s.reg p := by
  obtain ⟨hp, hd⟩ := hp
  have hd := hd g hg
  have crash : (if src = 2 then wr (F.LE_DCL_DSTAT_CRASHLOCK g) 1 s else s).reg p = s.reg p := by
    split
    · exact reg_wr_other _ _ _ p hd
    · rfl
  unfold dischTrigger
  dsimp only
  generalize (if src = 2 then wr (F.LE_DCL_DSTAT_CRASHLOCK g) 1 s else s) = u at crash
  rw [← crash]
  split
  · split
    · rfl
    · exact reg_wr_other _ _ _ p hd
  · refine (each_reg_of_mem _ _ _ fun a ha v => ?_).trans ?_
    · split
      · exact axisReact_reg hp (axesUsed_lt (List.mem_of_mem_filter ha)) (fun _ => rfl) _ _ _ _ v
      · rfl
    · split
      · rw [reg_wr_other _ _ _ p hd, modDcl_reg, reg_wr_other _ _ _ p hd, reg_wr_other _ _ _ p hd, reg_wr_other _ _ _ p hd]
      · rw [modDcl_reg, reg_wr_other _ _ _ p hd, reg_wr_other _ _ _ p hd, reg_wr_other _ _ _ p hd]
theorem dvDischarge_reg {p : Nat} (hp : BesideDischarges p) (s : State) : (dvDischarge s).reg p = s.reg p := by
  unfold dvDischarge
  refine upto_reg_of_lt _ s 4 fun g hg u => ?_
  split
  · exact dischTrigger_reg hp hg 4 u
  · rfl

theorem brakesOff_reg {p : Nat} (hp : ∀ n < 8, p ≠ A.SAF_SB_STAT n) (s : State) : (brakesOff s).reg p = s.reg p := by
  unfold brakesOff
  refine upto_reg_of_lt _ s 8 fun n hn u => ?_
  rw [reg_wr_other _ _ _ p (hp n hn), reg_wr_other _ _ _ p (hp n hn), reg_wr_other _ _ _ p (hp n hn), reg_wr_other _ _ _ p (hp n hn)]

/-- A field that another field of the same register does not overlap is read past its write. -/
theorem rd_wr_beside (s : State) (f g : Fld) (v : Nat) (hf : f.lo + f.w ≤ 32) (hg : g.lo + g.w ≤ 32) (h : Apart g f) : rd (wr f v s) g = rd s g := by
  rcases h with h | h
  · exact rd_wr_off s f g v h
  · exact rd_wr_disj s f g v hf hg h.symm

/-- Of steps made in turn, the one that writes a register decides what it holds in the end. -/
theorem upto_reg_at {p n : Nat} (f : Nat → State → State) (s : State) : ∀ m : Nat, n < m →
    (∀ i < m, i ≠ n → ∀ u, (f i u).reg p = u.reg p) → (upto f m s).reg p = (f n (upto f n s)).reg p
  | m + 1, hn, h => by
    rcases Nat.lt_succ_iff_lt_or_eq.mp hn with hlt | rfl
    · exact (h m (Nat.lt_succ_self m) (by omega) _).trans (upto_reg_at f s m hlt fun i hi => h i (Nat.lt_succ_of_lt hi))
    · rfl

/-- The latch of a class DV reaction with its code, FAULT_N following it (R207). -/
def latched (code : Nat) (s : State) : State :=
  faultN (if isSet s F.SAF_STAT_DVLAT then s else wr F.SAF_STAT_DVLAT 1 (wr F.SAF_STAT_DVCODE code s))
theorem latched_reg {p : Nat} (hp : p ≠ A.SAF_STAT) (code : Nat) (s : State) : (latched code s).reg p = s.reg p := by
  refine (reg_wr_other _ _ _ p hp).trans ?_
  split
  · rfl
  · exact (reg_wr_other _ _ _ p hp).trans (reg_wr_other _ _ _ p hp)
theorem latched_dvlat (code : Nat) (s : State) : isSet (latched code s) F.SAF_STAT_DVLAT = true := by
  refine (isSet_of_rd (rd_wr_beside _ _ _ _ (by decide) (by decide) (.inr (by decide)))).trans ?_
  split
  next h => exact h
  · simp [isSet, rd_wr_same, F.SAF_STAT_DVLAT]

/-- Every enable withdrawn and every safe brake output de-energised. -/
def outputsOff (s : State) : State := brakesOff (wr F.SAF_TEAMEN_EN 0 (wr F.SAF_TEAMEN_RB 0 s))
theorem outputsOff_reg {p : Nat} (he : p ≠ A.SAF_TEAMEN) (hb : ∀ n < 8, p ≠ A.SAF_SB_STAT n) (s : State) : (outputsOff s).reg p = s.reg p :=
  (brakesOff_reg hb _).trans ((reg_wr_other _ _ _ p he).trans (reg_wr_other _ _ _ p he))
theorem sbStat_ne_teamen : ∀ n < 8, A.SAF_TEAMEN ≠ A.SAF_SB_STAT n := by decide
theorem outputsOff_enables (s : State) : EnablesDown (outputsOff s) := by
  have kept : ∀ {f : Fld}, f.off = A.SAF_TEAMEN → rd (outputsOff s) f = rd (wr F.SAF_TEAMEN_EN 0 (wr F.SAF_TEAMEN_RB 0 s)) f :=
    fun hf => rd_of_reg (brakesOff_reg (hf ▸ sbStat_ne_teamen) _)
  refine ⟨(kept rfl).trans (rd_wr_same _ _ _ (by decide)), (kept rfl).trans ?_⟩
  rw [rd_wr_beside _ _ _ _ (by decide) (by decide) (.inr (by decide))]
  exact rd_wr_same _ _ _ (by decide)
theorem brakesOff_brakes (s : State) : BrakesOff (brakesOff s) := by
  intro n hn
  have held := upto_reg_at (p := A.SAF_SB_STAT n) (n := n) (fun n s => wr (F.SAF_SB_STAT_TESTING n) 0
      (wr (F.SAF_SB_STAT_RELEASED n) 0 (wr (F.SAF_SB_STAT_CMDL n) 0 (wr (F.SAF_SB_STAT_CMDH n) 0 s)))) s 8 hn fun i _ hi u => by
    have apart : A.SAF_SB_STAT n ≠ A.SAF_SB_STAT i := by
      unfold A.SAF_SB_STAT
      omega
    rw [reg_wr_other _ _ _ _ apart, reg_wr_other _ _ _ _ apart, reg_wr_other _ _ _ _ apart, reg_wr_other _ _ _ _ apart]
  refine ⟨(rd_of_reg held).trans ?_, (rd_of_reg held).trans ?_⟩ <;>
    simp [rd_wr_same, rd_wr_disj, F.SAF_SB_STAT_TESTING, F.SAF_SB_STAT_RELEASED, F.SAF_SB_STAT_CMDL, F.SAF_SB_STAT_CMDH]

/-! What a class DV reaction does in each of the states (R207). -/

/-- A class DV reaction noted for the stride (R265). -/
def noteDv (s : State) : State := modDev (fun d => { d with dvNow := true }) s
theorem noteDv_st (s : State) : (noteDv s).dev.st = s.dev.st := rfl
/-- The reaction noted, counted and latched, and every output off. -/
def reactedOff (code : Nat) (s : State) : State := outputsOff (latched code (bumpCounter 2 (noteDv s)))
theorem reactedOff_reg {p : Nat} (hs : p ≠ A.SAF_STAT) (he : p ≠ A.SAF_TEAMEN) (hb : ∀ n < 8, p ≠ A.SAF_SB_STAT n) (code : Nat) (s : State) :
    (reactedOff code s).reg p = s.reg p := (outputsOff_reg he hb _).trans (latched_reg hs _ _)
theorem reactedOff_dvlat (code : Nat) (s : State) : isSet (reactedOff code s) F.SAF_STAT_DVLAT = true :=
  (isSet_of_rd (rd_of_reg (outputsOff_reg (by decide) (by decide) _))).trans (latched_dvlat _ _)

/-- In SELFTEST the device is held in reset. -/
theorem deviceReact_selftest {s : State} (h : s.dev.st = .selftest) (pick : State → Nat → Nat) (code : Nat) :
    deviceReact pick code s = modDev (fun d => { d with testHold := true }) (wr F.PWR_STFAILREC_ITEM 6 (wr F.PWR_STFAILREC_MEM 31 (noteDv s))) := by
  unfold deviceReact
  simp only [← noteDv.eq_1, noteDv_st, h]
/-- In LOAD and IDENTIFY the device is in RECOVERY at once, on the plain timebase. -/
theorem deviceReact_load {s : State} (h : s.dev.st = .load ∨ s.dev.st = .identify) (pick : State → Nat → Nat) (code : Nat) :
    deviceReact pick code s = recAsk 5 (setSt .recovery (plainTimebase (dvDischarge (reactedOff code s)))) := by
  unfold deviceReact
  rcases h with h | h <;> simp only [← noteDv.eq_1, noteDv_st, h] <;> rfl
/-- In SYNC it is so on its own timebase. -/
theorem deviceReact_sync {s : State} (h : s.dev.st = .sync) (pick : State → Nat → Nat) (code : Nat) :
    deviceReact pick code s = recAsk 5 (setSt .recovery (dvDischarge (reactedOff code s))) := by
  unfold deviceReact
  simp only [← noteDv.eq_1, noteDv_st, h]
  rfl
/-- In ARMED and SERVICE the axes react, discharges begin, and RECOVERY waits for the mark. -/
theorem deviceReact_armed {s : State} (h : s.dev.st = .armed ∨ s.dev.st = .service) (pick : State → Nat → Nat) (code : Nat) :
    deviceReact pick code s = modDev (fun d => { d with recPend := true }) (dvDischarge
      (each (fun a s => axisReact true a 0 (some (pick s a)) 7 F.SAF_AX_FLT_DEVICE s) (axesUsed (reactedOff code s)) (reactedOff code s))) := by
  unfold deviceReact
  rcases h with h | h <;> simp only [← noteDv.eq_1, noteDv_st, h] <;> rfl
/-- In RECOVERY and SAVE it is latched and discharges begin. -/
theorem deviceReact_recovery {s : State} (h : s.dev.st = .recovery ∨ s.dev.st = .save) (pick : State → Nat → Nat) (code : Nat) :
    deviceReact pick code s = dvDischarge (latched code (bumpCounter 2 (noteDv s))) := by
  unfold deviceReact
  rcases h with h | h <;> simp only [← noteDv.eq_1, noteDv_st, h] <;> rfl
/-- In POWERUP, PARKED and SLEEP it is noted. -/
theorem deviceReact_unwatched {s : State} (h : s.dev.st = .powerup ∨ s.dev.st = .parked ∨ s.dev.st = .sleep) (pick : State → Nat → Nat) (code : Nat) :
    deviceReact pick code s = noteDv s := by
  unfold deviceReact
  rcases h with h | h | h <;> simp only [← noteDv.eq_1, noteDv_st, h]

theorem deviceReact_armed_reg {s : State} (h : s.dev.st = .armed ∨ s.dev.st = .service) {p : Nat} (hp : BesideDischarges p)
    (pick : State → Nat → Nat) (code : Nat) : (deviceReact pick code s).reg p = (reactedOff code s).reg p := by
  rw [deviceReact_armed h, modDev_reg, dvDischarge_reg hp]
  exact each_reg_of_mem _ _ _ fun a ha u => axisReact_reg hp.1 (axesUsed_lt ha) (fun _ => rfl) _ _ _ _ u

theorem dvDischarge_beyond (s : State) : beyondDrive (dvDischarge s) = beyondDrive s := by
  unfold dvDischarge
  refine upto_keep beyondDrive _ (fun g u => ?_) 4 s
  split
  · exact dischTrigger_beyond g 4 u
  · rfl
theorem latched_beyond (code : Nat) (s : State) : beyondDrive (latched code s) = beyondDrive s := by
  unfold latched faultN wrB
  rw [beyondDrive_wr]
  split <;> rfl
@[simp] theorem beyondReact_recAsk (c : Nat) (s : State) : beyondReact (recAsk c s) = beyondReact s := rfl
@[simp] theorem beyondReact_bumpCounter (i : Nat) (s : State) : beyondReact (bumpCounter i s) = beyondReact s := rfl
@[simp] theorem beyondReact_modDev (f : Dev → Dev) (s : State) : beyondReact (modDev f s) = beyondReact s := rfl
@[simp] theorem beyondReact_setSt (st : DState) (s : State) : beyondReact (setSt st s) = beyondReact s := rfl
@[simp] theorem beyondReact_noteDv (s : State) : beyondReact (noteDv s) = beyondReact s := rfl
@[simp] theorem beyondReact_plainTimebase (s : State) : beyondReact (plainTimebase s) = beyondReact s := rfl
@[simp] theorem beyondReact_wr (f : Fld) (v : Nat) (s : State) : beyondReact (wr f v s) = beyondReact s := rfl
@[simp] theorem beyondReact_dvDischarge (s : State) : beyondReact (dvDischarge s) = beyondReact s := beyondReact_of_drive (dvDischarge_beyond s)
@[simp] theorem beyondReact_latched (code : Nat) (s : State) : beyondReact (latched code s) = beyondReact s :=
  beyondReact_of_drive (latched_beyond code s)
@[simp] theorem beyondReact_reactedOff (code : Nat) (s : State) : beyondReact (reactedOff code s) = beyondReact s := by
  unfold reactedOff outputsOff
  rw [beyondReact_of_drive (brakesOff_beyond _)]
  simp
@[simp] theorem beyondReact_axisReacts (pick : State → Nat → Nat) (l : List Nat) (s : State) :
    beyondReact (each (fun a s => axisReact true a 0 (some (pick s a)) 7 F.SAF_AX_FLT_DEVICE s) l s) = beyondReact s :=
  each_keep beyondReact _ (fun a u => beyondReact_of_drive (axisReact_beyond true a 0 (some (pick u a)) 7 F.SAF_AX_FLT_DEVICE u)) l s
/-- A class DV reaction changes registers, the drive's records, the device record and the records asked for, and nothing else. -/
theorem deviceReact_beyond (pick : State → Nat → Nat) (code : Nat) (s : State) : beyondReact (deviceReact pick code s) = beyondReact s := by
  cases h : s.dev.st
  case selftest => simp [deviceReact_selftest h]
  case load | identify => simp [deviceReact_load, h]
  case sync => simp [deviceReact_sync h]
  case armed | service => simp [deviceReact_armed, h]
  case recovery | save => simp [deviceReact_recovery, h]
  case powerup | parked | sleep => simp [deviceReact_unwatched, h]

/-- The registers of the device's own outputs and latch are none that a discharge with its reactions writes. -/
theorem besideDischarges_safety {p : Nat} (h : p ≤ 0x060280) (h6 : 0x060000 ≤ p) : BesideDischarges p := by
  refine ⟨fun a ha => ?_, fun g hg => ?_⟩
  · unfold A.LE_AX_STATE A.MOD_AX_STAT A.SAF_AX_FLT
    omega
  · unfold A.LE_DCL_DSTAT
    omega

end Sys2Proof.Machine
end

section
/-! ## The clock monitor and the loss of the island clock (R27, R220) -/
namespace Sys2Proof.Machine
open Sys2Proof

theorem rd_flushLog {f : Fld} (h : f.off ≠ A.FLT_WIDX) (s : State) : rd (flushLog s) f = rd s f := rd_of_reg (flushLog_reg _ s h)
/-- A register below the block of the fault log is none that an entry writes. -/
theorem logFault_reg_below {p : Nat} (h : p < 0x0F0000) (code src c data : Nat) (s : State) : (logFault code src c data s).reg p = s.reg p :=
  logFault_reg code src c data p s (by unfold A.FLT_CNT0 A.FLT_CNT1 A.FLT_CNT2 A.FLT_STAT; omega)
theorem flushLog_reg_below {p : Nat} (h : p < 0x0F0000) (s : State) : (flushLog s).reg p = s.reg p :=
  flushLog_reg p s (by unfold A.FLT_WIDX; omega)

theorem sext_trunc16 {d : Int} (h : d.natAbs ≤ 600) : sext 16 (trunc 16 d) = d := by
  unfold sext trunc
  norm_num
  split <;> omega
theorem sat16_of_small {d : Int} (h : d.natAbs ≤ 600) : sat 16 d = d := by
  unfold sat
  norm_num
  split
  · omega
  · split <;> omega

/-- What CLOCK_MONITOR_WINDOW shows: the deviation, the class, the windows of class 1 in a row. -/
def clkShown (d : Int) (c n : Nat) (s : State) : State := wrI F.SAF_CLK_DEV d (wr F.SAF_CLK_CLASS c (wr F.SAF_CLK_MARGCNT n s))
theorem clkShown_dev {d : Int} (h : d.natAbs ≤ 600) (c n : Nat) (s : State) : rdI (clkShown d c n s) F.SAF_CLK_DEV = d := by
  have hr : rd (clkShown d c n s) F.SAF_CLK_DEV = trunc 16 d % 2 ^ 16 := rd_wr_same _ _ _ (by decide)
  rw [rdI, hr, Nat.mod_eq_of_lt]
  · exact sext_trunc16 h
  · unfold trunc
    omega
theorem clkShown_class {c : Nat} (h : c < 4) (d : Int) (n : Nat) (s : State) : rd (clkShown d c n s) F.SAF_CLK_CLASS = c := by
  refine (rd_wr_beside _ F.SAF_CLK_DEV _ _ (by decide) (by decide) (.inr (by decide))).trans ?_
  exact (rd_wr_same _ _ _ (by decide)).trans (Nat.mod_eq_of_lt h)
theorem clkShown_margcnt {n : Nat} (h : n < 256) (d : Int) (c : Nat) (s : State) : rd (clkShown d c n s) F.SAF_CLK_MARGCNT = n := by
  refine (rd_wr_beside _ F.SAF_CLK_DEV _ _ (by decide) (by decide) (.inr (by decide))).trans ?_
  refine (rd_wr_beside _ F.SAF_CLK_CLASS _ _ (by decide) (by decide) (.inr (by decide))).trans ?_
  exact (rd_wr_same _ _ _ (by decide)).trans (Nat.mod_eq_of_lt h)

/-- The class of a window of at most 6 % with the clock present. -/
theorem clkClass_small {dev : Int} (h : dev.natAbs ≤ 600) : clkClass dev false = if 100 < dev.natAbs then 1 else 0 :=
  if_neg (by simp; omega)

/-- The clock of the device is watched by windows (R27, Table 1.7). -/
def ClockWatched (s : State) : Prop := s.saf.islandClk = true ∧ held s = false ∧ s.dev.st ≠ .parked ∧ s.dev.st ≠ .sleep
theorem plainTimebase_reg {p : Nat} (h : p ≠ A.STR_PERIOD) (s : State) : (plainTimebase s).reg p = s.reg p := reg_wr_other _ _ _ p h
theorem clockMonitorWindow_watched {s : State} (h : ClockWatched s) (dev : Int) (lost : Bool) : exec (.clockMonitorWindow dev lost) s =
    let c := clkClass dev lost
    let n := if c = 1 then satAdd 255 (rd s F.SAF_CLK_MARGCNT) 1 else 0
    let u := clkShown (sat 16 dev) c n s
    if c = 2 then done (dvFault 0x0607 0 (trunc 32 (sat 16 dev)) u)
    else if n = 4 ∧ ¬ rd s F.SAF_CLK_MARGCNT = 255 then done (logFault 0x0608 0 1 (trunc 32 (sat 16 dev)) u) else done u := by
  obtain ⟨hi, hh, hp, hs⟩ := h
  exact if_neg (by simp [hi, hh, hp, hs])
/-- A window of at most 6 % ends with what it shows, logged or not. -/
theorem clockMonitorWindow_good {s : State} (h : ClockWatched s) {dev : Int} (hd : dev.natAbs ≤ 600) :
    Completes (.clockMonitorWindow dev false) s fun t => t.reg A.SAF_CLK = (clkShown dev (clkClass dev false)
      (if clkClass dev false = 1 then satAdd 255 (rd s F.SAF_CLK_MARGCNT) 1 else 0) s).reg A.SAF_CLK := by
  have small : clkClass dev false ≠ 2 := by
    rw [clkClass_small hd]
    split <;> decide
  unfold Completes
  rw [clockMonitorWindow_watched h, sat16_of_small hd]
  dsimp only
  rw [if_neg small]
  generalize (if clkClass dev false = 1 then satAdd 255 (rd s F.SAF_CLK_MARGCNT) 1 else 0) = n
  split
  · exact ⟨_, rfl, (flushLog_reg_below (by decide) _).trans (logFault_reg_below (by decide) _ _ _ _ _)⟩
  · exact ⟨_, rfl, flushLog_reg_below (by decide) _⟩

/-- What a class DV fault in ARMED and SERVICE leaves. -/
theorem dvFault_armed_reg {s : State} (h : s.dev.st = .armed ∨ s.dev.st = .service) {p : Nat} (h6 : 0x060000 ≤ p) (hp : p ≤ 0x060280)
    (code src data : Nat) : (flushLog (dvFault code src data s)).reg p = (reactedOff code (logFault code src 4 data s)).reg p := by
  rw [flushLog_reg_below (by omega)]
  exact deviceReact_armed_reg (by rwa [logFault_dev]) (besideDischarges_safety hp h6) _ _
theorem dvFault_armed_off {s : State} (h : s.dev.st = .armed ∨ s.dev.st = .service) (code src data : Nat) :
    let t := flushLog (dvFault code src data s)
    isSet t F.SAF_STAT_DVLAT = true ∧ EnablesDown t ∧ BrakesOff t := by
  have hreg := fun (p : Nat) (h6 : 0x060000 ≤ p) (hp : p ≤ 0x060280) => dvFault_armed_reg h h6 hp code src data
  have hen := outputsOff_enables (latched code (bumpCounter 2 (noteDv (logFault code src 4 data s))))
  have hbr := brakesOff_brakes (wr F.SAF_TEAMEN_EN 0 (wr F.SAF_TEAMEN_RB 0 (latched code (bumpCounter 2 (noteDv (logFault code src 4 data s))))))
  refine ⟨(isSet_of_rd (rd_of_reg (hreg _ (by decide) (by decide)))).trans (reactedOff_dvlat _ _), ⟨?_, ?_⟩, fun n hn => ⟨?_, ?_⟩⟩
  · exact (rd_of_reg (hreg _ (by decide) (by decide))).trans hen.1
  · exact (rd_of_reg (hreg _ (by decide) (by decide))).trans hen.2
  · exact (rd_of_reg (hreg (A.SAF_SB_STAT n) (by unfold A.SAF_SB_STAT; omega) (by unfold A.SAF_SB_STAT; omega))).trans (hbr n hn).1
  · exact (rd_of_reg (hreg (A.SAF_SB_STAT n) (by unfold A.SAF_SB_STAT; omega) (by unfold A.SAF_SB_STAT; omega))).trans (hbr n hn).2

/-- A window of class 2 in ARMED and SERVICE shows it and ends with the reaction. -/
theorem clockMonitorWindow_lost {s : State} (h : ClockWatched s) {dev : Int} {lost : Bool} (hc : clkClass dev lost = 2)
    (hst : s.dev.st = .armed ∨ s.dev.st = .service) : Completes (.clockMonitorWindow dev lost) s fun t =>
      rd t F.SAF_CLK_CLASS = 2 ∧ isSet t F.SAF_STAT_DVLAT = true ∧ BrakesOff t ∧ rd t F.SAF_TEAMEN_EN = 0 := by
  have watched := clockMonitorWindow_watched h dev lost
  dsimp only at watched
  rw [if_pos hc, if_neg (by simp [hc]), hc] at watched
  have shown : rd (clkShown (sat 16 dev) 2 0 s) F.SAF_CLK_CLASS = 2 := clkShown_class (by decide) _ _ s
  have hu : (clkShown (sat 16 dev) 2 0 s).dev.st = .armed ∨ (clkShown (sat 16 dev) 2 0 s).dev.st = .service := hst
  generalize clkShown (sat 16 dev) 2 0 s = u at watched shown hu
  obtain ⟨latch, enables, brakes⟩ := dvFault_armed_off hu 0x0607 0 (trunc 32 (sat 16 dev))
  refine ⟨_, watched, ?_, latch, brakes, enables.1⟩
  have clk : (flushLog (dvFault 0x0607 0 (trunc 32 (sat 16 dev)) u)).reg A.SAF_CLK = u.reg A.SAF_CLK := by
    rw [dvFault_armed_reg hu (by decide) (by decide), reactedOff_reg (by decide) (by decide) (by decide),
      logFault_reg_below (by decide)]
  exact (rd_of_reg clk).trans shown

/-- A reaction of class DV raises no enable: their register stays, or the reaction has withdrawn them. -/
theorem deviceReact_teamen (pick : State → Nat → Nat) (code : Nat) (s : State) :
    (deviceReact pick code s).reg A.SAF_TEAMEN = s.reg A.SAF_TEAMEN ∨ (deviceReact pick code s).reg A.SAF_TEAMEN = (reactedOff code s).reg A.SAF_TEAMEN := by
  have beside : BesideDischarges A.SAF_TEAMEN := besideDischarges_safety (by decide) (by decide)
  cases h : s.dev.st
  case selftest =>
    rw [deviceReact_selftest h]
    exact .inl ((reg_wr_other _ _ _ _ (by decide)).trans (reg_wr_other _ _ _ _ (by decide)))
  case load | identify =>
    rw [deviceReact_load (by simp [h])]
    exact .inr ((plainTimebase_reg (by decide) _).trans (dvDischarge_reg beside _))
  case sync =>
    rw [deviceReact_sync h]
    exact .inr (dvDischarge_reg beside _)
  case armed | service => exact .inr (deviceReact_armed_reg (by simp [h]) beside pick code)
  case recovery | save =>
    rw [deviceReact_recovery (by simp [h])]
    exact .inl ((dvDischarge_reg beside _).trans (latched_reg (by decide) _ _))
  case powerup | parked | sleep =>
    rw [deviceReact_unwatched (by simp [h])]
    exact .inl rfl
theorem deviceReact_enables {s : State} (h : rd s F.SAF_TEAMEN_EN = 0) (pick : State → Nat → Nat) (code : Nat) :
    rd (deviceReact pick code s) F.SAF_TEAMEN_EN = 0 := by
  rcases deviceReact_teamen pick code s with hk | hk
  · exact (rd_of_reg hk).trans h
  · exact (rd_of_reg hk).trans (outputsOff_enables _).1

theorem deviceReact_saf (pick : State → Nat → Nat) (code : Nat) (s : State) : (deviceReact pick code s).saf = s.saf := by
  have h := congrArg (fun u : State => u.saf) (deviceReact_beyond pick code s)
  exact h

theorem smcRuns_unclocked {s : State} (h : s.saf.islandClk = false) : smcRuns s = false := by simp [smcRuns, h]
theorem siRuns_unclocked {s : State} (h : s.saf.islandClk = false) (n : Nat) : siRuns s n = false := by simp [siRuns, h]

/-- The state in which the loss of the island clock has been noted and the enables withdrawn, before the fault is logged. -/
def clockGone (s : State) : State := wr F.SAF_TEAMEN_EN 0 (wr F.SAF_TEAMEN_RB 0 (s.setSaf { s.saf with islandClk := false }))
theorem islandClockLost_watched {s : State} (hm : monitored s = true) (hi : s.saf.islandClk = true) :
    exec .islandClockLost s = done (deviceReact (fun _ _ => 3) 0x0609 (logFault 0x0609 0 4 0 (clockGone s))) := by
  exact (if_neg (by simp [hm])).trans (if_pos hi)

/-- Settles O26: a window up to 6 % by what it shows, one beyond by the class DV reaction, the loss of the clock by the state of the enables
and of the island clock after the reaction. -/
theorem clockMonitorClasses : Obligations.ClockMonitorClasses := by
  refine ⟨fun dev lost s hi hh hp hs hd hl => ?_, fun dev lost s hi hh hbad hst => ?_, fun s hm hi => ?_⟩
  · subst hl
    obtain ⟨t, he, hr⟩ := clockMonitorWindow_good ⟨hi, hh, hp, hs⟩ hd
    have class1 : (if 100 < dev.natAbs then 1 else 0 : Nat) = 1 ↔ 100 < dev.natAbs := by simp
    simp only [clkClass_small hd, class1] at hr
    refine ⟨t, he, ?_, ?_, ?_⟩
    · exact (congrArg (sext _) (rd_of_reg hr)).trans (clkShown_dev hd _ _ s)
    · exact (rd_of_reg hr).trans (clkShown_class (by split <;> decide) _ _ s)
    · refine (rd_of_reg hr).trans (clkShown_margcnt ?_ _ _ s)
      split
      · exact Nat.lt_succ_of_le (satAdd_le _ _ _)
      · decide
  · have hc : clkClass dev lost = 2 := by
      unfold clkClass
      exact if_pos (by simpa [or_comm] using hbad)
    have watched : ClockWatched s := ⟨hi, hh, by rcases hst with h | h <;> simp [h], by rcases hst with h | h <;> simp [h]⟩
    exact clockMonitorWindow_lost watched hc hst
  · refine ⟨_, islandClockLost_watched hm hi, ?_⟩
    have gone : (flushLog (deviceReact (fun _ _ => 3) 0x0609 (logFault 0x0609 0 4 0 (clockGone s)))).saf.islandClk = false := by
      rw [flushLog_saf, deviceReact_saf, logFault_saf]
      rfl
    refine ⟨gone, ?_, smcRuns_unclocked gone, fun n _ => siRuns_unclocked gone n⟩
    refine (rd_flushLog (by decide) _).trans (deviceReact_enables ?_ _ _)
    exact (rd_of_reg (logFault_reg_below (by decide) _ _ _ _ _)).trans (rd_wr_same _ _ _ (by decide))

end Sys2Proof.Machine
end

section
/-! ## POWERUP and SELFTEST (R34, R266, R267, R380, R389) -/
namespace Sys2Proof.Machine
open Sys2Proof

theorem mem_bitsOf {v c : Nat} : ∀ {n : Nat}, c ∈ bitsOf v n ↔ c < n ∧ bit v c = true
  | 0 => by simp [bitsOf]
  | n + 1 => by
    rw [bitsOf, List.mem_append, mem_bitsOf, Nat.lt_succ_iff_lt_or_eq, or_and_right]
    refine or_congr_right ?_
    by_cases h : bit v n = true
    · rw [if_pos h, List.mem_singleton]
      exact ⟨fun e => ⟨e, e ▸ h⟩, And.left⟩
    · rw [if_neg h]
      exact ⟨fun m => absurd m List.not_mem_nil, fun ⟨e, hc⟩ => absurd (e ▸ hc) h⟩

/-! ### POWERUP -/

/-- The parity words lie behind the start cause, which they leave alone. -/
theorem parityWords_reg {p : Nat} (h : p < 0x0D0100) (l : List (Fin 64)) (s : State) : (each parityWord l s).reg p = s.reg p := by
  refine each_keep (fun u : State => u.reg p) parityWord (fun i u => ?_) l s
  refine (logFault_reg_below (by omega) _ _ _ _ _).trans ?_
  rw [reg_setReg, if_neg (by omega)]
theorem parityWords_dev (l : List (Fin 64)) (s : State) : (each parityWord l s).dev = s.dev :=
  each_keep State.dev parityWord (fun _ _ => logFault_dev _ _ _ _ _) l s
theorem parityWords_pwr (l : List (Fin 64)) (s : State) : (each parityWord l s).pwr = s.pwr :=
  each_keep State.pwr parityWord (fun _ _ => logFault_pwr _ _ _ _ _) l s

/-- The device in SELFTEST with every rail good. -/
def railsGood (s : State) : State :=
  setSt .selftest (s.setPwr { s.pwr with lowRails := 0, vcoreBad := false, vcoreOut := false, railsOff := false })
/-- The cause of the start shown and logged. -/
def causeShown (c : Nat) (s : State) : State :=
  let m := s.pwr.wkmask
  let s := wr F.PWR_STARTCAUSE_CAUSE c (wr F.PWR_STARTCAUSE_WKMASK m s)
  let s := logFault 0x0D04 0 0 (c + 8 * m) s
  if s.pwr.stuck then logFault 0x0D03 0 1 (rd s F.PWR_RESETREC_HOLD) s else s
theorem causeShown_dev (c : Nat) (s : State) : (causeShown c s).dev = s.dev := by
  unfold causeShown
  dsimp only
  split <;> simp only [logFault_dev, wr_dev]
theorem causeShown_cause {c : Nat} (h : c < 8) (s : State) : rd (causeShown c s) F.PWR_STARTCAUSE_CAUSE = c := by
  have shown : ∀ u, rd (logFault 0x0D04 0 0 (c + 8 * s.pwr.wkmask) (wr F.PWR_STARTCAUSE_CAUSE c u)) F.PWR_STARTCAUSE_CAUSE = c := fun u =>
    (rd_of_reg (logFault_reg_below (by decide) _ _ _ _ _)).trans ((rd_wr_same _ _ _ (by decide)).trans (Nat.mod_eq_of_lt h))
  unfold causeShown
  dsimp only
  split
  · exact (rd_of_reg (logFault_reg_below (by decide) _ _ _ _ _)).trans (shown _)
  · exact shown _

theorem startCause_of_cons {s : State} {c : Nat} {l : List Nat} (h : bitsOf s.pwr.causes 7 = c :: l) : startCause s = (c, s) := by
  unfold startCause
  rw [h]
  rfl
theorem powerupComplete_good {s : State} (hst : s.dev.st = .powerup) (hh : held s = false) {c : Nat} {l : List Nat}
    (hc : bitsOf s.pwr.causes 7 = c :: l) (bad : List (Fin 64)) : exec (.powerupComplete ⟨bad, false⟩) s =
      let u := causeShown c (railsGood s)
      done (each parityWord bad (u.setPwr { u.pwr with causes := 0, wkmask := 0, stuck := false })) := by
  have cause : startCause (railsGood s) = (c, railsGood s) := startCause_of_cons hc
  change execPowerupComplete _ s = _
  unfold execPowerupComplete
  rw [if_neg (by simp [hst, hh]), if_neg Bool.false_ne_true]
  change (let (c, s) := startCause (railsGood s)
    done (each parityWord bad ((causeShown c s).setPwr { (causeShown c s).pwr with causes := 0, wkmask := 0, stuck := false }))) = _
  rw [cause]

theorem powerupComplete_otp {s : State} (hst : s.dev.st = .powerup) (hh : held s = false) (bad : List (Fin 64)) :
    exec (.powerupComplete ⟨bad, true⟩) s = done (modDev (fun d => { d with testHold := true }) s) := by
  change execPowerupComplete _ s = _
  unfold execPowerupComplete
  rw [if_neg (by simp [hst, hh]), if_pos rfl]

/-! ### SELFTEST -/

section
variable {s t : State} (hm : t.mem = s.mem)
include hm
theorem mramRec_of_mem (b : Nat) : mramRec t b = mramRec s b := by simp only [mramRec, rdBytes, hm]
theorem recSeq_of_mem (b : Nat) : recSeq t b = recSeq s b := by simp only [recSeq, mramRec_of_mem hm]
theorem recWhy_of_store (hp : t.pwr.bad = s.pwr.bad) (b : Nat) : recWhy t b = recWhy s b := by simp only [recWhy, mramRec_of_mem hm, hp]
theorem newestRec_of_store (hp : t.pwr.bad = s.pwr.bad) : newestRec t = newestRec s := by
  simp only [newestRec, recSeq_of_mem hm, recWhy_of_store hm hp]
end

/-- The banks without a valid record logged, bank 0 first (R380). -/
def badBanks (s : State) : State :=
  each (fun b s => let w := recWhy s b; if w = 0 ∨ w = 4 then s else logFault 0x0C01 b 1 w s) [0, 1] s
/-- What one bank's log leaves unchanged, the logs of both do. -/
theorem badBanks_keep {β : Type} (g : State → β) (h : ∀ code src c data u, g (logFault code src c data u) = g u) (s : State) : g (badBanks s) = g s :=
  each_keep g _ (fun b u => by dsimp only; split; exacts [rfl, h _ _ _ _ _]) _ s
theorem badBanks_newestRec (s : State) : newestRec (badBanks s) = newestRec s :=
  newestRec_of_store (badBanks_keep State.mem (fun _ _ _ _ _ => logFault_mem _ _ _ _ _) s)
    (badBanks_keep (·.pwr.bad) (fun _ _ _ _ _ => congrArg Pwr.bad (logFault_pwr _ _ _ _ _)) s)

/-- The counters of a start: those of the record taken and the start's own (Table 14.2). -/
def countersTaken (s : State) (base : List Nat) : List Nat :=
  (List.range 8).map fun i =>
    satAdd 0xFFFFFFFF (base.getD i 0) (s.pwr.counters.getD i 0 + (if i = 0 ∨ (i = 6 ∧ rd s F.PWR_STARTCAUSE_CAUSE = 3) then 1 else 0))
/-- No record taken. -/
def noneTaken (s : State) : State :=
  logFault 0x0C02 0 0 0 (wr F.STS_STAT_RESTORED 0 (s.setPwr { s.pwr with taken := true, counters := countersTaken s [] }))
/-- The record of bank b taken. -/
def bankTaken (b : Nat) (s : State) : State :=
  let r := mramRec s b
  let n := min (field r 0x2C 2) 216
  let u := s.setPwr { s.pwr with taken := true, record := r, counters := countersTaken s ((List.range 8).map fun i => field r (0x40 + 4 * i) 4) }
  let u := u.setFlt { u.flt with prev := upto (fun i t => tset (fun _ => {}) t i (bytesEntry ((r.drop (0x280 + 16 * i)).take 16))) n [] }
  wr F.FLT_STAT_PREVN n (wr F.STS_STAT_RESTORED 1 (wr F.STS_START_SEQ (field r 4 4) u))
theorem recTake_none {s : State} (h : newestRec s = none) : recTake s = noneTaken (badBanks s) := by
  have hb := (badBanks_newestRec s).trans h
  unfold badBanks at hb
  unfold recTake noneTaken countersTaken badBanks
  dsimp only at hb ⊢
  rw [hb]
theorem recTake_some {s : State} {b : Nat} (h : newestRec s = some b) : recTake s = bankTaken b (badBanks s) := by
  have hb := (badBanks_newestRec s).trans h
  unfold badBanks at hb
  unfold recTake bankTaken countersTaken badBanks
  dsimp only at hb ⊢
  rw [hb]

section
variable {p : Nat} (h : p < 0x0F0000) (hs : p ≠ A.STS_STAT)
include h hs
theorem noneTaken_reg (s : State) : (noneTaken s).reg p = s.reg p := (logFault_reg_below h _ _ _ _ _).trans (reg_wr_other _ _ _ _ hs)
variable (hq : p ≠ A.STS_START)
include hq
theorem bankTaken_reg (b : Nat) (s : State) : (bankTaken b s).reg p = s.reg p := by
  unfold bankTaken
  dsimp only
  rw [reg_wr_other _ _ _ _ (show p ≠ A.FLT_STAT by unfold A.FLT_STAT; omega), reg_wr_other _ _ _ _ hs, reg_wr_other _ _ _ _ hq]
  rfl
theorem recTake_reg (s : State) : (recTake s).reg p = s.reg p := by
  have banks : (badBanks s).reg p = s.reg p := badBanks_keep (·.reg p) (fun _ _ _ _ u => logFault_reg_below h _ _ _ _ u) s
  rcases hn : newestRec s with _ | b
  · rw [recTake_none hn, noneTaken_reg h hs, banks]
  · rw [recTake_some hn, bankTaken_reg h hs hq, banks]
end
theorem recTake_taken (s : State) : (recTake s).pwr.taken = true := by
  rcases hn : newestRec s with _ | b
  · rw [recTake_none hn, noneTaken, logFault_pwr]
    rfl
  · rw [recTake_some hn]
    rfl
theorem recTake_restored (s : State) : isSet (recTake s) F.STS_STAT_RESTORED = (newestRec s).isSome := by
  rcases hn : newestRec s with _ | b
  · rw [recTake_none hn, noneTaken, isSet_of_rd (rd_of_reg (logFault_reg_below (by decide) _ _ _ _ _)), isSet, rd_wr_same _ _ _ (by decide)]
    rfl
  · rw [recTake_some hn, bankTaken]
    dsimp only
    rw [isSet, rd_wr_off _ _ _ _ (by decide), rd_wr_same _ _ _ (by decide)]
    rfl

/-- The result of a passed self-test shown, an item that failed in an earlier one logged. -/
def testPassed (r : SelfTestResult) (s : State) : State :=
  let i := rd s F.PWR_STFAILREC_ITEM
  let m := rd s F.PWR_STFAILREC_MEM
  let s := wr F.BST_STARTRES_PASS 31 (wr F.BST_STARTRES_DUR r.dur.toNat (wr F.BST_STARTRES_PREVFAIL i s))
  if i = 0 then s else logFault 0x0E0C i 1 m (wr F.PWR_STFAILREC_ITEM 0 (wr F.PWR_STFAILREC_MEM 0 s))
theorem testPassed_shown (r : SelfTestResult) (s : State) : rd (testPassed r s) F.BST_STARTRES_PASS = 31 ∧ rd (testPassed r s) F.BST_STARTRES_DUR = r.dur.toNat := by
  have shown : ∀ u, rd (wr F.BST_STARTRES_PASS 31 (wr F.BST_STARTRES_DUR r.dur.toNat u)) F.BST_STARTRES_PASS = 31 ∧
      rd (wr F.BST_STARTRES_PASS 31 (wr F.BST_STARTRES_DUR r.dur.toNat u)) F.BST_STARTRES_DUR = r.dur.toNat := fun u =>
    ⟨rd_wr_same _ _ _ (by decide), (rd_wr_disj _ _ _ _ (by decide) (by decide) (by decide)).trans
      ((rd_wr_same _ _ _ (by decide)).trans (Nat.mod_eq_of_lt r.dur.isLt))⟩
  have keep : ∀ i m u, (logFault 0x0E0C i 1 m (wr F.PWR_STFAILREC_ITEM 0 (wr F.PWR_STFAILREC_MEM 0 u))).reg A.BST_STARTRES = u.reg A.BST_STARTRES := fun i m u => by
    rw [logFault_reg_below (by decide), reg_wr_other _ _ _ _ (by decide), reg_wr_other _ _ _ _ (by decide)]
  unfold testPassed
  dsimp only
  split
  · exact shown _
  · rw [rd_of_reg (f := F.BST_STARTRES_PASS) (keep _ _ _), rd_of_reg (f := F.BST_STARTRES_DUR) (keep _ _ _)]
    exact shown _
theorem testPassed_store (r : SelfTestResult) (s : State) : (testPassed r s).mem = s.mem ∧ (testPassed r s).pwr = s.pwr := by
  unfold testPassed
  dsimp only
  split
  · exact ⟨rfl, rfl⟩
  · exact ⟨logFault_mem _ _ _ _ _, logFault_pwr _ _ _ _ _⟩

theorem selftestComplete_failed {r : SelfTestResult} {s : State} (hst : s.dev.st = .selftest) (hh : held s = false) (hi : r.item ≠ 0) :
    exec (.selftestComplete r) s =
      done (modDev (fun d => { d with testHold := true }) (wr F.PWR_STFAILREC_ITEM r.item.toNat (wr F.PWR_STFAILREC_MEM r.mem.toNat s))) := by
  change execSelftestComplete r s = _
  unfold execSelftestComplete
  rw [if_neg (by simp [hst, hh]), if_pos hi]
theorem selftestComplete_passed {r : SelfTestResult} {s : State} (hst : s.dev.st = .selftest) (hh : held s = false) (hi : r.item = 0) :
    exec (.selftestComplete r) s = done (setSt .load (recTake (testPassed r s))) := by
  change execSelftestComplete r s = _
  unfold execSelftestComplete
  rw [if_neg (by simp [hst, hh]), if_neg (not_not_intro hi)]
  rfl

/-- A device whose self-test holds it is held. -/
theorem held_of_testHold {s : State} (h : s.dev.testHold = true) : held s = true := by simp [held, h]

theorem setSt_st (st : DState) (s : State) : (setSt st s).dev.st = st := rfl

/-- Settles O48: POWERUP shows the lowest cause and the parity words behind it, a failed item holds the device, and a passed self-test takes the
newest record of a memory that its own entries leave alone. -/
theorem startsGoThroughSelftest : Obligations.StartsGoThroughSelftest := by
  unfold Obligations.StartsGoThroughSelftest
  refine ⟨fun c l bad s hst hh hc => ⟨_, powerupComplete_good hst hh hc bad, ?_, ?_, ?_⟩,
    fun bad s hst hh => ⟨_, powerupComplete_otp hst hh bad, ?_, held_of_testHold (by rw [flushLog_dev]; rfl)⟩,
    fun r s hst hh hi => ⟨_, selftestComplete_failed hst hh hi, held_of_testHold (by rw [flushLog_dev]; rfl), ?_, ?_, ?_⟩,
    fun r s hst hh hi => ⟨_, selftestComplete_passed hst hh hi, ?_, ?_, ?_, ?_, ?_⟩⟩
  · rw [flushLog_dev, parityWords_dev]
    exact congrArg Dev.st (causeShown_dev c (railsGood s))
  · have hlt : c < 7 := (mem_bitsOf.mp (hc ▸ List.mem_cons_self)).1
    rw [rd_flushLog (by decide), rd_of_reg (parityWords_reg (by decide) _ _)]
    exact causeShown_cause (by omega) _
  · rw [flushLog_pwr, parityWords_pwr]
    rfl
  · rw [flushLog_dev]
    exact hst
  · rw [flushLog_dev]
    exact hst
  · rw [rd_flushLog (by decide)]
    exact (rd_wr_same _ _ _ (by decide)).trans (Nat.mod_eq_of_lt r.item.isLt)
  · rw [rd_flushLog (by decide)]
    exact (rd_wr_disj _ _ _ _ (by decide) (by decide) (by decide)).trans ((rd_wr_same _ _ _ (by decide)).trans (Nat.mod_eq_of_lt r.mem.isLt))
  · rw [flushLog_dev, setSt_st]
  · rw [flushLog_pwr, setSt_pwr]
    exact recTake_taken _
  · rw [rd_flushLog (by decide), rd_of_reg (setSt_reg _ _ _), rd_of_reg (recTake_reg (by decide) (by decide) (by decide) _)]
    exact (testPassed_shown r s).1
  · rw [rd_flushLog (by decide), rd_of_reg (setSt_reg _ _ _), rd_of_reg (recTake_reg (by decide) (by decide) (by decide) _)]
    exact (testPassed_shown r s).2
  · obtain ⟨hm, hp⟩ := testPassed_store r s
    rw [isSet_of_rd (rd_flushLog (by decide) _), isSet_of_rd (rd_of_reg (setSt_reg _ _ _)), recTake_restored,
      newestRec_of_store hm (congrArg Pwr.bad hp)]

end Sys2Proof.Machine
end

section
/-! ## Replies sent, and the requests for a mode (R34, R179, R303 to R306, R386) -/
namespace Sys2Proof.Machine
open Sys2Proof

/-! ### Faults logged at the limited rate -/

section
variable {p : Nat} (h : p < 0x0F0000)
include h
theorem reg_wr_below {f : Fld} (hf : 0x0F0000 ≤ f.off) (v : Nat) (s : State) : (wr f v s).reg p = s.reg p :=
  reg_wr_other _ _ _ _ (Nat.ne_of_lt (Nat.lt_of_lt_of_le h hf))
theorem countCls_reg_below (c : Nat) (s : State) : (countCls c s).reg p = s.reg p := by
  unfold countCls
  split <;> exact reg_wr_below h (by decide) _ _
theorem putEntry_reg_below (code src c data : Nat) (s : State) : (putEntry code src c data s).reg p = s.reg p :=
  (reg_wr_below h (by decide) _ _).trans (reg_wr_below h (by decide) _ _)
theorem logRated_reg_below (code src c data : Nat) (s : State) : (logRated code src c data s).reg p = s.reg p := by
  unfold logRated
  split
  · refine iteInduction (motive := fun t : State => t.reg p = s.reg p) (fun _ => ?_) fun _ => countCls_reg_below h c s
    exact (putEntry_reg_below h _ _ _ _ _).trans (countCls_reg_below h c s)
  · rfl
end

/-! ### What sending leaves alone -/

/-- A register that no frame sent changes: the grant's, the cisterns' and the log's own are the ones it may. -/
def Unsent (p : Nat) : Prop := p ≠ A.RNG_GRANT ∧ (p < 0x0A0000 ∨ p % 16 = 0) ∧ p < 0x0F0000

section
variable {γ : Type} (g : State → γ) (hw : ∀ f v u, ¬ Unsent f.off → g (wr f v u) = g u)
  (hc : ∀ c u, g (State.setNet { u.net with cis := c } u) = g u) (hl : ∀ code src c data u, g (logRated code src c data u) = g u)
include hw

theorem grantTake_keep (len : Nat) (s : State) : g (grantTake len s).1 = g s := by
  unfold grantTake
  split
  · rfl
  · dsimp only
    split
    · exact hw _ _ _ (fun h => h.1 rfl)
    · rfl

/-- The cistern's own fields are not `Unsent`. -/
theorem wr_cis_keep {n k : Nat} (hk : 0 < k ∧ k < 16) {f : Fld} (hf : f.off = 0x0A0000 + k + 16 * n) (v : Nat) (u : State) : g (wr f v u) = g u :=
  hw _ _ _ fun h => by
    obtain ⟨-, h | h, -⟩ := h <;> omega

include hc in
theorem modCis_keep (n : Nat) (f : Cis → Cis) (s : State) : g (modCis n f s) = g s :=
  (wr_cis_keep g hw (n := n) (k := 4) (by decide) rfl _ _).trans (hc _ _)

include hl
theorem cisDrop_keep (n : Nat) (s : State) : g (cisDrop n s) = g s := by
  refine (hl _ _ _ _ _).trans ((wr_cis_keep g hw (n := n) (k := 8) (by decide) rfl _ _).trans ?_)
  exact wr_cis_keep g hw (n := n) (k := 12) (by decide) rfl _ _

include hc
theorem cisPut_keep (n : Nat) (p : Pkt) (s : State) : g (cisPut n p s).1 = g s := by
  unfold cisPut
  split
  · dsimp only
    rw [modCis_keep g hw hc]
    exact wr_cis_keep g hw (n := n) (k := 12) (by decide) rfl _ _
  · exact cisDrop_keep g hw hl _ _
theorem ringPut_keep (ring cls dest stream flags : Nat) (b : List Byte) (s : State) : g (ringPut ring cls dest stream flags b s).1 = g s := by
  unfold ringPut
  split
  · exact cisPut_keep g hw hc hl _ _ _
  · rfl
theorem ringToD0_keep (cls stream : Nat) (b : List Byte) (s : State) : g (ringToD0 cls stream b s).1 = g s := by
  unfold ringToD0
  dsimp only
  split
  · exact (ringPut_keep g hw hc hl _ _ _ _ _ _ _).trans (grantTake_keep g hw _ _)
  · exact (cisDrop_keep g hw hl _ _).trans (grantTake_keep g hw _ _)
theorem portPut_keep (port k : Nat) (b : List Byte) (s : State) : g (portPut port k b s).1 = g s := by
  have grant : g (if isSet s F.RNG_CFG_HEAD then grantTake b.length s else (s, true)).1 = g s := by
    split
    · exact grantTake_keep g hw _ _
    · rfl
  unfold portPut
  dsimp only
  rw [apply_ite Prod.fst]
  refine iteInduction (motive := fun t : State => g t = g s) (fun _ => ?_) fun _ => ?_
  · exact (cisPut_keep g hw hc hl _ _ _).trans grant
  · exact (cisDrop_keep g hw hl _ _).trans grant
theorem sendReply_keep (r : Req) (m : Bool) (b : List Byte) (s : State) : g (sendReply r m b s) = g s := by
  unfold sendReply
  split
  · exact ringToD0_keep g hw hc hl _ _ _ _
  · exact portPut_keep g hw hc hl _ _ _ _
end

theorem logRated_dev (code src c data : Nat) (s : State) : (logRated code src c data s).dev = s.dev := by
  have h := congrArg (fun u : State => u.dev) (logRated_beyond code src c data s)
  exact h
theorem logRated_drive (code src c data : Nat) (s : State) : (logRated code src c data s).drive = s.drive := by
  have h := congrArg (fun u : State => u.drive) (logRated_beyond code src c data s)
  exact h
theorem logRated_bst (code src c data : Nat) (s : State) : (logRated code src c data s).bst = s.bst := by
  have h := congrArg (fun u : State => u.bst) (logRated_beyond code src c data s)
  exact h
theorem logRated_net (code src c data : Nat) (s : State) : (logRated code src c data s).net = s.net := by
  have h := congrArg (fun u : State => u.net) (logRated_beyond code src c data s)
  exact h
theorem sendReply_dev (r : Req) (m : Bool) (b : List Byte) (s : State) : (sendReply r m b s).dev = s.dev :=
  sendReply_keep State.dev (fun _ _ _ _ => rfl) (fun _ _ => rfl) (fun c n k d u => logRated_dev c n k d u) r m b s
theorem sendReply_drive (r : Req) (m : Bool) (b : List Byte) (s : State) : (sendReply r m b s).drive = s.drive :=
  sendReply_keep State.drive (fun _ _ _ _ => rfl) (fun _ _ => rfl) (fun c n k d u => logRated_drive c n k d u) r m b s
theorem sendReply_bst (r : Req) (m : Bool) (b : List Byte) (s : State) : (sendReply r m b s).bst = s.bst :=
  sendReply_keep State.bst (fun _ _ _ _ => rfl) (fun _ _ => rfl) (fun c n k d u => logRated_bst c n k d u) r m b s
theorem sendReply_replies (r : Req) (m : Bool) (b : List Byte) (s : State) : (sendReply r m b s).net.replies = s.net.replies :=
  sendReply_keep (·.net.replies) (fun _ _ _ _ => rfl) (fun _ _ => rfl) (fun c n k d u => congrArg Net.replies (logRated_net c n k d u)) r m b s
theorem sendReply_reg {p : Nat} (h : Unsent p) (r : Req) (m : Bool) (b : List Byte) (s : State) : (sendReply r m b s).reg p = s.reg p :=
  sendReply_keep (·.reg p) (fun _ _ _ hf => reg_wr_other _ _ _ _ fun e => hf (e ▸ h)) (fun _ _ => rfl) (fun c n k d u => logRated_reg_below h.2.2 c n k d u) r m b s

/-! ### The reply a state makes -/

theorem coreEvent_se (b : Nat) (s : State) : (coreEvent b s).bst.se = s.bst.se := by
  unfold coreEvent
  refine each_keep (fun u : State => u.bst.se) _ ?_ _ _
  exact fun _ _ => rfl
theorem flushLog_se (s : State) : (flushLog s).bst.se = s.bst.se := by
  unfold flushLog
  split
  · rfl
  · refine (each_keep (fun u : State => u.bst.se) storeEntry (fun _ _ => rfl) _ _).trans ?_
    dsimp only
    split
    · exact coreEvent_se 6 s
    · rfl

/-- A register that `devNum` reads. -/
def NamesDevice (p : Nat) : Prop := p = A.CFG_STAT ∨ p = A.RNG_CFG ∨ p = A.RNG_ENUM
theorem unsent_of_namesDevice {p : Nat} (h : NamesDevice p) : Unsent p := by
  unfold NamesDevice at h
  unfold Unsent
  obtain rfl | rfl | rfl := h <;> decide
theorem devNum_of_regs {s t : State} (h : ∀ p, NamesDevice p → t.reg p = s.reg p) : t.devNum = s.devNum := by
  have cfg := h A.CFG_STAT (.inl rfl)
  have rng := h A.RNG_CFG (.inr (.inl rfl))
  have enum := h A.RNG_ENUM (.inr (.inr rfl))
  unfold State.devNum
  rw [isSet_of_rd (rd_of_reg (f := F.CFG_STAT_LOADED) cfg), rd_of_reg (f := F.RNG_CFG_DEVNUM) rng, isSet_of_rd (rd_of_reg (f := F.RNG_ENUM_VALIDA) enum),
    isSet_of_rd (rd_of_reg (f := F.RNG_ENUM_VALIDB) enum), rd_of_reg (f := F.RNG_ENUM_POSA) enum, rd_of_reg (f := F.RNG_ENUM_POSB) enum]
/-- A reply is made from the device's number, its stride count and its key. -/
theorem replyFrame_of_same {s t : State} (hd : t.devNum = s.devNum) (hc : t.dev = s.dev) (hk : t.bst.se = s.bst.se) (r : Req) (st : Nat) (b : List Byte) :
    replyFrame t r st b = replyFrame s r st b := by
  unfold replyFrame
  rw [hd, hc, hk]

theorem reply_dev (r : Req) (m : Bool) (st : Nat) (b : List Byte) (s : State) : (reply r m st b s).dev = s.dev := sendReply_dev _ _ _ _
theorem reply_drive (r : Req) (m : Bool) (st : Nat) (b : List Byte) (s : State) : (reply r m st b s).drive = s.drive := sendReply_drive _ _ _ _
/-- What `reply` keeps as the last reply is the frame that the state still makes when the command ends. -/
theorem replied_reply (r : Req) (m : Bool) (st : Nat) (b : List Byte) (s : State) : Replied r st b (flushLog (reply r m st b s)) := by
  have same : replyFrame (flushLog (reply r m st b s)) r st b = replyFrame s r st b := by
    refine replyFrame_of_same (devNum_of_regs fun p hp => ?_) ?_ ?_ r st b
    · have hu := unsent_of_namesDevice hp
      rw [flushLog_reg_below hu.2.2]
      exact sendReply_reg hu _ _ _ _
    · rw [flushLog_dev, reply_dev]
    · rw [flushLog_se]
      exact congrArg Cores.se (sendReply_bst _ _ _ _)
  unfold Replied
  rw [same, flushLog_net]
  exact congrArg List.head? (sendReply_replies _ _ _ _)

/-! ### A request accepted -/

/-- A request that passes every check is served (R301 to R305). -/
theorem hostRequest_accepted {typ : Nat} {r : Req} {body : List Byte} {s : State} (h : Accepted typ r body s) (serve : State → State) :
    hostRequest typ r body serve s = done (serve (accepted r s)) := by
  obtain ⟨ha, hd, hr, hm, hf, hn⟩ := h
  unfold hostRequest
  rw [if_neg (not_not_intro ha), if_neg (not_not_intro hd), if_neg (by rcases hr with h | h <;> simp [h]), if_neg (not_not_intro hm),
    if_neg (not_not_intro hf), if_neg (not_not_intro hn)]
  rfl
/-- The state in which an accepted mode request is served: event 3 raised. -/
def moded (r : Req) (s : State) : State := coreEvent 3 (accepted r s)
theorem moded_reg (r : Req) (s : State) (p : Nat) : (moded r s).reg p = s.reg p := reg_of_regs (coreEvent_regs 3 _) p
theorem moded_dev (r : Req) (s : State) : (moded r s).dev = s.dev := by
  have h := congrArg (fun u : State => u.dev) (coreEvent_beyond 3 (accepted r s))
  exact h
theorem moded_drive (r : Req) (s : State) : (moded r s).drive = s.drive := by
  have h := congrArg (fun u : State => u.drive) (coreEvent_beyond 3 (accepted r s))
  exact h
theorem moded_sleepReq (r : Req) (s : State) : (moded r s).net.sleepReq = s.net.sleepReq := by
  have h := congrArg (fun u : State => u.net.sleepReq) (coreEvent_beyond 3 (accepted r s))
  exact h
/-- A mode request served by its KIND (R306). -/
def modeServed (r : Req) (kind : Nat) (req : Byte) (mask : Word) (s : State) : State :=
  match kind with
  | 1 => serveService r s
  | 2 => serveSleep r s
  | 3 => serveAxes r req mask s
  | _ => reply r false 2 [] s
theorem modeServed_unlisted {kind : Nat} (hk : kind = 0 ∨ 4 ≤ kind) (r : Req) (req : Byte) (mask : Word) (s : State) :
    modeServed r kind req mask s = reply r false 2 [] s := by
  unfold modeServed
  split
  any_goals omega
  rfl
theorem modeRequest_accepted {r : Req} {kind : Byte} {k : Nat} (hk : kind.toNat = k) {req : Byte} {mask : Word} {s : State}
    (h : Accepted 2 r (modeBody k req mask) s) : modeRequest r kind req mask s = done (modeServed r k req mask (moded r s)) := by
  unfold modeRequest
  rw [hk, hostRequest_accepted h]
  rfl
theorem serviceRequest_accepted {r : Req} {s : State} (h : Accepted 2 r (modeBody 1 0 0) s) :
    exec (.serviceRequest r) s = done (serveService r (moded r s)) := modeRequest_accepted rfl h
theorem sleepRequest_accepted {r : Req} {s : State} (h : Accepted 2 r (modeBody 2 0 0) s) :
    exec (.sleepRequest r) s = done (serveSleep r (moded r s)) := modeRequest_accepted rfl h
theorem axesModeRequest_accepted {r : Req} {req : Byte} {mask : Word} {s : State} (h : Accepted 2 r (modeBody 3 req mask) s) :
    exec (.axesModeRequest r ⟨3, req⟩ mask) s = done (serveAxes r req mask (moded r s)) := modeRequest_accepted rfl h
theorem unlistedRequest_accepted {r : Req} {kind req : Byte} {mask : Word} {s : State} (h : Accepted 2 r (modeBody kind.toNat req mask) s)
    (hk : kind = 0 ∨ 4 ≤ kind.toNat) : exec (.axesModeRequest r ⟨kind, req⟩ mask) s = done (reply r false 2 [] (moded r s)) :=
  (modeRequest_accepted rfl h).trans (congrArg done (modeServed_unlisted (hk.imp_left (congrArg BitVec.toNat)) _ _ _ _))
/-- A CMAC that is not right counted and logged (R304). -/
def macCounted (r : Req) (s : State) : State :=
  let s := bumpSat F.ETH_AUTHSTAT_MACFAIL s
  logRated 0x0809 r.port 1 (rd s F.ETH_AUTHSTAT_MACFAIL) s
theorem macRefused {typ : Nat} {r : Req} {body : List Byte} {s : State} (ha : arrives s r = true) (hd : r.dev.toNat = s.devNum)
    (hr : romDefault s = false) (hm : macOk s typ r body = false) (serve : State → State) :
    hostRequest typ r body serve s = done (macCounted r s) := by
  unfold hostRequest
  rw [if_neg (not_not_intro ha), if_neg (not_not_intro hd), if_neg (by simp [hr]), if_pos (by simp [hm])]
  rfl

theorem serviceRequest_macRefused {r : Req} {s : State} (ha : arrives s r = true) (hd : r.dev.toNat = s.devNum) (hr : romDefault s = false)
    (hm : macOk s 2 r (modeBody 1 0 0) = false) : exec (.serviceRequest r) s =
      done (macCounted r s) := by
  have one : (1 : Byte).toNat = 1 := rfl
  change modeRequest r 1 0 0 s = _
  unfold modeRequest
  rw [one, macRefused ha hd hr hm]

theorem serviceOk_moded (r : Req) (s : State) : serviceOk (moded r s) = serviceOk s := by
  unfold serviceOk pairMode isSet rd
  simp only [moded_reg, moded_dev]

/-! ### Requests of the axes (R179) -/

section
variable {s t : State} (h : ∀ a < 32, t.reg (A.LE_AX_CFG a) = s.reg (A.LE_AX_CFG a))
include h
theorem axType_of_cfg {a : Nat} (ha : a < 32) : axType t a = axType s a := rd_of_reg (f := F.LE_AX_CFG_TYPE a) (h a ha)
theorem exciterOf_of_cfg {a : Nat} (ha : a < 32) : exciterOf t a = exciterOf s a := by
  unfold exciterOf
  rw [axType_of_cfg h ha, rd_of_reg (f := F.LE_AX_CFG_MACH a) (h a ha), rd_of_reg (f := F.LE_AX_CFG_LINK a) (h a ha)]
theorem teamAxes_of_cfg {m : Nat} (hm : m < 8) : teamAxes t m = teamAxes s m := by
  unfold teamAxes
  refine List.filter_congr fun a ha => ?_
  obtain ⟨i, hi, rfl⟩ := List.mem_map.mp ha
  rw [axType_of_cfg h (by have := List.mem_range.mp hi; omega)]
theorem statorOf_of_cfg {a : Nat} (ha : a < 32) : statorOf t a = statorOf s a := by
  unfold statorOf
  dsimp only
  rw [axType_of_cfg h ha, teamAxes_of_cfg h (by omega)]
  rw [List.find?_congr fun b hb => by rw [exciterOf_of_cfg h (teamAxes_lt (by omega) hb)]]
end

/-- Axis a is in use and takes a request of its own (R179). -/
def TakesRequest (s : State) (a : Nat) : Prop := (axType s a ≠ 0 ∧ a < s.nAxes) ∧ axType s a ≠ 7 ∧ statorOf s a = none

theorem modeWrite_reg {p : Nat} (h : p < 0x0F0000) {a : Nat} (ha : p ≠ A.LE_AX_MODE a) (req : Nat) (s : State) : (modeWrite a req s).reg p = s.reg p := by
  unfold modeWrite
  dsimp only
  split
  · rfl
  · split
    · unfold modeRefused
      exact logFault_reg_below h _ _ _ _ _
    · rw [modAx_reg]
      exact reg_wr_other _ _ _ _ ha
theorem modeWrite_cfg (a req : Nat) (s : State) : ∀ b < 32, (modeWrite a req s).reg (A.LE_AX_CFG b) = s.reg (A.LE_AX_CFG b) := fun b hb =>
  modeWrite_reg (by unfold A.LE_AX_CFG; omega) (by unfold A.LE_AX_CFG A.LE_AX_MODE; omega) req s
theorem modeWrite_dev (a req : Nat) (s : State) : (modeWrite a req s).dev = s.dev := by
  unfold modeWrite
  dsimp only
  split
  · rfl
  · split
    · unfold modeRefused
      exact logFault_dev _ _ _ _ _
    · rfl
theorem takesRequest_of_same {s t : State} (hc : ∀ b < 32, t.reg (A.LE_AX_CFG b) = s.reg (A.LE_AX_CFG b)) (hd : t.dev = s.dev) {a : Nat} (ha : a < 32) :
    TakesRequest t a ↔ TakesRequest s a := by
  unfold TakesRequest State.nAxes State.nTeams
  rw [axType_of_cfg hc ha, statorOf_of_cfg hc ha, hd]
/-- An axis that takes a request has it written. -/
theorem modeWrite_takes {s : State} {a : Nat} (h : TakesRequest s a) (req : Nat) : ((modeWrite a req s).ax a).req = some (req % 8) := by
  obtain ⟨⟨h0, hn⟩, h7, hs⟩ := h
  unfold modeWrite
  dsimp only
  rw [if_neg (by omega), if_neg (by simp [h7, hs]), ax_modAx, if_pos rfl]
/-- A request written for one axis leaves the same request waiting in every other. -/
theorem modeWrite_holds {s : State} {a req : Nat} (h : (s.ax a).req = some (req % 8)) (b : Nat) : ((modeWrite b req s).ax a).req = some (req % 8) := by
  unfold modeWrite
  dsimp only
  split
  · exact h
  · split
    · unfold State.ax modeRefused at *
      rw [logFault_drive]
      exact h
    · rw [ax_modAx]
      split
      · rfl
      · exact h
theorem each_of_mem_ind {α : Type} {P : State → Prop} {l : List α} (f : α → State → State) (hf : ∀ x ∈ l, ∀ u, P u → P (f x u)) {s : State} (h : P s) :
    P (each f l s) := by
  induction l generalizing s with
  | nil => exact h
  | cons x l ih => exact ih (fun y hy => hf y (List.mem_cons_of_mem _ hy)) (hf x List.mem_cons_self s h)
/-- What the application to one element of a list brings about, and every other keeps, holds when the list is through. -/
theorem each_of_mem {α : Type} {f : α → State → State} {P Q : State → Prop} {a : α} {l : List α} (brings : ∀ s, Q s → P (f a s))
    (keeps : ∀ b ∈ l, ∀ s, P s → P (f b s)) (waits : ∀ b ∈ l, ∀ s, Q s → Q (f b s)) {s : State} (hm : a ∈ l) (hq : Q s) : P (each f l s) := by
  induction l generalizing s with
  | nil => exact absurd hm List.not_mem_nil
  | cons b l ih =>
    have keeps' : ∀ c ∈ l, ∀ s, P s → P (f c s) := fun c hc => keeps c (List.mem_cons_of_mem b hc)
    rw [each]
    rcases List.mem_cons.mp hm with rfl | hm
    · exact each_of_mem_ind f keeps' (brings s hq)
    · exact ih keeps' (fun c hc => waits c (List.mem_cons_of_mem b hc)) hm (waits b List.mem_cons_self s hq)
theorem modeWrites_takes {a : Nat} (ha : a < 32) (req : Nat) {l : List Nat} {s : State} (hm : a ∈ l) (ht : TakesRequest s a) :
    ((each (fun b => modeWrite b req) l s).ax a).req = some (req % 8) :=
  each_of_mem (f := fun b => modeWrite b req) (P := fun u => (u.ax a).req = some (req % 8)) (Q := fun u => TakesRequest u a) (fun _ h => modeWrite_takes h req)
    (fun b _ _ h => modeWrite_holds h b) (fun b _ u h => (takesRequest_of_same (modeWrite_cfg b req u) (modeWrite_dev b req u) ha).mpr h) hm ht

theorem modeNone_moded (r : Req) (s : State) (mask : Word) : modeNone (moded r s) mask = modeNone s mask := by
  unfold modeNone axType State.nAxes State.nTeams rd
  simp only [moded_reg, moded_dev]
/-- Where a mask names axes in use alone, each of them is. -/
theorem inUse_of_modeNone {s : State} {mask : Word} (h : modeNone s mask = []) {a : Nat} (ha : a < 32) (hm : bit mask.toNat a = true) :
    axType s a ≠ 0 ∧ a < s.nAxes := by
  have := List.filter_eq_nil_iff.mp h a (mem_bitsOf.mpr ⟨ha, hm⟩)
  simpa using this

theorem bit_pow {a : Nat} (ha : a < 32) : bit (BitVec.ofNat 32 (2 ^ a)).toNat a = true := by
  rw [BitVec.toNat_ofNat, Nat.mod_eq_of_lt (Nat.pow_lt_pow_right (by decide) ha), bit, Nat.div_self (Nat.two_pow_pos a)]
  rfl
/-- What an accepted axes request of a REQ that exists leaves behind. -/
theorem serveAxes_listed {req : Byte} (h : req.toNat ≤ 4) (r : Req) (mask : Word) (s : State) {st : Nat}
    (hs : (if modeNone s mask ≠ [] ∧ req ≠ 0 then 4 else 0) = st) :
    serveAxes r req mask s = reply r false st [] (each (fun a => modeWrite a req.toNat) (bitsOf mask.toNat 32) s) := by
  unfold serveAxes
  dsimp only
  rw [if_neg (by omega), if_neg (by omega), hs]
theorem serveAxes_req {req : Byte} (h : req.toNat ≤ 4) {r : Req} {mask : Word} {s : State} {st : Nat} {a : Nat} (ha : a < 32)
    (hm : bit mask.toNat a = true) (ht : TakesRequest s a) :
    ((flushLog (reply r false st [] (each (fun a => modeWrite a req.toNat) (bitsOf mask.toNat 32) (moded r s)))).ax a).req = some req.toNat := by
  have taken := modeWrites_takes ha req.toNat (l := bitsOf mask.toNat 32) (s := moded r s) (mem_bitsOf.mpr ⟨ha, hm⟩)
    ((takesRequest_of_same (fun b _ => moded_reg r s _) (moded_dev r s) ha).mpr ht)
  unfold State.ax at taken ⊢
  rw [flushLog_drive, reply_drive, taken, Nat.mod_eq_of_lt (by omega)]

/-- Settles O40: what serves a request reaches its registers and its state, and the reply sent afterwards moves only the cisterns, the grant and the
log. -/
theorem modeRequestsAreServed : Obligations.ModeRequestsAreServed := by
  unfold Obligations.ModeRequestsAreServed
  refine ⟨fun r s h ok => ⟨_, serviceRequest_accepted h, ?_⟩, fun r s h ok => ⟨_, serviceRequest_accepted h, ?_⟩, fun r req mask s h hq hm => ?_,
    fun r req mask s h h1 hq hm => ?_, fun r mask s h hm => ?_, fun r req mask s h hq => ?_,
    fun r kind req mask s h hk => ⟨_, unlistedRequest_accepted h hk, replied_reply _ _ _ _ _⟩,
    fun r s h => ⟨_, sleepRequest_accepted h, ?_⟩, fun r s ha hd hr hm => ⟨_, serviceRequest_macRefused ha hd hr hm, ?_, ?_, ?_⟩⟩
  · rw [serveService, if_pos ((serviceOk_moded r s).trans ok)]
    exact ⟨by rw [flushLog_dev, reply_dev, setSt_st], replied_reply _ _ _ _ _⟩
  · rw [serveService, if_neg (by rw [serviceOk_moded, ok]; decide)]
    exact ⟨by rw [flushLog_dev, reply_dev, moded_dev], replied_reply _ _ _ _ _⟩
  · rw [Completes, axesModeRequest_accepted h, serveAxes_listed hq r mask _ (st := 0) (if_neg fun e => e.1 ((modeNone_moded r s mask).trans hm))]
    exact ⟨_, rfl, replied_reply _ _ _ _ _, fun a ha hb h7 hst => serveAxes_req hq ha hb ⟨inUse_of_modeNone hm ha hb, h7, hst⟩⟩
  · have req0 : req ≠ 0 := by
      rintro rfl
      exact absurd h1 (by decide)
    rw [Completes, axesModeRequest_accepted h, serveAxes_listed hq r mask _ (st := 4) (if_pos ⟨by rw [modeNone_moded]; exact hm, req0⟩)]
    exact ⟨_, rfl, replied_reply _ _ _ _ _⟩
  · rw [Completes, axesModeRequest_accepted h, serveAxes_listed (by decide) r mask _ (st := 0) (if_neg fun e => e.2 rfl)]
    refine ⟨_, rfl, replied_reply _ _ _ _ _, fun a ha hb hn h7 hst => ?_⟩
    exact serveAxes_req (req := 0) (by decide) ha hb ⟨inUse_of_modeNone hn ha (bit_pow ha), h7, hst⟩
  · rw [Completes, axesModeRequest_accepted h, serveAxes]
    refine ⟨_, rfl, ?_⟩
    split
    next =>
      refine ⟨replied_reply _ _ _ _ _, fun _ a _ => ?_⟩
      unfold State.ax
      rw [flushLog_drive, reply_drive, moded_drive]
    next h8 =>
      dsimp only
      exact ⟨replied_reply _ _ _ _ _, fun h => absurd h h8⟩
  · dsimp only
    rw [flushLog_net]
    exact congrArg (· ++ [r]) (moded_sleepReq r s)
  · rw [flushLog_dev, macCounted, logRated_dev]
    rfl
  · rw [flushLog_net, macCounted, logRated_net]
    rfl
  · rw [rd_flushLog (by decide), macCounted, rd_of_reg (logRated_reg_below (by decide) _ _ _ _ _), bumpSat, rd_wr_same _ _ _ (by decide)]
    exact Nat.mod_eq_of_lt (Nat.lt_of_le_of_lt (satAdd_le _ _ _) (by decide))

end Sys2Proof.Machine
end

section
/-! ## Identity records, and the ends of IDENTIFY and of SYNC (R34, R37, R140, R225, R355, R359, R360) -/
namespace Sys2Proof.Machine
open Sys2Proof

/-! ### A record judged -/

theorem field_lt (bs : List Byte) (o n : Nat) : field bs o n < 256 ^ n :=
  Nat.lt_of_lt_of_le (leNat_lt _) (Nat.pow_le_pow_right (by decide) ((List.length_take_le ..)))
theorem all_congr_mem {α : Type} {l : List α} {p q : α → Bool} (h : ∀ a ∈ l, p a = q a) : l.all p = l.all q := by
  rw [Bool.eq_iff_iff, List.all_eq_true, List.all_eq_true]
  exact forall₂_congr fun a ha => by rw [h a ha]

theorem axLegs_lt {s : State} {a l : Nat} (ha : a < 32) (h : l ∈ axLegs s a) : l < 100 := by
  simp only [axLegs, List.mem_map, List.mem_range] at h
  omega

section
variable {s t : State} (hi : t.cfg.ident = s.cfg.ident) (hr : ∀ p < 0x0B0000, t.reg p = s.reg p)

section
include hr
theorem rd_below {f : Fld} (h : f.off < 0x0B0000) : rd t f = rd s f := rd_of_reg (hr _ h)
theorem axLegs_of_same {a : Nat} (ha : a < 32) : axLegs t a = axLegs s a := by
  have below : A.LE_AX_LEGS a < 0x0B0000 := by unfold A.LE_AX_LEGS; omega
  unfold axLegs
  rw [rd_below hr (f := F.LE_AX_LEGS_NLEG a) below, rd_below hr (f := F.LE_AX_LEGS_LEG0_LEG5 a) below]
end

include hi
theorem identEntry_of_ident (k : Nat) : identEntry t k = identEntry s k := by unfold identEntry; rw [hi]
theorem identMask_of_ident (k : Nat) : identMask t k = identMask s k := by unfold identMask; rw [identEntry_of_ident hi]
include hr
/-- The uses of a record read no register of the identity memories themselves. -/
theorem recUses_of_same (k : Nat) (r : List Byte) : recUses t k r = recUses s k r := by
  have hn : field (identEntry s k) 0x24 1 < 256 := field_lt _ _ _
  unfold recUses
  dsimp only
  rw [identEntry_of_ident hi, identMask_of_ident hi]
  generalize field (identEntry s k) 0x24 1 = n at hn
  split
  · refine all_congr_mem fun a ha => ?_
    have ha : a < 32 := (mem_bitsOf.mp ha).1
    rw [axLegs_of_same hr ha]
    refine all_congr_mem fun l hl => ?_
    have hl := axLegs_lt ha hl
    rw [rd_below hr (f := F.MOD_LEG_CFG_DT l) (by unfold F.MOD_LEG_CFG_DT A.MOD_LEG_CFG; dsimp only; omega)]
  · refine all_congr_mem fun a ha => ?_
    have ha : a < 32 := (mem_bitsOf.mp ha).1
    have cfg : A.LE_AX_CFG a < 0x0B0000 := by unfold A.LE_AX_CFG; omega
    have motor : A.LE_AX_MOTOR a < 0x0B0000 := by unfold A.LE_AX_MOTOR; omega
    unfold axType
    rw [rd_below hr (f := F.LE_AX_CFG_TYPE a) cfg, rd_below hr (f := F.LE_AX_MOTOR_POLEP a) motor]
  · have base : 0x030000 + 256 * n + 256 ≤ 0x0B0000 := by omega
    rw [rd_below hr (f := F.POS_IF_CFG_MODE n) (by unfold F.POS_IF_CFG_MODE A.POS_IF_CFG; dsimp only; omega),
      rd_below hr (f := F.POS_IF_CPR_CPR n) (by unfold F.POS_IF_CPR_CPR A.POS_IF_CPR; dsimp only; omega),
      rd_below hr (f := F.POS_IF_RES1_RPOLE n) (by unfold F.POS_IF_RES1_RPOLE A.POS_IF_RES1; dsimp only; omega),
      rd_below hr (f := F.POS_IF_RES1_RESBITS n) (by unfold F.POS_IF_RES1_RESBITS A.POS_IF_RES1; dsimp only; omega)]
  · rfl
theorem recJudge_of_same (k : Nat) (r : List Byte) : recJudge t k r = recJudge s k r := by
  unfold recJudge
  rw [identEntry_of_ident hi, recUses_of_same hi hr]
end

theorem recJudge_lt (s : State) (k : Nat) (r : List Byte) : recJudge s k r < 16 := by
  unfold recJudge
  dsimp only
  repeat' split
  all_goals decide

/-! ### A record stored -/

/-- The words of a record shown. -/
def recStored (k : Nat) (r : List Byte) (s : State) : State := upto (fun i s => wr (F.IDM_REC_DATA_DATA k i) (field r (4 * i) 4) s) 64 s
theorem recStored_reg {p : Nat} (h : p < 0x0B4000) (k : Nat) (r : List Byte) (s : State) : (recStored k r s).reg p = s.reg p := by
  refine upto_keep (fun u : State => u.reg p) _ (fun i u => ?_) _ _
  exact reg_wr_other _ _ _ _ (Nat.ne_of_lt (show p < A.IDM_REC_DATA k i by unfold A.IDM_REC_DATA; omega))
theorem recStored_cfg (k : Nat) (r : List Byte) (s : State) : (recStored k r s).cfg = s.cfg := by
  refine upto_keep (fun u : State => u.cfg) _ (fun i u => ?_) _ _
  rfl
theorem recStored_data {i : Nat} (h : i < 64) (k : Nat) (r : List Byte) (s : State) : rd (recStored k r s) (F.IDM_REC_DATA_DATA k i) = field r (4 * i) 4 := by
  have at_i : (recStored k r s).reg (A.IDM_REC_DATA k i) =
      (wr (F.IDM_REC_DATA_DATA k i) (field r (4 * i) 4) (upto (fun i s => wr (F.IDM_REC_DATA_DATA k i) (field r (4 * i) 4) s) i s)).reg (A.IDM_REC_DATA k i) :=
    upto_reg_at _ s 64 h fun j _ hj u => reg_wr_other _ _ _ _ (show A.IDM_REC_DATA k i ≠ A.IDM_REC_DATA k j by unfold A.IDM_REC_DATA; omega)
  rw [rd_of_reg (f := F.IDM_REC_DATA_DATA k i) at_i, rd_wr_same _ (F.IDM_REC_DATA_DATA k i) _ (Nat.le_refl 32)]
  exact Nat.mod_eq_of_lt (field_lt _ _ _)

theorem recData_ne_recStat (k : Fin 64) (j i : Nat) : A.IDM_REC_DATA j i ≠ A.IDM_REC_STAT k := by
  unfold A.IDM_REC_DATA A.IDM_REC_STAT
  omega
theorem recRead_some {r : List Byte} (h : r.length = 256) (k : Nat) (s : State) : recRead k (some r) s =
    wr (F.IDM_REC_STAT_RSN k) (recJudge (recStored k r s) k r) (wr (F.IDM_REC_STAT_CLASS k) (field r 4 2) (recStored k r s)) := by
  have all : r.take 256 = r := List.take_of_length_le (Nat.le_of_eq h)
  unfold recRead
  dsimp only [Option.getD_some]
  rw [all]
  rfl
theorem recRead_rsn_none (k : Nat) (s : State) : rd (recRead k none s) (F.IDM_REC_STAT_RSN k) = 2 := rd_wr_same _ _ _ (show 1 + 4 ≤ 32 by decide)

section
variable {r : List Byte} (h : r.length = 256) (k : Fin 64) (s : State)
include h
theorem recRead_rsn : rd (recRead k (some r) s) (F.IDM_REC_STAT_RSN k) = recJudge s k r := by
  rw [recRead_some h, rd_wr_same _ _ _ (show 1 + 4 ≤ 32 by decide),
    recJudge_of_same (congrArg Cfg.ident (recStored_cfg k r s)) (fun p hp => recStored_reg (by omega) k r s)]
  exact Nat.mod_eq_of_lt (recJudge_lt s k r)
theorem recRead_class : rd (recRead k (some r) s) (F.IDM_REC_STAT_CLASS k) = field r 4 2 := by
  rw [recRead_some h, rd_wr_disj _ (F.IDM_REC_STAT_RSN k) (F.IDM_REC_STAT_CLASS k) _ (show 1 + 4 ≤ 32 by decide) (Nat.le_refl 32) (.inl (show 1 + 4 ≤ 16 by decide)),
    rd_wr_same _ (F.IDM_REC_STAT_CLASS k) _ (Nat.le_refl 32)]
  exact Nat.mod_eq_of_lt (field_lt _ _ _)
theorem recRead_data {i : Nat} (hi : i < 64) : rd (recRead k (some r) s) (F.IDM_REC_DATA_DATA k i) = field r (4 * i) 4 := by
  have off := recData_ne_recStat k k i
  rw [recRead_some h, rd_wr_off _ _ _ _ off, rd_wr_off _ _ _ _ off, recStored_data hi]
end

/-! ### A record that fails -/

theorem setLock_regs (a r : Nat) (s : State) : (setLock a r s).regs = s.regs := by
  unfold setLock
  split <;> rfl
/-- The registers of the identity memories lie beside those that an axis reacts with. -/
theorem besideAxes_ident {p : Nat} (h : 0x0B0000 ≤ p) : BesideAxes p := fun a ha => by
  unfold A.LE_AX_STATE A.MOD_AX_STAT A.SAF_AX_FLT
  omega
theorem recFail_reg {p : Nat} (h : 0x0B0000 ≤ p) (h' : p < 0x0F0000) (k : Nat) (s : State) : (recFail k s).reg p = s.reg p := by
  unfold recFail axFault
  dsimp only
  rw [reg_of_regs (each_regs _ _ _ fun a u => setLock_regs a 1 u)]
  refine (each_reg_of_mem _ _ _ fun a ha u => blockReact_reg (besideAxes_ident h) (mem_bitsOf.mp ha).1 false 7 u).trans ?_
  exact logFault_reg_below h' _ _ _ _ _

/-! ### The commands that read a record (R355) -/

/-- The bus of record k. -/
def recBus (s : State) (k : Nat) : Nat := field (identEntry s k) 0 1
/-- Record k read over the time w, a late answer being none. -/
def recordRead (k : Nat) (answer : Option (List Byte)) (w : ReadTime) (s : State) : State :=
  recRead k (if recLate s (recBus s k) w then none else answer)
    (s.setCfg { s.cfg with busEnd := tset (fun _ => 0) s.cfg.busEnd (recBus s k) w.endUs })

/-- What follows a first read: a failure that is final (R360). -/
def firstJudged (k : Nat) (s : State) : State := if rd s (F.IDM_REC_STAT_RSN k) = 1 ∨ mayReread s k then s else recFail k s
/-- What follows a second read: its entry, and a failure (R360). -/
def secondJudged (k : Nat) (s : State) : State :=
  if rd s (F.IDM_REC_STAT_RSN k) = 1 then logFault 0x0B05 k 0 1 s else recFail k (logFault 0x0B05 k 0 2 s)
section
variable {p : Nat} (h : 0x0B0000 ≤ p) (h' : p < 0x0F0000)
include h h'
theorem firstJudged_reg (k : Nat) (s : State) : (firstJudged k s).reg p = s.reg p := by
  unfold firstJudged
  split
  · rfl
  · exact recFail_reg h h' k s
theorem secondJudged_reg (k : Nat) (s : State) : (secondJudged k s).reg p = s.reg p := by
  unfold secondJudged
  split
  · exact logFault_reg_below h' _ _ _ _ _
  · exact (recFail_reg h h' k _).trans (logFault_reg_below h' _ _ _ _ _)
end

section
variable {k : Fin 64} {w : ReadTime} {s : State} (hst : s.dev.st = .identify) (hk : k.val < identCount s)
  (hb : tget (fun _ => 0) s.cfg.busEnd (recBus s k) ≤ w.startUs) (hw : w.startUs ≤ w.endUs)
include hst hk hb hw

theorem identityRead_met :
    ¬ (s.dev.st ≠ .identify ∨ ¬ k.val < identCount s ∨ w.startUs < tget (fun _ => 0) s.cfg.busEnd (recBus s k) ∨ w.endUs < w.startUs) := by
  rintro (h | h | h | h)
  exacts [h hst, h hk, absurd h (Nat.not_lt.mpr hb), absurd h (Nat.not_lt.mpr hw)]
theorem identityRead_first (h0 : rd s (F.IDM_REC_STAT_RSN k) = 0) (hd : busRead s (recBus s k) k = true) (answer : Option (List Byte)) :
    exec (.identityRead k answer w) s = done (firstJudged k (recordRead k answer w s)) := by
  have met := identityRead_met hst hk hb hw
  unfold recBus at met hd
  change execIdentityRead k answer w s = _
  unfold execIdentityRead
  dsimp only
  rw [if_neg met, if_pos h0, if_pos hd]
  rfl
theorem identityRead_second (hm : mayReread s k = true) (hd : busRead s (recBus s k) (identCount s) = true) (hl : w.endUs ≤ 50000)
    (answer : Option (List Byte)) :
    exec (.identityRead k answer w) s = done (secondJudged k (wr (F.IDM_REC_STAT_REREAD k) 1 (recordRead k answer w s))) := by
  have seen : rd s (F.IDM_REC_STAT_RSN k) ≠ 0 := fun h => by simp [mayReread, h] at hm
  have met := identityRead_met hst hk hb hw
  unfold recBus at met hd
  change execIdentityRead k answer w s = _
  unfold execIdentityRead
  dsimp only
  rw [if_neg met, if_neg seen, if_pos ⟨hm, hd, hl⟩]
  unfold secondJudged
  exact (apply_ite done _ _ _).symm
end

theorem recordRead_none {k : Nat} {answer : Option (List Byte)} {w : ReadTime} {s : State} (h : answer = none ∨ recLate s (recBus s k) w = true) :
    rd (recordRead k answer w s) (F.IDM_REC_STAT_RSN k) = 2 := by
  have : (if recLate s (recBus s k) w then none else answer) = none := by
    split
    · rfl
    · exact h.resolve_right (by assumption)
  rw [recordRead, this]
  exact recRead_rsn_none _ _

section
variable {r : List Byte} {k : Fin 64} {w : ReadTime} {s : State} (hl : recLate s (recBus s k) w = false) (hr : r.length = 256)
include hl hr
theorem recordRead_rsn : rd (recordRead k (some r) w s) (F.IDM_REC_STAT_RSN k) = recJudge s k r := by
  rw [recordRead, if_neg (by simp [hl]), recRead_rsn hr]
  exact recJudge_of_same rfl (fun _ _ => rfl) k r
theorem recordRead_class : rd (recordRead k (some r) w s) (F.IDM_REC_STAT_CLASS k) = field r 4 2 := by
  rw [recordRead, if_neg (by simp [hl]), recRead_class hr]
theorem recordRead_data {i : Nat} (hi : i < 64) : rd (recordRead k (some r) w s) (F.IDM_REC_DATA_DATA k i) = field r (4 * i) 4 := by
  rw [recordRead, if_neg (by simp [hl]), recRead_data hr k _ hi]
end

/-! ### The end of IDENTIFY -/

theorem trainStart_dev (h : Nat) (s : State) : (trainStart h s).dev = s.dev := by
  unfold trainStart
  split <;> rfl
/-- The hops start training where the rings run (R286). -/
def hopsTrained (s : State) : State := if ringRuns s then each trainStart [0, 1] s else s
theorem hopsTrained_dev (s : State) : (hopsTrained s).dev = s.dev := by
  unfold hopsTrained
  split
  · exact each_keep State.dev trainStart trainStart_dev _ _
  · rfl
theorem identifyComplete_ends {s : State} (hst : s.dev.st = .identify)
    (hd : ∀ t < s.nTeams, isSet s (F.MOD_DSPI_CFG_EN t) = true → isSet s (F.MOD_DSPI_STAT_DONE t) = true)
    (hr : ∀ k < identCount s, rd s (F.IDM_REC_STAT_RSN k) ≠ 0) :
    ∃ u, exec .identifyComplete s = done (hopsTrained (setSt .sync (startTimebase u))) := by
  refine ⟨_, (if_neg ?_).trans rfl⟩
  rintro (h | h | h)
  · exact h hst
  · refine h (List.all_eq_true.mpr fun t ht => ?_)
    have := hd t (List.mem_range.mp ht)
    unfold imp
    revert this
    cases isSet s (F.MOD_DSPI_CFG_EN t) <;> simp
  · refine h (List.all_eq_true.mpr fun k hk => ?_)
    simpa using hr k (List.mem_range.mp hk)

/-- A register of the identity memories. -/
def InIdent (p : Nat) : Prop := 0x0B0000 ≤ p ∧ p < 0x0F0000
theorem inIdent_stat (k : Fin 64) : InIdent (A.IDM_REC_STAT k) := by
  unfold InIdent A.IDM_REC_STAT
  omega
theorem inIdent_data (k : Fin 64) {i : Nat} (h : i < 64) : InIdent (A.IDM_REC_DATA k i) := by
  unfold InIdent A.IDM_REC_DATA
  omega
theorem rd_firstJudged {f : Fld} (h : InIdent f.off) (k : Nat) (s : State) : rd (flushLog (firstJudged k s)) f = rd s f :=
  rd_of_reg ((flushLog_reg_below h.2 _).trans (firstJudged_reg h.1 h.2 k s))
theorem rd_secondJudged {f : Fld} (h : InIdent f.off) (k : Nat) (s : State) : rd (flushLog (secondJudged k s)) f = rd s f :=
  rd_of_reg ((flushLog_reg_below h.2 _).trans (secondJudged_reg h.1 h.2 k s))

/-! ### A device without a reaction in course keeps the states of its axes -/

/-- No axis is in the course of a reaction. -/
def Unreacted (s : State) : Prop := ∀ a < 32, (s.ax a).taken = none
/-- From such a device s the state t is another with the states of the axes and the device record as they were. -/
def StatesKept (s t : State) : Prop :=
  Unreacted s → Unreacted t ∧ t.dev = s.dev ∧ ∀ a < 32, t.reg (A.LE_AX_STATE a) = s.reg (A.LE_AX_STATE a)

theorem StatesKept.refl (s : State) : StatesKept s s := fun hs => ⟨hs, rfl, fun _ _ => rfl⟩
theorem StatesKept.trans {s t u : State} (h : StatesKept t u) (h' : StatesKept s t) : StatesKept s u := fun hs => by
  obtain ⟨ht, hd, hr⟩ := h' hs
  obtain ⟨hu, hd', hr'⟩ := h ht
  exact ⟨hu, hd'.trans hd, fun a ha => (hr' a ha).trans (hr a ha)⟩
theorem statesKept_each {α : Type} {f : α → State → State} {l : List α} (h : ∀ x ∈ l, ∀ u, StatesKept u (f x u)) (s : State) :
    StatesKept s (each f l s) := by
  induction l generalizing s with
  | nil => exact .refl s
  | cons x l ih => exact (ih (fun y hy => h y (List.mem_cons_of_mem _ hy)) (f x s)).trans (h x List.mem_cons_self s)
theorem statesKept_upto {f : Nat → State → State} (h : ∀ n u, StatesKept u (f n u)) (s : State) : ∀ n, StatesKept s (upto f n s)
  | 0 => .refl s
  | n + 1 => (h n _).trans (statesKept_upto h s n)
theorem statesKept_wr {f : Fld} (h : ∀ a < 32, A.LE_AX_STATE a ≠ f.off) (v : Nat) (s : State) : StatesKept s (wr f v s) :=
  fun hs => ⟨hs, rfl, fun a ha => reg_wr_other _ _ _ _ (h a ha)⟩
theorem statesKept_modAx (n : Nat) {f : Axis → Axis} (h : ∀ x, (f x).taken = x.taken) (s : State) : StatesKept s (modAx n f s) := fun hs => by
  refine ⟨fun a ha => ?_, rfl, fun _ _ => rfl⟩
  rw [ax_modAx]
  split
  next e => exact (h _).trans (hs n (e ▸ ha))
  · exact hs a ha
theorem statesKept_logFault (code src c data : Nat) (s : State) : StatesKept s (logFault code src c data s) := fun hs => by
  refine ⟨fun a ha => ?_, logFault_dev _ _ _ _ _, fun a ha => logFault_reg_below (by unfold A.LE_AX_STATE; omega) _ _ _ _ _⟩
  have := hs a ha
  unfold State.ax at this ⊢
  rwa [logFault_drive]

theorem statesKept_flagReact (a : Nat) (s : State) : StatesKept s (flagReact a F.SAF_AX_FLT_BLOCK s) := by
  have beside : ∀ b < 32, A.LE_AX_STATE b ≠ A.SAF_AX_FLT a := fun b hb => by unfold A.LE_AX_STATE A.SAF_AX_FLT; omega
  exact ((statesKept_wr beside 1 _).trans (statesKept_wr beside 1 _)).trans (statesKept_modAx a (f := fun x => { x with reacted := true }) (fun _ => rfl) s)
theorem statesKept_reactOne {a : Nat} (ha : a < 32) (r : React) (s : State) : StatesKept s (reactOne false a r F.SAF_AX_FLT_BLOCK s) := by
  refine fun hs => StatesKept.trans ?_ (statesKept_flagReact a s) hs
  have none := (statesKept_flagReact a s hs).1 a ha
  unfold reactOne
  dsimp only
  generalize flagReact a F.SAF_AX_FLT_BLOCK s = u at none
  have waits : StatesKept u (modAx a (fun x => { x with react := some r }) u) := statesKept_modAx a (f := fun x => { x with react := some r }) (fun _ => rfl) u
  rw [none]
  split
  · rw [if_neg Bool.false_ne_true]
    split
    · split
      · exact .refl u
      · exact waits
    · exact waits
  · exact .refl u
theorem statesKept_blockReact {a : Nat} (ha : a < 32) (c : Nat) (s : State) : StatesKept s (blockReact false a c s) := by
  unfold blockReact axisReact
  dsimp only
  split
  next e st he => exact (statesKept_reactOne (exciterOf_lt he) _ _).trans (statesKept_reactOne ha _ _)
  next st he hst => exact (statesKept_reactOne ha _ _).trans (statesKept_reactOne (statorOf_lt ha hst) _ _)
  · exact statesKept_reactOne ha _ s
theorem statesKept_axFault {as : List Nat} (h : ∀ a ∈ as, a < 32) (code src data c : Nat) (s : State) :
    StatesKept s (axFault false code src data c as s) :=
  (statesKept_each (fun a ha u => statesKept_blockReact (h a ha) c u) _).trans (statesKept_logFault _ _ _ _ s)

theorem statesKept_spanHop {a : Nat} (ha : a < 32) (s : State) : StatesKept s (spanHop a s) := by
  have beside : ∀ b < 32, A.LE_AX_STATE b ≠ A.LE_AX_FLT a := fun b hb => by unfold A.LE_AX_STATE A.LE_AX_FLT; omega
  refine iteInduction (motive := StatesKept s) (fun _ => ?_) fun _ => .refl s
  exact (statesKept_axFault (fun b hb => List.mem_singleton.mp hb ▸ ha) _ _ _ _ _).trans (statesKept_wr beside 1 s)
theorem grpSlots_lt {s : State} {g a : Nat} (h : a ∈ (grpSlots s g).map Prod.snd) : a < 32 := by
  have h0 : rd s (F.GRP_G_AX_AX0 g) < 32 := rd_lt s (F.GRP_G_AX_AX0 g)
  have h1 : rd s (F.GRP_G_AX_AX1 g) < 32 := rd_lt s (F.GRP_G_AX_AX1 g)
  unfold grpSlots at h
  revert h
  split <;> split <;> simp <;> omega
theorem statesKept_groupPosition (g : Nat) (s : State) : StatesKept s (groupPosition g s) := by
  have beside : ∀ b < 32, A.LE_AX_STATE b ≠ A.GRP_G_FLT g := fun b hb => by unfold A.LE_AX_STATE A.GRP_G_FLT; omega
  have off : StatesKept s (modGroup g (fun x => { x with off := true }) s) := fun hs => ⟨hs, rfl, fun _ _ => rfl⟩
  refine iteInduction (motive := StatesKept s) (fun _ => ?_) fun _ => .refl s
  exact ((statesKept_axFault (fun b hb => grpSlots_lt hb) _ _ _ _ _).trans (statesKept_wr beside 1 _)).trans off

/-! ### Entry into ARMED (R34, R180) -/

/-- The state that axis a shows at entry into ARMED: DISABLED without a lock, LOCKED with its reason (R180). -/
def LockShown (l a : Nat) (s : State) : Prop :=
  (l = 0 → axState s a = 0) ∧ (l ≠ 0 → l < 8 → axState s a = 7 ∧ rd s (F.LE_AX_STATE_LOCKRSN a) = l)
theorem lockShown_of_reg {l a : Nat} {s t : State} (h : t.reg (A.LE_AX_STATE a) = s.reg (A.LE_AX_STATE a)) (hs : LockShown l a s) : LockShown l a t := by
  unfold LockShown axState at hs ⊢
  rwa [rd_of_reg (f := F.LE_AX_STATE_STATE a) h, rd_of_reg (f := F.LE_AX_STATE_LOCKRSN a) h]
/-- Axis a takes its state at entry into ARMED. -/
def axisArmed (a : Nat) (s : State) : State := if s.lock a = 0 then wr (F.LE_AX_STATE_STATE a) 0 s else toLocked a (s.lock a) s
theorem axisArmed_lock (a b : Nat) (s : State) : (axisArmed a s).lock b = s.lock b := by
  unfold axisArmed
  split <;> rfl
theorem axisArmed_dev (a : Nat) (s : State) : (axisArmed a s).dev = s.dev := by
  unfold axisArmed
  split <;> rfl
theorem axisArmed_drive (a : Nat) (s : State) : (axisArmed a s).drive = s.drive := by
  unfold axisArmed
  split <;> rfl
theorem axisArmed_shown (a : Nat) (s : State) : LockShown (s.lock a) a (axisArmed a s) := by
  unfold axisArmed LockShown axState
  split
  next h => exact ⟨fun _ => rd_wr_same _ (F.LE_AX_STATE_STATE a) _ (show 0 + 4 ≤ 32 by decide), fun h' => absurd h h'⟩
  next h =>
    refine ⟨fun h' => absurd h' h, fun _ h8 => ⟨rd_wr_same _ (F.LE_AX_STATE_STATE a) _ (show 0 + 4 ≤ 32 by decide), ?_⟩⟩
    rw [toLocked, rd_wr_disj _ (F.LE_AX_STATE_STATE a) (F.LE_AX_STATE_LOCKRSN a) _ (show 0 + 4 ≤ 32 by decide) (show 20 + 3 ≤ 32 by decide)
      (.inl (show 0 + 4 ≤ 20 by decide)), rd_wr_same _ (F.LE_AX_STATE_LOCKRSN a) _ (show 20 + 3 ≤ 32 by decide)]
    exact Nat.mod_eq_of_lt h8
theorem axisArmed_reg_other {a b : Nat} (h : a ≠ b) (s : State) : (axisArmed b s).reg (A.LE_AX_STATE a) = s.reg (A.LE_AX_STATE a) := by
  have off : A.LE_AX_STATE a ≠ A.LE_AX_STATE b := by unfold A.LE_AX_STATE; omega
  unfold axisArmed
  split
  · exact reg_wr_other _ _ _ _ off
  · exact (reg_wr_other _ _ _ _ off).trans (reg_wr_other _ _ _ _ off)
theorem axisArmed_each_shown {a : Nat} {l : List Nat} (h : a ∈ l) (s : State) : LockShown (s.lock a) a (each axisArmed l s) := by
  refine (each_of_mem (f := axisArmed) (P := fun u => u.lock a = s.lock a ∧ LockShown (s.lock a) a u) (Q := fun u => u.lock a = s.lock a)
    (fun u hu => ⟨(axisArmed_lock _ _ _).trans hu, hu ▸ axisArmed_shown a u⟩) (fun b _ u ⟨hl, hu⟩ => ⟨(axisArmed_lock _ _ _).trans hl, ?_⟩)
    (fun b _ u hu => (axisArmed_lock _ _ _).trans hu) h rfl).2
  by_cases hb : a = b
  · exact hb ▸ hl ▸ axisArmed_shown a u
  · exact lockShown_of_reg (axisArmed_reg_other hb u) hu

/-- The device in ARMED, its resolvers begun anew. -/
def armedBegun (s : State) : State :=
  let (v, s) := draw 14 s
  upto (fun n => modIfc n fun x => { x with sinRes := [], cosRes := [], halves := 0 }) 16
    (setSt .armed (modDev (fun d => { d with grid := v.toNat % 12800, wasArmed := true }) s))
theorem armedBegun_regs (s : State) : (armedBegun s).regs = s.regs := by
  refine (upto_keep (fun u : State => u.regs) _ (fun n u => ?_) _ _).trans rfl
  rfl
theorem armedBegun_drive (s : State) : (armedBegun s).drive = s.drive := by
  refine (upto_keep (fun u : State => u.drive) _ (fun n u => ?_) _ _).trans rfl
  rfl
theorem armedBegun_st (s : State) : (armedBegun s).dev.st = .armed ∧ (armedBegun s).dev.part = s.dev.part := by
  refine upto_keep (fun u : State => u.dev.st = .armed ∧ u.dev.part = s.dev.part) _ (fun n u => ?_) _ _ |>.mpr ⟨rfl, rfl⟩
  rfl
theorem axesUsed_armedBegun (s : State) : axesUsed (armedBegun s) = axesUsed s := by
  unfold axesUsed axType State.nAxes State.nTeams rd
  rw [(armedBegun_st s).2]
  simp only [reg_of_regs (armedBegun_regs s)]
/-- The axes of the device with their states at entry into ARMED. -/
def axesArmed (s : State) : State := each axisArmed (axesUsed (armedBegun s)) (armedBegun s)
/-- The ends of SYNC: hop delays and positions in the groups judged. -/
def positionsJudged (s : State) : State := upto groupPosition 4 (each spanHop (axesUsed s) s)
theorem enterArmed_eq (s : State) : enterArmed s = busStart (positionsJudged (axesArmed s)) := rfl
theorem busStart_dev (s : State) : (busStart s).dev = s.dev := rfl
theorem busStart_reg (s : State) (p : Nat) : (busStart s).reg p = s.reg p := rfl
theorem statesKept_positionsJudged (s : State) : StatesKept s (positionsJudged s) :=
  (statesKept_upto statesKept_groupPosition _ 4).trans (statesKept_each (fun _ ha u => statesKept_spanHop (axesUsed_lt ha) u) s)

theorem axesArmed_st (s : State) : (axesArmed s).dev.st = .armed :=
  (congrArg Dev.st (each_keep State.dev axisArmed axisArmed_dev _ _)).trans (armedBegun_st s).1
theorem axesArmed_unreacted {s : State} (h : Unreacted s) : Unreacted (axesArmed s) := fun a ha => by
  have := h a ha
  unfold State.ax at this ⊢
  have kept : (axesArmed s).drive = s.drive := (each_keep State.drive axisArmed axisArmed_drive _ _).trans (armedBegun_drive s)
  rwa [kept]
theorem axesArmed_shown {s : State} {a : Nat} (h : a ∈ axesUsed s) : LockShown (s.lock a) a (axesArmed s) := by
  have lock : (armedBegun s).lock a = s.lock a := by
    unfold State.lock
    rw [armedBegun_drive]
  have shown := axisArmed_each_shown (l := axesUsed (armedBegun s)) (by rwa [axesUsed_armedBegun]) (armedBegun s)
  rwa [lock] at shown
theorem enterArmed_shown {s : State} (hu : Unreacted s) : (enterArmed s).dev.st = .armed ∧ ∀ a ∈ axesUsed s, LockShown (s.lock a) a (enterArmed s) := by
  obtain ⟨-, hd, hr⟩ := statesKept_positionsJudged (axesArmed s) (axesArmed_unreacted hu)
  rw [enterArmed_eq]
  refine ⟨?_, fun a ha => lockShown_of_reg ?_ (axesArmed_shown ha)⟩
  · rw [busStart_dev, hd, axesArmed_st]
  · rw [busStart_reg, hr a (axesUsed_lt ha)]

theorem syncAligned_enters {s : State} (hst : s.dev.st = .sync) (hr : syncReady s = true) : exec .syncAligned s = done (enterArmed s) :=
  if_pos ⟨hst, hr⟩

/-- Settles O46: a failed record's axes react beside the registers of the identity memories, and at entry into ARMED no axis reacts, so that the
states shown stand. -/
theorem identifyJudgesRecords : Obligations.IdentifyJudgesRecords := by
  unfold Obligations.IdentifyJudgesRecords
  refine ⟨fun k r w s hst hk h0 hd hb hw hl hr => ⟨_, identityRead_first hst hk hb hw h0 hd _, ?_, ?_, fun i hi => ?_⟩,
    fun k answer w s hst hk h0 hd hb hw hn => ⟨_, identityRead_first hst hk hb hw h0 hd _, ?_⟩,
    fun k r w s hst hk hm hd hb hw h50 hl hr => ⟨_, identityRead_second hst hk hb hw hm hd h50 _, ?_, ?_, fun i hi => ?_⟩,
    fun s hst hd hr => ?_, fun s hst hr hu => ⟨_, syncAligned_enters hst hr, ?_, ?_, fun a ha => ?_⟩⟩
  · exact (rd_firstJudged (inIdent_stat k) k _).trans (recordRead_class hl hr)
  · exact (rd_firstJudged (inIdent_stat k) k _).trans (recordRead_rsn hl hr)
  · exact (rd_firstJudged (inIdent_data k hi) k _).trans (recordRead_data hl hr hi)
  · exact (rd_firstJudged (inIdent_stat k) k _).trans (recordRead_none hn)
  · rw [isSet, rd_secondJudged (f := F.IDM_REC_STAT_REREAD k) (inIdent_stat k), rd_wr_same _ (F.IDM_REC_STAT_REREAD k) _ (show 5 + 1 ≤ 32 by decide)]
    rfl
  · rw [rd_secondJudged (f := F.IDM_REC_STAT_RSN k) (inIdent_stat k), rd_wr_disj _ (F.IDM_REC_STAT_REREAD k) (F.IDM_REC_STAT_RSN k) _ (show 5 + 1 ≤ 32 by decide)
      (show 1 + 4 ≤ 32 by decide) (.inr (show 1 + 4 ≤ 5 by decide))]
    exact recordRead_rsn hl hr
  · rw [rd_secondJudged (f := F.IDM_REC_DATA_DATA k i) (inIdent_data k hi), rd_wr_off _ _ _ _ (recData_ne_recStat k k i)]
    exact recordRead_data hl hr hi
  · obtain ⟨u, hu⟩ := identifyComplete_ends hst hd hr
    refine ⟨_, hu, ?_⟩
    dsimp only
    rw [flushLog_dev, hopsTrained_dev]
    exact ⟨rfl, rfl, rfl, rfl⟩
  · rw [flushLog_dev]
    exact (enterArmed_shown hu).1
  · rw [flushLog_bus]
    rfl
  · exact lockShown_of_reg (flushLog_reg_below (by have := axesUsed_lt ha; unfold A.LE_AX_STATE; omega) _) ((enterArmed_shown hu).2 a ha)

end Sys2Proof.Machine
end

section
/-! ## The choice of a copy in LOAD (R343, R346 to R349) -/
namespace Sys2Proof.Machine
open Sys2Proof

/-! ### Entries of a table written -/

theorem mem_tdrop {α : Type} {k : Nat} {q : Nat × α} : ∀ {t : Tbl α}, q ∈ tdrop k t → q ∈ t
  | [], h => h
  | (j, w) :: t, h => by
    rw [tdrop] at h
    split at h
    · exact List.mem_cons_of_mem _ (mem_tdrop h)
    · rcases List.mem_cons.mp h with rfl | h
      · exact List.mem_cons_self
      · exact List.mem_cons_of_mem _ (mem_tdrop h)
theorem mem_tins {α : Type} {k : Nat} {v : α} {q : Nat × α} : ∀ {t : Tbl α}, q ∈ tins k v t → q = (k, v) ∨ q ∈ t
  | [], h => .inl (List.mem_singleton.mp h)
  | (j, w) :: t, h => by
    rw [tins] at h
    split at h
    · exact List.mem_cons.mp h
    · rcases List.mem_cons.mp h with rfl | h
      · exact .inr List.mem_cons_self
      · exact (mem_tins h).imp_right (List.mem_cons_of_mem _)
/-- An entry of a table written is the one written, or an older one for another key. -/
theorem mem_tset {α : Type} [DecidableEq α] {d : Nat → α} {t : Tbl α} {k : Nat} {v : α} {q : Nat × α} (h : q ∈ tset d t k v) :
    q = (k, v) ∨ (q.1 ≠ k ∧ q ∈ t) := by
  have old : q ∈ tdrop k t → q.1 ≠ k ∧ q ∈ t := fun h => ⟨tdrop_free k t q h, mem_tdrop h⟩
  unfold tset at h
  split at h
  · exact .inr (old h)
  · exact (mem_tins h).imp_right old

/-- Every entry of the registers for p holds what p reads as. -/
def Sole (p : Nat) (s : State) : Prop := ∀ q ∈ s.regs, q.1 = p → q.2 = s.reg p
theorem sole_of_regs {p : Nat} {s t : State} (h : t.regs = s.regs) (hs : Sole p s) : Sole p t := by
  unfold Sole at hs ⊢
  rwa [h, reg_of_regs h]
theorem sole_setReg_same (p : Nat) (w : Word) (s : State) : Sole p (s.setReg p w) := fun q hq hp => by
  rw [reg_setReg, if_pos rfl]
  rcases mem_tset hq with rfl | ⟨hne, -⟩
  · rfl
  · exact absurd hp hne
theorem sole_setReg {p : Nat} {s : State} (h : Sole p s) (o : Nat) (w : Word) : Sole p (s.setReg o w) := by
  by_cases ho : p = o
  · exact ho ▸ sole_setReg_same p w s
  · intro q hq hp
    rw [reg_setReg, if_neg ho]
    rcases mem_tset hq with rfl | ⟨-, hm⟩
    · exact absurd hp.symm ho
    · exact h q hm hp
theorem sole_wr_same (f : Fld) (v : Nat) (s : State) : Sole f.off (wr f v s) := sole_setReg_same _ _ _
theorem sole_wr {p : Nat} {s : State} (h : Sole p s) (f : Fld) (v : Nat) : Sole p (wr f v s) := sole_setReg h _ _
theorem sole_logFault {p : Nat} {s : State} (h : Sole p s) (code src c data : Nat) : Sole p (logFault code src c data s) := by
  have counted : Sole p (countCls c s) := by
    unfold countCls
    split <;> exact sole_wr h _ _
  unfold logFault
  split
  · exact sole_wr (sole_wr (sole_of_regs (s := countCls c s) rfl counted) _ _) _ _
  · exact h
theorem sole_flushLog {p : Nat} {s : State} (h : Sole p s) : Sole p (flushLog s) := by
  unfold flushLog
  split
  · exact h
  · refine each_ind (P := Sole p) storeEntry (fun e u hu => sole_wr (sole_of_regs (s := u) rfl hu) _ _) _ _ ?_
    split
    · exact sole_of_regs (s := s) (coreEvent_regs 6 s) h
    · exact sole_of_regs (s := s) rfl h

/-! ### An image placed -/


/-- The IMG fields of every register at 0. -/
def imgCleared (s : State) : State := each (fun (q : Nat × Word) s => s.setReg q.1 (q.2 &&& ~~~imgMask q.1)) s.regs s
/-- The pairs of the REG section written. -/
def pairsPlaced (b p : Nat) (s : State) : State := each (fun (q : Nat × Word) s => placeReg q.1 q.2 s) (regPairs s b p) s
/-- The APP and the LE sections in memory. -/
def memoryPlaced (b p : Nat) (s : State) : State :=
  let s := each (fun (x : Sec) s => wrBytes x.dest (secBytes s b p x) s) (secsOf s b p 3) s
  each (fun (x : Sec) s => wrBytes (leBase x.arg + x.dest) (secBytes s b p x) s) (secsOf s b p 4) s
/-- The sag policies of the safety section. -/
def sagsPlaced (pol : Nat → BitVec 2) (s : State) : State := each (fun a s => wr (F.PWR_SAGPOL_POL a) (pol a).toNat s) (List.range 32) s
/-- The registers and the memory of an image placed. -/
def imagePlaced (pol : Nat → BitVec 2) (b p : Nat) (s : State) : State := sagsPlaced pol (memoryPlaced b p (pairsPlaced b p (imgCleared s)))
theorem placeBlocks_regs (sec : List Byte) (s : State) : (placeBlocks sec s).regs = s.regs := rfl
theorem placeBlocks_cfg (sec : List Byte) (s : State) : (placeBlocks sec s).cfg = s.cfg := rfl
theorem placeWith_regs (pol : Nat → BitVec 2) (b p : Nat) (s : State) : (placeWith pol b p s).regs = (imagePlaced pol b p s).regs := by
  unfold placeWith imagePlaced sagsPlaced memoryPlaced pairsPlaced imgCleared
  dsimp only
  rw [State.setCfg_regs, State.setBst_regs, placeBlocks_regs]
theorem placeWith_flash (pol : Nat → BitVec 2) (b p : Nat) (s : State) : (placeWith pol b p s).cfg.flash = (imagePlaced pol b p s).cfg.flash := by
  unfold placeWith imagePlaced sagsPlaced memoryPlaced pairsPlaced imgCleared
  dsimp only
  rw [State.setCfg_cfg, State.setBst_cfg, placeBlocks_cfg]

theorem memoryPlaced_keep {γ : Type} (g : State → γ) (h : ∀ a bs u, g (wrBytes a bs u) = g u) (b p : Nat) (s : State) : g (memoryPlaced b p s) = g s :=
  (each_keep g _ (fun _ _ => h _ _ _) _ _).trans (each_keep g _ (fun _ _ => h _ _ _) _ _)
theorem imagePlaced_flash (pol : Nat → BitVec 2) (b p : Nat) (s : State) : (imagePlaced pol b p s).cfg.flash = s.cfg.flash := by
  have sags : ∀ u, (sagsPlaced pol u).cfg.flash = u.cfg.flash := fun u => by
    unfold sagsPlaced
    refine each_keep (fun u : State => u.cfg.flash) _ (fun _ _ => ?_) _ _
    rfl
  have pairs : ∀ u, (pairsPlaced b p u).cfg.flash = u.cfg.flash := fun u =>
    each_keep (fun u : State => u.cfg.flash) _ (fun q u => by unfold placeReg; dsimp only; split <;> rfl) _ u
  have cleared : (imgCleared s).cfg.flash = s.cfg.flash := by
    unfold imgCleared
    refine each_keep (fun u : State => u.cfg.flash) _ (fun _ _ => ?_) _ _
    rfl
  rw [imagePlaced, sags, memoryPlaced_keep (fun u : State => u.cfg.flash) (fun _ _ _ => rfl), pairs, cleared]

section
variable {p : Nat} (hm : imgMask p = 0)
include hm

/-- Placing an image keeps a register without IMG fields. -/
theorem placeReg_reg (o : Nat) (v : Word) (s : State) : (placeReg o v s).reg p = s.reg p := by
  unfold placeReg
  dsimp only
  split
  · rfl
  next h =>
    rw [reg_setReg, if_neg]
    rintro rfl
    exact h hm
theorem imgCleared_reg {s : State} (h : Sole p s) : (imgCleared s).reg p = s.reg p := by
  unfold imgCleared
  refine each_of_mem_ind (P := fun u => u.reg p = s.reg p) _ (fun q hq u hu => ?_) rfl
  rw [reg_setReg]
  split
  next e => rw [← e, hm, h q hq e.symm]; exact BitVec.and_allOnes
  · exact hu
theorem placeWith_reg (hp : p < 0x0D0000) {s : State} (h : Sole p s) (pol : Nat → BitVec 2) (b q : Nat) : (placeWith pol b q s).reg p = s.reg p := by
  have sags : ∀ u, (sagsPlaced pol u).reg p = u.reg p := fun u => each_keep (fun u : State => u.reg p) _
    (fun a u => reg_wr_other _ _ _ _ (show p ≠ A.PWR_SAGPOL (a / 16) by unfold A.PWR_SAGPOL; omega)) _ u
  have pairs : ∀ u, (pairsPlaced b q u).reg p = u.reg p := fun u => each_keep (fun u : State => u.reg p) _ (fun o u => placeReg_reg hm _ _ u) _ u
  rw [reg_of_regs (placeWith_regs pol b q s), imagePlaced, sags, memoryPlaced_keep (fun u : State => u.reg p) (fun _ _ _ => rfl), pairs, imgCleared_reg hm h]
end
theorem place_reg {p : Nat} (hm : imgMask p = 0) (hp : p < 0x0D0000) {s : State} (h : Sole p s) (b q : Nat) : (place b q s).reg p = s.reg p :=
  placeWith_reg hm hp h _ b q
theorem place_flash (b q : Nat) (s : State) : (place b q s).cfg.flash = s.cfg.flash := (placeWith_flash _ b q s).trans (imagePlaced_flash _ b q s)

/-! ### What LOAD shows first -/

theorem loadShown_flash (r : LoadResult) (s : State) : (loadShown r s).cfg.flash = s.cfg.flash := rfl
/-- The mode of XSPI0, the presence of port 1 and the time shown. -/
def portShown (r : LoadResult) (d : Bool) (s : State) : State :=
  wr F.CFG_STAT_LOADT r.dur.toNat (wr F.CFG_XSPI_CLK (xspiMode r.modes d).2 (wr F.CFG_XSPI_PROTO (xspiMode r.modes d).1 (wrB F.CFG_XSPI_P1PRES r.p1 s)))
theorem loadShown_eq (r : LoadResult) (s : State) : ∃ d x y, loadShown r s = wr F.CFG_BANKB_SEQ_SEQ y (wr F.CFG_BANKA_SEQ_SEQ x (portShown r d (draw 1 s).2)) :=
  ⟨_, _, _, rfl⟩
theorem loadShown_reg {p : Nat} (ha : p ≠ A.CFG_BANKA_SEQ) (hb : p ≠ A.CFG_BANKB_SEQ) (r : LoadResult) (s : State) :
    ∃ d, (loadShown r s).reg p = (portShown r d (draw 1 s).2).reg p := by
  obtain ⟨d, x, y, h⟩ := loadShown_eq r s
  exact ⟨d, by rw [h, reg_wr_other _ _ _ _ hb, reg_wr_other _ _ _ _ ha]⟩
theorem xspiMode_lt (m : BitVec 6) (d : Bool) : (xspiMode m d).1 < 2 ^ 2 ∧ (xspiMode m d).2 < 2 ^ 2 := by
  unfold xspiMode
  dsimp only
  repeat' split
  all_goals decide
theorem portShown_xspi (r : LoadResult) (d : Bool) (s : State) : isSet (portShown r d s) F.CFG_XSPI_P1PRES = r.p1 ∧
    (rd (portShown r d s) F.CFG_XSPI_PROTO, rd (portShown r d s) F.CFG_XSPI_CLK) = xspiMode r.modes d := by
  obtain ⟨hp, hc⟩ := xspiMode_lt r.modes d
  unfold portShown
  refine ⟨?_, Prod.ext ?_ ?_⟩
  · rw [isSet, rd_wr_off _ _ _ _ (by decide), rd_wr_disj _ _ _ _ (by decide) (by decide) (by decide), rd_wr_disj _ _ _ _ (by decide) (by decide) (by decide),
      wrB, rd_wr_same _ _ _ (by decide)]
    cases r.p1 <;> rfl
  · dsimp only
    rw [rd_wr_off _ _ _ _ (by decide), rd_wr_disj _ _ _ _ (by decide) (by decide) (by decide), rd_wr_same _ _ _ (by decide)]
    exact Nat.mod_eq_of_lt hp
  · dsimp only
    rw [rd_wr_off _ _ _ _ (by decide), rd_wr_same _ _ _ (by decide)]
    exact Nat.mod_eq_of_lt hc
/-- The registers that show how LOAD went, as they are before a copy is tried. -/
theorem loadShown_xspi (r : LoadResult) (s : State) : isSet (loadShown r s) F.CFG_XSPI_P1PRES = r.p1 ∧
    ∃ d : Bool, (rd (loadShown r s) F.CFG_XSPI_PROTO, rd (loadShown r s) F.CFG_XSPI_CLK) = xspiMode r.modes d := by
  obtain ⟨d, h⟩ := loadShown_reg (p := A.CFG_XSPI) (by decide) (by decide) r s
  obtain ⟨hp, hm⟩ := portShown_xspi r d (draw 1 s).2
  rw [isSet_of_rd (rd_of_reg (f := F.CFG_XSPI_P1PRES) h), rd_of_reg (f := F.CFG_XSPI_PROTO) h, rd_of_reg (f := F.CFG_XSPI_CLK) h]
  exact ⟨hp, d, hm⟩
theorem loadShown_loadt (r : LoadResult) (s : State) : rd (loadShown r s) F.CFG_STAT_LOADT = r.dur.toNat := by
  obtain ⟨d, h⟩ := loadShown_reg (p := A.CFG_STAT) (by decide) (by decide) r s
  rw [rd_of_reg (f := F.CFG_STAT_LOADT) h, portShown, rd_wr_same _ _ _ (by decide)]
  exact Nat.mod_eq_of_lt r.dur.isLt

/-! ### Copies tried (R347, R348) -/

/-- From u on, while copies are refused, the flash and the two registers stand, each with one entry. -/
structure LoadKept (u s : State) : Prop where
  flash : s.cfg.flash = u.cfg.flash
  xspi : s.reg A.CFG_XSPI = u.reg A.CFG_XSPI
  stat : s.reg A.CFG_STAT = u.reg A.CFG_STAT
theorem LoadKept.trans {s t u : State} (h : LoadKept t u) (h' : LoadKept s t) : LoadKept s u :=
  ⟨h.flash.trans h'.flash, h.xspi.trans h'.xspi, h.stat.trans h'.stat⟩
/-- The two registers have one entry each. -/
def LoadSole (s : State) : Prop := Sole A.CFG_XSPI s ∧ Sole A.CFG_STAT s
theorem loadSole_loadShown (r : LoadResult) (s : State) : LoadSole (loadShown r s) := by
  obtain ⟨d, x, y, h⟩ := loadShown_eq r s
  rw [h]
  exact ⟨sole_wr (sole_wr (sole_wr (sole_wr_same F.CFG_XSPI_CLK _ _) _ _) _ _) _ _, sole_wr (sole_wr (sole_wr_same F.CFG_STAT_LOADT _ _) _ _) _ _⟩

/-- The register that shows the outcome of bank b (R349). -/
def resFld (b : Nat) : Fld := if b = 0 then F.CFG_BANKA_RES_REASON else F.CFG_BANKB_RES_REASON
theorem showRes_reg {p : Nat} (ha : p ≠ A.CFG_BANKA_RES) (hb : p ≠ A.CFG_BANKB_RES) (b : Nat) (q : Nat × Nat × Nat) (s : State) :
    (showRes b q s).reg p = s.reg p := by
  unfold showRes
  split
  · rw [reg_wr_other _ _ _ _ ha, reg_wr_other _ _ _ _ ha, reg_wr_other _ _ _ _ ha]
  · rw [reg_wr_other _ _ _ _ hb, reg_wr_other _ _ _ _ hb, reg_wr_other _ _ _ _ hb]
theorem showRes_cfg (b : Nat) (q : Nat × Nat × Nat) (s : State) : (showRes b q s).cfg = s.cfg := by
  unfold showRes
  split <;> rfl
theorem showRes_shown {q : Nat × Nat × Nat} (h : q.1 < 32) (b : Nat) (s : State) : rd (showRes b q s) (resFld b) = q.1 := by
  unfold showRes resFld
  split
  · exact (rd_wr_same _ _ _ (by decide)).trans (Nat.mod_eq_of_lt h)
  · exact (rd_wr_same _ _ _ (by decide)).trans (Nat.mod_eq_of_lt h)
theorem showRes_other {b c : Nat} (h : resFld b ≠ resFld c) (q : Nat × Nat × Nat) (s : State) : rd (showRes c q s) (resFld b) = rd s (resFld b) := by
  unfold resFld at h ⊢
  unfold showRes
  split at h <;> split at h
  · exact absurd rfl h
  next hb hc => rw [if_pos hb, if_neg hc, rd_wr_off _ _ _ _ (by decide), rd_wr_off _ _ _ _ (by decide), rd_wr_off _ _ _ _ (by decide)]
  next hb hc => rw [if_neg hb, if_pos hc, rd_wr_off _ _ _ _ (by decide), rd_wr_off _ _ _ _ (by decide), rd_wr_off _ _ _ _ (by decide)]
  · exact absurd rfl h
theorem showRes_kept (b : Nat) (q : Nat × Nat × Nat) (s : State) : LoadKept s (showRes b q s) :=
  ⟨congrArg Cfg.flash (showRes_cfg b q s), showRes_reg (by decide) (by decide) b q s, showRes_reg (by decide) (by decide) b q s⟩
theorem loadSole_showRes {s : State} (h : LoadSole s) (b : Nat) (q : Nat × Nat × Nat) : LoadSole (showRes b q s) := by
  unfold showRes
  split
  · exact ⟨sole_wr (sole_wr (sole_wr h.1 _ _) _ _) _ _, sole_wr (sole_wr (sole_wr h.2 _ _) _ _) _ _⟩
  · exact ⟨sole_wr (sole_wr (sole_wr h.1 _ _) _ _) _ _, sole_wr (sole_wr (sole_wr h.2 _ _) _ _) _ _⟩
theorem place_kept {s : State} (h : LoadSole s) (b p : Nat) : LoadKept s (place b p s) :=
  ⟨place_flash b p s, place_reg (by decide +kernel) (by decide) h.1 b p, place_reg (by decide +kernel) (by decide) h.2 b p⟩
/-- Copy (b, p) refused: its reason shown and logged (R348, R349). -/
def refused (b p : Nat) (q : Nat × Nat × Nat) (s : State) : State :=
  flushLog (logFault 0x0B01 (b + 2 * p) 1 (q.1 + 256 * (q.2.1 % 256) + 65536 * (q.2.2 % 65536)) (showRes b q s))
theorem refused_reg {p : Nat} (h : p < 0x0F0000) (b k : Nat) (q : Nat × Nat × Nat) (s : State) : (refused b k q s).reg p = (showRes b q s).reg p :=
  (flushLog_reg_below h _).trans (logFault_reg_below h _ _ _ _ _)
theorem refused_kept (b p : Nat) (q : Nat × Nat × Nat) (s : State) : LoadKept s (refused b p q s) :=
  LoadKept.trans ⟨by rw [refused, flushLog_cfg, logFault_cfg], refused_reg (by decide) b p q s, refused_reg (by decide) b p q s⟩ (showRes_kept b q s)
theorem loadSole_refused {s : State} (h : LoadSole s) (b p : Nat) (q : Nat × Nat × Nat) : LoadSole (refused b p q s) :=
  ⟨sole_flushLog (sole_logFault (loadSole_showRes h b q).1 _ _ _ _), sole_flushLog (sole_logFault (loadSole_showRes h b q).2 _ _ _ _)⟩

/-! #### What the header says -/

section
variable {s t : State} (h : t.cfg.flash = s.cfg.flash) (b p : Nat)
include h
theorem imgNum_of_flash (o n : Nat) : imgNum t b p o n = imgNum s b p o n := by unfold imgNum imgBytes; rw [h]
theorem imgLen_of_flash : imgLen t b p = imgLen s b p := imgNum_of_flash h b p _ _
theorem imgSeq_of_flash : imgSeq t b p = imgSeq s b p := imgNum_of_flash h b p _ _
theorem sane_of_flash : sane t b p = sane s b p := by
  unfold sane
  rw [imgLen_of_flash h, imgNum_of_flash h, imgNum_of_flash h]
end
theorem imgLen_lt {s : State} {b p : Nat} (h : sane s b p = true) : imgLen s b p < 2 ^ 23 := by
  simp only [sane, Bool.and_eq_true, decide_eq_true_eq] at h
  omega
theorem tgetList_length {α : Type} (d : Nat → α) (t : Tbl α) : ∀ (n k : Nat), (tgetList d t k n).length = n
  | 0, _ => rfl
  | n + 1, k => congrArg (· + 1) (tgetList_length d t n (k + 1))
theorem imgSeq_lt (s : State) (b p : Nat) : imgSeq s b p < 2 ^ 32 := by
  have h := leNat_lt (imgBytes s b p 0x08 4)
  rwa [imgBytes, tgetList_length] at h

theorem verifyKeys_some {s : State} {b p : Nat} {err : Bool} {r : Nat} (h : verifyKeys s b p err = some r) : r ≠ 0 := by
  revert h
  unfold verifyKeys
  dsimp only
  repeat' split
  all_goals rintro ⟨⟩ ⟨⟩
theorem sane_of_verifyKeys {s : State} {b p : Nat} {err : Bool} (h : verifyKeys s b p err = none) : sane s b p = true := by
  by_contra hs
  unfold verifyKeys at h
  dsimp only at h
  rw [if_pos (by simpa using hs)] at h
  exact absurd h nofun
/-- A copy whose reason is 0 has a sane header, and leaves the state with the image placed or as it was. -/
theorem verifyLoad_passes {b p : Nat} {err : Bool} {s t : State} {q : Nat × Nat} (h : verifyLoad b p err s = ((0, q), t)) :
    sane s b p = true ∧ (t = place b p s ∨ t = s) := by
  unfold verifyLoad at h
  split at h
  next r hr => exact absurd (congrArg (fun x => x.1.1) h) (verifyKeys_some hr)
  next hk =>
    refine ⟨sane_of_verifyKeys hk, ?_⟩
    dsimp only at h
    split at h
    all_goals cases h
    · exact .inr rfl
    · exact .inl rfl

/-- What the copies tried leave: the flash and the registers of LOAD as they were, and where one loads, its header sane and its reason 0. -/
theorem tryCopies_kept (errs : List Nat) : ∀ (l : List (Nat × Nat)) (s : State), LoadSole s → LoadKept s (tryCopies errs l s).1 ∧
    ∀ b p, (tryCopies errs l s).2 = some (b, p) → (b, p) ∈ l ∧ sane s b p = true ∧ rd (tryCopies errs l s).1 (resFld b) = 0
  | [], s, _ => ⟨⟨rfl, rfl, rfl⟩, fun _ _ h => absurd h nofun⟩
  | (b, p) :: l, s, hs => by
    rw [tryCopies]
    split
    next q t h =>
      obtain ⟨hsane, ht⟩ := verifyLoad_passes h
      have kept : LoadKept s t := by
        rcases ht with rfl | rfl
        · exact place_kept hs b p
        · exact ⟨rfl, rfl, rfl⟩
      refine ⟨.trans (showRes_kept b _ t) kept, fun b' p' h' => ?_⟩
      cases h'
      exact ⟨List.mem_cons_self, hsane, showRes_shown (by decide) b t⟩
    next q t _ h =>
      have kept := refused_kept b p q s
      obtain ⟨hk, hl⟩ := tryCopies_kept errs l _ (loadSole_refused hs b p q)
      refine ⟨.trans hk kept, fun b' p' h' => ?_⟩
      obtain ⟨hm, hsane, hr⟩ := hl b' p' h'
      exact ⟨List.mem_cons_of_mem _ hm, (sane_of_flash kept.flash b' p').symm.trans hsane, hr⟩

theorem copyOrder_lt {s : State} {p1 : Bool} {b p : Nat} (h : (b, p) ∈ copyOrder s p1) : b < 2 ∧ p < 2 := by
  have banks : ∀ x y, ∀ c ∈ bankOrder x y, c < 2 := by
    intro x y
    unfold bankOrder
    split
    · decide
    · decide
    · split <;> decide
  obtain ⟨c, hc, hm⟩ := List.mem_flatMap.mp h
  have hb := banks _ _ c hc
  split at hm <;> simp only [List.mem_cons, List.not_mem_nil, or_false, Prod.mk.injEq] at hm <;> omega

/-! ### The end of LOAD -/

/-- The registers that name the image in use. -/
def imageNamed (b p : Nat) (s : State) : State :=
  wr F.CFG_LEN_LEN (imgLen s b p) (wr F.CFG_SEQ_SEQ (imgSeq s b p) (wr F.CFG_STAT_PORT p (wr F.CFG_STAT_BANK b (wr F.CFG_STAT_LOADED 1 s))))
theorem imageNamed_stat {b p : Nat} (hb : b < 2) (hp : p < 2) (s : State) : isSet (imageNamed b p s) F.CFG_STAT_LOADED = true ∧
    rd (imageNamed b p s) F.CFG_STAT_BANK = b ∧ rd (imageNamed b p s) F.CFG_STAT_PORT = p ∧
    rd (imageNamed b p s) F.CFG_STAT_LOADT = rd s F.CFG_STAT_LOADT := by
  unfold imageNamed
  refine ⟨?_, ?_, ?_, ?_⟩
  · rw [isSet, rd_wr_off _ _ _ _ (by decide), rd_wr_off _ _ _ _ (by decide), rd_wr_disj _ _ _ _ (by decide) (by decide) (by decide),
      rd_wr_disj _ _ _ _ (by decide) (by decide) (by decide), rd_wr_same _ _ _ (by decide)]
    rfl
  · rw [rd_wr_off _ _ _ _ (by decide), rd_wr_off _ _ _ _ (by decide), rd_wr_disj _ _ _ _ (by decide) (by decide) (by decide),
      rd_wr_same _ _ _ (by decide)]
    exact Nat.mod_eq_of_lt hb
  · rw [rd_wr_off _ _ _ _ (by decide), rd_wr_off _ _ _ _ (by decide), rd_wr_same _ _ _ (by decide)]
    exact Nat.mod_eq_of_lt hp
  · rw [rd_wr_off _ _ _ _ (by decide), rd_wr_off _ _ _ _ (by decide), rd_wr_disj _ _ _ _ (by decide) (by decide) (by decide),
      rd_wr_disj _ _ _ _ (by decide) (by decide) (by decide), rd_wr_disj _ _ _ _ (by decide) (by decide) (by decide)]
theorem imageNamed_header {b p : Nat} {s : State} (h : sane s b p = true) :
    rd (imageNamed b p s) F.CFG_SEQ_SEQ = imgSeq s b p ∧ rd (imageNamed b p s) F.CFG_LEN_LEN = imgLen s b p := by
  unfold imageNamed
  refine ⟨?_, ?_⟩
  · rw [rd_wr_off _ _ _ _ (by decide), rd_wr_same _ _ _ (by decide)]
    exact Nat.mod_eq_of_lt (imgSeq_lt s b p)
  · rw [rd_wr_same _ _ _ (by decide)]
    exact Nat.mod_eq_of_lt (imgLen_lt h)
theorem imageNamed_reg {q : Nat} (hs : q ≠ A.CFG_STAT) (hq : q ≠ A.CFG_SEQ) (hl : q ≠ A.CFG_LEN) (b p : Nat) (s : State) :
    (imageNamed b p s).reg q = s.reg q := by
  unfold imageNamed
  rw [reg_wr_other _ _ _ _ hl, reg_wr_other _ _ _ _ hq, reg_wr_other _ _ _ _ hs, reg_wr_other _ _ _ _ hs, reg_wr_other _ _ _ _ hs]

/-- What else LOAD reports with an image: a copy from port 1 logged, the figures, the offsets, the records and the drivers in use. -/
def imageReported (b p : Nat) (s : State) : State :=
  let s := if p = 1 then logFault 0x0B03 b 1 0 s else s
  let s := showFigures s
  let s := upto (fun g s => wr (F.SNS_DCL_STAT_NCH g) (roleChans s 3 g).length s) 4 s
  let s := each (fun a s => if usesOfs s a 1 then configOfs a (prm s a 0x8F0) s else s) (axesUsed s) s
  let s := upto (fun k s => if k < identCount s then wr (F.IDM_REC_STAT_USED k) 1 s else s) 64 s
  each (fun t s => if isSet s (F.MOD_DSPI_CFG_EN t) ∧ Config.gdrvCount (tget (fun _ => []) s.cfg.gdrv t) = 0 then wr (F.MOD_DSPI_STAT_DONE t) 1 s else s)
    (List.range s.nTeams) s
theorem loaded_eq (b p : Nat) (s : State) : loaded b p s = setSt .identify (imageReported b p (imageNamed b p s)) := rfl

theorem nTeams_le (s : State) : s.nTeams ≤ 8 := by
  unfold State.nTeams Part.teams
  split <;> decide
section
variable {q : Nat} (h : 0x0B0000 ≤ q) (h' : q < 0x0B1000)
include h h'
theorem showFigures_reg (s : State) : (showFigures s).reg q = s.reg q := by
  unfold showFigures
  dsimp only
  rw [reg_wr_other _ _ _ _ (show q ≠ A.SAF_SMCBUD by unfold A.SAF_SMCBUD; omega)]
  refine each_reg_of_mem _ _ _ fun t ht u => ?_
  have ht : t < 8 := Nat.lt_of_lt_of_le (List.mem_range.mp (List.mem_filter.mp ht).1) (nTeams_le s)
  rw [reg_wr_other _ _ _ _ (show q ≠ A.STR_TEAM_UPD t by unfold A.STR_TEAM_UPD; omega),
    reg_wr_other _ _ _ _ (show q ≠ A.STR_TEAM_CMT t by unfold A.STR_TEAM_CMT; omega),
    reg_wr_other _ _ _ _ (show q ≠ A.LE_TEAM_COST t by unfold A.LE_TEAM_COST; omega),
    reg_wr_other _ _ _ _ (show q ≠ A.LE_TEAM_DLY t by unfold A.LE_TEAM_DLY; omega),
    reg_wr_other _ _ _ _ (show q ≠ A.LE_TEAM_LAT t by unfold A.LE_TEAM_LAT; omega)]
theorem configOfs_reg {a : Nat} (ha : a < 32) (o : Word) (s : State) : (configOfs a o s).reg q = s.reg q := by
  unfold configOfs wrW
  rw [reg_wr_other _ _ _ _ (show q ≠ A.LE_AX_COMM a by unfold A.LE_AX_COMM; omega),
    reg_wr_other _ _ _ _ (show q ≠ A.LE_AX_STATE a by unfold A.LE_AX_STATE; omega), modAx_reg]
/-- What LOAD reports besides lies outside the registers of the configuration. -/
theorem imageReported_reg (b p : Nat) (s : State) : (imageReported b p s).reg q = s.reg q := by
  have log : (if p = 1 then logFault 0x0B03 b 1 0 s else s).reg q = s.reg q := by
    split
    · exact logFault_reg_below (by omega) _ _ _ _ _
    · rfl
  unfold imageReported
  dsimp only
  refine (each_reg_of_mem _ _ _ fun t ht u => ?_).trans ((upto_reg_of_lt _ _ _ fun k hk u => ?_).trans ((each_reg_of_mem _ _ _ fun a ha u => ?_).trans
    ((upto_reg_of_lt _ _ _ fun g hg u => ?_).trans ((showFigures_reg h h' _).trans log))))
  · have ht : t < 8 := Nat.lt_of_lt_of_le (List.mem_range.mp ht) (nTeams_le _)
    split
    · exact reg_wr_other _ _ _ _ (show q ≠ A.MOD_DSPI_STAT t by unfold A.MOD_DSPI_STAT; omega)
    · rfl
  · split
    · exact reg_wr_other _ _ _ _ (show q ≠ A.IDM_REC_STAT k by unfold A.IDM_REC_STAT; omega)
    · rfl
  · split
    · exact configOfs_reg h h' (axesUsed_lt ha) _ u
    · rfl
  · exact reg_wr_other _ _ _ _ (show q ≠ A.SNS_DCL_STAT g by unfold A.SNS_DCL_STAT; omega)
/-- The registers of the configuration at the end of LOAD with an image. -/
theorem rd_loaded {f : Fld} (hf : f.off = q) (b p : Nat) (s : State) : rd (flushLog (loaded b p s)) f = rd (imageNamed b p s) f := by
  subst hf
  rw [rd_of_reg (flushLog_reg_below (by omega) _), loaded_eq, rd_of_reg (setSt_reg _ _ _), rd_of_reg (imageReported_reg h h' b p _)]
end

theorem rd_loaded_res (b p : Nat) (s : State) : rd (flushLog (loaded b p s)) (resFld b) = rd s (resFld b) := by
  have hq : (resFld b).off = A.CFG_BANKA_RES ∨ (resFld b).off = A.CFG_BANKB_RES := by
    unfold resFld
    split
    · exact .inl rfl
    · exact .inr rfl
  rcases hq with hq | hq
  · rw [rd_loaded (by decide) (by decide) hq, rd_of_reg (imageNamed_reg (by rw [hq]; decide) (by rw [hq]; decide) (by rw [hq]; decide) b p s)]
  · rw [rd_loaded (by decide) (by decide) hq, rd_of_reg (imageNamed_reg (by rw [hq]; decide) (by rw [hq]; decide) (by rw [hq]; decide) b p s)]

theorem rd_noImage {f : Fld} (h : f.off < 0x0F0000) (hp : f.off ≠ A.STR_PERIOD) (s : State) :
    rd (flushLog (noImage s)) f = rd (wr F.CFG_STAT_NOIMAGE 1 s) f := by
  unfold noImage
  rw [rd_of_reg (flushLog_reg_below h _), rd_of_reg (setSt_reg _ _ _), rd_of_reg (plainTimebase_reg hp _), rd_of_reg (logFault_reg_below h _ _ _ _ _)]
theorem noImage_dev (s : State) : (noImage s).dev.st = .armed ∧ (noImage s).dev.plain = true := ⟨rfl, rfl⟩
theorem noImage_period (s : State) : rd (flushLog (noImage s)) F.STR_PERIOD_PERIOD = 16000 := by
  unfold noImage plainTimebase
  rw [rd_of_reg (flushLog_reg_below (by decide) _), rd_of_reg (setSt_reg _ _ _), rd_wr_same _ _ _ (by decide)]
  rfl

theorem loadComplete_loaded {r : LoadResult} {s : State} (hst : s.dev.st = .load) (hr : r.romErr = none) {b p : Nat}
    (h : (loadTried r s).2 = some (b, p)) : exec (.loadComplete r) s = done (loaded b p (loadTried r s).1) := by
  have pair : loadTried r s = ((loadTried r s).1, some (b, p)) := by rw [← h]
  change execLoadComplete r s = _
  unfold execLoadComplete
  rw [if_neg (by simp [hst]), hr]
  dsimp only
  rw [pair]
theorem loadComplete_none {r : LoadResult} {s : State} (hst : s.dev.st = .load) (hr : r.romErr = none) (h : (loadTried r s).2 = none) :
    exec (.loadComplete r) s = done (noImage (loadTried r s).1) := by
  have pair : loadTried r s = ((loadTried r s).1, none) := by rw [← h]
  change execLoadComplete r s = _
  unfold execLoadComplete
  rw [if_neg (by simp [hst]), hr]
  dsimp only
  rw [pair]
theorem loadComplete_romErr {r : LoadResult} {s : State} (hst : s.dev.st = .load) (hr : r.romErr ≠ none) :
    ∃ d, exec (.loadComplete r) s = done (dvFault 0x0F03 28 d s) := by
  obtain ⟨o, ho⟩ := Option.ne_none_iff_exists'.mp hr
  refine ⟨o.toNat, ?_⟩
  change execLoadComplete r s = _
  unfold execLoadComplete
  rw [if_neg (by simp [hst]), ho]

/-! ### What the end of LOAD shows in every case -/

/-- The time, the presence of port 1 and a fastest mode are shown. -/
def LoadReported (r : LoadResult) (t : State) : Prop :=
  rd t F.CFG_STAT_LOADT = r.dur.toNat ∧ isSet t F.CFG_XSPI_P1PRES = r.p1 ∧ ∃ d : Bool, (rd t F.CFG_XSPI_PROTO, rd t F.CFG_XSPI_CLK) = xspiMode r.modes d
theorem loadReported_of_same {r : LoadResult} {s u t : State} (hk : LoadKept (loadShown r s) u) (hx : t.reg A.CFG_XSPI = u.reg A.CFG_XSPI)
    (hs : rd t F.CFG_STAT_LOADT = rd u F.CFG_STAT_LOADT) : LoadReported r t := by
  have hx := hx.trans hk.xspi
  obtain ⟨hp, d, hm⟩ := loadShown_xspi r s
  refine ⟨?_, ?_, d, ?_⟩
  · rw [hs, rd_of_reg (f := F.CFG_STAT_LOADT) hk.stat, loadShown_loadt]
  · rw [isSet_of_rd (rd_of_reg (f := F.CFG_XSPI_P1PRES) hx), hp]
  · rw [rd_of_reg (f := F.CFG_XSPI_PROTO) hx, rd_of_reg (f := F.CFG_XSPI_CLK) hx, hm]

theorem loadTried_kept (r : LoadResult) (s : State) : LoadKept (loadShown r s) (loadTried r s).1 :=
  (tryCopies_kept _ _ _ (loadSole_loadShown r s)).1
/-- What the copy that loads is: one of the copies of the flash, its header sane, reason 0 shown for its bank. -/
theorem loadTried_some {r : LoadResult} {s : State} {b p : Nat} (h : (loadTried r s).2 = some (b, p)) :
    (b < 2 ∧ p < 2) ∧ sane (loadTried r s).1 b p = true ∧ rd (loadTried r s).1 (resFld b) = 0 := by
  obtain ⟨hm, hs, hr⟩ := (tryCopies_kept _ _ _ (loadSole_loadShown r s)).2 b p h
  exact ⟨copyOrder_lt hm, (sane_of_flash (loadTried_kept r s).flash b p).trans hs, hr⟩
theorem loadTried_flash (r : LoadResult) (s : State) : (loadTried r s).1.cfg.flash = s.cfg.flash :=
  (loadTried_kept r s).flash.trans (loadShown_flash r s)

theorem loaded_reported {r : LoadResult} {s : State} {b p : Nat} (h : (loadTried r s).2 = some (b, p)) :
    LoadReported r (flushLog (loaded b p (loadTried r s).1)) := by
  obtain ⟨⟨hb, hp⟩, -, -⟩ := loadTried_some h
  refine loadReported_of_same (loadTried_kept r s) ?_ ?_
  · rw [flushLog_reg_below (by decide), loaded_eq, setSt_reg, imageReported_reg (by decide) (by decide), imageNamed_reg (by decide) (by decide) (by decide)]
  · rw [rd_loaded (q := A.CFG_STAT) (by decide) (by decide) rfl]
    exact (imageNamed_stat hb hp _).2.2.2
theorem noImage_reported (r : LoadResult) (s : State) : LoadReported r (flushLog (noImage (loadTried r s).1)) := by
  refine loadReported_of_same (loadTried_kept r s) ?_ ?_
  · rw [flushLog_reg_below (by decide), noImage, setSt_reg, plainTimebase_reg (by decide), logFault_reg_below (by decide), reg_wr_other _ _ _ _ (by decide)]
  · rw [rd_noImage (by decide) (by decide), rd_wr_disj _ _ _ _ (by decide) (by decide) (by decide)]

/-! ### Banks erased -/

theorem sane_erased {s : State} (h : s.cfg.flash = []) (b p : Nat) : sane s b p = false := by
  have magic : imgNum s b p 0 4 = 0xFFFFFFFF := by
    unfold imgNum imgBytes
    rw [h]
    simp [tgetList, tget, flashReset, leNat]
  unfold sane
  rw [magic]
  rfl
theorem verifyLoad_erased {s : State} (h : s.cfg.flash = []) (b p : Nat) (err : Bool) : verifyLoad b p err s = ((1, 0, 0), s) := by
  have keys : verifyKeys s b p err = some 1 := by
    unfold verifyKeys
    dsimp only
    rw [if_pos (by simp [sane_erased h])]
  unfold verifyLoad
  rw [keys]
theorem tryCopies_erased (errs : List Nat) : ∀ (l : List (Nat × Nat)) (s : State), s.cfg.flash = [] →
    tryCopies errs l s = (each (fun (c : Nat × Nat) => refused c.1 c.2 (1, 0, 0)) l s, none)
  | [], _, _ => rfl
  | (b, p) :: l, s, h => by
    have refusedFlash : (refused b p (1, 0, 0) s).cfg.flash = [] := (refused_kept b p (1, 0, 0) s).flash.trans h
    rw [tryCopies, verifyLoad_erased h, each, ← tryCopies_erased errs l _ refusedFlash]
    rfl
theorem refused_reason {b p : Nat} (s : State) : rd (refused b p (1, 0, 0) s) (resFld b) = 1 := by
  rw [rd_of_reg (refused_reg (by unfold resFld; split <;> decide) b p _ s)]
  exact showRes_shown (by decide) b s
theorem refused_reason_kept {b : Nat} {s : State} (h : rd s (resFld b) = 1) (c p : Nat) : rd (refused c p (1, 0, 0) s) (resFld b) = 1 := by
  by_cases hc : resFld b = resFld c
  · rw [hc]
    exact refused_reason s
  · rw [rd_of_reg (refused_reg (by unfold resFld; split <;> decide) c p _ s), ← h]
    exact showRes_other hc _ s
theorem copyOrder_erased {s : State} (h : s.cfg.flash = []) (p1 : Bool) : (0, 0) ∈ copyOrder s p1 ∧ (1, 0) ∈ copyOrder s p1 := by
  have seq : ∀ b, hdrSeq s p1 b = none := fun b => by simp [hdrSeq, sane_erased h]
  unfold copyOrder
  rw [seq, seq]
  cases p1 <;> decide
theorem loadTried_erased {r : LoadResult} {s : State} (h : s.cfg.flash = []) : (loadTried r s).2 = none ∧
    rd (loadTried r s).1 (resFld 0) = 1 ∧ rd (loadTried r s).1 (resFld 1) = 1 := by
  have tried := tryCopies_erased r.readErr (copyOrder s r.p1) (loadShown r s) ((loadShown_flash r s).trans h)
  have shown : ∀ b, (b, 0) ∈ copyOrder s r.p1 → rd (each (fun (c : Nat × Nat) => refused c.1 c.2 (1, 0, 0)) (copyOrder s r.p1) (loadShown r s)) (resFld b) = 1 :=
    fun b hb => each_of_mem (a := (b, 0)) (f := fun (c : Nat × Nat) => refused c.1 c.2 (1, 0, 0)) (P := fun u => rd u (resFld b) = 1) (Q := fun _ => True)
      (fun u _ => refused_reason (b := b) (p := 0) u) (fun c _ u hu => refused_reason_kept hu c.1 c.2) (fun _ _ _ _ => trivial) hb trivial
  obtain ⟨h0, h1⟩ := copyOrder_erased h r.p1
  unfold loadTried
  rw [tried]
  exact ⟨rfl, shown 0 h0, shown 1 h1⟩

/-! ### An error of the boot ROM -/

section
variable {s : State} (h : s.dev.st = .load) (code src data : Nat)
include h
theorem dvFault_load : dvFault code src data s =
    recAsk 5 (setSt .recovery (plainTimebase (dvDischarge (reactedOff code (logFault code src 4 data s))))) :=
  deviceReact_load (.inl (by rwa [logFault_dev])) _ _
theorem dvFault_load_reg {p : Nat} (h6 : 0x060000 ≤ p) (hp : p ≤ 0x060280) :
    (flushLog (dvFault code src data s)).reg p = (reactedOff code (logFault code src 4 data s)).reg p := by
  rw [flushLog_reg_below (by omega), dvFault_load h, recAsk_reg, setSt_reg, plainTimebase_reg (by unfold A.STR_PERIOD; omega),
    dvDischarge_reg (besideDischarges_safety hp h6)]
theorem dvFault_load_off : let t := flushLog (dvFault code src data s)
    t.dev.st = .recovery ∧ isSet t F.SAF_STAT_DVLAT = true ∧ EnablesDown t := by
  have hen := outputsOff_enables (latched code (bumpCounter 2 (noteDv (logFault code src 4 data s))))
  refine ⟨?_, (isSet_of_rd (rd_of_reg (dvFault_load_reg h _ _ _ (by decide) (by decide)))).trans (reactedOff_dvlat _ _), ?_, ?_⟩
  · rw [flushLog_dev, dvFault_load h]
    rfl
  · exact (rd_of_reg (dvFault_load_reg h _ _ _ (by decide) (by decide))).trans hen.1
  · exact (rd_of_reg (dvFault_load_reg h _ _ _ (by decide) (by decide))).trans hen.2
end

/-- Settles O45: the registers that LOAD shows first have no IMG field, so that the image placed leaves them; what the copy that loads says of itself is
read from a flash that nothing in LOAD writes. -/
theorem loadChoosesACopy : Obligations.LoadChoosesACopy := by
  unfold Obligations.LoadChoosesACopy
  refine ⟨fun r s hst hr => ?_, fun r s hst hr => ?_, fun r s hst hr hf => ?_, fun r s hst hr => ?_⟩
  · rcases h : (loadTried r s).2 with _ | ⟨b, p⟩
    · exact ⟨_, loadComplete_none hst hr h, noImage_reported r s⟩
    · exact ⟨_, loadComplete_loaded hst hr h, loaded_reported h⟩
  · rcases h : (loadTried r s).2 with _ | ⟨b, p⟩
    · refine ⟨_, loadComplete_none hst hr h, ?_, ?_, ?_, noImage_period _⟩
      · rw [flushLog_dev, (noImage_dev _).1]
      · rw [isSet, rd_noImage (by decide) (by decide), rd_wr_same _ _ _ (by decide)]
        rfl
      · rw [flushLog_dev, (noImage_dev _).2]
    · obtain ⟨⟨hb, hp⟩, hs, hreason⟩ := loadTried_some h
      obtain ⟨hl, hbank, hport, -⟩ := imageNamed_stat hb hp (loadTried r s).1
      obtain ⟨hseq, hlen⟩ := imageNamed_header hs
      refine ⟨_, loadComplete_loaded hst hr h, ?_, ?_, ?_, ?_, ?_, ?_, ?_⟩
      · rw [flushLog_dev, loaded_eq, setSt_st]
      · rw [isSet, rd_loaded (q := A.CFG_STAT) (by decide) (by decide) rfl]
        exact hl
      · rw [rd_loaded (q := A.CFG_STAT) (by decide) (by decide) rfl, hbank]
      · rw [rd_loaded (q := A.CFG_STAT) (by decide) (by decide) rfl, hport]
      · rw [rd_loaded (q := A.CFG_SEQ) (by decide) (by decide) rfl, hseq, imgSeq_of_flash (loadTried_flash r s)]
      · rw [rd_loaded (q := A.CFG_LEN) (by decide) (by decide) rfl, hlen, imgLen_of_flash (loadTried_flash r s)]
      · exact (apply_ite (rd _) _ _ _).symm.trans ((rd_loaded_res b p _).trans hreason)
  · obtain ⟨hn, h0, h1⟩ := loadTried_erased (r := r) hf
    refine ⟨_, loadComplete_none hst hr hn, ?_, ?_, ?_, ?_⟩
    · rw [flushLog_dev, (noImage_dev _).1]
    · rw [isSet, rd_noImage (by decide) (by decide), rd_wr_same _ _ _ (by decide)]
      rfl
    · rw [rd_noImage (by decide) (by decide), rd_wr_off _ _ _ _ (by decide)]
      exact h0
    · rw [rd_noImage (by decide) (by decide), rd_wr_off _ _ _ _ (by decide)]
      exact h1
  · obtain ⟨d, h⟩ := loadComplete_romErr hst hr
    exact ⟨_, h, dvFault_load_off hst _ _ _⟩

end Sys2Proof.Machine
end

section
/-! ## A run of the loop engine (R18, R113, R121, R138) -/
namespace Sys2Proof.Machine
open Sys2Proof

/-! ### What the items of a slot leave alone -/

/-- The registers that tell which axes a slot serves and which failed in it: the configurations and the faults of the axes. -/
def EngineCfg (p : Nat) : Prop := ∃ b < 32, p = A.LE_AX_CFG b ∨ p = A.LE_AX_FLT b
/-- From s to t the device record, the memory and those registers stand. -/
structure SlotKept (s t : State) : Prop where
  dev : t.dev = s.dev
  mem : t.mem = s.mem
  reg : ∀ p, EngineCfg p → t.reg p = s.reg p

theorem SlotKept.refl (s : State) : SlotKept s s := ⟨rfl, rfl, fun _ _ => rfl⟩
theorem SlotKept.trans {s t u : State} (h : SlotKept t u) (h' : SlotKept s t) : SlotKept s u :=
  ⟨h.dev.trans h'.dev, h.mem.trans h'.mem, fun p hp => (h.reg p hp).trans (h'.reg p hp)⟩
theorem slotKept_modAx (n : Nat) (f : Axis → Axis) (s : State) : SlotKept s (modAx n f s) := ⟨rfl, rfl, fun _ _ => rfl⟩
theorem slotKept_modLeg (n : Nat) (f : Leg → Leg) (s : State) : SlotKept s (modLeg n f s) := ⟨rfl, rfl, fun _ _ => rfl⟩
theorem slotKept_each {α : Type} {f : α → State → State} (h : ∀ x u, SlotKept u (f x u)) (l : List α) (s : State) : SlotKept s (each f l s) :=
  each_ind (P := SlotKept s) f (fun x u hu => (h x u).trans hu) l s (.refl s)
theorem slotKept_wr {f : Fld} (h : ¬ EngineCfg f.off) (v : Nat) (s : State) : SlotKept s (wr f v s) :=
  ⟨rfl, rfl, fun _ hp => reg_wr_other _ _ _ _ fun e => h (e ▸ hp)⟩
theorem slotKept_wrB {f : Fld} (h : ¬ EngineCfg f.off) (b : Bool) (s : State) : SlotKept s (wrB f b s) := slotKept_wr h _ s
theorem slotKept_logFault (code src c data : Nat) (s : State) : SlotKept s (logFault code src c data s) := by
  refine ⟨logFault_dev _ _ _ _ _, logFault_mem _ _ _ _ _, fun p hp => logFault_reg_below ?_ _ _ _ _ _⟩
  obtain ⟨b, hb, rfl | rfl⟩ := hp
  · unfold A.LE_AX_CFG; omega
  · unfold A.LE_AX_FLT; omega
theorem slotKept_of_drive {s t : State} (h : beyondDrive t = beyondDrive s) (hr : ∀ p, EngineCfg p → t.reg p = s.reg p) : SlotKept s t := by
  have hd := congrArg (fun u : State => u.dev) h
  have hm := congrArg (fun u : State => u.mem) h
  exact ⟨hd, hm, hr⟩
theorem slotKept_legsHiz (a : Nat) (s : State) : SlotKept s (legsHiz a s) :=
  slotKept_of_drive (legsHiz_beyond a s) fun p _ => reg_of_regs (legsHiz_regs a s) p
theorem besideAxes_engineCfg {p : Nat} (h : EngineCfg p) : BesideAxes p := fun a ha => by
  obtain ⟨b, hb, rfl | rfl⟩ := h
  · unfold A.LE_AX_CFG A.LE_AX_STATE A.MOD_AX_STAT A.SAF_AX_FLT; omega
  · unfold A.LE_AX_FLT A.LE_AX_STATE A.MOD_AX_STAT A.SAF_AX_FLT; omega
theorem slotKept_blockReact {a : Nat} (ha : a < 32) (now : Bool) (c : Nat) (s : State) : SlotKept s (blockReact now a c s) :=
  slotKept_of_drive (blockReact_beyond now a c s) fun _ hp => blockReact_reg (besideAxes_engineCfg hp) ha now c s

/-! #### The fields that a slot writes -/

theorem engineCfg_not_stat (a : Nat) : ¬ EngineCfg (A.LE_AX_STAT a) := by
  rintro ⟨b, hb, h | h⟩ <;> revert h <;> unfold A.LE_AX_STAT <;> simp only [A.LE_AX_CFG, A.LE_AX_FLT] <;> omega
theorem engineCfg_not_state (a : Nat) : ¬ EngineCfg (A.LE_AX_STATE a) := by
  rintro ⟨b, hb, h | h⟩ <;> revert h <;> unfold A.LE_AX_STATE <;> simp only [A.LE_AX_CFG, A.LE_AX_FLT] <;> omega
theorem engineCfg_not_sflt (a : Nat) : ¬ EngineCfg (A.LE_AX_SFLT a) := by
  rintro ⟨b, hb, h | h⟩ <;> revert h <;> unfold A.LE_AX_SFLT <;> simp only [A.LE_AX_CFG, A.LE_AX_FLT] <;> omega
theorem engineCfg_not_mod (a : Nat) : ¬ EngineCfg (A.MOD_AX_STAT a) := by
  rintro ⟨b, hb, h | h⟩ <;> revert h <;> unfold A.MOD_AX_STAT <;> simp only [A.LE_AX_CFG, A.LE_AX_FLT] <;> omega

/-! #### The items -/

theorem slotKept_fallback {a : Nat} (ha : a < 32) (s : State) : SlotKept s (fallback a s) := by
  unfold fallback
  split
  · split
    · exact (slotKept_logFault _ _ _ _ _).trans ((slotKept_wr (engineCfg_not_sflt a) _ _).trans ((slotKept_wr (engineCfg_not_state a) _ _).trans
        ((slotKept_wr (engineCfg_not_state a) _ _).trans (slotKept_wr (engineCfg_not_state a) _ s))))
    · exact slotKept_blockReact ha true 2 s
  · exact .refl s
theorem slotKept_noteSnap (a : Nat) (s : State) : SlotKept s (noteSnap a s) := slotKept_modAx _ _ s
theorem slotKept_stepBegin (a : Nat) (s : State) : SlotKept s (stepBegin a s) := by
  unfold stepBegin
  dsimp only
  split
  · exact .refl s
  · split
    · split
      · exact (slotKept_wr (engineCfg_not_state a) _ _).trans ((slotKept_wr (engineCfg_not_state a) _ _).trans (slotKept_modAx _ _ s))
      · exact .refl s
    · split
      · exact (slotKept_wr (engineCfg_not_state a) _ _).trans ((slotKept_wr (engineCfg_not_state a) _ _).trans (slotKept_modAx _ _ s))
      · exact .refl s
    · exact slotKept_modAx _ _ s
    · exact .refl s
theorem slotKept_positionLoop (a : Nat) (s : State) : SlotKept s (positionLoop a s) := by
  unfold positionLoop
  dsimp only
  split
  · exact slotKept_modAx _ _ s
  · exact .refl s
theorem slotKept_speedLoop (a : Nat) (s : State) : SlotKept s (speedLoop a s).1 := by
  unfold speedLoop
  dsimp only
  rw [apply_ite Prod.fst, apply_ite Prod.fst]
  refine iteInduction (motive := SlotKept s) (fun _ => .refl s) fun _ => ?_
  exact iteInduction (motive := SlotKept s) (fun _ => ⟨rfl, rfl, fun _ _ => rfl⟩) fun _ => .refl s
theorem slotKept_gainItem (a : Nat) (we : F32) (s : State) : SlotKept s (gainItem a we s).2 := by
  unfold gainItem
  dsimp only
  exact (slotKept_wrB (engineCfg_not_stat a) _ _).trans ((slotKept_wr (engineCfg_not_stat a) _ _).trans (slotKept_wr (engineCfg_not_stat a) _ s))
theorem slotKept_estimatorItem (a : Nat) (c : Coef) (th : F32) (s : State) : SlotKept s (estimatorItem a c th s) := by
  unfold estimatorItem
  split
  · dsimp only
    exact (slotKept_modAx _ _ _).trans ((slotKept_wrB (engineCfg_not_state a) _ _).trans (slotKept_modAx _ _ s))
  · exact .refl s
theorem slotKept_fluxItem (a : Nat) (s : State) : SlotKept s (fluxItem a s) := by
  unfold fluxItem
  dsimp only
  exact (slotKept_wrB (engineCfg_not_stat a) _ _).trans (slotKept_modAx _ _ s)
theorem slotKept_limitsIdle (a : Nat) (s : State) : SlotKept s (limitsIdle a s) := by
  have stat := engineCfg_not_stat a
  unfold limitsIdle
  exact (slotKept_wr (engineCfg_not_mod a) _ _).trans ((slotKept_wr stat _ _).trans ((slotKept_wr stat _ _).trans ((slotKept_wr stat _ _).trans
    ((slotKept_wr stat _ _).trans ((slotKept_wr stat _ _).trans (slotKept_modAx _ _ s))))))
theorem slotKept_idleLoop (a : Nat) (s : State) : SlotKept s (idleLoop a s).st := by
  unfold idleLoop
  dsimp only
  refine (slotKept_limitsIdle a _).trans ?_
  split
  · exact .refl s
  · exact slotKept_modAx _ _ s
theorem slotKept_machineLoop (a : Nat) (c : Coef) (ang : F32 × F32) (tcl : Bool) (s : State) : SlotKept s (machineLoop a c ang tcl s).st := by
  have stat := engineCfg_not_stat a
  unfold machineLoop
  dsimp only
  exact (slotKept_wrB (engineCfg_not_mod a) _ _).trans ((slotKept_wrB stat _ _).trans ((slotKept_wrB stat _ _).trans ((slotKept_wrB stat _ _).trans
    ((slotKept_wrB stat _ _).trans ((slotKept_wrB stat _ _).trans (slotKept_modAx _ _ s))))))
theorem slotKept_scalarLoop (a : Nat) (c : Coef) (tcl : Bool) (s : State) : SlotKept s (scalarLoop a c tcl s).st := by
  have stat := engineCfg_not_stat a
  unfold scalarLoop
  dsimp only
  exact (slotKept_wr stat _ _).trans ((slotKept_wrB stat _ _).trans ((slotKept_wrB stat _ _).trans ((slotKept_wrB stat _ _).trans
    ((slotKept_wrB stat _ _).trans (slotKept_modAx _ _ s)))))
theorem slotKept_stepEnd (a : Nat) (s : State) : SlotKept s (stepEnd a s) := by
  unfold stepEnd
  dsimp only
  split
  · exact .refl s
  · split
    · exact slotKept_modAx _ _ s
    · split
      · exact slotKept_modAx _ _ s
      · exact slotKept_modAx _ _ s
      · split
        · exact (slotKept_legsHiz _ _).trans (slotKept_modAx _ _ s)
        · exact slotKept_modAx _ _ s
      · exact slotKept_modAx _ _ s
      · exact slotKept_modAx _ _ s
      · exact slotKept_modAx _ _ s

/-! ### The readback record (R121) -/

theorem leNat_leBytes : ∀ n v : Nat, leNat (leBytes n v) = v % 256 ^ n
  | 0, v => (Nat.mod_one v).symm
  | n + 1, v => by
    rw [leBytes, leNat, leNat_leBytes n, BitVec.toNat_ofNat]
    exact Nat.mod_mul.symm.trans (congrArg (v % ·) Nat.pow_succ'.symm)
theorem rd32_bytes (s : State) (a : Nat) : rd32 s a = BitVec.ofNat 32 (leNat [rdB s a, rdB s (a + 1), rdB s (a + 2), rdB s (a + 3)]) := rfl
theorem rd32_of_bytes {s t : State} {a : Nat} (h : ∀ i < 4, rdB t (a + i) = rdB s (a + i)) : rd32 t a = rd32 s a := by
  have h0 : rdB t a = rdB s a := h 0 (by decide)
  rw [rd32_bytes, rd32_bytes, h0, h 1 (by decide), h 2 (by decide), h 3 (by decide)]
/-- A word written at the head of a block of bytes reads back. -/
theorem rd32_wrBytes_head (a : Nat) (v : Word) (bs : List Byte) (s : State) : rd32 (wrBytes a (leBytes 4 v.toNat ++ bs) s) a = v := by
  have byte : ∀ (i : Nat) (h : i < 4), rdB (wrBytes a (leBytes 4 v.toNat ++ bs) s) (a + i) = (leBytes 4 v.toNat)[i]'h := fun i h => by
    rw [rdB_wrBytes_same _ _ _ _ (by simp [leBytes]; omega)]
    exact List.getElem_append_left h
  have b0 := byte 0 (by decide)
  rw [Nat.add_zero] at b0
  rw [rd32_bytes, b0, byte 1 (by decide), byte 2 (by decide), byte 3 (by decide)]
  change BitVec.ofNat 32 (leNat (leBytes 4 v.toNat)) = v
  rw [leNat_leBytes, Nat.mod_eq_of_lt (show v.toNat < 256 ^ 4 from v.isLt), BitVec.ofNat_toNat, BitVec.setWidth_eq]

/-- The stamp stands at both ends of the readback record of axis a. -/
def Stamped (v : Word) (a : Nat) (s : State) : Prop := rd32 s (rbBase a) = v ∧ rd32 s (rbBase a + 0xFC) = v
/-- The stamp of a stride. -/
def strideStamp (s : State) : Word := BitVec.ofNat 32 s.dev.count.toNat
theorem stamped_of_mem {v : Word} {a : Nat} {s t : State} (hm : ∀ i, rbBase a ≤ i → i < rbBase a + 256 → rdB t i = rdB s i) (h : Stamped v a s) :
    Stamped v a t := by
  obtain ⟨h0, h1⟩ := h
  exact ⟨(rd32_of_bytes fun i hi => hm _ (by omega) (by omega)).trans h0, (rd32_of_bytes fun i hi => hm _ (by omega) (by omega)).trans h1⟩

/-- A readback record is a stamp and 68 bytes, 16 bytes of the input area and four words, and a stamp. -/
theorem readback_eq (a : Nat) (m : Meas) (vmax : F32) (th : Word) (s : State) : ∃ bs : List Byte, ∃ x y z w : Word, bs.length = 68 ∧
    readback a m vmax th s = wr32 (rbBase a + 0xFC) (strideStamp s) (wr32 (rbBase a + 0x64) x (wr32 (rbBase a + 0x60) y (wr32 (rbBase a + 0x5C) z
      (wr32 (rbBase a + 0x58) w (let u := wrBytes (rbBase a) (leBytes 4 (strideStamp s).toNat ++ bs) s
        wrBytes (rbBase a + 0x48) (rdBytes u (inBase a) 16) u))))) := by
  refine ⟨_, _, _, _, _, ?_, rfl⟩
  simp [leBytes_length]
theorem rdB_wr32_other (s : State) {a i : Nat} (v : Word) (h : i < a ∨ a + 4 ≤ i) : rdB (wr32 a v s) i = rdB s i :=
  rdB_wrBytes_other _ _ _ _ (by rwa [leBytes_length])
theorem rdBytes_length (s : State) (a n : Nat) : (rdBytes s a n).length = n := tgetList_length _ _ _ _
theorem readback_other {a i : Nat} (h : i < rbBase a ∨ rbBase a + 256 ≤ i) (m : Meas) (vmax : F32) (th : Word) (s : State) :
    rdB (readback a m vmax th s) i = rdB s i := by
  obtain ⟨bs, x, y, z, w, hl, hr⟩ := readback_eq a m vmax th s
  dsimp only at hr
  rw [hr, rdB_wr32_other _ _ (by omega), rdB_wr32_other _ _ (by omega), rdB_wr32_other _ _ (by omega), rdB_wr32_other _ _ (by omega),
    rdB_wr32_other _ _ (by omega), rdB_wrBytes_other _ _ _ _ (by rw [rdBytes_length]; omega),
    rdB_wrBytes_other _ _ _ _ (by rw [List.length_append, leBytes_length, hl]; omega)]
theorem readback_stamped (a : Nat) (m : Meas) (vmax : F32) (th : Word) (s : State) : Stamped (strideStamp s) a (readback a m vmax th s) := by
  obtain ⟨bs, x, y, z, w, hl, hr⟩ := readback_eq a m vmax th s
  dsimp only at hr
  rw [hr]
  refine ⟨?_, ?_⟩
  · refine (rd32_of_bytes fun i hi => ?_).trans (rd32_wrBytes_head (rbBase a) (strideStamp s) bs s)
    rw [rdB_wr32_other _ _ (by omega), rdB_wr32_other _ _ (by omega), rdB_wr32_other _ _ (by omega), rdB_wr32_other _ _ (by omega),
      rdB_wr32_other _ _ (by omega), rdB_wrBytes_other _ _ _ _ (by omega)]
  · have tail := rd32_wrBytes_head (rbBase a + 0xFC) (strideStamp s) [] (wr32 (rbBase a + 0x64) x (wr32 (rbBase a + 0x60) y (wr32 (rbBase a + 0x5C) z
      (wr32 (rbBase a + 0x58) w (wrBytes (rbBase a + 0x48) (rdBytes (wrBytes (rbBase a) (leBytes 4 (strideStamp s).toNat ++ bs) s) (inBase a) 16)
        (wrBytes (rbBase a) (leBytes 4 (strideStamp s).toNat ++ bs) s))))))
    rwa [List.append_nil] at tail
theorem readback_kept (a : Nat) (m : Meas) (vmax : F32) (th : Word) (s : State) :
    (readback a m vmax th s).dev = s.dev ∧ (readback a m vmax th s).regs = s.regs := by
  obtain ⟨bs, x, y, z, w, hl, hr⟩ := readback_eq a m vmax th s
  rw [hr]
  simp only [wr32_dev, wr32_regs, wrBytes_dev, wrBytes_regs, and_self]

/-- The current loop of a slot, whichever it is. -/
theorem slotKept_loop (a : Nat) (c : Coef) (ang : F32 × F32) (tcl : Bool) (s : State) :
    SlotKept s (if ¬ ctlRuns s a then idleLoop a s else if isMachine s a then machineLoop a c ang tcl s else scalarLoop a c tcl s).st := by
  split
  · exact slotKept_idleLoop a s
  · split
    · exact slotKept_machineLoop a c ang tcl s
    · exact slotKept_scalarLoop a c tcl s

/-! ### A slot (R113, R114, R138) -/

/-- A slot ends either with the axis failed, its flag set and no byte written, or with the readback record written. -/
theorem slotRun_cases {a : Nat} (ha : a < 32) (s : State) : ∃ u, SlotKept s u ∧
    ((∃ item, slotRun a s = blockReact false a 10 (logFault 0x0403 a 2 item (wr (F.LE_AX_FLT_NONFIN a) 1 u))) ∨
      ∃ m vmax th, slotRun a s = stepEnd a (readback a m vmax th u)) := by
  unfold slotRun
  dsimp only
  split
  next item _ _ =>
    exact ⟨_, (slotKept_stepBegin a _).trans ((slotKept_noteSnap a _).trans (slotKept_fallback ha s)), .inl ⟨item, rfl⟩⟩
  · refine ⟨_, ?_, .inr ⟨_, _, _, rfl⟩⟩
    refine (slotKept_modAx _ _ _).trans ((slotKept_each (fun _ _ => slotKept_modLeg _ _ _) _ _).trans ((slotKept_loop a _ _ _ _).trans ?_))
    refine (slotKept_fluxItem a _).trans ((slotKept_estimatorItem a _ _ _).trans ((slotKept_gainItem a _ _).trans ((slotKept_speedLoop a _).trans ?_)))
    refine (slotKept_positionLoop a _).trans ?_
    exact (slotKept_stepBegin a _).trans ((slotKept_noteSnap a _).trans (slotKept_fallback ha s))

/-- What the slot of axis a leaves: the device, the configurations, the faults of the other axes and the memory beside its readback record as they
were, and where its axis did not fail, the stride's stamp at both ends of that record. -/
structure SlotDone (a : Nat) (s t : State) : Prop where
  dev : t.dev = s.dev
  cfg : ∀ b < 32, t.reg (A.LE_AX_CFG b) = s.reg (A.LE_AX_CFG b)
  flt : ∀ b < 32, b ≠ a → t.reg (A.LE_AX_FLT b) = s.reg (A.LE_AX_FLT b)
  mem : ∀ i, i < rbBase a ∨ rbBase a + 256 ≤ i → rdB t i = rdB s i
  stamped : isSet t (F.LE_AX_FLT_NONFIN a) = false → Stamped (strideStamp s) a t

theorem engineCfg_cfg {b : Nat} (h : b < 32) : EngineCfg (A.LE_AX_CFG b) := ⟨b, h, .inl rfl⟩
theorem engineCfg_flt {b : Nat} (h : b < 32) : EngineCfg (A.LE_AX_FLT b) := ⟨b, h, .inr rfl⟩
theorem rdB_of_mem {s t : State} (h : t.mem = s.mem) (i : Nat) : rdB t i = rdB s i := by unfold rdB; rw [h]

/-- An axis that failed shows it, and nothing of its slot is written. -/
theorem slotDone_failed {a : Nat} (ha : a < 32) {s u t : State} (hu : SlotKept s u) (ht : SlotKept (wr (F.LE_AX_FLT_NONFIN a) 1 u) t) : SlotDone a s t := by
  have off : ∀ b < 32, b ≠ a → A.LE_AX_FLT b ≠ A.LE_AX_FLT a := fun b _ hb => by unfold A.LE_AX_FLT; omega
  have offCfg : ∀ b < 32, A.LE_AX_CFG b ≠ A.LE_AX_FLT a := fun b _ => by unfold A.LE_AX_CFG A.LE_AX_FLT; omega
  have set : isSet t (F.LE_AX_FLT_NONFIN a) = true := by
    rw [isSet_of_rd (rd_of_reg (f := F.LE_AX_FLT_NONFIN a) (ht.reg _ (engineCfg_flt ha))), isSet,
      rd_wr_same _ (F.LE_AX_FLT_NONFIN a) _ (show 0 + 1 ≤ 32 by decide)]
    rfl
  refine ⟨ht.dev.trans hu.dev, fun b hb => ?_, fun b hb hne => ?_, fun i _ => rdB_of_mem (ht.mem.trans hu.mem) i, fun h => ?_⟩
  · rw [ht.reg _ (engineCfg_cfg hb), reg_wr_other _ _ _ _ (offCfg b hb), hu.reg _ (engineCfg_cfg hb)]
  · rw [ht.reg _ (engineCfg_flt hb), reg_wr_other _ _ _ _ (off b hb hne), hu.reg _ (engineCfg_flt hb)]
  · exact absurd (set.symm.trans h) (by decide)
/-- An axis whose record is written has its stamps. -/
theorem slotDone_written {a : Nat} {s u t : State} (hu : SlotKept s u) (m : Meas) (vmax : F32) (th : Word)
    (ht : SlotKept (readback a m vmax th u) t) : SlotDone a s t := by
  obtain ⟨hd, hr⟩ := readback_kept a m vmax th u
  have stamp : strideStamp u = strideStamp s := by
    unfold strideStamp
    rw [hu.dev]
  refine ⟨ht.dev.trans (hd.trans hu.dev), fun b hb => ?_, fun b hb _ => ?_, fun i hi => ?_, fun _ => ?_⟩
  · rw [ht.reg _ (engineCfg_cfg hb), reg_of_regs hr, hu.reg _ (engineCfg_cfg hb)]
  · rw [ht.reg _ (engineCfg_flt hb), reg_of_regs hr, hu.reg _ (engineCfg_flt hb)]
  · rw [rdB_of_mem ht.mem, readback_other hi, rdB_of_mem hu.mem]
  · exact stamped_of_mem (fun i _ _ => rdB_of_mem ht.mem i) (stamp ▸ readback_stamped a m vmax th u)
theorem slotDone_slotRun {a : Nat} (ha : a < 32) (s : State) : SlotDone a s (slotRun a s) := by
  obtain ⟨u, hu, ⟨item, h⟩ | ⟨m, vmax, th, h⟩⟩ := slotRun_cases ha s
  · exact slotDone_failed ha hu (h ▸ (slotKept_blockReact ha false 10 _).trans (slotKept_logFault _ _ _ _ _))
  · exact slotDone_written hu m vmax th (h ▸ slotKept_stepEnd a _)

/-! ### The slots of a team -/

/-- The slot of axis a, which a spanned partner has none of. -/
def teamSlot (a : Nat) (s : State) : State := if axType s a = 7 then s else slotRun a s
theorem loopEngineRun_slots {t : TeamNo} {s : State} (ha : armedOn s = true) (ht : t.val < s.nTeams) :
    exec (.loopEngineRun t none) s = done (each teamSlot (teamAxes s t) s) := if_pos ⟨ha, ht⟩
theorem rbBase_apart {a b : Nat} (h : b ≠ a) : rbBase b + 256 ≤ rbBase a ∨ rbBase a + 256 ≤ rbBase b := by
  unfold rbBase leBase
  omega

/-- The device and the configurations of the axes are those of s. -/
def SameAxes (s u : State) : Prop := u.dev = s.dev ∧ ∀ b < 32, u.reg (A.LE_AX_CFG b) = s.reg (A.LE_AX_CFG b)
theorem sameAxes_teamSlot {a : Nat} (ha : a < 32) {s u : State} (h : SameAxes s u) : SameAxes s (teamSlot a u) := by
  unfold teamSlot
  split
  · exact h
  · have slot := slotDone_slotRun ha u
    exact ⟨slot.dev.trans h.1, fun b hb => (slot.cfg b hb).trans (h.2 b hb)⟩
theorem teamSlot_outside {a : Nat} (ha : a < 32) {i : Nat} (hi : i < rbBase a ∨ rbBase a + 256 ≤ i) (s : State) : rdB (teamSlot a s) i = rdB s i := by
  unfold teamSlot
  split
  · rfl
  · exact (slotDone_slotRun ha s).mem i hi
/-- Axis a has its stamps unless it failed. -/
def StampedUnlessFailed (v : Word) (a : Nat) (s : State) : Prop := isSet s (F.LE_AX_FLT_NONFIN a) = false → Stamped v a s
theorem teamSlot_stamps {a : Nat} (ha : a < 32) {s u : State} (h : SameAxes s u) (h7 : axType s a ≠ 7) :
    StampedUnlessFailed (strideStamp s) a (teamSlot a u) := by
  have stamp : strideStamp u = strideStamp s := by
    unfold strideStamp
    rw [h.1]
  rw [teamSlot, if_neg (by rwa [axType_of_cfg h.2 ha])]
  exact stamp ▸ (slotDone_slotRun ha u).stamped
/-- The slot of another axis leaves the stamps of axis a. -/
theorem teamSlot_keeps {a b : Nat} (ha : a < 32) (hb : b < 32) (hne : b ≠ a) {v : Word} {u : State} (h : StampedUnlessFailed v a u) :
    StampedUnlessFailed v a (teamSlot b u) := by
  unfold teamSlot
  split
  · exact h
  · have slot := slotDone_slotRun hb u
    have apart := rbBase_apart hne
    intro hf
    rw [isSet_of_rd (rd_of_reg (f := F.LE_AX_FLT_NONFIN a) (slot.flt a ha hne.symm))] at hf
    exact stamped_of_mem (fun i _ _ => slot.mem i (by omega)) (h hf)
theorem teamSlots_stamp {s : State} {m a : Nat} (hm : m < 8) (h : a ∈ teamAxes s m) (h7 : axType s a ≠ 7) :
    StampedUnlessFailed (strideStamp s) a (each teamSlot (teamAxes s m) s) := by
  have ha := teamAxes_lt hm h
  refine (each_of_mem (f := teamSlot) (P := fun u => SameAxes s u ∧ StampedUnlessFailed (strideStamp s) a u) (Q := SameAxes s)
    (fun u hu => ⟨sameAxes_teamSlot ha hu, teamSlot_stamps ha hu h7⟩) (fun b hb u hu => ?_) (fun b hb u hu => sameAxes_teamSlot (teamAxes_lt hm hb) hu)
    h ⟨rfl, fun _ _ => rfl⟩).2
  refine ⟨sameAxes_teamSlot (teamAxes_lt hm hb) hu.1, ?_⟩
  by_cases hne : b = a
  · rw [hne]
    exact teamSlot_stamps ha hu.1 h7
  · exact teamSlot_keeps ha (teamAxes_lt hm hb) hne hu.2

/-- Settles O15: a slot writes the readback record of its axis alone, and only where a value is not finite does it write none, with NONFIN set. -/
theorem loopEngineWritesReadback : Obligations.LoopEngineWritesReadback := by
  unfold Obligations.LoopEngineWritesReadback
  intro t s ha ht
  have hm : t.val < 8 := t.isLt
  refine ⟨_, loopEngineRun_slots ha ht, fun a hat h7 hf => ?_, fun i hi => ?_⟩
  · have below : A.LE_AX_FLT a < 0x0F0000 := by
      have := teamAxes_lt hm hat
      unfold A.LE_AX_FLT
      omega
    rw [isSet_of_rd (rd_of_reg (f := F.LE_AX_FLT_NONFIN a) (flushLog_reg_below below _))] at hf
    exact stamped_of_mem (fun i _ _ => rdB_of_mem (flushLog_mem _) i) (teamSlots_stamp hm hat h7 hf)
  · rw [rdB_of_mem (flushLog_mem _)]
    exact each_of_mem_ind (P := fun u => rdB u i = rdB s i) teamSlot
      (fun a hat u hu => (teamSlot_outside (teamAxes_lt hm hat) (hi a hat) u).trans hu) rfl

end Sys2Proof.Machine
end

section
/-! ## Staged duties at the commit and the update point of a team (R42, R43, R158, R170) -/
namespace Sys2Proof.Machine
open Sys2Proof

/-! ### What a frame put on a ring leaves alone -/

theorem logRated_mem (code src c data : Nat) (s : State) : (logRated code src c data s).mem = s.mem := by
  have h := congrArg (fun u : State => u.mem) (logRated_beyond code src c data s)
  exact h
theorem ringPut_dev (ring cls dest stream flags : Nat) (b : List Byte) (s : State) : (ringPut ring cls dest stream flags b s).1.dev = s.dev :=
  ringPut_keep State.dev (fun _ _ _ _ => rfl) (fun _ _ => rfl) (fun c n k d u => logRated_dev c n k d u) ring cls dest stream flags b s
theorem ringPut_drive (ring cls dest stream flags : Nat) (b : List Byte) (s : State) : (ringPut ring cls dest stream flags b s).1.drive = s.drive :=
  ringPut_keep State.drive (fun _ _ _ _ => rfl) (fun _ _ => rfl) (fun c n k d u => logRated_drive c n k d u) ring cls dest stream flags b s
theorem ringPut_mem (ring cls dest stream flags : Nat) (b : List Byte) (s : State) : (ringPut ring cls dest stream flags b s).1.mem = s.mem :=
  ringPut_keep State.mem (fun _ _ _ _ => rfl) (fun _ _ => rfl) (fun c n k d u => logRated_mem c n k d u) ring cls dest stream flags b s
theorem ringPut_reg {p : Nat} (h : Unsent p) (ring cls dest stream flags : Nat) (b : List Byte) (s : State) :
    (ringPut ring cls dest stream flags b s).1.reg p = s.reg p :=
  ringPut_keep (·.reg p) (fun _ _ _ hf => reg_wr_other _ _ _ _ fun e => hf (e ▸ h)) (fun _ _ => rfl)
    (fun c n k d u => logRated_reg_below h.2.2 c n k d u) ring cls dest stream flags b s
@[simp] theorem ringSend_dev (ring cls stream : Nat) (b : List Byte) (s : State) : (ringSend ring cls stream b s).dev = s.dev := ringPut_dev _ _ _ _ _ _ _
@[simp] theorem ringSend_drive (ring cls stream : Nat) (b : List Byte) (s : State) : (ringSend ring cls stream b s).drive = s.drive := ringPut_drive _ _ _ _ _ _ _
@[simp] theorem ringSend_mem (ring cls stream : Nat) (b : List Byte) (s : State) : (ringSend ring cls stream b s).mem = s.mem := ringPut_mem _ _ _ _ _ _ _
theorem ringSend_reg {p : Nat} (h : Unsent p) (ring cls stream : Nat) (b : List Byte) (s : State) : (ringSend ring cls stream b s).reg p = s.reg p :=
  ringPut_reg h _ _ _ _ _ _ _

theorem leg_of_drive {s t : State} (h : t.drive = s.drive) (n : Nat) : t.leg n = s.leg n := by unfold State.leg; rw [h]
theorem axLegs_of_reg {s t : State} {a : Nat} (h : t.reg (A.LE_AX_LEGS a) = s.reg (A.LE_AX_LEGS a)) : axLegs t a = axLegs s a := by
  unfold axLegs
  rw [rd_of_reg (f := F.LE_AX_LEGS_NLEG a) h, rd_of_reg (f := F.LE_AX_LEGS_LEG0_LEG5 a) h]

/-! ### The staged duties committed (R42) -/

/-- The record of a leg whose staged duty, where there is one, has moved to its shadow register. -/
def dutyCommitted (l : Leg) : Leg :=
  match l.staged with
  | some d => { l with shadow := some d, staged := none }
  | none => l
theorem dutyCommitted_spec (l : Leg) : (dutyCommitted l).staged = none ∧ (dutyCommitted l).shadow = match l.staged with
    | some d => some d
    | none => l.shadow := by
  cases h : l.staged <;> simp [dutyCommitted, h]
theorem dutyCommitted_idem (l : Leg) : dutyCommitted (dutyCommitted l) = dutyCommitted l := by
  cases h : l.staged <;> simp [dutyCommitted, h]

/-- The legs of an axis committed. -/
def axisCommitted (a : Nat) (s : State) : State := each (fun n => modLeg n dutyCommitted) (axLegs s a) s
theorem axisCommitted_regs (a : Nat) (s : State) : (axisCommitted a s).regs = s.regs := each_regs _ (axLegs s a) s fun _ _ => rfl
theorem axisCommitted_mem (a : Nat) (s : State) : (axisCommitted a s).mem = s.mem := each_keep State.mem (fun n => modLeg n dutyCommitted) (fun _ _ => rfl) (axLegs s a) s

/-- A leg that a commit has reached, and one that it may still reach. -/
theorem modLeg_committed {n m : Nat} {l : Leg} {s : State} (h : s.leg n = l ∨ s.leg n = dutyCommitted l) :
    (modLeg m dutyCommitted s).leg n = if n = m then dutyCommitted l else s.leg n := by
  rw [leg_modLeg]
  split
  next e => subst e; rcases h with h | h <;> rw [h]; exact dutyCommitted_idem l
  · rfl
theorem leg_axisCommitted_of {n a : Nat} {l : Leg} {s : State} (h : s.leg n = l ∨ s.leg n = dutyCommitted l) :
    (axisCommitted a s).leg n = l ∨ (axisCommitted a s).leg n = dutyCommitted l := by
  refine each_ind (P := fun u : State => u.leg n = l ∨ u.leg n = dutyCommitted l) _ (fun m u h => ?_) _ s h
  rw [modLeg_committed h]
  split
  · exact .inr rfl
  · exact h
theorem leg_axisCommitted_mem {n a : Nat} {l : Leg} {s : State} (hn : n ∈ axLegs s a) (h : s.leg n = l ∨ s.leg n = dutyCommitted l) :
    (axisCommitted a s).leg n = dutyCommitted l := by
  refine each_of_mem (P := fun u => u.leg n = dutyCommitted l) (Q := fun u => u.leg n = l ∨ u.leg n = dutyCommitted l)
    (fun u h => ?_) (fun m _ u h => ?_) (fun m _ u h => ?_) hn h
  · rw [modLeg_committed h, if_pos rfl]
  · rw [modLeg_committed (.inr h), h, ite_self]
  · rw [modLeg_committed h]
    split
    · exact .inr rfl
    · exact h

/-- A commit of the axes reaches every leg of each. -/
theorem leg_axesCommitted {a n : Nat} {as : List Nat} {s : State} (ha : a ∈ as) (hn : n ∈ axLegs s a) :
    (each axisCommitted as s).leg n = dutyCommitted (s.leg n) := by
  have legs {u : State} (b : Nat) (h : u.regs = s.regs) : (axisCommitted b u).regs = s.regs := (axisCommitted_regs b u).trans h
  refine (each_of_mem (P := fun u => u.regs = s.regs ∧ u.leg n = dutyCommitted (s.leg n))
    (Q := fun u => u.regs = s.regs ∧ (u.leg n = s.leg n ∨ u.leg n = dutyCommitted (s.leg n)))
    (fun u h => ⟨legs a h.1, leg_axisCommitted_mem ?_ h.2⟩) (fun b _ u h => ⟨legs b h.1, ?_⟩)
    (fun b _ u h => ⟨legs b h.1, leg_axisCommitted_of h.2⟩) ha ⟨rfl, .inl rfl⟩).2
  · rw [axLegs_of_reg (reg_of_regs h.1 _)]; exact hn
  · exact (leg_axisCommitted_of (l := dutyCommitted (s.leg n)) (.inl h.2)).elim id fun e => e.trans (dutyCommitted_idem _)

/-- COMMIT_PHASE of a team: its axes committed, then the down frame of each spanned lead sent. -/
def teamCommitted (t : Nat) (s : State) : State :=
  each (fun a s => if axType s a = 6 then ringSend 0 1 a (downPayload s a) s else s) (teamAxes s t) (each axisCommitted (teamAxes s t) s)
theorem commitPhase_eq {t : TeamNo} {s : State} (ha : armedOn s = true) (ht : t.val < s.nTeams) :
    exec (.commitPhase t) s = done (teamCommitted t s) :=
  if_pos ⟨ha, ht⟩
theorem teamCommitted_mem (t : Nat) (s : State) : (teamCommitted t s).mem = s.mem := by
  refine (each_keep State.mem _ (fun a u => ?_) _ _).trans (each_keep State.mem _ axisCommitted_mem _ _)
  split
  · exact ringSend_mem _ _ _ _ _
  · rfl
theorem teamCommitted_drive (t : Nat) (s : State) : (teamCommitted t s).drive = (each axisCommitted (teamAxes s t) s).drive := by
  refine each_keep State.drive _ (fun a u => ?_) _ _
  split
  · exact ringSend_drive _ _ _ _ _
  · rfl

/-! ### The shadow duties taken (R43, R158, R170) -/

/-- What the update point brings to leg n, whose record was l, in a stride of count c: the shadow duty in force and shown, where there is
one; with an empty shadow the duty that stood. -/
structure DutyTaken (c n : Nat) (l : Leg) (u : State) : Prop where
  shadow : (u.leg n).shadow = l.shadow
  taken : ∀ d, l.shadow = some d → (u.leg n).duty = d ∧ (u.leg n).hiz = false ∧ rd u (F.MOD_LEG_DUTY_DUTY n) = dutyCode d.1 ∧
    rd u (F.MOD_LEG_DUTY_STAMP n) = c % 2 ^ (F.MOD_LEG_DUTY_STAMP n).w
  kept : l.shadow = none → (u.leg n).duty = l.duty ∧ (u.leg n).hiz = l.hiz
/-- Leg n before its update: the shadow of record l, and its duty where that is empty. -/
structure DutyWaits (n : Nat) (l : Leg) (u : State) : Prop where
  shadow : (u.leg n).shadow = l.shadow
  kept : l.shadow = none → (u.leg n).duty = l.duty ∧ (u.leg n).hiz = l.hiz
theorem DutyTaken.waits {c n : Nat} {l : Leg} {u : State} (h : DutyTaken c n l u) : DutyWaits n l u := ⟨h.shadow, h.kept⟩

theorem dutyCode_lt (d : F32) : dutyCode d < 65536 := by
  unfold dutyCode
  dsimp only
  split
  · omega
  · split <;> omega

/-- The record of a leg that takes the shadow duty d at a peak or a valley. -/
def legTaken (peak : Bool) (d : F32 × Int) (l : Leg) : Leg :=
  { l with duty := d, prev := if peak || l.hiz then d else l.duty, hiz := false, fresh := if l.hiz then some peak else l.fresh }
theorem takeDuty_none {p : Bool} {n : Nat} {s : State} (h : (s.leg n).shadow = none) : takeDuty p n s = s := by
  unfold takeDuty
  simp only [h]
theorem takeDuty_some {p : Bool} {n : Nat} {d : F32 × Int} {s : State} (h : (s.leg n).shadow = some d) :
    takeDuty p n s = wr (F.MOD_LEG_DUTY_STAMP n) s.dev.count.toNat
      (wr (F.MOD_LEG_DUTY_DUTY n) (dutyCode d.1) (modLeg n (fun _ => legTaken p d (s.leg n)) s)) := by
  unfold takeDuty legTaken
  simp only [h]
/-- What neither the record of the leg nor its two fields change. -/
theorem takeDuty_keep {γ : Type} {g : State → γ} {m : Nat} (hw : ∀ f v u, f.off = A.MOD_LEG_DUTY m → g (wr f v u) = g u)
    (hl : ∀ f u, g (modLeg m f u) = g u) (p : Bool) (s : State) : g (takeDuty p m s) = g s := by
  cases h : (s.leg m).shadow with
  | none => rw [takeDuty_none h]
  | some d => rw [takeDuty_some h, hw _ _ _ rfl, hw _ _ _ rfl, hl]
theorem takeDuty_mem (p : Bool) (n : Nat) (s : State) : (takeDuty p n s).mem = s.mem :=
  takeDuty_keep (g := State.mem) (fun _ _ _ _ => rfl) (fun _ _ => rfl) p s
theorem takeDuty_dev (p : Bool) (n : Nat) (s : State) : (takeDuty p n s).dev = s.dev :=
  takeDuty_keep (g := State.dev) (fun _ _ _ _ => rfl) (fun _ _ => rfl) p s
theorem takeDuty_leg_other {n m : Nat} (h : n ≠ m) (p : Bool) (s : State) : (takeDuty p m s).leg n = s.leg n :=
  takeDuty_keep (g := fun u => u.leg n) (fun _ _ _ _ => rfl) (fun f u => (leg_modLeg m n f u).trans (if_neg h)) p s
theorem takeDuty_reg {m r : Nat} (h : r ≠ A.MOD_LEG_DUTY m) (p : Bool) (s : State) : (takeDuty p m s).reg r = s.reg r :=
  takeDuty_keep (g := fun u => u.reg r) (fun f v u hf => reg_wr_other u f v r (hf ▸ h)) (fun _ _ => rfl) p s

/-- The leg itself takes its duty. -/
theorem takeDuty_takes {n : Nat} {l : Leg} {u : State} (p : Bool) (h : DutyWaits n l u) :
    DutyTaken u.dev.count.toNat n l (takeDuty p n u) := by
  cases hs : l.shadow with
  | none =>
    rw [takeDuty_none (h.shadow.trans hs)]
    exact ⟨h.shadow, fun d hd => absurd (hs.symm.trans hd) nofun, h.kept⟩
  | some d =>
    have hd := h.shadow.trans hs
    have hleg : (takeDuty p n u).leg n = legTaken p d (u.leg n) := by
      rw [takeDuty_some hd]
      exact (leg_modLeg n n (fun _ => legTaken p d (u.leg n)) u).trans (if_pos rfl)
    refine ⟨(congrArg Leg.shadow hleg).trans (hd.trans hs.symm), fun d' hd' => ?_, fun h0 => absurd (hs.symm.trans h0) nofun⟩
    obtain rfl : d = d' := Option.some.inj (hs.symm.trans hd')
    refine ⟨congrArg Leg.duty hleg, congrArg Leg.hiz hleg, ?_, ?_⟩
    · rw [takeDuty_some hd, rd_wr_disj _ (F.MOD_LEG_DUTY_STAMP n) (F.MOD_LEG_DUTY_DUTY n) _ (show 16 + 8 ≤ 32 by decide) (show 0 + 16 ≤ 32 by decide)
        (.inr (Nat.le_refl 16)), rd_wr_same _ (F.MOD_LEG_DUTY_DUTY n) _ (show 0 + 16 ≤ 32 by decide)]
      exact Nat.mod_eq_of_lt (dutyCode_lt _)
    · rw [takeDuty_some hd, rd_wr_same _ (F.MOD_LEG_DUTY_STAMP n) _ (show 16 + 8 ≤ 32 by decide)]
theorem DutyWaits.of_leg {n : Nat} {l : Leg} {u v : State} (h : DutyWaits n l u) (e : v.leg n = u.leg n) : DutyWaits n l v :=
  ⟨e ▸ h.shadow, e ▸ h.kept⟩
theorem DutyTaken.of_leg {c n : Nat} {l : Leg} {u v : State} (h : DutyTaken c n l u) (e : v.leg n = u.leg n)
    (hr : v.reg (A.MOD_LEG_DUTY n) = u.reg (A.MOD_LEG_DUTY n)) : DutyTaken c n l v := by
  refine ⟨e ▸ h.shadow, fun d hd => ?_, e ▸ h.kept⟩
  rw [e, rd_of_reg (f := F.MOD_LEG_DUTY_DUTY n) hr, rd_of_reg (f := F.MOD_LEG_DUTY_STAMP n) hr]
  exact h.taken d hd
/-- The update of any leg leaves a waiting leg waiting or takes it, and one taken taken. -/
theorem takeDuty_waits {n m : Nat} {l : Leg} {u : State} (p : Bool) (h : DutyWaits n l u) : DutyWaits n l (takeDuty p m u) := by
  by_cases e : n = m
  · subst e; exact (takeDuty_takes p h).waits
  · exact h.of_leg (takeDuty_leg_other e p u)
theorem takeDuty_taken {n m : Nat} {l : Leg} {u : State} (p : Bool) (h : DutyTaken u.dev.count.toNat n l u) :
    DutyTaken u.dev.count.toNat n l (takeDuty p m u) := by
  by_cases e : n = m
  · subst e; exact takeDuty_takes p h.waits
  · refine h.of_leg (takeDuty_leg_other e p u) (takeDuty_reg (fun e' => e ?_) p u)
    simp only [A.MOD_LEG_DUTY] at e'
    omega

/-- UPDATE_PHASE of one axis: a bootstrap low side noted where a leg leaves Hi-Z, then the duty of each leg. -/
def onNoted (a : Nat) (s : State) : State := if (axLegs s a).any fun n => (s.leg n).hiz && (s.leg n).shadow.isSome then noteOn a s else s
def axisUpdated (peak : Bool) (a : Nat) (s : State) : State := each (takeDuty peak) (axLegs s a) (onNoted a s)
theorem onNoted_keep {γ : Type} {g : State → γ} {a : Nat} (h : ∀ u, g (noteOn a u) = g u) (s : State) : g (onNoted a s) = g s := by
  unfold onNoted
  split
  · exact h s
  · rfl
theorem axisUpdated_keep {γ : Type} {g : State → γ} {a : Nat} (hn : ∀ u, g (noteOn a u) = g u) {p : Bool} (ht : ∀ n u, g (takeDuty p n u) = g u)
    (s : State) : g (axisUpdated p a s) = g s :=
  (each_keep g _ ht _ _).trans (onNoted_keep hn s)
theorem updatePhase_eq {t : TeamNo} {s : State} (ha : armedOn s = true) (ht : t.val < s.nTeams) :
    exec (.updatePhase t) s = done (each (axisUpdated (updPoint s t % 2 = 1)) (teamAxes s t) s) := by
  refine (if_pos ⟨ha, ht⟩).trans (congrArg (fun f => done (each f (teamAxes s t) s)) (funext fun a => funext fun u => ?_))
  unfold axisUpdated onNoted
  dsimp only
  split <;> rfl
theorem axisUpdated_mem (p : Bool) (a : Nat) (s : State) : (axisUpdated p a s).mem = s.mem :=
  axisUpdated_keep (g := State.mem) (fun _ => rfl) (takeDuty_mem p) s
theorem axisUpdated_dev (p : Bool) (a : Nat) (s : State) : (axisUpdated p a s).dev = s.dev :=
  axisUpdated_keep (g := State.dev) (fun _ => rfl) (takeDuty_dev p) s
theorem axisUpdated_legs (b : Nat) (p : Bool) (a : Nat) (s : State) : (axisUpdated p a s).reg (A.LE_AX_LEGS b) = s.reg (A.LE_AX_LEGS b) := by
  refine axisUpdated_keep (g := (·.reg (A.LE_AX_LEGS b))) (fun _ => rfl) (fun n u => takeDuty_reg (fun e => ?_) p u) s
  simp only [A.MOD_LEG_DUTY, A.LE_AX_LEGS] at e
  omega

/-- The state of the update of an axis in which leg n waits, in a stride of count c. -/
theorem axisUpdated_waits {n a : Nat} {l : Leg} {s : State} (p : Bool) (h : DutyWaits n l s) : DutyWaits n l (axisUpdated p a s) :=
  each_ind (P := DutyWaits n l) _ (fun _ _ h => takeDuty_waits p h) _ _ (h.of_leg (onNoted_keep (g := (·.leg n)) (fun _ => rfl) s))
theorem legsUpdated_taken {c n : Nat} {ns : List Nat} {l : Leg} {s : State} (p : Bool) (hc : s.dev.count.toNat = c) (h : DutyTaken c n l s) :
    DutyTaken c n l (each (takeDuty p) ns s) := by
  refine (each_ind (P := fun u : State => u.dev.count.toNat = c ∧ DutyTaken c n l u) _ (fun m u h => ?_) ns s ⟨hc, h⟩).2
  obtain ⟨rfl, h⟩ := h
  exact ⟨by rw [takeDuty_dev], takeDuty_taken p h⟩
theorem axisUpdated_taken {c n a : Nat} {l : Leg} {s : State} (p : Bool) (hc : s.dev.count.toNat = c) (h : DutyTaken c n l s) :
    DutyTaken c n l (axisUpdated p a s) :=
  legsUpdated_taken p ((onNoted_keep (g := (·.dev.count.toNat)) (fun _ => rfl) s).trans hc)
    (h.of_leg (onNoted_keep (g := (·.leg n)) (fun _ => rfl) s) (onNoted_keep (g := (·.reg _)) (fun _ => rfl) s))
/-- An axis updated takes the duty of each of its legs. -/
theorem axisUpdated_takes {c n a : Nat} {l : Leg} {s : State} (p : Bool) (hn : n ∈ axLegs s a) (hc : s.dev.count.toNat = c) (h : DutyWaits n l s) :
    DutyTaken c n l (axisUpdated p a s) := by
  refine (each_of_mem (P := fun u => u.dev.count.toNat = c ∧ DutyTaken c n l u) (Q := fun u => u.dev.count.toNat = c ∧ DutyWaits n l u)
    (fun u h => ?_) (fun m _ u h => ?_) (fun m _ u h => ?_) hn
    ⟨(onNoted_keep (g := (·.dev.count.toNat)) (fun _ => rfl) s).trans hc, h.of_leg (onNoted_keep (g := (·.leg n)) (fun _ => rfl) s)⟩).2
  all_goals
    obtain ⟨rfl, h⟩ := h
    refine ⟨by rw [takeDuty_dev], ?_⟩
  · exact takeDuty_takes p h
  · exact takeDuty_taken p h
  · exact takeDuty_waits p h

/-- The axes of a team updated, each leg of theirs has taken its duty. -/
theorem axesUpdated_taken {a n : Nat} {as : List Nat} {s : State} (p : Bool) (ha : a ∈ as) (hn : n ∈ axLegs s a) :
    DutyTaken s.dev.count.toNat n (s.leg n) (each (axisUpdated p) as s) := by
  refine (each_of_mem (P := fun u => u.dev = s.dev ∧ DutyTaken s.dev.count.toNat n (s.leg n) u)
    (Q := fun u => (u.dev = s.dev ∧ u.reg (A.LE_AX_LEGS a) = s.reg (A.LE_AX_LEGS a)) ∧ DutyWaits n (s.leg n) u)
    (fun u h => ?_) (fun b _ u h => ?_) (fun b _ u h => ?_) ha ⟨⟨rfl, rfl⟩, ⟨rfl, fun _ => ⟨rfl, rfl⟩⟩⟩).2
  · obtain ⟨⟨hd, hr⟩, hw⟩ := h
    exact ⟨(axisUpdated_dev p a u).trans hd, axisUpdated_takes p (axLegs_of_reg hr ▸ hn) (by rw [hd]) hw⟩
  · obtain ⟨hd, ht⟩ := h
    exact ⟨(axisUpdated_dev p b u).trans hd, axisUpdated_taken p (by rw [hd]) ht⟩
  · obtain ⟨⟨hd, hr⟩, hw⟩ := h
    exact ⟨⟨(axisUpdated_dev p b u).trans hd, (axisUpdated_legs a p b u).trans hr⟩, axisUpdated_waits p hw⟩

theorem legDuty_below {n : Nat} (h : n < 100) : A.MOD_LEG_DUTY n < 0x0F0000 := by unfold A.MOD_LEG_DUTY; omega

/-- Settles O16: the commit by the committed record of a leg, the update by what each leg's update brings, each through the legs of the axes. -/
theorem dutiesMoveByPhase : Obligations.DutiesMoveByPhase := by
  unfold Obligations.DutiesMoveByPhase
  refine ⟨fun t s ha ht => ⟨_, commitPhase_eq ha ht, (flushLog_mem _).trans (teamCommitted_mem _ s), fun a hm n hn => ?_⟩,
    fun t s ha ht => ⟨_, updatePhase_eq ha ht, (flushLog_mem _).trans (each_keep State.mem _ (axisUpdated_mem _) _ s), fun a hm n hn => ?_⟩⟩
  · rw [leg_of_drive ((flushLog_drive _).trans (teamCommitted_drive _ s)) n, leg_axesCommitted hm hn]
    exact dutyCommitted_spec _
  · obtain ⟨-, taken, kept⟩ := (axesUpdated_taken (updPoint s t % 2 = 1) hm hn).of_leg
      (leg_of_drive (flushLog_drive (each (axisUpdated (updPoint s t % 2 = 1)) (teamAxes s t) s)) n) (flushLog_reg_below (legDuty_below (axLegs_lt (teamAxes_lt t.isLt hm) hn)) _)
    exact ⟨taken, kept⟩

end Sys2Proof.Machine
end

section
/-! ## The control blocks of a hop (R52, R284 to R286, R292, R293) -/
namespace Sys2Proof.Machine
open Sys2Proof

/-! ### Hops and cisterns under what leaves the network, and under a block sent -/

theorem hop_of_net {s t : State} (h : t.net = s.net) (k : Nat) : t.hop k = s.hop k := by unfold State.hop; rw [h]
theorem cis_of_net {s t : State} (h : t.net = s.net) (n : Nat) : t.cis n = s.cis n := by unfold State.cis; rw [h]
@[simp] theorem flushLog_hop (s : State) (k : Nat) : (flushLog s).hop k = s.hop k := hop_of_net (flushLog_net s) k
@[simp] theorem flushLog_cis (s : State) (n : Nat) : (flushLog s).cis n = s.cis n := cis_of_net (flushLog_net s) n
@[simp] theorem logFault_hop (code src c data : Nat) (s : State) (k : Nat) : (logFault code src c data s).hop k = s.hop k :=
  hop_of_net (logFault_net code src c data s) k
@[simp] theorem wr_hop (f : Fld) (v : Nat) (s : State) (k : Nat) : (wr f v s).hop k = s.hop k := rfl
theorem modHop_hop_same (h : Nat) (f : HopSt → HopSt) (s : State) : (modHop h f s).hop h = f (s.hop h) := (hop_modHop h f s h).trans (if_pos rfl)
@[simp] theorem modHop_reg (h : Nat) (f : HopSt → HopSt) (s : State) (p : Nat) : (modHop h f s).reg p = s.reg p := rfl

/-- What a control block sent leaves of a hop: all but the blocks held. -/
theorem hop_sendCtl_keep {γ : Type} {g : HopSt → γ} (hg : ∀ x l, g { x with ctl := l } = g x) (h : Nat) (ty : Byte) (c : Nat) (s : State) (k : Nat) :
    g ((sendCtl h ty c s).hop k) = g (s.hop k) := by
  unfold sendCtl
  rw [hop_modHop]
  split
  next e => subst e; exact hg _ _
  · rfl
@[simp] theorem sendCtl_cis (h : Nat) (ty : Byte) (c : Nat) (s : State) (n : Nat) : (sendCtl h ty c s).cis n = s.cis n := rfl
@[simp] theorem sendCtl_reg (h : Nat) (ty : Byte) (c : Nat) (s : State) (p : Nat) : (sendCtl h ty c s).reg p = s.reg p := rfl
/-- The block sent is the latest held. -/
theorem sendCtl_last (h : Nat) (ty : Byte) (c : Nat) (s : State) : ((sendCtl h ty c s).hop h).ctl.getLast? = some (ty, BitVec.ofNat 56 c) := by
  unfold sendCtl
  rw [modHop_hop_same]
  dsimp only
  rw [List.getLast?_drop, if_neg (by simp only [List.length_append, List.length_singleton]; omega), List.getLast?_concat]

/-! ### The next sequence (R292, assumption 141) -/

/-- The distance of a packet's number, where it waits on hop h to be sent again, behind the sequence t. -/
def waitDist (h t : Nat) (p : Pkt) : Option Nat :=
  match p.again with
  | some (k, q) => if k = h then some ((q % 65536 + 65536 - t % 65536) % 65536) else none
  | none => none
/-- The distances of the numbers that wait on hop h. -/
def waitDists (s : State) (h : Nat) : List Nat := (List.range 14).flatMap fun n => (s.cis n).pkts.filterMap (waitDist h (s.hop h).txSeq)
/-- The sequence at the least distance behind t. -/
def seqAt (t : Nat) : Option Nat → Nat
  | some d => if d = 0 then t else (t + d) % 65536
  | none => t
theorem nextSeq_eq (s : State) (h : Nat) : nextSeq s h = seqAt (s.hop h).txSeq (waitDists s h).min? := rfl

theorem waitDist_eq_some {h t d : Nat} {p : Pkt} :
    waitDist h t p = some d ↔ ∃ q, p.again = some (h, q) ∧ d = (q % 65536 + 65536 - t % 65536) % 65536 := by
  unfold waitDist
  rcases p.again with _ | ⟨k, q⟩
  · simp
  · by_cases e : k = h
    · simp [e, eq_comm]
    · simp [e]
theorem mem_waitDists {s : State} {h d : Nat} : d ∈ waitDists s h ↔
    ∃ n < 14, ∃ p ∈ (s.cis n).pkts, ∃ q, p.again = some (h, q) ∧ d = (q % 65536 + 65536 - (s.hop h).txSeq % 65536) % 65536 := by
  simp only [waitDists, List.mem_flatMap, List.mem_range, List.mem_filterMap, waitDist_eq_some]
/-- With nothing waiting on the hop the next number is the next sequence. -/
theorem nextSeq_of_none {s : State} {h : Nat}
    (hn : ∀ n < 14, ∀ p ∈ (s.cis n).pkts, p.again.all (fun (x : Nat × Nat) => x.1 != h) = true) : nextSeq s h = (s.hop h).txSeq := by
  have e : waitDists s h = [] := List.eq_nil_iff_forall_not_mem.2 fun d hd => by
    obtain ⟨n, hn14, p, hp, q, ha, -⟩ := mem_waitDists.1 hd
    simpa [ha] using hn n hn14 p hp
  rw [nextSeq_eq, e]
  rfl
/-- With the next sequence itself waiting it is the next number. -/
theorem nextSeq_of_waiting {s : State} {h n q : Nat} {p : Pkt} (hn : n < 14) (hp : p ∈ (s.cis n).pkts) (ha : p.again = some (h, q))
    (hq : q % 65536 = (s.hop h).txSeq % 65536) : nextSeq s h = (s.hop h).txSeq := by
  have h0 : 0 ∈ waitDists s h := mem_waitDists.2 ⟨n, hn, p, hp, q, ha, by omega⟩
  rw [nextSeq_eq, List.min?_eq_some_iff.2 ⟨h0, fun _ _ => Nat.zero_le _⟩]
  rfl
/-- The next number is the next sequence, or one that waits. -/
theorem nextSeq_cases (s : State) (h : Nat) : nextSeq s h = (s.hop h).txSeq ∨
    ∃ n < 14, ∃ p ∈ (s.cis n).pkts, ∃ q, p.again = some (h, q) ∧ q % 65536 = nextSeq s h % 65536 := by
  rw [nextSeq_eq]
  cases e : (waitDists s h).min? with
  | none => exact .inl rfl
  | some d =>
    obtain ⟨n, hn, p, hp, q, ha, hd⟩ := mem_waitDists.1 (List.min?_mem e)
    by_cases hz : d = 0
    · exact .inl (if_pos hz)
    · refine .inr ⟨n, hn, p, hp, q, ha, ?_⟩
      rw [seqAt, if_neg hz]
      omega

theorem resync_cis (h : Nat) (s : State) (n : Nat) : (resync h s).cis n = s.cis n := rfl
theorem resync_txSeq (h : Nat) (s : State) : ((resync h s).hop h).txSeq = nextSeq s h := by
  unfold resync
  rw [hop_sendCtl_keep (g := HopSt.txSeq) (fun _ _ => rfl), modHop_hop_same]
theorem seqSettle_keep {γ : Type} {g : State → γ} {h : Nat} (hh : ∀ f u, g (modHop h f u) = g u) (s : State) : g (seqSettle h s) = g s := by
  unfold seqSettle resync sendCtl
  split
  · rfl
  · rw [hh, hh]
theorem seqSettle_cis (h : Nat) (s : State) (n : Nat) : (seqSettle h s).cis n = s.cis n := seqSettle_keep (g := (·.cis n)) (fun _ _ => rfl) s
theorem seqSettle_hop_keep {γ : Type} {g : HopSt → γ} (hc : ∀ x l, g { x with ctl := l } = g x) (ht : ∀ x q, g { x with txSeq := q } = g x)
    (h : Nat) (s : State) : g ((seqSettle h s).hop h) = g (s.hop h) := by
  unfold seqSettle resync
  split
  · rfl
  · rw [hop_sendCtl_keep hc, modHop_hop_same, ht]
/-- Settled, the next sequence is the next number that there is. -/
theorem seqSettle_settled (h : Nat) (s : State) : ((seqSettle h s).hop h).txSeq = nextSeq (seqSettle h s) h := by
  unfold seqSettle
  split
  next e => exact e.symm
  next e =>
    obtain ⟨n, hn, p, hp, q, ha, hq⟩ := (nextSeq_cases s h).resolve_left e
    exact (nextSeq_of_waiting (s := resync h s) hn hp ha (by rw [hq, resync_txSeq])).symm

/-! ### The packets of the ring cisterns changed (R312) -/

/-- A cistern whose packets are changed: its mark moved where that changes them. -/
def pktsChanged (f : List Pkt → List Pkt) (c : Cis) : Cis := if f c.pkts = c.pkts then c else ({ c with pkts := f c.pkts } : Cis).settle
theorem mem_of_pktsChanged {f : List Pkt → List Pkt} {c : Cis} {p : Pkt} (h : p ∈ (pktsChanged f c).pkts) : p ∈ f c.pkts := by
  unfold pktsChanged at h
  split at h
  next e => rwa [e]
  · exact List.dropWhile_subset _ h
theorem mem_pktsChanged {f : List Pkt → List Pkt} {c : Cis} {p : Pkt} (h : p ∈ f c.pkts) (hf : p.freed = false) : p ∈ (pktsChanged f c).pkts := by
  unfold pktsChanged
  split
  next e => exact e ▸ h
  · rw [← List.takeWhile_append_dropWhile (p := (·.freed)) (l := f c.pkts)] at h
    refine (List.mem_append.1 h).resolve_left fun ht => ?_
    rw [List.mem_takeWhile_imp ht] at hf
    exact absurd hf nofun
/-- One cistern's packets changed. -/
def cisPkts (f : Nat → List Pkt → List Pkt) (n : Nat) (s : State) : State :=
  let l := f n (s.cis n).pkts
  if l = (s.cis n).pkts then s else modCis n (fun c => { c with pkts := l }) s
theorem cisPkts_cis (f : Nat → List Pkt → List Pkt) (n m : Nat) (s : State) :
    (cisPkts f n s).cis m = if m = n then pktsChanged (f n) (s.cis n) else s.cis m := by
  unfold cisPkts pktsChanged
  dsimp only
  split
  · split
    next e => rw [e]
    · rfl
  · exact cis_modCis n _ s m
theorem cisPkts_keep {γ : Type} {g : State → γ} (hc : ∀ n f u, g (modCis n f u) = g u) (f : Nat → List Pkt → List Pkt) (n : Nat) (s : State) :
    g (cisPkts f n s) = g s := by
  unfold cisPkts
  dsimp only
  split
  · rfl
  · exact hc _ _ _
theorem modPkts_eq (f : Nat → List Pkt → List Pkt) (s : State) : modPkts f s = upto (cisPkts f) 14 s := rfl
theorem modPkts_keep {γ : Type} {g : State → γ} (hc : ∀ n f u, g (modCis n f u) = g u) (f : Nat → List Pkt → List Pkt) (s : State) :
    g (modPkts f s) = g s :=
  upto_keep g (cisPkts f) (fun n u => cisPkts_keep hc f n u) 14 s
theorem upto_cisPkts (f : Nat → List Pkt → List Pkt) (m : Nat) (s : State) : ∀ k : Nat,
    (upto (cisPkts f) k s).cis m = if m < k then pktsChanged (f m) (s.cis m) else s.cis m
  | 0 => rfl
  | k + 1 => by
    have ih (m : Nat) := upto_cisPkts f m s k
    rw [upto, cisPkts_cis]
    split
    next e => subst e; rw [ih, if_neg (Nat.lt_irrefl _), if_pos (Nat.lt_succ_self _)]
    next e => rw [ih]; exact if_congr (by omega) rfl rfl
theorem modPkts_cis (f : Nat → List Pkt → List Pkt) {m : Nat} (hm : m < 14) (s : State) :
    (modPkts f s).cis m = pktsChanged (f m) (s.cis m) :=
  (upto_cisPkts f m s 14).trans (if_pos hm)

/-! ### ACK and NAK (R292) -/

/-- A number of hop h up to a sequence. -/
def upToSeq (h seq : Nat) (q : Option (Nat × Nat)) : Bool :=
  match q with
  | some (k, q) => k == h && seqLe q seq
  | none => false
/-- A packet under ACK: released where its number is acknowledged. -/
def pktAcked (h seq : Nat) (p : Pkt) : Pkt :=
  if upToSeq h seq p.sent || upToSeq h seq p.again then { p with sent := none, again := none, freed := true } else p
/-- A packet of hop h is sent with a number from a sequence on. -/
def sentFrom (h seq : Nat) (p : Pkt) : Bool :=
  match p.sent with
  | some (k, q) => k == h && seqLe seq q
  | none => false
/-- A packet under NAK: from the sequence on it waits to be sent again. -/
def pktRewound (h seq : Nat) (p : Pkt) : Pkt := if sentFrom h seq p then { p with again := p.sent, sent := none, retx := true } else p
/-- The cisterns that hold such a packet count a rewind. -/
def rewindsCounted (h seq : Nat) (s : State) : State :=
  upto (fun n s => if (s.cis n).pkts.any (sentFrom h seq) then bumpSat (F.CIS_STAT_REWINDS n) s else s) 14 s

theorem upToSeq_all {h seq : Nat} {q : Option (Nat × Nat)} (hq : upToSeq h seq q = false) : q.all (fun x => x.1 != h || !seqLe x.2 seq) = true := by
  rcases q with _ | ⟨k, q⟩
  · rfl
  · simpa [upToSeq, imp_iff_not_or, bne] using hq
theorem pktAcked_all (h seq : Nat) (p : Pkt) : (pktAcked h seq p).sent.all (fun x => x.1 != h || !seqLe x.2 seq) = true ∧
    (pktAcked h seq p).again.all (fun x => x.1 != h || !seqLe x.2 seq) = true := by
  unfold pktAcked
  split
  · exact ⟨rfl, rfl⟩
  next hn =>
    obtain ⟨hs, ha⟩ := Bool.or_eq_false_iff.1 (Bool.eq_false_iff.2 hn)
    exact ⟨upToSeq_all hs, upToSeq_all ha⟩
theorem pktRewound_all (h seq : Nat) (p : Pkt) : (pktRewound h seq p).sent.all (fun x => x.1 != h || !seqLe seq x.2) = true := by
  unfold pktRewound
  split
  · rfl
  next hn =>
    rcases hs : p.sent with _ | ⟨k, q⟩
    · rfl
    · simpa [sentFrom, hs, imp_iff_not_or, bne] using hn

/-- A number of hop h up to a sequence waits to be sent again. -/
def waitsUpTo (h seq : Nat) (s : State) : Bool := (List.range 14).any fun n => (s.cis n).pkts.any fun p => upToSeq h seq p.again
/-- The frames acknowledged: the run of timeouts ended, and the packets up to the sequence released. -/
def framesAcked (h seq : Nat) (s : State) : State :=
  modPkts (fun _ l => l.map (pktAcked h seq)) (modHop h (fun x => { x with
    timeouts := 0, txSeq := if waitsUpTo h seq s ∧ seqLe x.txSeq seq then (seq + 1) % 65536 else x.txSeq }) s)
theorem ackFrames_eq (h seq : Nat) (s : State) :
    ackFrames h seq s = if waitsUpTo h seq s then seqSettle h (framesAcked h seq s) else framesAcked h seq s := rfl
theorem framesAcked_timeouts (h seq : Nat) (s : State) : ((framesAcked h seq s).hop h).timeouts = 0 := by
  unfold framesAcked
  rw [modPkts_keep (g := (·.hop h)) (fun _ _ _ => rfl), modHop_hop_same]
theorem framesAcked_pkts {h seq n : Nat} {s : State} {p : Pkt} (hn : n < 14) (hp : p ∈ ((framesAcked h seq s).cis n).pkts) : ∃ q, p = pktAcked h seq q := by
  unfold framesAcked at hp
  rw [modPkts_cis _ hn] at hp
  obtain ⟨q, -, e⟩ := List.mem_map.1 (mem_of_pktsChanged hp)
  exact ⟨q, e.symm⟩
theorem ackFrames_timeouts (h seq : Nat) (s : State) : ((ackFrames h seq s).hop h).timeouts = 0 := by
  rw [ackFrames_eq]
  split
  · rw [seqSettle_hop_keep (g := HopSt.timeouts) (fun _ _ => rfl) (fun _ _ => rfl), framesAcked_timeouts]
  · exact framesAcked_timeouts h seq s
theorem ackFrames_cis (h seq n : Nat) (s : State) : (ackFrames h seq s).cis n = (framesAcked h seq s).cis n := by
  rw [ackFrames_eq]
  split
  · exact seqSettle_cis h _ n
  · rfl

/-- NAK: the rewinds counted, the packets from the sequence on set to wait, and the next sequence settled. -/
def framesRewound (h seq : Nat) (s : State) : State :=
  modHop h (fun x => { x with txSeq := seq }) (modPkts (fun _ l => l.map (pktRewound h seq)) (rewindsCounted h seq s))
theorem rewindFrom_eq (h seq : Nat) (s : State) : rewindFrom h seq s = seqSettle h (framesRewound h seq s) := rfl
theorem rewindsCounted_keep {γ : Type} {g : State → γ} (hw : ∀ n f v u, f.off = A.CIS_STAT n → g (wr f v u) = g u) (h seq : Nat) (s : State) :
    g (rewindsCounted h seq s) = g s := by
  refine upto_keep g _ (fun n u => ?_) 14 s
  split
  · exact hw n _ _ u rfl
  · rfl

theorem framesRewound_cis (h seq : Nat) {n : Nat} (hn : n < 14) (s : State) :
    (framesRewound h seq s).cis n = pktsChanged (fun l => l.map (pktRewound h seq)) (s.cis n) := by
  rw [framesRewound, modHop_cis, modPkts_cis _ hn, rewindsCounted_keep (g := (·.cis n)) (fun _ _ _ _ _ => rfl)]
theorem framesRewound_txSeq (h seq : Nat) (s : State) : ((framesRewound h seq s).hop h).txSeq = seq := by
  unfold framesRewound
  rw [modHop_hop_same]
theorem rewindFrom_cis (h seq : Nat) {n : Nat} (hn : n < 14) (s : State) :
    (rewindFrom h seq s).cis n = pktsChanged (fun l => l.map (pktRewound h seq)) (s.cis n) := by
  rw [rewindFrom_eq, seqSettle_cis, framesRewound_cis h seq hn]
/-- Going back, the link counts in the registers of the cisterns only. -/
theorem rewindFrom_reg {p : Nat} (hp : p < 0x0A0000) (h seq : Nat) (s : State) : (rewindFrom h seq s).reg p = s.reg p := by
  have below {f : Fld} {n : Nat} (v : Nat) (u : State) (hf : f.off = A.CIS_STAT n ∨ f.off = A.CIS_CNT n) : (wr f v u).reg p = u.reg p := by
    refine reg_wr_other _ _ _ _ fun e => ?_
    rcases hf with hf | hf <;> rw [hf] at e <;> simp only [A.CIS_STAT, A.CIS_CNT] at e <;> omega
  rw [rewindFrom_eq, seqSettle_keep (g := (·.reg p)) fun _ _ => rfl, framesRewound, modHop_reg,
    modPkts_keep (g := (·.reg p)) fun n _ u => below (f := F.CIS_CNT_COUNT n) _ _ (.inr rfl),
    rewindsCounted_keep (g := (·.reg p)) fun n f v u hf => below v u (.inl hf)]
/-- Where the frames waiting hold no number of the hop, the link goes back to the sequence itself. -/
theorem rewindFrom_txSeq_of_none {h seq : Nat} {s : State}
    (hn : ∀ n < 14, ∀ p ∈ ((rewindFrom h seq s).cis n).pkts, p.again.all (fun (x : Nat × Nat) => x.1 != h) = true) :
    ((rewindFrom h seq s).hop h).txSeq = seq := by
  rw [rewindFrom_eq] at hn ⊢
  have e : nextSeq (framesRewound h seq s) h = _ := nextSeq_of_none fun n hn14 p hp => hn n hn14 p (by rwa [seqSettle_cis])
  rw [seqSettle, if_pos e, framesRewound_txSeq]
/-- A frame sent with the sequence that is not yet released waits for it, and the link goes back to it. -/
theorem rewindFrom_txSeq_of_sent {h seq n : Nat} {s : State} {p : Pkt} (hn : n < 14) (hp : p ∈ (s.cis n).pkts) (hs : p.sent = some (h, seq))
    (hf : p.freed = false) : ((rewindFrom h seq s).hop h).txSeq = seq := by
  have hit : pktRewound h seq p = { p with again := p.sent, sent := none, retx := true } := if_pos (by simp [sentFrom, hs, seqLe])
  have hm : pktRewound h seq p ∈ ((framesRewound h seq s).cis n).pkts := by
    rw [framesRewound_cis h seq hn]
    exact mem_pktsChanged (List.mem_map_of_mem hp) (by rw [hit]; exact hf)
  have e : nextSeq (framesRewound h seq s) h = _ := nextSeq_of_waiting hn hm (q := seq) (by rw [hit]; exact hs) (by rw [framesRewound_txSeq])
  rw [rewindFrom_eq, seqSettle, if_pos e, framesRewound_txSeq]

/-! ### Training (R52, R285) -/

@[simp] theorem sendTrain_reg (h ty d : Nat) (s : State) (p : Nat) : (sendTrain h ty d s).reg p = s.reg p := rfl
theorem hop_sendTrain_keep {γ : Type} {g : HopSt → γ} (hg : ∀ x l, g { x with ctl := l } = g x) (h ty d : Nat) (s : State) (k : Nat) :
    g ((sendTrain h ty d s).hop k) = g (s.hop k) := hop_sendCtl_keep hg _ _ _ _ k
theorem sendTrain_last (h ty d : Nat) (s : State) :
    ((sendTrain h ty d s).hop h).ctl.getLast? = some (0x99, BitVec.ofNat 56 (ty + 256 * (d % 2 ^ 48))) := sendCtl_last _ _ _ _
theorem hopState_of_reg {s t : State} {h : Nat} (e : t.reg (A.RNG_HOP_STAT h) = s.reg (A.RNG_HOP_STAT h)) : hopState t h = hopState s h :=
  rd_of_reg (f := F.RNG_HOP_STAT_STATE h) e

theorem hopLive_tooLong {s : State} {h : Nat} (hl : hopLive s h = true) : (s.hop h).tooLong = false := by
  simp only [hopLive, Bool.and_eq_true, Bool.not_eq_true'] at hl
  exact hl.2
/-- A hop that is not DOWN is not trained anew. -/
theorem trainStart_of_ne {h : Nat} {s : State} (hs : hopState s h ≠ 0) : trainStart h s = s := if_neg fun e => hs e.1
/-- A DOWN hop that may train is in training. -/
theorem trainStart_state {h : Nat} {s : State} (hs : hopState s h = 0) (hl : hopLive s h = true) : hopState (trainStart h s) h = 1 := by
  rw [trainStart, if_pos ⟨hs, by simp [hopLive_tooLong hl]⟩]
  exact rd_wr_same _ (F.RNG_HOP_STAT_STATE h) 1 (show 0 + 2 ≤ 32 by decide)
theorem trainStart_reg {h p : Nat} (hp : p ≠ A.RNG_HOP_STAT h) (s : State) : (trainStart h s).reg p = s.reg p := by
  unfold trainStart
  split
  · exact reg_wr_other _ (F.RNG_HOP_STAT_STATE h) 1 p hp
  · rfl

theorem identOnce_reg (h : Nat) (s : State) (p : Nat) : (identOnce h s).reg p = s.reg p := by
  unfold identOnce
  split <;> rfl
theorem identOnce_hop_keep {γ : Type} {g : HopSt → γ} (hc : ∀ x l, g { x with ctl := l } = g x) (hi : ∀ x b, g { x with identSent := b } = g x)
    (h : Nat) (s : State) : g ((identOnce h s).hop h) = g (s.hop h) := by
  unfold identOnce sendIdent
  split
  · rfl
  · rw [hop_sendTrain_keep hc, modHop_hop_same, hi]
theorem askDelay_reg (h : Nat) (s : State) (p : Nat) : (askDelay h s).reg p = s.reg p := by
  unfold askDelay
  split <;> rfl
theorem askDelay_hop_keep {γ : Type} {g : HopSt → γ} (hc : ∀ x l, g { x with ctl := l } = g x) (h : Nat) (s : State) :
    g ((askDelay h s).hop h) = g (s.hop h) := by
  unfold askDelay
  split
  · exact hop_sendTrain_keep hc _ _ _ _ _
  · rfl
/-- In training, with exchanges to come, the next one is asked for. -/
theorem askDelay_asks {h : Nat} {s : State} (hs : hopState s h = 1) (he : (s.hop h).exch < 256) :
    ((askDelay h s).hop h).ctl.getLast? = some (0x99, BitVec.ofNat 56 (2 + 256 * (s.hop h).exch)) := by
  rw [askDelay, if_pos ⟨hs, he⟩, sendTrain_last, Nat.mod_eq_of_lt (by omega : (s.hop h).exch < 2 ^ 48)]

/-- IDENT of a live hop. -/
def identTaken (k : Nat) (data : BitVec 48) (s : State) : State :=
  askDelay k (wr (F.RNG_HOP_STAT_NEIGH k) (data.toNat % 64) (modHop k (fun x => { x with ident := data.setWidth 32 }) (identOnce k (trainStart k s))))
theorem identTaken_spec {k : Nat} {s : State} (data : BitVec 48) (hl : hopLive s k = true) (hs : hopState s k = 0) :
    hopState (identTaken k data s) k = 1 ∧ rd (identTaken k data s) (F.RNG_HOP_STAT_NEIGH k) = data.toNat % 64 ∧
      ((identTaken k data s).hop k).ident = data.setWidth 32 := by
  unfold identTaken
  refine ⟨?_, ?_, ?_⟩
  · rw [hopState_of_reg (askDelay_reg _ _ _), hopState, rd_wr_disj _ (F.RNG_HOP_STAT_NEIGH k) (F.RNG_HOP_STAT_STATE k) _
      (show 8 + 6 ≤ 32 by decide) (show 0 + 2 ≤ 32 by decide) (.inr (show 0 + 2 ≤ 8 by decide))]
    exact (hopState_of_reg (identOnce_reg _ _ _)).trans (trainStart_state hs hl)
  · rw [rd_of_reg (f := F.RNG_HOP_STAT_NEIGH k) (askDelay_reg _ _ _), rd_wr_same _ (F.RNG_HOP_STAT_NEIGH k) _ (show 8 + 6 ≤ 32 by decide)]
    exact Nat.mod_mod _ 64
  · rw [askDelay_hop_keep (g := HopSt.ident) (fun _ _ => rfl), wr_hop, modHop_hop_same]

/-- EQUALISE of a live hop. -/
def presetTaken (k preset : Nat) (adapted : Bool) (s : State) : State := modHop k (fun x => { x with preset := preset, adapted := adapted }) (trainStart k s)
theorem presetTaken_spec {k : Nat} {s : State} (preset : Nat) (adapted : Bool) (hl : hopLive s k = true) (hs : hopState s k = 0) :
    hopState (presetTaken k preset adapted s) k = 1 ∧ ((presetTaken k preset adapted s).hop k).preset = preset ∧
      ((presetTaken k preset adapted s).hop k).adapted = adapted := by
  refine ⟨trainStart_state hs hl, ?_, ?_⟩ <;> rw [presetTaken, modHop_hop_same]

/-- DELAY_RESP in training: the exchange counted. -/
def exchCounted (k trip : Nat) (turn : BitVec 24) (s : State) : State :=
  modHop k (fun x => { x with exch := x.exch + 1, exchSum := x.exchSum + (trip - turn.toNat) }) s
/-- Half the mean of 256 exchanges, shown as the delay of the hop. -/
def delayShown (k : Nat) (s : State) : State :=
  let d := (s.hop k).exchSum / 512
  if k = 0 then wr F.STR_HOPA_HOP d (wr F.STR_HOPA_VALID 1 s) else wr F.STR_HOPB_HOP d (wr F.STR_HOPB_VALID 1 s)
theorem delayResp_eq {h : Ring} {s : State} (num : Byte) (trip : Nat) (turn : BitVec 24) (hl : hopLive s h.toNat = true) (hs : hopState s h.toNat = 1)
    (he : (s.hop h.toNat).exch < 256) : exec (.delayResp h num trip turn) s =
      if ((exchCounted h.toNat trip turn s).hop h.toNat).exch = 256 then done (delayShown h.toNat (exchCounted h.toNat trip turn s))
      else done (askDelay h.toNat (exchCounted h.toNat trip turn s)) := by
  change execDelayResp h num trip turn s = _
  unfold execDelayResp
  rw [if_neg (by simp [hl, hs, he]), trainStart_of_ne (by omega)]
  rfl
theorem exchCounted_hop (k trip : Nat) (turn : BitVec 24) (s : State) : ((exchCounted k trip turn s).hop k).exch = (s.hop k).exch + 1 ∧
    ((exchCounted k trip turn s).hop k).exchSum = (s.hop k).exchSum + (trip - turn.toNat) := by
  unfold exchCounted
  rw [modHop_hop_same]
  exact ⟨rfl, rfl⟩
theorem delayShown_hop (k : Nat) (s : State) : (delayShown k s).hop k = s.hop k := by
  unfold delayShown
  dsimp only
  split <;> rfl
theorem delayShown_delay (k : Nat) (s : State) : hopDelay (delayShown k s) k = (s.hop k).exchSum / 512 % 2 ^ F.STR_HOPA_HOP.w := by
  unfold hopDelay delayShown
  by_cases hk : k = 0
  · rw [if_pos hk, if_pos hk]
    exact rd_wr_same _ _ _ (by decide)
  · rw [if_neg hk, if_neg hk]
    exact rd_wr_same _ _ _ (by decide)

/-! ### Positions (R286) -/

/-- A position shown for a ring. -/
def posShown (ring pos : Nat) (s : State) : State :=
  if ring = 0 then wr F.RNG_ENUM_POSA pos (wr F.RNG_ENUM_VALIDA 1 s) else wr F.RNG_ENUM_POSB pos (wr F.RNG_ENUM_VALIDB 1 s)
theorem enumFound_eq (ring pos : Nat) (s : State) : ∃ ok, enumFound ring pos s = wrB F.RNG_ENUM_MATCH ok (posShown ring pos s) ∨
    enumFound ring pos s = logFault 0x0804 0 1 pos (wrB F.RNG_ENUM_MATCH ok (posShown ring pos s)) := by
  unfold enumFound
  extract_lets u ok v
  refine ⟨ok, ?_⟩
  split
  · exact .inl rfl
  · exact .inr rfl
/-- Behind a position found its register shows it, but for the comparison with DEVNUM. -/
theorem enumFound_rd {f : Fld} (ho : f.off = A.RNG_ENUM) (hw : f.lo + f.w ≤ 14) (ring pos : Nat) (s : State) :
    rd (enumFound ring pos s) f = rd (posShown ring pos s) f := by
  obtain ⟨ok, e⟩ := enumFound_eq ring pos s
  have hm : rd (wrB F.RNG_ENUM_MATCH ok (posShown ring pos s)) f = rd (posShown ring pos s) f :=
    rd_wr_disj _ F.RNG_ENUM_MATCH f _ (by decide) (by omega) (.inr hw)
  rcases e with e | e
  · rw [e, hm]
  · rw [e, rd_of_reg (logFault_reg_below (by rw [ho]; decide) _ _ _ _ _), hm]
theorem enumFound_a {pos : Nat} (hp : pos < 64) (s : State) : isSet (enumFound 0 pos s) F.RNG_ENUM_VALIDA = true ∧ rd (enumFound 0 pos s) F.RNG_ENUM_POSA = pos := by
  constructor
  · rw [isSet, enumFound_rd rfl (by decide), posShown, if_pos rfl, rd_wr_disj _ _ _ _ (by decide) (by decide) (by decide), rd_wr_same _ _ _ (by decide)]
    rfl
  · rw [enumFound_rd rfl (by decide), posShown, if_pos rfl, rd_wr_same _ _ _ (by decide)]
    exact Nat.mod_eq_of_lt hp
theorem enumFound_b {pos : Nat} (hp : pos < 64) (s : State) : isSet (enumFound 1 pos s) F.RNG_ENUM_VALIDB = true ∧ rd (enumFound 1 pos s) F.RNG_ENUM_POSB = pos := by
  constructor
  · rw [isSet, enumFound_rd rfl (by decide), posShown, if_neg (by decide), rd_wr_disj _ _ _ _ (by decide) (by decide) (by decide), rd_wr_same _ _ _ (by decide)]
    rfl
  · rw [enumFound_rd rfl (by decide), posShown, if_neg (by decide), rd_wr_same _ _ _ (by decide)]
    exact Nat.mod_eq_of_lt hp
theorem enum_head {h : Ring} {count : BitVec 6} {s : State} (hl : hopLive s h.toNat = true) (hh : isSet s F.RNG_CFG_HEAD = true) :
    exec (.enum h count h) s = done (enumFound h.toNat 0 s) := by
  change execEnum h count h s = _
  unfold execEnum
  simp [hl, hh]
theorem enum_a {count : BitVec 6} {s : State} (hl : hopLive s 0 = true) (hh : isSet s F.RNG_CFG_HEAD = false) :
    exec (.enum .a count .a) s = done (sendTrain 1 4 ((count.toNat + 1) % 64) (enumFound 0 ((count.toNat + 1) % 64) (trainStart 0 s))) := by
  change execEnum .a count .a s = _
  unfold execEnum
  simp [hl, hh, Ring.toNat]
theorem enum_b {count : BitVec 6} {s : State} (hl : hopLive s 1 = true) (hh : isSet s F.RNG_CFG_HEAD = false) (hi : isSet s F.CFG_STAT_LOADED = true) :
    exec (.enum .b count .b) s = done (sendTrain 0 4 ((count.toNat + 1) % 64 + 64)
      (enumFound 1 ((rd s F.RNG_CFG_NDEVM1 + 1 + 64 - (count.toNat + 1) % 64) % 64) (trainStart 1 s))) := by
  change execEnum .b count .b s = _
  unfold execEnum
  simp [hl, hh, hi, Ring.toNat]

/-! ### The statement, by its clauses -/

theorem ring_toNat_lt (h : Ring) : h.toNat < 2 := by cases h <;> decide
theorem hopReg_below {k : Nat} (h : k < 2) : A.RNG_HOP_STAT k < 0x0A0000 ∧ A.RNG_HOP_RETX k < 0x0A0000 := by
  unfold A.RNG_HOP_STAT A.RNG_HOP_RETX
  omega
theorem flushLog_hopState {k : Nat} (h : k < 2) (s : State) : hopState (flushLog s) k = hopState s k :=
  hopState_of_reg (flushLog_reg_below (by have := (hopReg_below h).1; omega) s)

section
variable {h : Ring} {s : State} (hr : ringRuns s = true) (hu : hopUp s h.toNat = true)
include hr hu
theorem idle_spec (v : BitVec 16) : Completes (.idle h v) s fun t => (t.hop h.toNat).credit = 64 * v.toNat ∧ (t.hop h.toNat).sentSince = 0 := by
  refine ⟨_, if_pos ⟨hr, hu⟩, ?_⟩
  beta_reduce
  rw [flushLog_hop, modHop_hop_same]
  exact ⟨rfl, rfl⟩
theorem resync_spec (v : BitVec 16) : Completes (.resync h v) s fun t => (t.hop h.toNat).rxSeq = v.toNat ∧ (t.hop h.toNat).nakked = false := by
  refine ⟨_, if_pos ⟨hr, hu⟩, ?_⟩
  beta_reduce
  rw [flushLog_hop, modHop_hop_same]
  exact ⟨rfl, rfl⟩
theorem ack_spec (v : BitVec 16) : Completes (.ack h v) s fun t => (t.hop h.toNat).timeouts = 0 ∧
    ∀ n < 14, ∀ p ∈ (t.cis n).pkts, p.sent.all (fun (x : Nat × Nat) => x.1 != h.toNat || !seqLe x.2 v.toNat) = true ∧
      p.again.all (fun (x : Nat × Nat) => x.1 != h.toNat || !seqLe x.2 v.toNat) = true := by
  refine ⟨_, if_pos ⟨hr, hu⟩, by rw [flushLog_hop, ackFrames_timeouts], fun n hn p hp => ?_⟩
  rw [flushLog_cis, ackFrames_cis] at hp
  obtain ⟨q, rfl⟩ := framesAcked_pkts hn hp
  exact pktAcked_all _ _ q
theorem nak_eq (v : BitVec 16) : exec (.nak h v) s = done (rewindFrom h.toNat v.toNat (bumpSat (F.RNG_HOP_RETX_NAKCNT h.toNat) s)) := if_pos ⟨hr, hu⟩
theorem nak_spec (v : BitVec 16) : Completes (.nak h v) s fun t => (t.hop h.toNat).txSeq = nextSeq t h.toNat ∧
    ((∀ n < 14, ∀ p ∈ (t.cis n).pkts, p.again.all (fun (x : Nat × Nat) => x.1 != h.toNat) = true) → (t.hop h.toNat).txSeq = v.toNat) ∧
    rd t (F.RNG_HOP_RETX_NAKCNT h.toNat) = satAdd (2 ^ (F.RNG_HOP_RETX_NAKCNT h.toNat).w - 1) (rd s (F.RNG_HOP_RETX_NAKCNT h.toNat)) 1 ∧
    ∀ n < 14, ∀ p ∈ (t.cis n).pkts, p.sent.all (fun (x : Nat × Nat) => x.1 != h.toNat || !seqLe v.toNat x.2) = true := by
  refine ⟨_, nak_eq hr hu v, ?_, fun hn => ?_, ?_, fun n hn p hp => ?_⟩
  · have e (u : State) : nextSeq (flushLog u) h.toNat = nextSeq u h.toNat := by simp [nextSeq]
    rw [flushLog_hop, e, rewindFrom_eq, seqSettle_settled]
  · rw [flushLog_hop]
    exact rewindFrom_txSeq_of_none fun n hn14 p hp => hn n hn14 p (by rwa [flushLog_cis])
  · have hb := (hopReg_below (ring_toNat_lt h)).2
    rw [rd_of_reg (f := F.RNG_HOP_RETX_NAKCNT h.toNat) (flushLog_reg_below (Nat.lt_trans hb (by decide)) _),
      rd_of_reg (f := F.RNG_HOP_RETX_NAKCNT h.toNat) (rewindFrom_reg hb _ _ _), bumpSat, rd_wr_same _ (F.RNG_HOP_RETX_NAKCNT h.toNat) _ (show 0 + 16 ≤ 32 by decide)]
    exact Nat.mod_eq_of_lt (Nat.lt_of_le_of_lt (satAdd_le _ _ _) (show 2 ^ 16 - 1 < 2 ^ 16 by decide))
  · rw [flushLog_cis, rewindFrom_cis _ _ hn] at hp
    obtain ⟨q, -, rfl⟩ := List.mem_map.1 (mem_of_pktsChanged hp)
    exact pktRewound_all _ _ q
theorem nak_back {v : BitVec 16} (hq : Sequenced s) (hs : ∃ n ∈ List.range 14, ∃ p ∈ (s.cis n).pkts, p.sent = some (h.toNat, v.toNat)) :
    Completes (.nak h v) s fun t => (t.hop h.toNat).txSeq = v.toNat := by
  obtain ⟨n, hn, p, hp, e⟩ := hs
  have hn := List.mem_range.1 hn
  have hf : p.freed = false := by
    by_contra hf
    exact absurd (e.symm.trans ((hq n hn p hp).2 (by simpa using hf)).1) nofun
  refine ⟨_, nak_eq hr hu v, ?_⟩
  beta_reduce
  rw [flushLog_hop]
  exact rewindFrom_txSeq_of_sent hn hp e hf
end

section
variable {h : Ring} {s : State} (hl : hopLive s h.toNat = true)
include hl
theorem ident_spec (data : BitVec 48) (hs : hopState s h.toNat = 0) : Completes (.ident h data) s fun t =>
    hopState t h.toNat = 1 ∧ rd t (F.RNG_HOP_STAT_NEIGH h.toNat) = data.toNat % 64 ∧ (t.hop h.toNat).ident = data.setWidth 32 := by
  refine ⟨_, if_pos hl, ?_⟩
  beta_reduce
  have hb := Nat.lt_trans (hopReg_below (ring_toNat_lt h)).1 (show 0x0A0000 < 0x0F0000 by decide)
  rw [flushLog_hopState (ring_toNat_lt h), rd_of_reg (f := F.RNG_HOP_STAT_NEIGH h.toNat) (flushLog_reg_below hb _), flushLog_hop]
  exact identTaken_spec data hl hs
theorem equalise_spec (preset : Byte) (adapted : Bool) (hs : hopState s h.toNat = 0) : Completes (.equalise h preset adapted) s fun t =>
    hopState t h.toNat = 1 ∧ (t.hop h.toNat).preset = preset.toNat ∧ (t.hop h.toNat).adapted = adapted := by
  refine ⟨_, if_pos hl, ?_⟩
  beta_reduce
  rw [flushLog_hopState (ring_toNat_lt h), flushLog_hop]
  split
  · rw [hopState_of_reg (identOnce_reg _ _ _), identOnce_hop_keep (g := HopSt.preset) (fun _ _ => rfl) (fun _ _ => rfl),
      identOnce_hop_keep (g := HopSt.adapted) (fun _ _ => rfl) (fun _ _ => rfl)]
    exact presetTaken_spec preset.toNat adapted hl hs
  · exact presetTaken_spec preset.toNat adapted hl hs
theorem delayReq_spec (num : Byte) (hs : hopState s h.toNat = 0) : Completes (.delayReq h num) s fun t =>
    hopState t h.toNat = 1 ∧ (t.hop h.toNat).ctl.getLast?.map (fun c => (c.1.toNat, c.2.toNat % 65536)) = some (0x99, 3 + 256 * num.toNat) := by
  refine ⟨_, if_pos hl, ?_, ?_⟩
  · rw [flushLog_hopState (ring_toNat_lt h)]
    exact trainStart_state hs hl
  · rw [flushLog_hop, sendTrain_last]
    simp only [Option.map_some, BitVec.toNat_ofNat]
    refine congrArg some (Prod.ext rfl ?_)
    have := num.isLt
    dsimp only
    omega
theorem delayResp_spec (num : Byte) (trip : Nat) (turn : BitVec 24) (hs : hopState s h.toNat = 1) (he : (s.hop h.toNat).exch < 255) :
    Completes (.delayResp h num trip turn) s fun t => (t.hop h.toNat).exch = (s.hop h.toNat).exch + 1 ∧
      (t.hop h.toNat).ctl.getLast? = some (0x99, BitVec.ofNat 56 (2 + 256 * ((s.hop h.toNat).exch + 1))) := by
  obtain ⟨hx, -⟩ := exchCounted_hop h.toNat trip turn s
  refine ⟨_, (delayResp_eq num trip turn hl hs (by omega)).trans (if_neg (by omega)), ?_⟩
  beta_reduce
  rw [flushLog_hop, askDelay_hop_keep (g := HopSt.exch) (fun _ _ => rfl),
    askDelay_asks (s := exchCounted h.toNat trip turn s) hs (by omega), hx]
  exact ⟨rfl, rfl⟩
theorem delayResp_last (num : Byte) (trip : Nat) (turn : BitVec 24) (hs : hopState s h.toNat = 1) (he : (s.hop h.toNat).exch = 255) :
    Completes (.delayResp h num trip turn) s fun t => (t.hop h.toNat).exch = 256 ∧
      hopDelay t h.toNat = ((s.hop h.toNat).exchSum + (trip - turn.toNat)) / 512 % 2 ^ F.STR_HOPA_HOP.w := by
  obtain ⟨hx, hsum⟩ := exchCounted_hop h.toNat trip turn s
  refine ⟨_, (delayResp_eq num trip turn hl hs (by omega)).trans (if_pos (by omega)), ?_⟩
  beta_reduce
  have e (u : State) (k : Nat) : hopDelay (flushLog u) k = hopDelay u k := by
    unfold hopDelay
    rw [rd_of_reg (flushLog_reg_below (by decide) _), rd_of_reg (flushLog_reg_below (by decide) _)]
  rw [flushLog_hop, e, delayShown_hop, delayShown_delay, hx, hsum, he]
  exact ⟨rfl, rfl⟩
theorem enum_head_spec (count : BitVec 6) (hh : isSet s F.RNG_CFG_HEAD = true) : Completes (.enum h count h) s fun t =>
    if h = .a then rd t F.RNG_ENUM_POSA = 0 ∧ isSet t F.RNG_ENUM_VALIDA = true else rd t F.RNG_ENUM_POSB = 0 ∧ isSet t F.RNG_ENUM_VALIDB = true := by
  refine ⟨_, enum_head hl hh, ?_⟩
  beta_reduce
  cases h with
  | a => exact (enumFound_a (pos := 0) (by decide) s).symm.imp (rd_of_reg (flushLog_reg_below (by decide) _)).trans
          (isSet_of_rd (rd_of_reg (flushLog_reg_below (by decide) _))).trans
  | b => exact (enumFound_b (pos := 0) (by decide) s).symm.imp (rd_of_reg (flushLog_reg_below (by decide) _)).trans
          (isSet_of_rd (rd_of_reg (flushLog_reg_below (by decide) _))).trans
end

theorem enum_a_spec {s : State} (count : BitVec 6) (hl : hopLive s 0 = true) (hh : isSet s F.RNG_CFG_HEAD = false) :
    Completes (.enum .a count .a) s fun t => isSet t F.RNG_ENUM_VALIDA = true ∧ rd t F.RNG_ENUM_POSA = (count.toNat + 1) % 64 ∧
      (t.hop 1).ctl.getLast? = some (0x99, BitVec.ofNat 56 (4 + 256 * ((count.toNat + 1) % 64))) := by
  have hc : (count.toNat + 1) % 64 < 64 := Nat.mod_lt _ (by decide)
  obtain ⟨hv, hp⟩ := enumFound_a hc (trainStart 0 s)
  refine ⟨_, enum_a hl hh, ?_, ?_, ?_⟩
  · exact (isSet_of_rd (rd_of_reg (flushLog_reg_below (by decide) _))).trans hv
  · exact (rd_of_reg (flushLog_reg_below (by decide) _)).trans hp
  · rw [flushLog_hop, sendTrain_last, Nat.mod_eq_of_lt (Nat.lt_trans hc (by decide))]
theorem enum_b_spec {s : State} (count : BitVec 6) (hl : hopLive s 1 = true) (hh : isSet s F.RNG_CFG_HEAD = false)
    (hi : isSet s F.CFG_STAT_LOADED = true) :
    Completes (.enum .b count .b) s fun t => isSet t F.RNG_ENUM_VALIDB = true ∧
      rd t F.RNG_ENUM_POSB = (rd s F.RNG_CFG_NDEVM1 + 65 - (count.toNat + 1) % 64) % 64 ∧
      (t.hop 0).ctl.getLast? = some (0x99, BitVec.ofNat 56 (4 + 256 * ((count.toNat + 1) % 64 + 64))) := by
  obtain ⟨hv, hp⟩ := enumFound_b (Nat.mod_lt (rd s F.RNG_CFG_NDEVM1 + 1 + 64 - (count.toNat + 1) % 64) (show 64 > 0 by decide)) (trainStart 1 s)
  refine ⟨_, enum_b hl hh hi, ?_, ?_, ?_⟩
  · exact (isSet_of_rd (rd_of_reg (flushLog_reg_below (by decide) _))).trans hv
  · exact (rd_of_reg (flushLog_reg_below (by decide) _)).trans hp
  · rw [flushLog_hop, sendTrain_last, Nat.mod_eq_of_lt (by omega : (count.toNat + 1) % 64 + 64 < 2 ^ 48)]

/-- Settles O36: each control block by the rule for what it does to its hop, its cisterns or the ring's position. -/
theorem controlBlocksActOnAHop : Obligations.ControlBlocksActOnAHop := by
  unfold Obligations.ControlBlocksActOnAHop
  refine ⟨fun h v s hr hu => ⟨idle_spec hr hu v, ⟨_, rfl, flushLog_net s⟩, ack_spec hr hu v, nak_spec hr hu v, resync_spec hr hu v⟩,
    fun h v s hr hu hq hs => nak_back hr hu hq hs,
    fun h data s hl hs => ident_spec hl data hs,
    fun h preset adapted s hl hs => equalise_spec hl preset adapted hs,
    fun h num s hl hs => delayReq_spec hl num hs,
    fun h num trip turn s hl hs he => delayResp_spec hl num trip turn hs he,
    fun h num trip turn s hl hs he => delayResp_last hl num trip turn hs he,
    fun count s hl hh => enum_a_spec count hl hh,
    fun count s hl hh hi => enum_b_spec count hl hh hi,
    fun h count s hl hh => enum_head_spec hl count hh⟩

end Sys2Proof.Machine
end

section
/-! ## Sync frames, their copies, and the source rules (R51 to R57, R298) -/
namespace Sys2Proof.Machine
open Sys2Proof

/-! ### What passing a frame on leaves alone -/

section
variable {γ : Type} (g : State → γ) (hw : ∀ f v u, ¬ Unsent f.off → g (wr f v u) = g u)
  (hn : ∀ n u, g (State.setNet n u) = g u) (hl : ∀ code src c data u, g (logRated code src c data u) = g u)
include hn
theorem modHop_keep (h : Nat) (f : HopSt → HopSt) (s : State) : g (modHop h f s) = g s := hn _ s
theorem sendTrain_keep (h ty d : Nat) (s : State) : g (sendTrain h ty d s) = g s := hn _ s
include hl
theorem slotTake_keep (h : Nat) (src : Option Nat) (p : Pkt) (ph : Nat) (s : State) : g (slotTake h src p ph s) = g s := by
  have taken : g (match ownSlot s h src p with
      | some q => if p.late then s else modHop h (fun x => { x with slots := (q.1, frameLen p) :: x.slots }) s
      | none => s) = g s := by
    split
    · split
      · rfl
      · exact hn _ s
    · rfl
  unfold slotTake
  dsimp only
  split
  · exact (hl _ _ _ _ _).trans taken
  · exact taken
include hw
theorem passOn_keep (ring ph : Nat) (p : Pkt) (abort : Bool) (s : State) : g (passOn ring ph p abort s) = g s := by
  unfold passOn
  dsimp only
  split
  · split
    · rfl
    · exact cisPut_keep g hw (fun c u => hn _ u) hl _ _ _
  · split
    · exact (hn _ _).trans (slotTake_keep g hn hl _ _ _ _ _)
    · rfl
theorem syncPass_keep (hf : ∀ v u, g (State.setFree v u) = g u) (ring : Nat) (f : SyncFrame) (s : State) : g (syncPass ring f s) = g s := by
  have copies (c d : Nat) (u : State) : g (each (fun h s => if wrapped s h ∧ 1 ≤ hopState s h then
      sendTrain h 9 c (sendTrain h 8 d s) else s) [0, 1] u) = g u := by
    refine each_keep g _ (fun h u => ?_) _ u
    split
    · exact (hn _ _).trans (hn _ _)
    · rfl
  unfold syncPass draw
  dsimp only
  split
  · exact (passOn_keep g hw hn hl _ _ _ _ _).trans (hf _ s)
  · exact (copies _ _ _).trans ((passOn_keep g hw hn hl _ _ _ _ _).trans (hf _ s))
end

theorem logRated_reg_keep {p : Nat} (h : Unsent p) (code src c data : Nat) (s : State) : (logRated code src c data s).reg p = s.reg p :=
  logRated_reg_below h.2.2 code src c data s
theorem syncPass_reg {p : Nat} (h : Unsent p) (ring : Nat) (f : SyncFrame) (s : State) : (syncPass ring f s).reg p = s.reg p :=
  syncPass_keep (·.reg p) (fun _ _ _ hf => reg_wr_other _ _ _ _ fun e => hf (e ▸ h)) (fun _ _ => rfl) (logRated_reg_keep h) (fun _ _ => rfl) ring f s
theorem syncPass_dev (ring : Nat) (f : SyncFrame) (s : State) : (syncPass ring f s).dev = s.dev :=
  syncPass_keep State.dev (fun _ _ _ _ => rfl) (fun _ _ => rfl) logRated_dev (fun _ _ => rfl) ring f s
theorem syncPass_bst (ring : Nat) (f : SyncFrame) (s : State) : (syncPass ring f s).bst = s.bst :=
  syncPass_keep State.bst (fun _ _ _ _ => rfl) (fun _ _ => rfl) logRated_bst (fun _ _ => rfl) ring f s

/-- The device follows a string by its life, the pins of its debug port, and two registers. -/
theorem syncRuns_congr {s t : State} (hd : t.dev = s.dev) (hb : t.bst = s.bst) (hc : t.reg A.STR_SYNCCFG = s.reg A.STR_SYNCCFG)
    (hi : t.reg A.CFG_STAT = s.reg A.CFG_STAT) : syncRuns t = syncRuns s := by
  have h1 : isSet t F.STR_SYNCCFG_RINGEN = isSet s F.STR_SYNCCFG_RINGEN := isSet_of_rd (rd_of_reg hc)
  have h2 : isSet t F.CFG_STAT_LOADED = isSet s F.CFG_STAT_LOADED := isSet_of_rd (rd_of_reg hi)
  simp only [syncRuns, ringRuns, ringOn, romRing, portsOn, held, armedOn, hd, hb, h1, h2]
theorem hopDelay_of_reg {s t : State} (ha : t.reg A.STR_HOPA = s.reg A.STR_HOPA) (hb : t.reg A.STR_HOPB = s.reg A.STR_HOPB) (h : Nat) :
    hopDelay t h = hopDelay s h := by
  unfold hopDelay
  rw [rd_of_reg (f := F.STR_HOPA_HOP) ha, rd_of_reg (f := F.STR_HOPB_HOP) hb]

/-! ### What following a frame leaves alone (R53, R54) -/

/-- The path delay of a frame shown on its ring. -/
def pathShown (ring path : Nat) (s : State) : State :=
  if ring = 0 then wr F.STR_PATHA_PATH path (wr F.STR_PATHA_VALID 1 s) else wr F.STR_PATHB_PATH path (wr F.STR_PATHB_VALID 1 s)
/-- The errors of the two rings held against each other. -/
def ringsCompared (ring : Nat) (e : Int) (other : Option SyncSeen) (s : State) : State :=
  match other with
  | some y => let d := e - y.err; if d.natAbs > 51 then logFault 0x0104 0 1 (trunc 32 (if ring = 0 then d else -d)) s else s
  | none => s
/-- The frame as its ring holds it for the stride. -/
def frameSeen (ring : Nat) (f : SyncFrame) (s : State) : SyncSeen := ⟨(syncErr s ring f).1, f.count, f.src.toNat, f.stby⟩
/-- A frame noted: its path shown, its error held for the stride and against the other ring's. -/
def frameNoted (ring : Nat) (f : SyncFrame) (s : State) : State :=
  let u := pathShown ring (syncErr s ring f).2 s
  ringsCompared ring (syncErr s ring f).1 (if ring = 0 then u.dev.seenB else u.dev.seenA)
    (modDev (fun d => if ring = 0 then { d with seenA := some (frameSeen ring f s) } else { d with seenB := some (frameSeen ring f s) }) u)
theorem syncHear_eq (ring : Nat) (f : SyncFrame) (s : State) : syncHear ring f s =
    if isSet (frameNoted ring f s) F.STR_SYNCSTAT_SOURCE then
      (if isSet (frameNoted ring f s) F.RNG_CFG_HEAD ∧ f.stby then modDev (fun d => { d with handOver := true }) (frameNoted ring f s) else frameNoted ring f s)
    else if ring = 0 then alignWith false (frameSeen ring f s) (syncErr s ring f).2 (frameNoted ring f s) else frameNoted ring f s := rfl

section
variable {γ : Type} {g : State → γ} (hw : ∀ f v u, f.off = A.STR_SYNCSTAT ∨ f.off = A.STR_ALIGNERR → g (wr f v u) = g u)
  (hd : ∀ f u, g (modDev f u) = g u) (hl : ∀ code src c data u, g (logFault code src c data u) = g u)
  (hf : ∀ x u, g (State.setFlt x u) = g u) (hr : ∀ v u, g (State.setFree v u) = g u)
include hw
theorem showErr_keep (e : Int) (s : State) : g (showErr e s) = g s :=
  (hw _ _ _ (.inr rfl)).trans (hw _ _ _ (.inr rfl))
include hd hf
theorem alignSync_keep (e : Int) (c : Stamp) (path : Nat) (s : State) : g (alignSync e c path s) = g s := by
  unfold alignSync wrB stepTo
  dsimp only
  rw [hw _ _ _ (.inl rfl), hw _ _ _ (.inl rfl), hw _ _ _ (.inl rfl), hw _ _ _ (.inl rfl), hd, hd, hf]
include hl hr
theorem alignRun_keep (e : Int) (c : Stamp) (path : Nat) (s : State) : g (alignRun e c path s) = g s := by
  unfold alignRun draw stepTo
  dsimp -zeta only
  extract_lets u pend ns v
  have hu : g u = g s := (hw _ _ _ (.inl rfl)).trans ((hw _ _ _ (.inl rfl)).trans (hd _ _))
  have hv : g v = g s := by
    refine (iteInduction (motive := fun t : State => g t = g u) (fun _ => rfl) fun _ => ?_).trans hu
    exact (hl _ _ _ _ _).trans (hw _ _ _ (.inl rfl))
  split
  · split
    · exact (hw _ _ _ (.inl rfl)).trans ((hw _ _ _ (.inl rfl)).trans ((hd _ _).trans ((hf _ _).trans hv)))
    · exact (hw _ _ _ (.inl rfl)).trans hv
  · exact (hw _ _ _ (.inl rfl)).trans ((hd _ _).trans ((hr _ _).trans hu))
theorem alignWith_keep (b : Bool) (x : SyncSeen) (path : Nat) (s : State) : g (alignWith b x path s) = g s := by
  have seen : g (showErr x.err (wrB F.STR_SYNCSTAT_SRC_B b (modDev (fun d => { d with aligned := true }) s))) = g s :=
    (showErr_keep hw _ _).trans ((hw _ _ _ (.inl rfl)).trans (hd _ _))
  unfold alignWith
  dsimp only
  split
  · exact (alignSync_keep hw hd hf _ _ _ _).trans seen
  · exact (alignRun_keep hw hd hl hf hr _ _ _ _).trans seen
omit hw hd hf hr in
theorem ringsCompared_keep (ring : Nat) (e : Int) (o : Option SyncSeen) (s : State) : g (ringsCompared ring e o s) = g s := by
  unfold ringsCompared
  split
  · dsimp only
    split
    · exact hl _ _ _ _ _
    · rfl
  · rfl
omit hw hf hr in
theorem frameNoted_keep (ring : Nat) (f : SyncFrame) (s : State) : g (frameNoted ring f s) = g (pathShown ring (syncErr s ring f).2 s) :=
  (ringsCompared_keep hl _ _ _ _).trans (hd _ _)
/-- Hearing a frame shows its path delay, and what follows leaves all but the alignment's own state. -/
theorem syncHear_keep (ring : Nat) (f : SyncFrame) (s : State) : g (syncHear ring f s) = g (pathShown ring (f.corr.toNat + hopDelay s ring) s) := by
  refine Eq.trans ?_ (frameNoted_keep hd hl ring f s)
  rw [syncHear_eq]
  split
  · split
    · exact hd _ _
    · rfl
  · split
    · exact alignWith_keep hw hd hl hf hr _ _ _ _
    · rfl
end
theorem syncHear_reg {p : Nat} (h1 : p ≠ A.STR_SYNCSTAT) (h2 : p ≠ A.STR_ALIGNERR) (h3 : p < 0x0F0000) (ring : Nat) (f : SyncFrame) (s : State) :
    (syncHear ring f s).reg p = (pathShown ring (f.corr.toNat + hopDelay s ring) s).reg p :=
  syncHear_keep (g := (·.reg p)) (fun _ _ _ hf => reg_wr_other _ _ _ _ (hf.elim (· ▸ h1) (· ▸ h2))) (fun _ _ => rfl)
    (fun c n k d u => logFault_reg_below h3 c n k d u) (fun _ _ => rfl) (fun _ _ => rfl) ring f s
theorem pathShown_net (ring path : Nat) (s : State) : (pathShown ring path s).net = s.net := by
  unfold pathShown
  split <;> rfl
theorem syncHear_net (ring : Nat) (f : SyncFrame) (s : State) : (syncHear ring f s).net = s.net :=
  (syncHear_keep (g := State.net) (fun _ _ _ _ => rfl) (fun _ _ => rfl) logFault_net (fun _ _ => rfl) (fun _ _ => rfl) ring f s).trans
    (pathShown_net _ _ _)

/-- The path delay that a ring shows, with VALID. -/
theorem pathShown_a (path : Nat) (s : State) : isSet (pathShown 0 path s) F.STR_PATHA_VALID = true ∧
    rd (pathShown 0 path s) F.STR_PATHA_PATH = path % 2 ^ F.STR_PATHA_PATH.w := by
  rw [isSet, pathShown, if_pos rfl, rd_wr_disj _ _ _ _ (by decide) (by decide) (by decide), rd_wr_same _ _ _ (by decide), rd_wr_same _ _ _ (by decide)]
  exact ⟨rfl, rfl⟩
theorem pathShown_b (path : Nat) (s : State) : isSet (pathShown 1 path s) F.STR_PATHB_VALID = true ∧
    rd (pathShown 1 path s) F.STR_PATHB_PATH = path % 2 ^ F.STR_PATHB_PATH.w := by
  rw [isSet, pathShown, if_neg (by decide), rd_wr_disj _ _ _ _ (by decide) (by decide) (by decide), rd_wr_same _ _ _ (by decide),
    rd_wr_same _ _ _ (by decide)]
  exact ⟨rfl, rfl⟩

theorem syncFrame_eq {h : Ring} {f : SyncFrame} {s : State} (hs : syncRuns s = true) (hu : hopUp s h.toNat = true) (hf : f.src.toNat ≠ s.devNum)
    (hc : f.crcOk = true) : exec (.syncFrame h f) s = done (syncHear h.toNat f (syncPass h.toNat f s)) := by
  have hr : ringRuns s = true := by
    simp only [syncRuns, Bool.and_eq_true] at hs
    exact hs.1.1
  have hs' : syncRuns (syncPass h.toNat f s) = true :=
    (syncRuns_congr (syncPass_dev _ _ _) (syncPass_bst _ _ _) (syncPass_reg (by unfold Unsent; decide) _ _ _)
      (syncPass_reg (by unfold Unsent; decide) _ _ _)).trans hs
  change execSyncFrame h f s = _
  unfold execSyncFrame
  rw [if_neg (not_not.2 ⟨hr, hu⟩), if_neg hf]
  exact congrArg done (if_pos ⟨hc, hs'⟩)
/-- What the frame shows of its ring A is what its path shows, and likewise of ring B. -/
theorem syncHear_a (f : SyncFrame) (s : State) : isSet (flushLog (syncHear 0 f s)) F.STR_PATHA_VALID = true ∧
    rd (flushLog (syncHear 0 f s)) F.STR_PATHA_PATH = (f.corr.toNat + hopDelay s 0) % 2 ^ F.STR_PATHA_PATH.w := by
  have e : (flushLog (syncHear 0 f s)).reg A.STR_PATHA = (pathShown 0 (f.corr.toNat + hopDelay s 0) s).reg A.STR_PATHA :=
    (flushLog_reg_below (by decide) _).trans (syncHear_reg (by decide) (by decide) (by decide) 0 f s)
  exact (pathShown_a _ s).imp (isSet_of_rd (rd_of_reg e)).trans (rd_of_reg e).trans
theorem syncHear_b (f : SyncFrame) (s : State) : isSet (flushLog (syncHear 1 f s)) F.STR_PATHB_VALID = true ∧
    rd (flushLog (syncHear 1 f s)) F.STR_PATHB_PATH = (f.corr.toNat + hopDelay s 1) % 2 ^ F.STR_PATHB_PATH.w := by
  have e : (flushLog (syncHear 1 f s)).reg A.STR_PATHB = (pathShown 1 (f.corr.toNat + hopDelay s 1) s).reg A.STR_PATHB :=
    (flushLog_reg_below (by decide) _).trans (syncHear_reg (by decide) (by decide) (by decide) 1 f s)
  exact (pathShown_b _ s).imp (isSet_of_rd (rd_of_reg e)).trans (rd_of_reg e).trans
theorem syncPass_hopDelay (ring : Nat) (f : SyncFrame) (s : State) (h : Nat) : hopDelay (syncPass ring f s) h = hopDelay s h :=
  hopDelay_of_reg (syncPass_reg (by unfold Unsent; decide) _ _ _) (syncPass_reg (by unfold Unsent; decide) _ _ _) h

/-! ### The copies on a wrapped ring (R298) -/

/-- The COUNT of the copy used up. -/
def copyUsed (k : Nat) (s : State) : State := modHop k (fun x => { x with copy0 := none }) s
theorem syncCopy1_eq {h : Ring} {f : SyncFrame} {c : Stamp} {s : State} (hc : (s.hop h.toNat).copy0 = some c) (hl : hopLive s h.toNat = true)
    (hr : syncRuns s = true) (hs : isSet s F.STR_SYNCSTAT_SYNCED = false) :
    exec (.syncCopy1 h f) s = done (syncHear h.toNat { f with count := c } (copyUsed h.toNat s)) := by
  have hr' : syncRuns (copyUsed h.toNat s) = true := (syncRuns_congr rfl rfl rfl rfl).trans hr
  have hn : ¬ (isSet (copyUsed h.toNat s) F.STR_SYNCSTAT_SYNCED ∨ ¬ syncRuns (copyUsed h.toNat s)) := by
    rw [show isSet (copyUsed h.toNat s) F.STR_SYNCSTAT_SYNCED = false from hs, hr']
    decide
  change execSyncCopy1 h f s = _
  unfold execSyncCopy1
  simp only [hc, hl, not_true_eq_false, if_false]
  exact congrArg done (if_neg hn)
theorem syncCopy1_used (k : Nat) (f : SyncFrame) (s : State) : ((flushLog (syncHear k f (copyUsed k s))).hop k).copy0 = none := by
  rw [flushLog_hop, hop_of_net (syncHear_net k f _), copyUsed, modHop_hop_same]
theorem syncCopy0_spec {h : Ring} {s : State} (count : BitVec 48) (hl : hopLive s h.toNat = true) :
    Completes (.syncCopy0 h count) s fun t => (t.hop h.toNat).copy0 = some count := by
  refine ⟨_, if_pos hl, ?_⟩
  beta_reduce
  rw [flushLog_hop, modHop_hop_same]

/-! ### SYNC_LOST (R56) -/

/-- The mask of the classes seen, with one put. -/
def seenWith (m c : Nat) : Nat := (if bit m c then m else m + 2 ^ c) % 32
theorem putEntry_seen (code src c data : Nat) (s : State) : rd (putEntry code src c data s) F.FLT_STAT_SEEN = seenWith (rd s F.FLT_STAT_SEEN) c :=
  (rd_wr_disj _ F.FLT_STAT_MAXCLS F.FLT_STAT_SEEN _ (by decide) (by decide) (by decide)).trans (rd_wr_same _ F.FLT_STAT_SEEN _ (by decide))
theorem countCls_stat (c : Nat) (s : State) : (countCls c s).reg A.FLT_STAT = s.reg A.FLT_STAT := by
  unfold countCls
  split <;> exact reg_wr_other _ _ _ _ (by decide)
theorem logFault_seen {s : State} (h : logging s = true) (code src c data : Nat) :
    rd (logFault code src c data s) F.FLT_STAT_SEEN = seenWith (rd s F.FLT_STAT_SEEN) c := by
  rw [logFault, if_pos h, putEntry_seen, rd_of_reg (f := F.FLT_STAT_SEEN) (countCls_stat c s)]
/-- An entry of class W shows as seen, and one of class AX leaves it seen. -/
theorem seenWith_w (m : Nat) : bit (seenWith m 1) 1 = true := by
  unfold seenWith bit
  simp only [decide_eq_true_eq]
  split <;> omega
theorem seenWith_ax {m : Nat} (h : bit m 1 = true) : bit (seenWith m 2) 1 = true := by
  unfold seenWith bit at *
  simp only [decide_eq_true_eq] at *
  split <;> omega

theorem besideAxes_stat : BesideAxes A.FLT_STAT := fun a ha => by
  unfold A.FLT_STAT A.LE_AX_STATE A.MOD_AX_STAT A.SAF_AX_FLT
  omega
theorem spanLost_dev (a data : Nat) (s : State) : (spanLost a data s).dev = s.dev := by
  have h := congrArg (fun u : State => u.dev) (blockReact_beyond true a 4
    (logFault 0x0402 a 2 data (wr (F.LE_AX_FLT_SPANLOST a) 1 (modAx a (fun x => { x with span := { x.span with safe := true } }) s))))
  exact h.trans (logFault_dev _ _ _ _ _)
/-- A spanned axis that loses its partner leaves class W seen. -/
theorem spanLost_seen {a : Nat} (ha : a < 32) {s : State} (hl : logging s = true) (data : Nat) (h : rdBit s F.FLT_STAT_SEEN 1 = true) :
    rdBit (spanLost a data s) F.FLT_STAT_SEEN 1 = true := by
  have hne : A.FLT_STAT ≠ A.LE_AX_FLT a := by unfold A.FLT_STAT A.LE_AX_FLT; omega
  have hu : rd (wr (F.LE_AX_FLT_SPANLOST a) 1 (modAx a (fun x => { x with span := { x.span with safe := true } }) s)) F.FLT_STAT_SEEN =
      rd s F.FLT_STAT_SEEN := rd_wr_off _ (F.LE_AX_FLT_SPANLOST a) F.FLT_STAT_SEEN 1 hne
  unfold rdBit spanLost
  rw [rd_of_reg (f := F.FLT_STAT_SEEN) (blockReact_reg besideAxes_stat ha _ _ _), logFault_seen (by exact hl), hu]
  exact seenWith_ax h
/-- The loss reported: logged, and each spanned axis without its partner. -/
def lossReported (s : State) : State := logFault 0x0103 0 1 (rd s F.STR_ALIGNERR_ERR) (modDev (fun d => { d with lostLogged := true }) s)
def spansLost (s : State) : State := each (fun a s => if axType s a = 6 ∨ axType s a = 7 then spanLost a 3 s else s) (axesUsed s) s
theorem syncLost_eq {s : State} (hr : syncRuns s = true) (hc : 16 ≤ rd s F.STR_SYNCSTAT_HOLDCNT) (hh : isSet s F.STR_SYNCSTAT_HOLDOVER = true)
    (hl : s.dev.lostLogged = false) : exec .syncLost s = done (spansLost (lossReported s)) := by
  change execSyncLost s = _
  unfold execSyncLost
  rw [if_neg (not_not.2 hr), if_pos ⟨hc, hh, by simp [hl]⟩]
  rfl
theorem lossReported_dev (s : State) : (lossReported s).dev = { s.dev with lostLogged := true } := logFault_dev _ _ _ _ _
theorem spansLost_dev (s : State) : (spansLost s).dev = s.dev := by
  refine each_keep State.dev _ (fun a u => ?_) _ _
  split
  · exact spanLost_dev a 3 u
  · rfl
theorem logging_of_dev {s t : State} (h : t.dev = s.dev) : logging t = logging s := by unfold logging; rw [h]
theorem spansLost_seen {s : State} (hl : logging s = true) (h : rdBit s F.FLT_STAT_SEEN 1 = true) : rdBit (spansLost s) F.FLT_STAT_SEEN 1 = true := by
  refine (each_of_mem_ind (P := fun u => logging u = true ∧ rdBit u F.FLT_STAT_SEEN 1 = true) _ (fun a ha u hu => ?_) ⟨hl, h⟩).2
  obtain ⟨hlu, hu⟩ := hu
  split
  · exact ⟨(logging_of_dev (spanLost_dev a 3 u)).trans hlu, spanLost_seen (axesUsed_lt ha) hlu 3 hu⟩
  · exact ⟨hlu, hu⟩
theorem syncLost_spec {s : State} (hr : syncRuns s = true) (hc : 16 ≤ rd s F.STR_SYNCSTAT_HOLDCNT) (hh : isSet s F.STR_SYNCSTAT_HOLDOVER = true)
    (hl : s.dev.lostLogged = false) : Completes .syncLost s fun t => t.dev.lostLogged = true ∧ (logging s = true → rdBit t F.FLT_STAT_SEEN 1 = true) := by
  refine ⟨_, syncLost_eq hr hc hh hl, ?_, fun hg => ?_⟩
  · rw [flushLog_dev, spansLost_dev, lossReported_dev]
  · have hw : rdBit (lossReported s) F.FLT_STAT_SEEN 1 = true := by
      unfold rdBit lossReported
      rw [logFault_seen (by exact hg)]
      exact seenWith_w _
    have hg' : logging (lossReported s) = true := (congrArg (fun d => logging (s.setDev d)) (lossReported_dev s)).trans hg
    exact (congrArg (bit · 1) (rd_of_reg (f := F.FLT_STAT_SEEN) (flushLog_reg _ _ (by decide)))).trans (spansLost_seen hg' hw)

/-! ### The source (R56) -/

theorem syncSend_reg {p : Nat} (h : Unsent p) (s : State) : (syncSend s).reg p = s.reg p := by
  unfold syncSend
  split
  · exact (ringSend_reg h _ _ _ _ _).trans (ringSend_reg h _ _ _ _ _)
  · rfl
/-- The state of the alignment as the source has it, read at the field written and past the others. -/
theorem becomeSource_rd (f : Fld) (s : State) : rd (becomeSource s) f = rd (wr F.STR_SYNCSTAT_STEP_PEND 0 (wr F.STR_SYNCSTAT_SYNCED 1
    (wr F.STR_SYNCSTAT_HOLDCNT 0 (wr F.STR_SYNCSTAT_HOLDOVER 0 (wr F.STR_SYNCSTAT_SOURCE 1 s))))) f := rfl
theorem becomeSource_stat (s : State) : isSet (becomeSource s) F.STR_SYNCSTAT_SOURCE = true ∧ isSet (becomeSource s) F.STR_SYNCSTAT_SYNCED = true ∧
    isSet (becomeSource s) F.STR_SYNCSTAT_HOLDOVER = false ∧ rd (becomeSource s) F.STR_SYNCSTAT_HOLDCNT = 0 := by
  have past (f g : Fld) (v : Nat) (u : State) (hf : f.lo + f.w ≤ 32) (hg : g.lo + g.w ≤ 32) (h : f.lo + f.w ≤ g.lo ∨ g.lo + g.w ≤ f.lo) :
      rd (wr f v u) g = rd u g := rd_wr_disj u f g v hf hg h
  refine ⟨?_, ?_, ?_, ?_⟩
  · rw [isSet, becomeSource_rd, past _ _ _ _ (by decide) (by decide) (by decide), past _ _ _ _ (by decide) (by decide) (by decide),
      past _ _ _ _ (by decide) (by decide) (by decide), past _ _ _ _ (by decide) (by decide) (by decide), rd_wr_same _ _ _ (by decide)]
    rfl
  · rw [isSet, becomeSource_rd, past _ _ _ _ (by decide) (by decide) (by decide), rd_wr_same _ _ _ (by decide)]
    rfl
  · rw [isSet, becomeSource_rd, past _ _ _ _ (by decide) (by decide) (by decide), past _ _ _ _ (by decide) (by decide) (by decide),
      past _ _ _ _ (by decide) (by decide) (by decide), rd_wr_same _ _ _ (by decide)]
    rfl
  · rw [becomeSource_rd, past _ _ _ _ (by decide) (by decide) (by decide), past _ _ _ _ (by decide) (by decide) (by decide),
      rd_wr_same _ _ _ (by decide)]
    rfl
/-- What a state whose alignment register is the source's shows. -/
theorem source_shown {s t : State} (e : t.reg A.STR_SYNCSTAT = (becomeSource s).reg A.STR_SYNCSTAT) :
    isSet t F.STR_SYNCSTAT_SOURCE = true ∧ isSet t F.STR_SYNCSTAT_SYNCED = true ∧
      isSet t F.STR_SYNCSTAT_HOLDOVER = false ∧ rd t F.STR_SYNCSTAT_HOLDCNT = 0 := by
  obtain ⟨h1, h2, h3, h4⟩ := becomeSource_stat s
  exact ⟨(isSet_of_rd (rd_of_reg e)).trans h1, (isSet_of_rd (rd_of_reg e)).trans h2, (isSet_of_rd (rd_of_reg e)).trans h3, (rd_of_reg e).trans h4⟩
theorem unsent_syncStat : Unsent A.STR_SYNCSTAT := by unfold Unsent; decide
theorem sourceTakeover_spec {s : State} (hr : syncRuns s = true) (he : isSet s F.STR_SYNCCFG_STBY_EN = true)
    (hd : rd s F.STR_SYNCCFG_STBY_DEV = s.devNum) (hc : 8 ≤ rd s F.STR_SYNCSTAT_HOLDCNT) (hs : isSet s F.STR_SYNCSTAT_SOURCE = false) :
    Completes .sourceTakeover s fun t => isSet t F.STR_SYNCSTAT_SOURCE = true ∧ isSet t F.STR_SYNCSTAT_SYNCED = true ∧
      isSet t F.STR_SYNCSTAT_HOLDOVER = false ∧ rd t F.STR_SYNCSTAT_HOLDCNT = 0 := by
  refine ⟨_, if_pos ⟨hr, he, hd, hc, by simp [hs]⟩, source_shown (s := s) ?_⟩
  exact (flushLog_reg_below (by decide) _).trans ((syncSend_reg unsent_syncStat _).trans (logFault_reg_below (by decide) _ _ _ _ _))
theorem d0BecomesSource_spec {s : State} (hr : syncRuns s = true) (hh : isSet s F.RNG_CFG_HEAD = true) (hst : s.dev.st = .sync)
    (hn : s.dev.running = true) (hs : isSet s F.STR_SYNCSTAT_SOURCE = false)
    (hl : 64 ≤ s.dev.noSync ∨ (s.dev.hopSeen = false ∧ 20 * 800000 ≤ s.dev.syncStrides * s.per)) :
    Completes .d0BecomesSource s fun t => isSet t F.STR_SYNCSTAT_SOURCE = true ∧ isSet t F.STR_SYNCSTAT_SYNCED = true := by
  have late : 64 ≤ s.dev.noSync ∨ (¬ s.dev.hopSeen ∧ 20 * 800000 ≤ s.dev.syncStrides * s.per) := by simpa using hl
  refine ⟨_, if_pos ⟨hr, hh, by simp [hst], hn, by simp [hs], late⟩, ?_⟩
  obtain ⟨h1, h2, -⟩ := source_shown (s := s) ((flushLog_reg_below (by decide) _).trans (syncSend_reg unsent_syncStat (becomeSource s)))
  exact ⟨h1, h2⟩
theorem syncRetry_a {s : State} (hr : ringRuns s = true) (hst : s.dev.st = .sync) :
    Completes (.syncRetry .a) s fun t => t.dev.retryA = s.dev.retryA + 1 ∧ t.dev.retryB = s.dev.retryB := by
  refine ⟨_, if_pos ⟨hr, by simp [hst]⟩, ?_⟩
  beta_reduce
  rw [flushLog_dev, logFault_dev]
  exact ⟨rfl, rfl⟩
theorem syncRetry_b {s : State} (hr : ringRuns s = true) (hst : s.dev.st = .sync) :
    Completes (.syncRetry .b) s fun t => t.dev.retryB = s.dev.retryB + 1 ∧ t.dev.retryA = s.dev.retryA := by
  refine ⟨_, if_pos ⟨hr, by simp [hst]⟩, ?_⟩
  beta_reduce
  rw [flushLog_dev, logFault_dev]
  exact ⟨rfl, rfl⟩

/-- Settles O10: a frame by what hearing it shows, behind the pass that leaves the ring's delay alone; the source rules by their register. -/
theorem syncFramesAreHeard : Obligations.SyncFramesAreHeard := by
  unfold Obligations.SyncFramesAreHeard
  refine ⟨fun f s hr hu hd hc => ⟨_, syncFrame_eq (h := .a) hr hu hd hc, ?_⟩, fun f s hr hu hd hc => ⟨_, syncFrame_eq (h := .b) hr hu hd hc, ?_⟩,
    fun h count s hl => syncCopy0_spec count hl,
    fun f c s hc hl hr hs => ⟨_, syncCopy1_eq (h := .a) hc hl hr hs, syncCopy1_used 0 _ s, syncHear_a _ _⟩,
    fun f c s hc hl hr hs => ⟨_, syncCopy1_eq (h := .b) hc hl hr hs, syncCopy1_used 1 _ s, syncHear_b _ _⟩,
    fun s hr hc hh hl => syncLost_spec hr hc hh hl, fun s hr he hd hc hs => sourceTakeover_spec hr he hd hc hs,
    fun s hr hh hst hn hs hl => d0BecomesSource_spec hr hh hst hn hs hl, fun s hr hst => ⟨syncRetry_a hr hst, syncRetry_b hr hst⟩⟩
  · rw [← syncPass_hopDelay 0 f s 0]
    exact syncHear_a f (syncPass 0 f s)
  · rw [← syncPass_hopDelay 1 f s 1]
    exact syncHear_b f (syncPass 1 f s)

end Sys2Proof.Machine
end

section
/-! ## Task commits: pending and active set-points (R44, R48 to R50) -/
namespace Sys2Proof.Machine
open Sys2Proof

/-! ### Bytes in a row -/

theorem rdBytes_succ (s : State) (a n : Nat) : rdBytes s a (n + 1) = rdB s a :: rdBytes s (a + 1) n := rfl
theorem rdBytes_congr {s t : State} : ∀ {n a : Nat}, (∀ i, a ≤ i → i < a + n → rdB t i = rdB s i) → rdBytes t a n = rdBytes s a n
  | 0, _, _ => rfl
  | n + 1, a, h => by
    rw [rdBytes_succ, rdBytes_succ, h a (Nat.le_refl a) (by omega), rdBytes_congr fun i hi hn => h i (by omega) (by omega)]
theorem rdBytes_of_mem {s t : State} (h : t.mem = s.mem) (a n : Nat) : rdBytes t a n = rdBytes s a n := rdBytes_congr fun i _ _ => rdB_of_mem h i
theorem rdBytes_wrBytes_same : ∀ (bs : List Byte) (a : Nat) (s : State), rdBytes (wrBytes a bs s) a bs.length = bs
  | [], _, _ => rfl
  | b :: bs, a, s => by
    have tail := rdBytes_wrBytes_same bs (a + 1) (wrBytes a [b] s)
    rw [List.length_cons, rdBytes_succ]
    exact congrArg₂ List.cons (rdB_wrBytes_same s a (b :: bs) 0 (Nat.succ_pos _)) tail
theorem rdBytes_wrBytes_other {a b n : Nat} {bs : List Byte} (h : b + n ≤ a ∨ a + bs.length ≤ b) (s : State) :
    rdBytes (wrBytes a bs s) b n = rdBytes s b n :=
  rdBytes_congr fun i _ _ => rdB_wrBytes_other s a bs i (by omega)
theorem flatMap_leBytes_length (k : Nat) : ∀ ws : List Word, (ws.flatMap fun w => leBytes k w.toNat).length = k * ws.length
  | [] => rfl
  | w :: ws => by rw [List.flatMap_cons, List.length_append, leBytes_length, flatMap_leBytes_length k ws, List.length_cons]; ring

/-! ### The commit of a core, and a host's (R48) -/

theorem fromCore_runs {s : State} {who : Requestor} (h : fromCore s who = true) : coresRun s = true ∧ who ≠ .host := by
  obtain ⟨hc, hi⟩ := Bool.and_eq_true_iff.mp h
  exact ⟨coresRun_of_mayIssue hi, fun e => absurd (e ▸ hc) nofun⟩
theorem taskCommit_core {s : State} {who : Requestor} (h : fromCore s who = true) (mask : Word) (recs : List (AxisNo × List Word)) :
    exec (.taskCommit who mask recs) s = done (commitTasks who mask (each (fun (p : AxisNo × List Word) => pendWrite p.1 p.2) recs s)) := by
  obtain ⟨hr, hh⟩ := fromCore_runs h
  change execTaskCommit who mask recs s = _
  unfold execTaskCommit
  rw [if_neg (not_not.2 hr), if_neg hh, if_neg (not_not.2 h)]
theorem pendWrite_whole (a : Nat) {ws : List Word} (h : ws.length = 16) (s : State) :
    pendWrite a ws s = wrBytes (pendBase a) (ws.flatMap fun w => leBytes 4 w.toNat) s := by
  rw [pendWrite, List.take_of_length_le (Nat.le_of_eq h)]
theorem taskCommit_core_spec {s : State} {who : Requestor} (h : fromCore s who = true) (mask : Word) (a : AxisNo) {ws : List Word}
    (hw : ws.length = 16) : Completes (.taskCommit who mask [(a, ws)]) s fun t => t.dev.commits = s.dev.commits ||| mask ∧
      rdBytes t (pendBase a) 64 = ws.flatMap (fun w => leBytes 4 w.toNat) ∧ ∀ i, i < pendBase a ∨ pendBase a + 64 ≤ i → rdB t i = rdB s i := by
  have hm : (flushLog (commitTasks who mask (pendWrite a ws s))).mem = (wrBytes (pendBase a) (ws.flatMap fun w => leBytes 4 w.toNat) s).mem := by
    rw [flushLog_mem, ← pendWrite_whole a hw]
    rfl
  have hl : (ws.flatMap fun w => leBytes 4 w.toNat).length = 64 := by rw [flatMap_leBytes_length, hw]
  refine ⟨_, taskCommit_core h mask _, ?_, ?_, fun i hi => ?_⟩
  · rw [flushLog_dev]
    rfl
  · refine (rdBytes_of_mem hm _ _).trans ?_
    rw [← hl]
    exact rdBytes_wrBytes_same _ _ s
  · exact (rdB_of_mem hm i).trans (rdB_wrBytes_other s _ _ i (by rwa [hl]))

theorem putEntry_batch (code src c data : Nat) (s : State) : ∃ e : Entry, (putEntry code src c data s).flt.batch = s.flt.batch ++ [e] ∧
    e.code = BitVec.ofNat 16 code ∧ e.cls = BitVec.ofNat 8 c := ⟨_, rfl, rfl, rfl⟩
theorem countCls_flt (c : Nat) (s : State) : (countCls c s).flt = s.flt := by
  unfold countCls
  split <;> rfl
/-- A fault that its source has not logged yet is put into the batch. -/
theorem logRated_batch {code src : Nat} {s : State} (hl : logging s = true) (hr : tget (fun _ => none) s.flt.rate (code * 65536 + src) = none)
    (c data : Nat) : ∃ e : Entry, (logRated code src c data s).flt.batch = s.flt.batch ++ [e] ∧ e.code = BitVec.ofNat 16 code ∧ e.cls = BitVec.ofNat 8 c := by
  unfold logRated
  rw [if_pos hl]
  simp only [countCls_flt, hr, if_true]
  exact putEntry_batch _ _ _ _ _
/-- A batch of one entry, of a class below AX, goes to the slot that WIDX names. -/
theorem flushLog_stores {s : State} {e : Entry} (hb : s.flt.batch = [e]) (hc : e.cls.toNat < 2) :
    tget (fun _ => {}) (flushLog s).flt.slots (rd s F.FLT_WIDX_WIDX % 1024) = e := by
  have hf : flushLog s = storeEntry e (s.setFlt { s.flt with batch := [] }) := by
    unfold flushLog
    simp [hb, Nat.not_le.2 hc, sortEntries, each, insEntry]
  rw [hf]
  exact (tget_tset _ _ _ _ _).trans (if_pos rfl)
theorem commitRefused_widx (s : State) : rd (commitRefused s) F.FLT_WIDX_WIDX = rd s F.FLT_WIDX_WIDX := by
  have counted : (countCls 1 s).reg A.FLT_WIDX = s.reg A.FLT_WIDX := reg_wr_other _ F.FLT_CNT0_W _ _ (by decide)
  refine rd_of_reg ?_
  unfold commitRefused logRated
  split
  · refine iteInduction (motive := fun t : State => t.reg A.FLT_WIDX = s.reg A.FLT_WIDX) (fun _ => ?_) fun _ => counted
    exact (putEntry_reg _ _ _ _ _ (by decide)).trans counted
  · rfl
theorem taskCommit_host_spec {s : State} (hr : coresRun s = true) (mask : Word) (recs : List (AxisNo × List Word)) :
    Completes (.taskCommit .host mask recs) s fun t => t.dev.commits = s.dev.commits ∧ (∀ i, rdB t i = rdB s i) ∧
      (logging s = true → rd t F.FLT_CNT0_W = satAdd (2 ^ F.FLT_CNT0_W.w - 1) (rd s F.FLT_CNT0_W) 1) ∧
      (logging s = true → s.flt.batch = [] → tget (fun _ => none) s.flt.rate (0x0F01 * 65536 + 7) = none →
        (tget (fun _ => {}) t.flt.slots (rd s F.FLT_WIDX_WIDX % 1024)).code = 0x0F01 ∧
        (tget (fun _ => {}) t.flt.slots (rd s F.FLT_WIDX_WIDX % 1024)).cls = 1) := by
  refine ⟨flushLog (commitRefused s), ?_, ?_, fun i => ?_, fun hl => ?_, fun hl hb hn => ?_⟩
  · change execTaskCommit .host mask recs s = _
    unfold execTaskCommit
    rw [if_neg (not_not.2 hr), if_pos rfl]
    rfl
  · rw [flushLog_dev, commitRefused, logRated_dev]
  · exact rdB_of_mem ((flushLog_mem _).trans (logRated_mem _ _ _ _ _)) i
  · exact (rd_of_reg (f := F.FLT_CNT0_W) (flushLog_reg _ _ (by decide))).trans (logRated_countW _ _ _ s hl)
  · obtain ⟨e, he, hcode, hcls⟩ := logRated_batch hl hn 1 A.STR_COMMIT
    rw [hb, List.nil_append] at he
    rw [← commitRefused_widx, flushLog_stores (s := commitRefused s) he (by rw [hcls]; decide)]
    exact ⟨hcode, hcls⟩

/-! ### What the application commit leaves alone -/

/-- The device beyond its registers, and its memory. -/
def devMem (s : State) : Dev × Tbl Byte := (s.dev, s.mem)
theorem devMem_eq {s t : State} : devMem t = devMem s ↔ t.dev = s.dev ∧ t.mem = s.mem := Prod.ext_iff
theorem devMem_of_drive {s t : State} (h : beyondDrive t = beyondDrive s) : devMem t = devMem s :=
  (congrArg devMem h : devMem (beyondDrive t) = devMem (beyondDrive s))
theorem logFault_devMem (code src c data : Nat) (s : State) : devMem (logFault code src c data s) = devMem s :=
  devMem_eq.mpr ⟨logFault_dev _ _ _ _ _, logFault_mem _ _ _ _ _⟩
theorem ringPut_devMem (ring cls dest stream flags : Nat) (b : List Byte) (s : State) : devMem (ringPut ring cls dest stream flags b s).1 = devMem s :=
  devMem_eq.mpr ⟨ringPut_dev _ _ _ _ _ _ _, ringPut_mem _ _ _ _ _ _ _⟩

theorem taskReact_devMem (k : Nat) (s : State) : devMem (taskReact k s) = devMem s := by
  unfold taskReact
  dsimp only
  split
  · refine (each_keep devMem _ (fun a u => ?_) _ _).trans (logFault_devMem _ _ _ _ _)
    exact (devMem_of_drive (flagReact_beyond a F.SAF_AX_FLT_BLOCK _)).trans rfl
  · exact (each_keep devMem _ (fun a u => devMem_of_drive (blockReact_beyond true a 5 u)) _ _).trans (logFault_devMem _ _ _ _ _)
theorem taskOverrun_keep {γ : Type} {g : State → γ} {k : Nat}
    (hw : ∀ f v u, f.off = A.STR_TASK_STAT k ∨ f.off = A.STR_OVERRUN ∨ f.off = A.STR_TASKOVR → g (wr f v u) = g u)
    (hl : ∀ code src c data u, g (logFault code src c data u) = g u) (hr : ∀ u, g (taskReact k u) = g u) (s : State) :
    g (taskOverrun k s) = g s := by
  unfold taskOverrun
  extract_lets u v was w
  have hu : g u = g s := (hw _ _ _ (.inl rfl)).trans (hw _ _ _ (.inr (.inl rfl)))
  have hv : g v = g u := by
    unfold v
    split
    · rfl
    · exact (hl _ _ _ _ _).trans (hw _ _ _ (.inr (.inr rfl)))
  have hwv : g w = g s := (hw _ _ _ (.inl rfl)).trans (hv.trans hu)
  split
  · exact (hr w).trans hwv
  · exact hwv
theorem taskOverrun_devMem (k : Nat) (s : State) : devMem (taskOverrun k s) = devMem s :=
  taskOverrun_keep (fun _ _ _ _ => rfl) logFault_devMem (taskReact_devMem k) s

/-! ### The member frames of the groups (R229) -/

theorem holderStop_devMem (g ev : Nat) (s : State) : devMem (holderStop g ev s) = devMem s := by
  unfold holderStop
  split
  · exact logFault_devMem _ _ _ _ _
  · rfl
theorem revokeTerm_devMem (g term cause : Nat) (s : State) : devMem (revokeTerm g term cause s) = devMem s := by
  unfold revokeTerm
  dsimp only
  split
  · rfl
  · split
    · exact (holderStop_devMem _ _ _).trans (logFault_devMem _ _ _ _ _)
    · exact logFault_devMem _ _ _ _ _
theorem offerTerm_devMem (g : Nat) (n : NewTerm) (s : State) : devMem (offerTerm g n s) = devMem s := by
  unfold offerTerm
  split
  · rfl
  · extract_lets own win u v
    clear_value win
    have hu : devMem u = devMem s := by
      unfold u
      split
      · exact iteInduction (motive := fun t : State => devMem t = devMem s) (fun _ => logFault_devMem _ _ _ _ _) fun _ => rfl
      · rfl
    have hv : devMem v = devMem u := by
      unfold v
      split <;> rfl
    exact (holderStop_devMem _ _ _).trans (hv.trans hu)
theorem admitRank_devMem (g r : Nat) (s : State) : devMem (admitRank g r s) = devMem s := by
  unfold admitRank
  split
  · exact logFault_devMem _ _ _ _ _
  · rfl
theorem takeRenewal_devMem (g r : Nat) (x : Renewal) (s : State) : devMem (takeRenewal g r x s) = devMem s := by
  unfold takeRenewal
  split
  · rfl
  · exact logFault_devMem _ _ _ _ _
theorem sendSafe_devMem (c cons dest : Nat) (d : List Byte) (s : State) : devMem (sendSafe c cons dest d s) = devMem s :=
  (ringPut_devMem _ _ _ _ _ _ _).trans (ringPut_devMem _ _ _ _ _ _ _)
theorem ownCmd_devMem (g : Nat) (c : Nat × Nat × Nat) (s : State) : devMem (ownCmd g c s) = devMem s := by
  unfold ownCmd
  dsimp only
  split
  · exact revokeTerm_devMem _ _ _ _
  · exact offerTerm_devMem _ _ _
  · exact admitRank_devMem _ _ _
  · rfl
theorem memberSend_devMem (g : Nat) (s : State) : devMem (memberSend g s) = devMem s := by
  unfold memberSend
  split
  · rfl
  · extract_lets go fwok u1 healthy u2 u3 arbok renew cmd flags own d u4 u5 u6
    clear_value go
    have h1 : devMem u1 = devMem s := by
      unfold u1
      split <;> rfl
    clear_value u1
    have h3 : devMem u3 = devMem u1 := by
      unfold u3
      split
      · rfl
      · exact holderStop_devMem _ _ _
    clear_value u3
    have h4 : devMem u4 = devMem u3 := sendSafe_devMem _ _ _ _ _
    clear_value u4
    have h5 : devMem u5 = devMem u4 := rfl
    clear_value u5
    have h6 : devMem u6 = devMem u5 := by
      unfold u6
      split
      · exact takeRenewal_devMem _ _ _ _
      · rfl
    exact (ownCmd_devMem _ _ _).trans (h6.trans (h5.trans (h4.trans (h3.trans h1))))

/-! ### The set-points copied (R48, assumption 152) -/

/-- The pending and the active set-points of an axis. -/
def pendOf (s : State) (a : Nat) : List Byte := rdBytes s (pendBase a) 64
def actOf (s : State) (a : Nat) : List Byte := rdBytes s (actBase a) 64
/-- The set-points of one axis copied. -/
def axisCopied (a : Nat) (s : State) : State := modAx a (fun x => { x with spNew := true }) (wrBytes (actBase a) (pendOf s a) s)
theorem copySetpoints_eq (as : List Nat) (s : State) : copySetpoints as s = each axisCopied as s := rfl
theorem axisCopied_pend (a b : Nat) (s : State) : pendOf (axisCopied a s) b = pendOf s b := by
  refine rdBytes_wrBytes_other ?_ s
  rw [pendOf, rdBytes_length]
  unfold actBase pendBase leBase
  omega
theorem axisCopied_act (a b : Nat) (s : State) : actOf (axisCopied a s) b = if b = a then pendOf s b else actOf s b := by
  split
  next e =>
    subst e
    have h := rdBytes_wrBytes_same (pendOf s b) (actBase b) s
    rwa [pendOf, rdBytes_length] at h
  next e =>
    refine rdBytes_wrBytes_other ?_ s
    rw [pendOf, rdBytes_length]
    unfold actBase leBase
    omega
theorem copySetpoints_pend (as : List Nat) (b : Nat) (s : State) : pendOf (copySetpoints as s) b = pendOf s b :=
  each_keep (pendOf · b) axisCopied (fun a u => axisCopied_pend a b u) as s
theorem copySetpoints_act (b : Nat) : ∀ (as : List Nat) (s : State), actOf (copySetpoints as s) b = if b ∈ as then pendOf s b else actOf s b
  | [], s => rfl
  | a :: as, s => by
    have ih := copySetpoints_act b as (axisCopied a s)
    rw [axisCopied_pend, axisCopied_act] at ih
    rw [copySetpoints_eq, each, ← copySetpoints_eq, ih]
    by_cases h : b ∈ as <;> by_cases e : b = a <;> simp [h, e]
theorem copySetpoints_dev (as : List Nat) (s : State) : (copySetpoints as s).dev = s.dev := each_keep State.dev axisCopied (fun _ _ => rfl) as s
theorem copySetpoints_regs (as : List Nat) (s : State) : (copySetpoints as s).regs = s.regs := each_keep State.regs axisCopied (fun _ _ => rfl) as s

/-! ### The tasks of an application commit -/

/-- A register that says which tasks and axes are used, and which axes a task has. -/
def TaskCfg (p : Nat) : Prop := (∃ k < 32, p = A.STR_TASK_CFG k ∨ p = A.STR_TASK_AXES k) ∨ ∃ a < 32, p = A.LE_AX_CFG a
/-- A state in which the tasks are as in another, with the same pending set-points. -/
structure TasksKept (s u : State) : Prop where
  dev : u.dev = s.dev
  cfg : ∀ p, TaskCfg p → u.reg p = s.reg p
  pend : ∀ a, pendOf u a = pendOf s a

theorem taskAxes_lt {s : State} {k a : Nat} (h : a ∈ taskAxes s k) : a < 32 := axesUsed_lt (List.mem_filter.mp h).1
theorem TasksKept.used {s u : State} (h : TasksKept s u) {k : Nat} (hk : k < 32) : isSet u (F.STR_TASK_CFG_USED k) = isSet s (F.STR_TASK_CFG_USED k) :=
  isSet_of_rd (rd_of_reg (f := F.STR_TASK_CFG_USED k) (h.cfg _ (.inl ⟨k, hk, .inl rfl⟩)))
theorem TasksKept.axes {s u : State} (h : TasksKept s u) {k : Nat} (hk : k < 32) : taskAxes u k = taskAxes s k := by
  have hn : u.nAxes = s.nAxes := congrArg (fun d => (s.setDev d).nAxes) h.dev
  have used : axesUsed u = axesUsed s := by
    unfold axesUsed
    rw [hn]
    refine List.filter_congr fun a ha => ?_
    have hp : s.nAxes ≤ 32 := by
      unfold State.nAxes State.nTeams Part.teams
      split <;> decide
    have ha' := List.mem_range.mp ha
    rw [axType_of_cfg (fun a ha => h.cfg _ (.inr ⟨a, ha, rfl⟩)) (by omega)]
  have hm : rd u (F.STR_TASK_AXES_AXES k) = rd s (F.STR_TASK_AXES_AXES k) :=
    rd_of_reg (f := F.STR_TASK_AXES_AXES k) (h.cfg _ (.inl ⟨k, hk, .inr rfl⟩))
  unfold taskAxes rdBit
  rw [used, hm]

theorem besideAxes_taskCfg {p : Nat} (h : TaskCfg p) : BesideAxes p := fun a ha => by
  unfold A.LE_AX_STATE A.MOD_AX_STAT A.SAF_AX_FLT
  rcases h with ⟨k, hk, rfl | rfl⟩ | ⟨b, hb, rfl⟩
  · unfold A.STR_TASK_CFG; omega
  · unfold A.STR_TASK_AXES; omega
  · unfold A.LE_AX_CFG; omega
theorem taskCfg_below {p : Nat} (h : TaskCfg p) : p < 0x0F0000 := by
  rcases h with ⟨k, hk, rfl | rfl⟩ | ⟨b, hb, rfl⟩
  · unfold A.STR_TASK_CFG; omega
  · unfold A.STR_TASK_AXES; omega
  · unfold A.LE_AX_CFG; omega
theorem taskCfg_ne {p : Nat} (h : TaskCfg p) (k : Nat) : p ≠ A.STR_TASK_STAT k ∧ p ≠ A.STR_OVERRUN ∧ p ≠ A.STR_TASKOVR := by
  unfold A.STR_TASK_STAT A.STR_OVERRUN A.STR_TASKOVR
  rcases h with ⟨k, hk, rfl | rfl⟩ | ⟨b, hb, rfl⟩
  · unfold A.STR_TASK_CFG; omega
  · unfold A.STR_TASK_AXES; omega
  · unfold A.LE_AX_CFG; omega
theorem taskReact_reg {p : Nat} (h : TaskCfg p) (k : Nat) (s : State) : (taskReact k s).reg p = s.reg p := by
  have hb := besideAxes_taskCfg h
  unfold taskReact
  dsimp only
  split
  · refine (each_reg_of_mem _ _ _ fun a ha u => ?_).trans (logFault_reg_below (taskCfg_below h) _ _ _ _ _)
    exact flagReact_reg hb (taskAxes_lt ha) (b := F.SAF_AX_FLT_BLOCK) (fun _ => rfl) _
  · exact (each_reg_of_mem _ _ _ fun a ha u => blockReact_reg hb (taskAxes_lt ha) true 5 u).trans (logFault_reg_below (taskCfg_below h) _ _ _ _ _)
theorem taskOverrun_reg {p : Nat} (h : TaskCfg p) (k : Nat) (s : State) : (taskOverrun k s).reg p = s.reg p := by
  obtain ⟨h1, h2, h3⟩ := taskCfg_ne h k
  refine taskOverrun_keep (g := (·.reg p)) (fun f v u hf => reg_wr_other _ _ _ _ ?_) (fun _ _ _ _ u => logFault_reg_below (taskCfg_below h) _ _ _ _ u)
    (taskReact_reg h k) s
  rcases hf with e | e | e <;> rw [e] <;> assumption

theorem TasksKept.trans {s u v : State} (h : TasksKept s u) (h' : TasksKept u v) : TasksKept s v :=
  ⟨h'.dev.trans h.dev, fun p hp => (h'.cfg p hp).trans (h.cfg p hp), fun a => (h'.pend a).trans (h.pend a)⟩
theorem tasksKept_overrun (k : Nat) (s : State) : TasksKept s (taskOverrun k s) := by
  obtain ⟨hd, hm⟩ := devMem_eq.mp (taskOverrun_devMem k s)
  exact ⟨hd, fun p hp => taskOverrun_reg hp k s, fun a => rdBytes_of_mem hm _ _⟩
theorem tasksKept_copied (as : List Nat) (s : State) : TasksKept s (copySetpoints as s) :=
  ⟨copySetpoints_dev as s, fun p _ => reg_of_regs (copySetpoints_regs as s) p, fun a => copySetpoints_pend as a s⟩
theorem tasksKept_consec (k v : Nat) (s : State) : TasksKept s (wr (F.STR_TASK_STAT_CONSEC k) v s) :=
  ⟨rfl, fun _ hp => reg_wr_other _ _ _ _ (taskCfg_ne hp k).1, fun _ => rfl⟩

/-- The set-points of axis a are copied by task k at A. -/
def copies (s : State) (a k : Nat) : Bool := isSet s (F.STR_TASK_CFG_USED k) && bit s.dev.commits.toNat k && decide (a ∈ taskAxes s k)
/-- One task at A: the tasks stay, and the active set-points are those pending where it copies, as they were elsewhere. -/
theorem taskCommit_spec {s u : State} {k : Nat} (hk : k < 32) (h : TasksKept s u) :
    TasksKept s (taskCommit k u) ∧ ∀ a, actOf (taskCommit k u) a = if copies s a k then pendOf s a else actOf u a := by
  unfold taskCommit copies
  rw [h.used hk, h.dev]
  by_cases hu : isSet s (F.STR_TASK_CFG_USED k) = true
  · rw [if_neg (not_not.2 hu), hu]
    simp only [Bool.true_and]
    by_cases hc : bit s.dev.commits.toNat k = true
    · have act (a : Nat) : actOf (copySetpoints (taskAxes u k) u) a = if a ∈ taskAxes s k then pendOf s a else actOf u a := by
        rw [copySetpoints_act, h.axes hk, h.pend]
      rw [if_pos hc, hc]
      simp only [Bool.true_and, decide_eq_true_eq]
      have kept := h.trans (tasksKept_copied (taskAxes u k) u)
      split
      · exact ⟨kept.trans (tasksKept_consec k 0 _), act⟩
      · exact ⟨kept, act⟩
    · rw [if_neg hc, Bool.eq_false_iff.2 hc]
      simp only [Bool.false_and]
      split
      · refine ⟨h.trans (tasksKept_overrun k u), fun a => ?_⟩
        exact rdBytes_of_mem (devMem_eq.mp (taskOverrun_devMem k u)).2 _ _
      · exact ⟨h, fun a => rfl⟩
  · rw [if_pos hu, Bool.eq_false_iff.2 hu]
    simp only [Bool.false_and]
    exact ⟨h, fun a => rfl⟩
/-- The tasks in turn: an axis has its pending set-points where one of them copies. -/
theorem tasksCommitted {s u : State} (h : TasksKept s u) : ∀ n ≤ 32, TasksKept s (upto taskCommit n u) ∧
    ∀ a, ((∃ k < n, copies s a k = true) → actOf (upto taskCommit n u) a = pendOf s a) ∧
      ((∀ k < n, copies s a k = false) → actOf (upto taskCommit n u) a = actOf u a)
  | 0, _ => ⟨h, fun _ => ⟨fun ⟨_, hk, _⟩ => absurd hk (Nat.not_lt_zero _), fun _ => rfl⟩⟩
  | n + 1, hn => by
    obtain ⟨kept, act⟩ := tasksCommitted h n (by omega)
    obtain ⟨kept', act'⟩ := taskCommit_spec (k := n) (by omega) kept
    refine ⟨kept', fun a => ?_⟩
    obtain ⟨some, none⟩ := act a
    rw [upto, act']
    constructor
    · rintro ⟨k, hk, hc⟩
      split
      · rfl
      next hno =>
        have hne : k ≠ n := fun e => hno (e ▸ hc)
        exact some ⟨k, by omega, hc⟩
    · intro hno
      rw [if_neg (by rw [hno n (Nat.lt_succ_self n)]; decide)]
      exact none fun k hk => hno k (Nat.lt_succ_of_lt hk)

/-- The tasks committed at A, before the groups send their frames. -/
def commitMade (s : State) : State := modDev (fun d => { d with commits := 0 }) (upto taskCommit 32 (coreEvent 1 s))
theorem applicationCommit_eq {s : State} (ha : armedOn s = true) (hr : s.dev.running = true) (hh : held s = false) :
    exec .applicationCommit s = done (upto memberSend 4 (commitMade s)) := by
  change execApplicationCommit s = _
  unfold execApplicationCommit
  rw [if_neg (not_not.2 ⟨ha, hr, by simp [hh]⟩)]
  rfl
theorem coreEvent_devMem (b : Nat) (s : State) : devMem (coreEvent b s) = devMem s := by
  unfold coreEvent
  refine each_keep devMem _ (fun c u => ?_) _ s
  rfl
theorem tasksKept_event (b : Nat) (s : State) : TasksKept s (coreEvent b s) :=
  ⟨(devMem_eq.mp (coreEvent_devMem b s)).1, fun p _ => reg_of_regs (coreEvent_regs b s) p,
    fun _ => rdBytes_of_mem (devMem_eq.mp (coreEvent_devMem b s)).2 _ _⟩
theorem actOf_of_devMem {s t : State} (h : devMem t = devMem s) (a : Nat) : actOf t a = actOf s a := rdBytes_of_mem (devMem_eq.mp h).2 _ _
theorem committed_devMem (s : State) : devMem (flushLog (upto memberSend 4 (commitMade s))) = devMem (commitMade s) :=
  (devMem_eq.mpr ⟨flushLog_dev _, flushLog_mem _⟩).trans (upto_keep devMem memberSend memberSend_devMem 4 _)
theorem commitMade_commits (s : State) : (commitMade s).dev.commits = 0 := by
  unfold commitMade
  rfl
theorem commitMade_act (s : State) (a : Nat) : actOf (commitMade s) a = actOf (upto taskCommit 32 (coreEvent 1 s)) a := by
  unfold commitMade
  rfl
theorem applicationCommit_spec {s : State} (ha : armedOn s = true) (hr : s.dev.running = true) (hh : held s = false) :
    Completes .applicationCommit s fun t =>
      (∀ k < 32, isSet s (F.STR_TASK_CFG_USED k) = true → bit s.dev.commits.toNat k = true →
        ∀ a ∈ taskAxes s k, actOf t a = pendOf s a) ∧
      (∀ a < 32, (∀ k < 32, isSet s (F.STR_TASK_CFG_USED k) = true → bit s.dev.commits.toNat k = true → a ∉ taskAxes s k) →
        actOf t a = actOf s a) ∧
      t.dev.commits = 0 := by
  obtain ⟨-, act⟩ := tasksCommitted (tasksKept_event 1 s) 32 (Nat.le_refl 32)
  have shown (a : Nat) := (actOf_of_devMem (committed_devMem s) a).trans (commitMade_act s a)
  refine ⟨_, applicationCommit_eq ha hr hh, fun k hk hu hc a hm => ?_, fun a _ hno => ?_, ?_⟩
  · rw [shown, (act a).1 ⟨k, hk, by simp [copies, hu, hc, hm]⟩]
  · have none : ∀ k < 32, copies s a k = false := fun k hk => Bool.eq_false_iff.2 fun h => by
      simp only [copies, Bool.and_eq_true, decide_eq_true_eq] at h
      exact hno k hk h.1.1 h.1.2 h.2
    rw [shown, (act a).2 none, actOf_of_devMem (coreEvent_devMem 1 s)]
  · rw [(devMem_eq.mp (committed_devMem s)).1, commitMade_commits]

/-- Settles O7: a core's commit by the bytes written, a host's by the entry logged, the application commit task by task. -/
theorem setpointsChangeTogether : Obligations.SetpointsChangeTogether := by
  unfold Obligations.SetpointsChangeTogether
  exact ⟨fun who mask a ws s hf hw => taskCommit_core_spec hf mask a hw, fun mask recs s hr => taskCommit_host_spec hr mask recs,
    fun s ha hr hh => applicationCommit_spec ha hr hh⟩

end Sys2Proof.Machine
end

section
/-! ## A stride mark: the count and the timebase (R37) -/
namespace Sys2Proof.Machine
open Sys2Proof

/-! ### What the parts of a mark leave alone: the device record

Every part of a mark but those that end this section keeps the device record, by the parts it is made of. -/

theorem dev_of_drive {s t : State} (h : beyondDrive t = beyondDrive s) : t.dev = s.dev :=
  (congrArg State.dev h : (beyondDrive t).dev = (beyondDrive s).dev)
@[simp] theorem ite_dev (c : Prop) [Decidable c] (a b : State) : (if c then a else b).dev = if c then a.dev else b.dev := apply_ite State.dev c a b
@[simp] theorem each_dev {α : Type} {f : α → State → State} (h : ∀ x u, (f x u).dev = u.dev) (l : List α) (s : State) : (each f l s).dev = s.dev :=
  each_keep State.dev f h l s
@[simp] theorem upto_dev {f : Nat → State → State} (h : ∀ x u, (f x u).dev = u.dev) (n : Nat) (s : State) : (upto f n s).dev = s.dev :=
  upto_keep State.dev f h n s

/-! #### The state operations and the log -/

@[simp] theorem modPair_dev (p : Nat) (f : Pair → Pair) (s : State) : (modPair p f s).dev = s.dev := by simp [modPair]
@[simp] theorem countCls_dev (cls : Nat) (s : State) : (countCls cls s).dev = s.dev := by
  unfold countCls
  split <;> simp
@[simp] theorem putEntry_dev (code src cls data : Nat) (s : State) : (putEntry code src cls data s).dev = s.dev := by simp [putEntry]
@[simp] theorem coreEvent_dev (b : Nat) (s : State) : (coreEvent b s).dev = s.dev := by simp [coreEvent]
@[simp] theorem freezeMasks_dev (a : Nat) (s : State) : (freezeMasks a s).dev = s.dev := by simp [freezeMasks]
@[simp] theorem setBlk_dev (a : Nat) (b : Bool) (s : State) : (setBlk a b s).dev = s.dev := by simp [setBlk]
@[simp] theorem carNow_dev (t : Nat) (s : State) : (carNow t s).2.dev = s.dev := by
  unfold carNow
  split <;> simp
@[simp] theorem legsHiz_dev (a : Nat) (s : State) : (legsHiz a s).dev = s.dev := by simp [legsHiz]
@[simp] theorem noteOn_dev (a : Nat) (s : State) : (noteOn a s).dev = s.dev := by simp [noteOn]
@[simp] theorem driveVar_dev (a v : Nat) (s : State) : (driveVar a v s).dev = s.dev := by simp [driveVar]
@[simp] theorem enterSafe_dev (a : Nat) (r : React) (s : State) : (enterSafe a r s).dev = s.dev := by simp [enterSafe]
@[simp] theorem flagAx_dev (a : Nat) (bitf : Nat → Fld) (s : State) : (flagAx a bitf s).dev = s.dev := by simp [flagAx]
@[simp] theorem flagReact_dev (a : Nat) (bitf : Nat → Fld) (s : State) : (flagReact a bitf s).dev = s.dev := by simp [flagReact]
@[simp] theorem reactOne_dev (now : Bool) (a : Nat) (r : React) (bitf : Nat → Fld) (s : State) : (reactOne now a r bitf s).dev = s.dev :=
  dev_of_drive (reactOne_beyond now a r bitf s)
@[simp] theorem axisReact_dev (now : Bool) (a rank : Nat) (var : Option Nat) (scause : Nat) (bitf : Nat → Fld) (s : State) :
    (axisReact now a rank var scause bitf s).dev = s.dev :=
  dev_of_drive (axisReact_beyond now a rank var scause bitf s)
@[simp] theorem blockReact_dev (now : Bool) (a scause : Nat) (s : State) : (blockReact now a scause s).dev = s.dev := by simp [blockReact]
@[simp] theorem teamReact_dev (code t : Nat) (s : State) : (teamReact code t s).dev = s.dev := by simp [teamReact]
@[simp] theorem dischTrigger_dev (g src : Nat) (s : State) : (dischTrigger g src s).dev = s.dev := by simp [dischTrigger]
@[simp] theorem brakesOff_dev (s : State) : (brakesOff s).dev = s.dev := by simp [brakesOff]
@[simp] theorem dvDischarge_dev (s : State) : (dvDischarge s).dev = s.dev := by simp [dvDischarge]
@[simp] theorem axFaultAll_dev (now : Bool) (code src data scause : Nat) (as : List Nat) (s : State) :
    (axFaultAll now code src data scause as s).dev = s.dev :=
  by simp [axFaultAll]

/-! #### Frames and cisterns -/

@[simp] theorem cisDrop_dev (n : Nat) (s : State) : (cisDrop n s).dev = s.dev := cisDrop_keep State.dev (fun _ _ _ _ => rfl) logRated_dev n s
@[simp] theorem cisPut_dev (n : Nat) (p : Pkt) (s : State) : (cisPut n p s).1.dev = s.dev :=
  cisPut_keep State.dev (fun _ _ _ _ => rfl) (fun _ _ => rfl) logRated_dev n p s
@[simp] theorem sendCtl_dev (h : Nat) (ty : Byte) (content : Nat) (s : State) : (sendCtl h ty content s).dev = s.dev := by simp [sendCtl]

/-! #### Measurement -/

@[simp] theorem trimBegin_dev (a : Nat) (s : State) : (trimBegin a s).dev = s.dev := by simp [trimBegin]
@[simp] theorem trimAbandon_dev (a : Nat) (failed : List (Nat × Nat)) (s : State) : (trimAbandon a failed s).dev = s.dev := by
  unfold trimAbandon
  dsimp only
  split <;> simp
@[simp] theorem onMark_dev (g : Nat) (s : State) : (onMark g s).dev = s.dev := by simp [onMark]
@[simp] theorem trimSkip_dev (a : Nat) (s : State) : (trimSkip a s).dev = s.dev := by
  unfold trimSkip
  split <;> simp
@[simp] theorem trimMark_dev (a : Nat) (s : State) : (trimMark a s).dev = s.dev := by
  unfold trimMark
  split
  · rfl
  · split
    · rfl
    · split
      · rfl
      · dsimp only
        split <;> simp

/-! #### The position loop -/

@[simp] theorem closeLoop_dev (a src : Nat) (s : State) : (closeLoop a src s).dev = s.dev := by simp [closeLoop]

/-! #### The axes -/

@[simp] theorem toReadyOne_dev (a : Nat) (s : State) : (toReadyOne a s).dev = s.dev := by simp [toReadyOne]
@[simp] theorem toReady_dev (a : Nat) (s : State) : (toReady a s).dev = s.dev := by simp [toReady]
@[simp] theorem toPrechargeOne_dev (a : Nat) (s : State) : (toPrechargeOne a s).dev = s.dev := by simp [toPrechargeOne]
@[simp] theorem toPrecharge_dev (a : Nat) (s : State) : (toPrecharge a s).dev = s.dev := by simp [toPrecharge]
@[simp] theorem pathBegin_dev (a : Nat) (s : State) : (pathBegin a s).dev = s.dev := by
  unfold pathBegin
  dsimp only
  split <;> simp
@[simp] theorem toStartOne_dev (a : Nat) (s : State) : (toStartOne a s).dev = s.dev := by simp [toStartOne]
@[simp] theorem toStart_dev (a : Nat) (s : State) : (toStart a s).dev = s.dev := by simp [toStart]
@[simp] theorem modeRefused_dev (a req : Nat) (s : State) : (modeRefused a req s).dev = s.dev := by simp [modeRefused]
@[simp] theorem toLocked_dev (a rsn : Nat) (s : State) : (toLocked a rsn s).dev = s.dev := by simp [toLocked]
@[simp] theorem modeAct_dev (a req : Nat) (s : State) : (modeAct a req s).dev = s.dev := by
  unfold modeAct
  split <;> simp
@[simp] theorem modeMark_dev (a : Nat) (s : State) : (modeMark a s).dev = s.dev := by
  unfold modeMark
  dsimp only
  split <;> simp
@[simp] theorem startReady_dev (a : Nat) (s : State) : (startReady a s).dev = s.dev := by simp [startReady]
@[simp] theorem startMark_dev (a : Nat) (s : State) : (startMark a s).dev = s.dev := by
  unfold startMark
  split <;> simp
@[simp] theorem partnerMark_dev (a : Nat) (s : State) : (partnerMark a s).dev = s.dev := by
  unfold partnerMark
  dsimp only
  split
  · rfl
  · split
    · simp
    · split
      · rfl
      · split <;> simp
@[simp] theorem stopMark_dev (a : Nat) (s : State) : (stopMark a s).dev = s.dev := by simp [stopMark]
@[simp] theorem estStopMark_dev (a : Nat) (s : State) : (estStopMark a s).dev = s.dev := by simp [estStopMark]
@[simp] theorem relMark_dev (a : Nat) (s : State) : (relMark a s).dev = s.dev := by simp [relMark]
@[simp] theorem legMark_dev (a : Nat) (s : State) : (legMark a s).dev = s.dev := by simp [legMark]
@[simp] theorem reactMark_dev (a : Nat) (s : State) : (reactMark a s).dev = s.dev := by
  unfold reactMark
  split <;> simp
@[simp] theorem safeLog_dev (a : Nat) (s : State) : (safeLog a s).dev = s.dev := by
  unfold safeLog
  split <;> simp
@[simp] theorem windOff_dev (g : Nat) (s : State) : (windOff g s).dev = s.dev := by simp [windOff]
@[simp] theorem dischEnd_dev (g : Nat) (s : State) : (dischEnd g s).dev = s.dev := by simp [dischEnd]
@[simp] theorem windMark_dev (g : Nat) (s : State) : (windMark g s).dev = s.dev := by simp [windMark]
@[simp] theorem dischMark_dev (g : Nat) (s : State) : (dischMark g s).dev = s.dev := by simp [dischMark]

/-! #### The safety channel -/

@[simp] theorem writeVar_dev (a : Nat) (s : State) : (writeVar a s).dev = s.dev := by simp [writeVar]
@[simp] theorem haltGrant_dev (t : Nat) (s : State) : (haltGrant t s).dev = s.dev := by simp [haltGrant]
@[simp] theorem tmStride_dev (a : Nat) (s : State) : (tmStride a s).dev = s.dev := by simp [tmStride]
@[simp] theorem demMark_dev (a : Nat) (s : State) : (demMark a s).dev = s.dev := by simp [demMark]
@[simp] theorem smcUse_dev (s : State) : (smcUse s).dev = s.dev := by simp [smcUse]
@[simp] theorem mailWrite_dev (s : State) : (mailWrite s).dev = s.dev := by simp [mailWrite]
@[simp] theorem smcRequest_dev (now : Bool) (a : Nat) (bitf : Nat → Fld) (s : State) : (smcRequest now a bitf s).dev = s.dev := by simp [smcRequest]
@[simp] theorem tmRequest_dev (a : Nat) (s : State) : (tmRequest a s).dev = s.dev := by simp [tmRequest]
@[simp] theorem tmJudge_dev (a : Nat) (s : State) : (tmJudge a s).dev = s.dev := by simp [tmJudge]
@[simp] theorem smcWork_dev (s : State) : (smcWork s).dev = s.dev := by simp [smcWork]
@[simp] theorem watchMark_dev (a : Nat) (s : State) : (watchMark a s).dev = s.dev := by
  unfold watchMark
  split <;> simp
@[simp] theorem clearMark_dev (a : Nat) (s : State) : (clearMark a s).dev = s.dev := by simp [clearMark]
@[simp] theorem teamClearMark_dev (t : Nat) (s : State) : (teamClearMark t s).dev = s.dev := by simp [teamClearMark]
@[simp] theorem siAct_dev (n : Nat) (onset : Bool) (s : State) : (siAct n onset s).dev = s.dev := by
  unfold siAct
  split <;> simp
@[simp] theorem siMark_dev (n : Nat) (s : State) : (siMark n s).dev = s.dev := by simp [siMark]
@[simp] theorem modBrk_dev (n : Nat) (f : SafeBrk → SafeBrk) (s : State) : (modBrk n f s).dev = s.dev := by simp [modBrk]
@[simp] theorem sbMark_dev (n : Nat) (s : State) : (sbMark n s).dev = s.dev := by simp [sbMark]

/-! #### Groups and connections -/

@[simp] theorem modGroup_dev (g : Nat) (f : Group → Group) (s : State) : (modGroup g f s).dev = s.dev := by simp [modGroup]
@[simp] theorem modConn_dev (c : Nat) (f : Conn → Conn) (s : State) : (modConn c f s).dev = s.dev := by simp [modConn]
@[simp] theorem modPeer_dev (g r : Nat) (f : Peer → Peer) (s : State) : (modPeer g r f s).dev = s.dev := by simp [modPeer]
@[simp] theorem showHostSil_dev (s : State) : (showHostSil s).dev = s.dev := by simp [showHostSil]
@[simp] theorem holderStop_dev (g ev : Nat) (s : State) : (holderStop g ev s).dev = s.dev := by simp [holderStop]
@[simp] theorem fitMark_dev (g : Nat) (s : State) : (fitMark g s).dev = s.dev := by simp [fitMark]
@[simp] theorem revokeTerm_dev (g term cause : Nat) (s : State) : (revokeTerm g term cause s).dev = s.dev := by simp [revokeTerm]
@[simp] theorem offerTerm_dev (g : Nat) (n : NewTerm) (s : State) : (offerTerm g n s).dev = s.dev := (devMem_eq.mp (offerTerm_devMem g n s)).1
@[simp] theorem admitRank_dev (g r : Nat) (s : State) : (admitRank g r s).dev = s.dev := by simp [admitRank]
@[simp] theorem cmdRevoke_dev (g : Nat) (c : GroupCmd) (s : State) : (cmdRevoke g c s).dev = s.dev := by
  unfold cmdRevoke draw
  split
  · split <;> simp
  · rfl
@[simp] theorem cmdGrant_dev (g : Nat) (c : GroupCmd) (s : State) : (cmdGrant g c s).dev = s.dev := by simp [cmdGrant]
@[simp] theorem cmdAdmit_dev (g : Nat) (c : GroupCmd) (s : State) : (cmdAdmit g c s).dev = s.dev := by simp [cmdAdmit]
@[simp] theorem cmdApply_dev (g cmd : Nat) (c : GroupCmd) (s : State) : (cmdApply g cmd c s).dev = s.dev := by
  unfold cmdApply
  split <;> simp
@[simp] theorem quorumNow_dev (g : Nat) (s : State) : (quorumNow g s).dev = s.dev := by simp [quorumNow]
@[simp] theorem hostGroup_dev (g : Nat) (d : List Byte) (s : State) : (hostGroup g d s).dev = s.dev := by simp [hostGroup]
@[simp] theorem takeRenewal_dev (g r : Nat) (x : Renewal) (s : State) : (takeRenewal g r x s).dev = s.dev := by simp [takeRenewal]
@[simp] theorem memberFrame_dev (g r : Nat) (stamp : Word) (d : List Byte) (s : State) : (memberFrame g r stamp d s).dev = s.dev :=
  by simp [memberFrame]
@[simp] theorem takeDemand_dev (c : Nat) (s : State) : (takeDemand c s).dev = s.dev := by simp [takeDemand]
@[simp] theorem acceptFrame_dev (c : Nat) (bytes : List Byte) (s : State) : (acceptFrame c bytes s).dev = s.dev := by
  unfold acceptFrame
  extract_lets seq mism u1 d u2 u3 u4 u5 u6
  have h4 : u4.dev = s.dev := by simp [u4, u3, u2, u1]
  have h5 : u5.dev = s.dev := by simp [u5, h4]
  have h6 : u6.dev = s.dev := by
    unfold u6
    split <;> simp [h5]
  split <;> simp [h6]
@[simp] theorem singleCopy_dev (c : Nat) (w : Copy) (s : State) : (singleCopy c w s).dev = s.dev := by simp [singleCopy]
@[simp] theorem stopReqMark_dev (g : Nat) (s : State) : (stopReqMark g s).dev = s.dev := by simp [stopReqMark]
@[simp] theorem singlesMark_dev (c : Nat) (s : State) : (singlesMark c s).dev = s.dev := by simp [singlesMark]
@[simp] theorem connMark_dev (c : Nat) (s : State) : (connMark c s).dev = s.dev := by simp [connMark]
@[simp] theorem adoptTerm_dev (g : Nat) (term holder : Nat) (s : State) : (adoptTerm g term holder s).dev = s.dev := by simp [adoptTerm]
@[simp] theorem termMark_dev (g : Nat) (s : State) : (termMark g s).dev = s.dev := by
  unfold termMark
  split <;> simp
@[simp] theorem renewalMark_dev (g : Nat) (s : State) : (renewalMark g s).dev = s.dev := by
  unfold renewalMark
  split <;> simp
@[simp] theorem ageMark_dev (g : Nat) (s : State) : (ageMark g s).dev = s.dev := by simp [ageMark]
@[simp] theorem shareMark_dev (g k : Nat) (s : State) : (shareMark g k s).dev = s.dev := by simp [shareMark]
@[simp] theorem heardMark_dev (g : Nat) (s : State) : (heardMark g s).dev = s.dev := by simp [heardMark]
@[simp] theorem revokeMark_dev (g : Nat) (s : State) : (revokeMark g s).dev = s.dev := by simp [revokeMark]
@[simp] theorem groupMark_dev (g : Nat) (s : State) : (groupMark g s).dev = s.dev := by simp [groupMark]

/-! #### The pairs and the debug block -/

@[simp] theorem modHart_dev (h : Nat) (f : Hart → Hart) (s : State) : (modHart h f s).dev = s.dev := by simp [modHart]
@[simp] theorem modDbg_dev (f : Dbg → Dbg) (s : State) : (modDbg f s).dev = s.dev := by simp [modDbg]
@[simp] theorem sigMark_dev (p : Nat) (s : State) : (sigMark p s).dev = s.dev := by simp [sigMark]
@[simp] theorem pairForget_dev (p : Nat) (s : State) : (pairForget p s).dev = s.dev := by simp [pairForget]
@[simp] theorem splitNow_dev (p : Nat) (s : State) : (splitNow p s).dev = s.dev := by simp [splitNow]
@[simp] theorem xferStore_dev (p : Nat) (s : State) : (xferStore p s).dev = s.dev := by
  unfold xferStore
  generalize List.range 512 = l
  refine (wrBytes_dev _ _ _).trans (each_keep (fun r : List Byte × State => r.2.dev) _ (fun _ r => ?_) l ([], s))
  rfl
@[simp] theorem pairMark_dev (p : Nat) (s : State) : (pairMark p s).dev = s.dev := by simp [pairMark]
@[simp] theorem splitInit_dev (p : Nat) (s : State) : (splitInit p s).dev = s.dev := by simp [splitInit]
@[simp] theorem debugMark_dev (s : State) : (debugMark s).dev = s.dev := by simp [debugMark]

/-! #### The ring links -/

@[simp] theorem sendTrain_dev (h ty data : Nat) (s : State) : (sendTrain h ty data s).dev = s.dev := by simp [sendTrain]
@[simp] theorem trainMark_dev (h : Nat) (s : State) : (trainMark h s).dev = s.dev := by
  unfold trainMark
  simp [trainStart_dev]
@[simp] theorem slotsMark_dev (s : State) : (slotsMark s).dev = s.dev := by simp [slotsMark]
@[simp] theorem unwrapMark_dev (s : State) : (unwrapMark s).dev = s.dev := by simp [unwrapMark]
@[simp] theorem grantTake_dev (len : Nat) (s : State) : (grantTake len s).1.dev = s.dev := grantTake_keep State.dev (fun _ _ _ _ => rfl) len s
@[simp] theorem reached_dev (s : State) : (reached s).2.dev = s.dev := by simp [reached]
@[simp] theorem grantMark_dev (s : State) : (grantMark s).dev = s.dev := by simp [grantMark]

/-! #### Stride alignment -/

@[simp] theorem showErr_dev (e : Int) (s : State) : (showErr e s).dev = s.dev := by simp [showErr]
@[simp] theorem syncSend_dev (s : State) : (syncSend s).dev = s.dev := by simp [syncSend]

/-! #### The buses -/

@[simp] theorem busEvent_dev (en : Fld) (s : State) : (busEvent en s).dev = s.dev := by simp [busEvent]
@[simp] theorem modCan_dev (c : Nat) (f : CanCh → CanCh) (s : State) : (modCan c f s).dev = s.dev := by simp [modCan]
@[simp] theorem modMbox_dev (c m : Nat) (f : Mbox → Mbox) (s : State) : (modMbox c m f s).dev = s.dev := by simp [modMbox]
@[simp] theorem canStart_dev (c : Nat) (s : State) : (canStart c s).dev = s.dev := by
  unfold canStart
  dsimp only
  split
  · rfl
  · split
    · rfl
    · split <;> rfl
@[simp] theorem expire_dev (c : Nat) (q : SlotFrame) (s : State) : (expire c q s).dev = s.dev := (busEvent_dev _ _).trans (logRated_dev _ _ _ _ _)
@[simp] theorem slotExpire_dev (c : Nat) (s : State) : (slotExpire c s).dev = s.dev := by
  unfold slotExpire
  split <;> simp
@[simp] theorem slotEnd_dev (c : Nat) (s : State) : (slotEnd c s).dev = s.dev := by
  unfold slotEnd
  dsimp only
  split <;> simp
@[simp] theorem canMark_dev (c : Nat) (s : State) : (canMark c s).dev = s.dev := by simp [canMark]
@[simp] theorem busMark_dev (s : State) : (busMark s).dev = s.dev := by simp [busMark]

/-! #### Sleep -/

@[simp] theorem sleepGo_dev (s : State) : (sleepGo s).dev = s.dev := by simp [sleepGo]

/-! #### Replies -/

@[simp] theorem portPut_dev (port k : Nat) (frame : List Byte) (s : State) : (portPut port k frame s).1.dev = s.dev :=
  portPut_keep State.dev (fun _ _ _ _ => rfl) (fun _ _ => rfl) logRated_dev port k frame s
@[simp] theorem ringToD0_dev (cls stream : Nat) (frame : List Byte) (s : State) : (ringToD0 cls stream frame s).1.dev = s.dev :=
  ringToD0_keep State.dev (fun _ _ _ _ => rfl) (fun _ _ => rfl) logRated_dev cls stream frame s
@[simp] theorem forward_dev (typ : Nat) (r : Req) (body : List Byte) (s : State) : (forward typ r body s).dev = s.dev := ringPut_dev _ _ _ _ _ _ s
@[simp] theorem listReply_dev (r : Req) (n : Nat) (bad : List Nat) (s : State) : (listReply r n bad s).dev = s.dev := reply_dev _ _ _ _ s
@[simp] theorem listsMark_dev (s : State) : (listsMark s).dev = s.dev := by simp [listsMark]

/-! #### The parts of a mark -/

@[simp] theorem markSlew_dev (s : State) : (markSlew s).2.dev = s.dev := by
  unfold markSlew
  split <;> simp
@[simp] theorem pairJump_dev (p : Nat) (entry : Word) (s : State) : (pairJump p entry s).dev = s.dev := by simp [pairJump]
@[simp] theorem appMark_dev (s : State) : (appMark s).dev = s.dev := by simp [appMark]
@[simp] theorem nvmMark_dev (s : State) : (nvmMark s).dev = s.dev := by simp [nvmMark]
@[simp] theorem groupsMark_dev (s : State) : (groupsMark s).dev = s.dev := by simp [groupsMark]
@[simp] theorem clearingsMark_dev (s : State) : (clearingsMark s).dev = s.dev := by simp [clearingsMark]
@[simp] theorem safetyMark_dev (s : State) : (safetyMark s).dev = s.dev := by simp [safetyMark]
@[simp] theorem axesMark_dev (s : State) : (axesMark s).dev = s.dev := by simp [axesMark]
@[simp] theorem framesMark_dev (s : State) : (framesMark s).dev = s.dev := by simp [framesMark]
@[simp] theorem sleepMark_dev (s : State) : (sleepMark s).dev = s.dev := by
  unfold sleepMark
  simp [reply_dev]
@[simp] theorem restartMark_dev (s : State) : (restartMark s).dev = s.dev := by simp [restartMark]

/-! ### Reactions of class DV at a mark (R207) -/

/-- A state behind the count of a mark: the timebase runs, at phase 0 and with this count, in a state in which marks are made. -/
structure Marked (c : Stamp) (s : State) : Prop where
  count : s.dev.count = c
  running : s.dev.running = true
  phase : s.dev.phase = 0
  st : s.dev.st = .sync ∨ s.dev.st = .armed ∨ s.dev.st = .service ∨ s.dev.st = .recovery

theorem Marked.of_dev {c : Stamp} {s t : State} (h : Marked c s) (e : t.dev = s.dev) : Marked c t :=
  ⟨e ▸ h.count, e ▸ h.running, e ▸ h.phase, e ▸ h.st⟩
/-- Entered into RECOVERY, or changed beside its timebase and its state, the device stays so. -/
theorem Marked.recovery {c : Stamp} {s : State} (h : Marked c s) : Marked c (setSt .recovery s) := ⟨h.count, h.running, h.phase, .inr (.inr (.inr rfl))⟩
theorem Marked.modified {c : Stamp} {s : State} (h : Marked c s) {f : Dev → Dev} (hc : (f s.dev).count = s.dev.count)
    (hr : (f s.dev).running = s.dev.running) (hp : (f s.dev).phase = s.dev.phase) (hs : (f s.dev).st = s.dev.st) : Marked c (modDev f s) :=
  ⟨hc.trans h.count, hr.trans h.running, hp.trans h.phase, by rw [show (modDev f s).dev.st = s.dev.st from hs]; exact h.st⟩

theorem Marked.noteDv {c : Stamp} {s : State} (h : Marked c s) : Marked c (noteDv s) := h.modified rfl rfl rfl rfl
@[simp] theorem latched_dev (code : Nat) (s : State) : (latched code s).dev = s.dev := by simp [latched]
theorem reactedOff_dev (code : Nat) (s : State) : (reactedOff code s).dev = (noteDv s).dev := by simp [reactedOff, outputsOff]
theorem deviceReact_marked {c : Stamp} {s : State} (h : Marked c s) (pick : State → Nat → Nat) (code : Nat) : Marked c (deviceReact pick code s) := by
  have off : Marked c (reactedOff code s) := h.noteDv.of_dev (reactedOff_dev code s)
  rcases h.st with e | e | e | e
  · rw [deviceReact_sync e]
    exact (off.of_dev (dvDischarge_dev _)).recovery.of_dev (recAsk_dev _ _)
  · rw [deviceReact_armed (.inl e)]
    exact (off.of_dev (by simp)).modified rfl rfl rfl rfl
  · rw [deviceReact_armed (.inr e)]
    exact (off.of_dev (by simp)).modified rfl rfl rfl rfl
  · rw [deviceReact_recovery (.inl e)]
    exact h.noteDv.of_dev (by simp)
theorem configReact_marked {c : Stamp} {s : State} (h : Marked c s) (falls : Bool) (react code src data scause : Nat) (as ts : List Nat) :
    Marked c (configReact falls react code src data scause as ts s) := by
  unfold configReact
  split
  · exact h.of_dev (logFault_dev _ _ _ _ _)
  · split
    · exact h.of_dev (logFault_dev _ _ _ _ _)
    · exact h.of_dev (axFaultAll_dev _ _ _ _ _ _ _)
    · exact h.of_dev (by simp)
    · exact deviceReact_marked (h.of_dev (logFault_dev _ _ _ _ _)) _ _
theorem dclCheck_marked {c : Stamp} {s : State} (h : Marked c s) (g : Nat) : Marked c (dclCheck g s) := by
  unfold dclCheck
  extract_lets cs vs d u cnt put as
  have hu : Marked c u := h.of_dev (wr_dev _ _ _)
  have hput (v : Nat) {w : State} (hw : Marked c w) : Marked c (put v w) := hw.of_dev rfl
  clear_value as put cnt u d vs cs
  split
  · exact h
  · split
    · split
      · split
        · exact hu
        · split
          · exact configReact_marked (hput _ (hu.of_dev (wr_dev _ _ _))) _ _ _ _ _ _ _ _
          · exact hput _ hu
      · exact hput _ hu
    · exact h.of_dev rfl

/-! ### The mark behind its count -/

theorem coresMark_marked {c : Stamp} {s : State} (h : Marked c s) : Marked c (coresMark s) := (h.of_dev (by simp)).modified rfl rfl rfl rfl
theorem reactionsMark_marked {c : Stamp} {s : State} (h : Marked c s) : Marked c (reactionsMark s) := by
  have checked : Marked c (upto (fun g => dclCheck g) 4 s) := upto_ind (P := Marked c) _ (fun g u hu => dclCheck_marked hu g) 4 s h
  unfold reactionsMark
  exact (checked.of_dev (each_dev legMark_dev _ _)).of_dev (each_dev reactMark_dev _ _)
theorem armedMark_marked {c : Stamp} {s : State} (h : Marked c s) : Marked c (armedMark s) := by
  unfold armedMark
  extract_lets u1 u2 u3 u4 u5 u6
  have h3 : Marked c u3 := h.of_dev (by simp [u3, u2, u1])
  have h4 : Marked c u4 := reactionsMark_marked (coresMark_marked (h3.of_dev (by simp)))
  exact h4.of_dev (by simp [u6, u5])
theorem recoveryMark_marked {c : Stamp} {s : State} (h : Marked c s) : Marked c (recoveryMark s) := by
  unfold recoveryMark
  split
  · exact (h.modified (f := fun d => { d with recPend := false }) rfl rfl rfl rfl).recovery.of_dev (recAsk_dev _ _)
  · exact h
theorem mclkMark_marked {c : Stamp} {s : State} (h : Marked c s) : Marked c (mclkMark s) := by
  unfold mclkMark
  split
  · exact h.modified rfl rfl rfl rfl
  · exact h

/-- The parts of the mark behind its count. -/
def markServed (s : State) : State :=
  let s := coreEvent 0 (recoveryMark (mclkMark s))
  let s := if armedOn s then armedMark s else coresMark (clearingsMark (upto (fun n => siMark n) 16 s))
  modDev (fun d => { d with atMark := false }) (nvmMark (restartMark (sleepMark (framesMark s))))
theorem markServed_marked {c : Stamp} {s : State} (h : Marked c s) : Marked c (markServed s) := by
  have begun : Marked c (coreEvent 0 (recoveryMark (mclkMark s))) := (recoveryMark_marked (mclkMark_marked h)).of_dev (coreEvent_dev _ _)
  unfold markServed
  extract_lets u v
  have hu : Marked c u := begun
  have hv : Marked c v := by
    unfold v
    clear_value u
    split
    · exact armedMark_marked hu
    · exact coresMark_marked (hu.of_dev (by simp))
  clear_value v
  exact (hv.of_dev (by simp)).modified rfl rfl rfl rfl

/-! ### The count, and what comes before it (R37) -/

/-- The parts of the mark up to its count. -/
def markBegun (s : State) : State := gridMark (syncMark (smcWork (slotsMark (modDev (fun d => { d with atMark := true }) s))))
theorem strideMark_eq {s : State} (h : marksRun s = true) : exec .strideMark s = done (markServed (countMark (markBegun s))) := by
  change execStrideMark s = _
  unfold execStrideMark
  rw [if_neg (not_not.2 h)]
  rfl
theorem countMark_marked {s : State} (h : s.dev.st = .sync ∨ s.dev.st = .armed ∨ s.dev.st = .service ∨ s.dev.st = .recovery) :
    Marked (if s.dev.running then s.dev.count + 1 else s.dev.count) (countMark s) := by
  generalize hc : (if s.dev.running then s.dev.count + 1 else s.dev.count) = c
  unfold countMark
  extract_lets per u _ v t
  have hu : Marked c u := ⟨hc, rfl, rfl, h⟩
  have hv : Marked c v := by
    refine hu.of_dev ?_
    unfold v
    split <;> rfl
  split
  · exact hv
  · split
    · exact (hv.of_dev (State.setPwr_dev _ _)).of_dev (bumpCounter_dev _ _)
    · exact hv.of_dev (State.setPwr_dev _ _)

theorem gridMark_kept (s : State) : (gridMark s).dev.st = s.dev.st ∧ (gridMark s).dev.count = s.dev.count ∧
    (gridMark s).dev.running = s.dev.running := by
  have hm := markSlew_dev s
  unfold gridMark
  generalize markSlew s = r at hm ⊢
  obtain ⟨m, u⟩ := r
  change u.dev = s.dev at hm
  split
  · exact ⟨rfl, rfl, rfl⟩
  · rw [← hm]
    exact ⟨rfl, rfl, rfl⟩

/-! #### A device that follows a string keeps its state at the mark (R54) -/

theorem stepTo_st (e : Int) (c : Stamp) (path : Nat) (s : State) : (stepTo e c path s).dev.st = s.dev.st := rfl
theorem alignSync_st (e : Int) (c : Stamp) (path : Nat) (s : State) : (alignSync e c path s).dev.st = s.dev.st := rfl
theorem alignRun_st (e : Int) (c : Stamp) (path : Nat) (s : State) : (alignRun e c path s).dev.st = s.dev.st := by
  unfold alignRun draw
  extract_lets u pend ns v
  have hv : v.dev.st = s.dev.st := by
    unfold v
    split
    · rfl
    · rw [logFault_dev]; rfl
  split
  · split
    · exact hv
    · exact hv
  · rfl
theorem alignWith_st (b : Bool) (x : SyncSeen) (path : Nat) (s : State) : (alignWith b x path s).dev.st = s.dev.st := by
  unfold alignWith
  dsimp only
  split
  · exact alignSync_st _ _ _ _
  · exact alignRun_st _ _ _ _
theorem holdMark_st (s : State) : (holdMark s).dev.st = s.dev.st := by
  unfold holdMark
  split
  · rfl
  · split <;> rfl
theorem syncMark_st (s : State) : (syncMark s).dev.st = s.dev.st := by
  unfold syncMark
  split
  · split <;> rfl
  · split
    · rfl
    · extract_lets u v w seen up x o
      have hu : u.dev.st = s.dev.st := by
        unfold u
        split
        · split
          · rfl
          · exact alignWith_st _ _ _ _
        · rfl
      have hv : v.dev.st = u.dev.st := by
        unfold v
        split <;> rfl
      exact (holdMark_st v).trans (hv.trans hu)

/-! #### A device in no string keeps its count (R37) -/

/-- In no string, the ring ports run on a timebase that follows none: the mark takes no frame up. -/
theorem syncMark_alone {s : State} (h : isSet s F.STR_SYNCCFG_RINGEN = false) : (syncMark s).dev = s.dev := by
  have hr : ringOn s = true → syncRuns s = false := fun hr => by
    simp only [ringOn, h, Bool.false_or, romRing, Bool.and_eq_true] at hr
    simp [syncRuns, hr.1.1]
  unfold syncMark
  split
  · split <;> rfl
  next ho => rw [if_pos (by simp [hr (by simpa using ho)])]

/-- A register of the stride block, which the safety channel does not write. -/
theorem besideAxes_low {p : Nat} (h : p < 0x040000) : BesideAxes p := fun a ha => by
  unfold A.LE_AX_STATE A.MOD_AX_STAT A.SAF_AX_FLT
  omega
section
variable {p : Nat} (h : p < 0x040000)
include h
theorem wr_reg_low {f : Fld} (hf : 0x040000 ≤ f.off) (v : Nat) (s : State) : (wr f v s).reg p = s.reg p := reg_wr_other _ _ _ _ (by omega)
theorem smcRequest_reg {a : Nat} (ha : a < 32) {b : Nat → Fld} (hb : ∀ x, (b x).off = A.SAF_AX_FLT x) (now : Bool) (s : State) :
    (smcRequest now a b s).reg p = s.reg p := by
  unfold smcRequest
  exact (each_keep (fun u : State => u.reg p) _ (fun b u => modAx_reg _ _ _ _) _ _).trans (axisReact_reg (besideAxes_low h) ha hb _ _ _ _ _)
theorem tmRequest_reg {a : Nat} (ha : a < 32) (s : State) : (tmRequest a s).reg p = s.reg p := by
  have below : p < 0x0F0000 := by omega
  unfold tmRequest
  extract_lets m u
  have hu : u.reg p = s.reg p := by
    unfold u
    split
    · exact (logFault_reg_below below _ _ _ _ _).trans (smcRequest_reg h ha (fun _ => rfl) _ _)
    · rfl
  split
  · exact (logFault_reg_below below _ _ _ _ _).trans ((smcRequest_reg h ha (fun _ => rfl) _ _).trans hu)
  · exact hu
theorem tmStat_reg {a : Nat} {f : Fld} (hf : f.off = A.SAF_AX_TMSTAT a) (v : Nat) (s : State) : (wr f v s).reg p = s.reg p :=
  wr_reg_low h (by rw [hf]; unfold A.SAF_AX_TMSTAT; omega) v s
theorem tmStride_reg (a : Nat) (s : State) : (tmStride a s).reg p = s.reg p := by
  have hv : 0x040000 ≤ A.SAF_AX_TMVAL a := by unfold A.SAF_AX_TMVAL; omega
  unfold tmStride wrB wrW
  split
  · rw [tmStat_reg h rfl, tmStat_reg h rfl, tmStat_reg h rfl]
    rfl
  · extract_lets first thetae u
    have hu : u.reg p = s.reg p := by
      unfold u
      split <;> rfl
    clear_value u
    dsimp only
    rw [wr_reg_low h hv, tmStat_reg h rfl, tmStat_reg h rfl, tmStat_reg h rfl, tmStat_reg h rfl, tmStat_reg h rfl]
    exact hu
theorem tmJudge_reg {a : Nat} (ha : a < 32) (s : State) : (tmJudge a s).reg p = s.reg p := by
  unfold tmJudge
  extract_lets u
  have hu : u.reg p = s.reg p := tmStride_reg h a s
  split
  · rfl
  · split
    · exact (tmRequest_reg h ha u).trans hu
    · exact hu
theorem writeVar_reg (a : Nat) (s : State) : (writeVar a s).reg p = s.reg p := by
  unfold writeVar
  dsimp only
  rw [tmStat_reg h rfl, tmStat_reg h rfl]
  rfl
omit h in
theorem mailWrite_reg (s : State) : (mailWrite s).reg p = s.reg p := by
  unfold mailWrite draw
  dsimp only
  split
  · exact reg_of_regs (coreEvent_regs _ _) p
  · rfl
theorem smcUse_reg (s : State) : (smcUse s).reg p = s.reg p := wr_reg_low h (f := F.SAF_SMCBUD_MAXUSED) (by decide) _ _
/-- The safety channel's work of a stride writes no register of the stride block. -/
theorem smcWork_reg (s : State) : (smcWork s).reg p = s.reg p := by
  unfold smcWork
  split
  · refine (mailWrite_reg _).trans ((smcUse_reg h _).trans ?_)
    refine (each_keep (fun u : State => u.reg p) writeVar (writeVar_reg h) _ _).trans ?_
    exact each_reg_of_mem _ _ _ fun a ha u => tmJudge_reg h (axesUsed_lt ha) u
  · split
    · exact each_keep (fun u : State => u.reg p) _ (fun a u => reg_of_regs (modMon_regs a _ u) p) _ _
    · rfl
theorem modCis_reg (n : Nat) (f : Cis → Cis) (s : State) : (modCis n f s).reg p = s.reg p :=
  wr_reg_low h (f := F.CIS_CNT_COUNT n) (by unfold F.CIS_CNT_COUNT A.CIS_CNT; exact Nat.le_add_right_of_le (by decide)) _ _
theorem slotsMark_reg (s : State) : (slotsMark s).reg p = s.reg p := by
  unfold slotsMark
  refine (each_keep (fun u : State => u.reg p) _ (fun n u => reg_of_regs (modHop_regs n _ u) p) _ _).trans ?_
  refine upto_keep (fun u : State => u.reg p) _ (fun n u => ?_) _ _
  refine each_keep (fun u : State => u.reg p) _ (fun q u => ?_) _ _
  dsimp only
  split
  · exact modCis_reg h n _ u
  · rfl
end
theorem marksRun_st {s : State} (h : marksRun s = true) : s.dev.st = .sync ∨ s.dev.st = .armed ∨ s.dev.st = .service ∨ s.dev.st = .recovery := by
  have h := (Bool.and_eq_true_iff.mp h).2
  cases e : s.dev.st <;> simp [e] at h ⊢
theorem markBegun_st (s : State) : (markBegun s).dev.st = s.dev.st := by
  unfold markBegun
  rw [(gridMark_kept _).1, syncMark_st, smcWork_dev, slotsMark_dev]
  rfl
/-- In no string the mark counts from the count that stood. -/
theorem markBegun_alone {s : State} (h : isSet s F.STR_SYNCCFG_RINGEN = false) :
    (markBegun s).dev.count = s.dev.count ∧ (markBegun s).dev.running = s.dev.running := by
  have hr (u : State) : isSet (smcWork (slotsMark u)) F.STR_SYNCCFG_RINGEN = isSet u F.STR_SYNCCFG_RINGEN :=
    isSet_of_rd (rd_of_reg ((smcWork_reg (by decide) _).trans (slotsMark_reg (by decide) u)))
  obtain ⟨-, hc, hn⟩ := gridMark_kept (syncMark (smcWork (slotsMark (modDev (fun d => { d with atMark := true }) s))))
  unfold markBegun
  have alone := syncMark_alone ((hr (modDev (fun d => { d with atMark := true }) s)).trans h)
  rw [hc, hn, alone, smcWork_dev, slotsMark_dev]
  exact ⟨rfl, rfl⟩

/-- Settles O8: behind its count the mark keeps the timebase, through every part of it; before it a device in no string keeps its count. -/
theorem strideMarkAdvances : Obligations.StrideMarkAdvances := by
  unfold Obligations.StrideMarkAdvances
  intro s h
  have hst : (markBegun s).dev.st = .sync ∨ (markBegun s).dev.st = .armed ∨ (markBegun s).dev.st = .service ∨ (markBegun s).dev.st = .recovery := by
    rw [markBegun_st]
    exact marksRun_st h
  have marked := markServed_marked (countMark_marked hst)
  refine ⟨_, strideMark_eq h, ?_, ?_, fun hr => ?_⟩
  · rw [flushLog_dev, marked.running]
  · rw [flushLog_dev, marked.phase]
  · obtain ⟨hc, hn⟩ := markBegun_alone hr
    rw [flushLog_dev, marked.count, hc, hn]

end Sys2Proof.Machine
end

section
/-! ## A load over a register table that names STR_COUNT_HI twice (R38, R346)

A register table may hold a key twice: reads take the first entry, and the placing of an image writes every entry back in turn, so that the last one
stays. The image of the tests loads on such a device, whatever its sag policies (assumption 11), and leaves STR_COUNT_HI with the value of its
second entry. -/
namespace Sys2Proof.Machine
open Sys2Proof

/-! ### The sag policies as two words -/

/-- The words of PWR_SAGPOL0 and PWR_SAGPOL1 with the policy of an axis put in. -/
def putPolicy (pol : Nat → BitVec 2) (a : Nat) (q : Word × Word) : Word × Word :=
  if a < 16 then (putFld q.1 (2 * (a % 16)) 2 (pol a).toNat, q.2) else (q.1, putFld q.2 (2 * (a % 16)) 2 (pol a).toNat)
/-- The words of PWR_SAGPOL0 and PWR_SAGPOL1 with the policies of all axes. -/
def policyWords (pol : Nat → BitVec 2) : Word × Word := each (putPolicy pol) (List.range 32) (0, 0)
/-- The entry of a word, or none for a word that is as it is at reset. -/
def entryOf (atReset : Bool) (k : Nat) (w : Word) : Tbl Word := if atReset then [] else [(k, w)]
/-- A table followed by the words of the sag policies, where `z0` and `z1` leave the one or the other out. -/
def policiesBehind (z0 z1 : Bool) (q : Word × Word) (l : Tbl Word) : Tbl Word :=
  l ++ (entryOf z0 (A.PWR_SAGPOL 0) q.1 ++ entryOf z1 (A.PWR_SAGPOL 1) q.2)
/-- The word of PWR_SAGPOL0 is as it is at reset. -/
def lowAtReset (q : Word × Word) : Bool := q.1 == regReset (A.PWR_SAGPOL 0)
/-- The word of PWR_SAGPOL1 is as it is at reset. -/
def highAtReset (q : Word × Word) : Bool := q.2 == regReset (A.PWR_SAGPOL 1)
/-- A table that ends with the sag policies, of which it keeps those that are not as they are at reset. -/
def policed (q : Word × Word) (l : Tbl Word) : Tbl Word := policiesBehind (lowAtReset q) (highAtReset q) q l

section
variable {l : Tbl Word} {k : Nat} (h : ∀ e ∈ l, e.1 < k) (t : Tbl Word)
include h
theorem tdrop_append : tdrop k (l ++ t) = l ++ tdrop k t := by
  induction l with
  | nil => rfl
  | cons e l ih =>
    have he := h e List.mem_cons_self
    simp only [List.cons_append, tdrop]
    rw [if_neg (by omega), ih fun x hx => h x (List.mem_cons_of_mem _ hx)]
theorem tins_append (w : Word) : tins k w (l ++ t) = l ++ tins k w t := by
  induction l with
  | nil => rfl
  | cons e l ih =>
    have he := h e List.mem_cons_self
    simp only [List.cons_append, tins]
    rw [if_neg (by omega), ih fun x hx => h x (List.mem_cons_of_mem _ hx)]
theorem tget_append (d : Nat → Word) : tget d (l ++ t) k = tget d t k := by
  induction l with
  | nil => rfl
  | cons e l ih =>
    have he := h e List.mem_cons_self
    simp only [List.cons_append, tget]
    rw [if_neg (by omega), ih fun x hx => h x (List.mem_cons_of_mem _ hx)]
end
section
variable {t : Tbl Word} {k : Nat} (h : ∀ e ∈ t, k < e.1)
include h
theorem tdrop_above : tdrop k t = t := by
  induction t with
  | nil => rfl
  | cons e t ih =>
    have he := h e List.mem_cons_self
    simp only [tdrop]
    rw [if_neg (by omega), ih fun x hx => h x (List.mem_cons_of_mem _ hx)]
theorem tget_above (d : Nat → Word) : tget d t k = d k := by
  induction t with
  | nil => rfl
  | cons e t ih =>
    have he := h e List.mem_cons_self
    simp only [tget]
    rw [if_neg (by omega), ih fun x hx => h x (List.mem_cons_of_mem _ hx)]
theorem tins_above (w : Word) : tins k w t = (k, w) :: t := by
  cases t with
  | nil => rfl
  | cons e t =>
    simp only [tins]
    rw [if_pos (h e List.mem_cons_self)]
theorem tget_entry (d : Nat → Word) (w : Word) : tget d (entryOf (w == d k) k w ++ t) k = w := by
  unfold entryOf
  split
  next hw => exact (tget_above h d).trans (eq_of_beq hw).symm
  · exact if_pos rfl
theorem tdrop_entry (z : Bool) (w : Word) : tdrop k (entryOf z k w ++ t) = t := by
  unfold entryOf
  split
  · exact tdrop_above h
  · exact (if_pos rfl).trans (tdrop_above h)
theorem tset_entry (d : Nat → Word) (z : Bool) (w v : Word) : tset d (entryOf z k w ++ t) k v = entryOf (v == d k) k v ++ t := by
  unfold tset
  rw [tdrop_entry h]
  by_cases hv : v = d k
  · rw [if_pos hv, beq_iff_eq.mpr hv]
    rfl
  · rw [if_neg hv, beq_eq_false_iff_ne.mpr hv]
    exact tins_above h v
/-- An entry among others is read and written in its place. -/
theorem entry_between {l : Tbl Word} (hl : ∀ e ∈ l, e.1 < k) (d : Nat → Word) (w v : Word) :
    tget d (l ++ (entryOf (w == d k) k w ++ t)) k = w ∧
      tset d (l ++ (entryOf (w == d k) k w ++ t)) k v = l ++ (entryOf (v == d k) k v ++ t) := by
  refine ⟨(tget_append hl _ d).trans (tget_entry h d w), ?_⟩
  rw [← tset_entry h d (w == d k) w v]
  unfold tset
  rw [tdrop_append hl, tins_append hl]
  split <;> rfl
end
theorem key_of_mem_entryOf {z : Bool} {k : Nat} {w : Word} {e : Nat × Word} (he : e ∈ entryOf z k w) : e.1 = k := by
  unfold entryOf at he
  split at he
  · simp at he
  · rw [List.mem_singleton.mp he]

section
variable {l : Tbl Word} (h : ∀ e ∈ l, e.1 < A.PWR_SAGPOL 0) (q : Word × Word) (w : Word)
include h
theorem policed_low : tget regReset (policed q l) (A.PWR_SAGPOL 0) = q.1 ∧
    tset regReset (policed q l) (A.PWR_SAGPOL 0) w = policed (w, q.2) l := by
  refine entry_between (fun e he => ?_) h regReset q.1 w
  rw [key_of_mem_entryOf he]
  decide
theorem policed_high : tget regReset (policed q l) (A.PWR_SAGPOL 1) = q.2 ∧
    tset regReset (policed q l) (A.PWR_SAGPOL 1) w = policed (q.1, w) l := by
  have below : ∀ e ∈ l ++ entryOf (lowAtReset q) (A.PWR_SAGPOL 0) q.1, e.1 < A.PWR_SAGPOL 1 := by
    intro e he
    rcases List.mem_append.mp he with he | he
    · exact (h e he).trans (by decide)
    · rw [key_of_mem_entryOf he]
      decide
  have between := entry_between (t := []) (by simp) below regReset q.2 w
  simp only [List.append_nil, List.append_assoc] at between
  exact between
theorem wr_policy (pol : Nat → BitVec 2) {a : Nat} (ha : a < 32) (s : State) :
    wr (F.PWR_SAGPOL_POL a) (pol a).toNat (s.setRegs (policed q l)) = s.setRegs (policed (putPolicy pol a q) l) := by
  have off : (F.PWR_SAGPOL_POL a).off = A.PWR_SAGPOL (a / 16) := rfl
  unfold putPolicy
  split
  next low =>
    unfold wr State.setReg State.reg
    rw [off, Nat.div_eq_of_lt low, State.setRegs_regs, (policed_low h q 0).1, (policed_low h q _).2]
    rfl
  next high =>
    unfold wr State.setReg State.reg
    rw [off, show a / 16 = 1 by omega, State.setRegs_regs, (policed_high h q 0).1, (policed_high h q _).2]
    rfl
theorem each_wr_policy (pol : Nat → BitVec 2) (s : State) (as : List Nat) (has : ∀ a ∈ as, a < 32) :
    each (fun a s => wr (F.PWR_SAGPOL_POL a) (pol a).toNat s) as (s.setRegs (policed q l)) = s.setRegs (policed (each (putPolicy pol) as q) l) := by
  induction as generalizing q with
  | nil => rfl
  | cons a as ih =>
    simp only [each]
    rw [wr_policy h q pol (has a List.mem_cons_self), ih _ fun b hb => has b (List.mem_cons_of_mem _ hb)]
end
theorem policed_reset (l : Tbl Word) : policed (0, 0) l = l := List.append_nil l
theorem sagsPlaced_policed {s : State} (h : ∀ e ∈ s.regs, e.1 < A.PWR_SAGPOL 0) (pol : Nat → BitVec 2) :
    sagsPlaced pol s = s.setRegs (policed (policyWords pol) s.regs) := by
  have all := each_wr_policy h (0, 0) pol s (List.range 32) fun a ha => List.mem_range.mp ha
  rw [policed_reset] at all
  exact all

/-! ### What the image brings besides -/

/-- What the placing of an image does behind the sag policies, which `placeWith_eq` ties to it: what the units take later. -/
def unitsPlaced (safety : List Byte) (b p : Nat) (s : State) : State :=
  let s := placeBlocks safety s
  let start := secArg s b p 11 0
  let s := s.setBst { s.bst with entry0 := BitVec.ofNat 32 (field start 0 4), entry1 := BitVec.ofNat 32 (field start 4 4) }
  let seq : Word := BitVec.ofNat 32 (imgSeq s b p)
  let tbl := fun (typ n : Nat) => upto (fun i t => tset (fun _ => ([] : List Byte)) t i (secArg s b p typ i)) n []
  s.setCfg { s.cfg with
    safety := safety, cal := secArg s b p 6 0, ident := secArg s b p 7 0, gdrv := tbl 8 8, phy := tbl 10 2,
    slots := upto (fun r t => if (secsOf s b p 9).any (fun x => x.arg == r) then
      tset (fun _ => ([] : List Config.Slot)) t r ((Config.slotTable (secArg s b p 9 r)).take 64) else t) 2 [],
    tel := upto (fun k t => if isSet s (F.ETH_TEL_CFG_EN k) then tset (fun _ => ([] : List Word)) t k
      ((List.range (rd s (F.ETH_TEL_CFG_NSIGM1 k) + 1)).map fun i => Config.telSignal seq k i) else t) 32 [] }
/-- The placing of an image in its parts. -/
theorem placeWith_eq (pol : Nat → BitVec 2) (b p : Nat) (s : State) :
    placeWith pol b p s = unitsPlaced (secArg (memoryPlaced b p (pairsPlaced b p (imgCleared s))) b p 5 0) b p (imagePlaced pol b p s) := by
  unfold placeWith unitsPlaced imagePlaced sagsPlaced memoryPlaced pairsPlaced imgCleared
  dsimp only
theorem place_eq (b p : Nat) (s : State) :
    place b p s = unitsPlaced (secArg (memoryPlaced b p (pairsPlaced b p (imgCleared s))) b p 5 0) b p
      (imagePlaced (Config.sagPol (secArg s b p 5 0)) b p s) := placeWith_eq _ b p s

/-! ### The copy that loads -/

theorem verifyLoad_placed {b p : Nat} {err : Bool} {s : State} (h1 : verifyKeys s b p err = none) (h2 : verifyPart s (place b p s) b p = none)
    (h3 : checksFormat s b p = none) (h4 : checksLoad (place b p s) ((secsOf s b p 3).map fun x => (x.dest, x.len)) = none) :
    verifyLoad b p err s = ((0, 0, 0), place b p s) := by
  simp only [verifyLoad, h1, h2, h3, h4]

section
open Sys2Proof.Tests

/-- The device of the tests that loads, its register table with STR_COUNT_HI twice: it reads 1. -/
def countTwice : State := loadable.setRegs [(A.STR_COUNT_HI, 1), (A.STR_COUNT_HI, 2)]
def countTwiceShown : State := loadShown passing countTwice
/-- The image in place up to its sag policies. -/
def countTwiceImaged : State := memoryPlaced 0 0 (pairsPlaced 0 0 (imgCleared countTwiceShown))
/-- The words of the sag policies of the image. -/
def countTwicePolicies : Word × Word := policyWords (Config.sagPol (secArg countTwiceShown 0 0 5 0))
/-- The image in place, by which of the two words of the policies is 0. -/
def countTwicePlaced (z0 z1 : Bool) : State :=
  unitsPlaced (secArg countTwiceImaged 0 0 5 0) 0 0 (countTwiceImaged.setRegs (policiesBehind z0 z1 countTwicePolicies countTwiceImaged.regs))

/-! The policies are opaque words: what follows is evaluated for each choice of those that are 0, and reads neither. -/

theorem countTwiceImaged_below : ∀ e ∈ countTwiceImaged.regs, e.1 < A.PWR_SAGPOL 0 := by decide +kernel
theorem place_countTwice :
    place 0 0 countTwiceShown = countTwicePlaced (lowAtReset countTwicePolicies) (highAtReset countTwicePolicies) := by
  rw [place_eq, imagePlaced, ← countTwiceImaged, sagsPlaced_policed countTwiceImaged_below]
  rfl
theorem countTwice_part : ∀ z0 z1, verifyPart countTwiceShown (countTwicePlaced z0 z1) 0 0 = none := by decide +kernel
theorem countTwice_format : checksFormat countTwiceShown 0 0 = none := by decide +kernel
theorem countTwice_bus_atReset : checksBus (countTwicePlaced true true) = none := by decide +kernel
theorem countTwice_bus_high : checksBus (countTwicePlaced true false) = none := by decide +kernel
theorem countTwice_bus_low : checksBus (countTwicePlaced false true) = none := by decide +kernel
theorem countTwice_bus_both : checksBus (countTwicePlaced false false) = none := by decide +kernel
theorem countTwice_bus : ∀ z0 z1, checksBus (countTwicePlaced z0 z1) = none
  | true, true => countTwice_bus_atReset
  | true, false => countTwice_bus_high
  | false, true => countTwice_bus_low
  | false, false => countTwice_bus_both
theorem countTwice_checks : ∀ z0 z1, let t := countTwicePlaced z0 z1
    checksTiming t = none ∧ checksSense t = none ∧ checksPosition t = none ∧ checksLoop t = none ∧ checksMod t = none ∧ checksSafety t = none ∧
    checksGroup t = none ∧ checksCore t ((secsOf countTwiceShown 0 0 3).map fun x => (x.dest, x.len)) = none ∧ checksNet t = none ∧
    checksIdent t = none := by decide +kernel
theorem countTwice_load (z0 z1 : Bool) :
    checksLoad (countTwicePlaced z0 z1) ((secsOf countTwiceShown 0 0 3).map fun x => (x.dest, x.len)) = none := by
  obtain ⟨timing, sense, position, loop, modulation, safety, group, core, net, ident⟩ := countTwice_checks z0 z1
  unfold checksLoad
  rw [timing, sense, position, loop, modulation, safety, group, core, net, countTwice_bus, ident]
  rfl
theorem countTwice_loaded : ∀ z0 z1, rd (flushLog (loaded 0 0 (showRes 0 (0, 0, 0) (countTwicePlaced z0 z1)))) F.STR_COUNT_HI_COUNT_HI = 2 := by
  decide +kernel
theorem countTwice_order : copyOrder countTwice passing.p1 = [(0, 0), (1, 0)] := by decide +kernel
theorem loadTried_countTwice : loadTried passing countTwice = (showRes 0 (0, 0, 0) (place 0 0 countTwiceShown), some (0, 0)) := by
  have keys : verifyKeys countTwiceShown 0 0 false = none := (verifyKeys_congr 0 0 false countTwiceShown loadable rfl rfl).trans image_keys
  have copy : verifyLoad 0 0 false countTwiceShown = ((0, 0, 0), place 0 0 countTwiceShown) := by
    refine verifyLoad_placed keys ?_ countTwice_format ?_
    · rw [place_countTwice]
      exact countTwice_part _ _
    · rw [place_countTwice]
      exact countTwice_load _ _
  unfold loadTried
  rw [countTwice_order]
  change tryCopies [] [(0, 0), (1, 0)] countTwiceShown = _
  unfold tryCopies
  rw [show ([] : List Nat).contains (0 + 2 * 0) = false from rfl, copy]
  rfl

/-- Refutes O9: a register table that names STR_COUNT_HI twice, first with 1 and then with 2, reads 1 before a LOAD_COMPLETE and 2 behind it. -/
theorem not_countReadLatches : ¬ Obligations.CountReadLatches := by
  unfold Obligations.CountReadLatches
  intro h
  obtain ⟨-, latched, -⟩ := h
  have tried := loadTried_countTwice
  have runs := loadComplete_loaded (r := passing) (s := countTwice) rfl rfl (congrArg Prod.snd tried)
  rw [tried, place_countTwice] at runs
  have before : rd countTwice F.STR_COUNT_HI_COUNT_HI = 1 := by decide +kernel
  rcases latched (.loadComplete passing) countTwice _ rfl runs with kept | ⟨restarts, -⟩
  · rw [countTwice_loaded, before] at kept
    exact absurd kept (by decide)
  · exact absurd restarts (by decide)

end

end Sys2Proof.Machine
end

section
/-! ## A trim below 0 in its field of 18 bits (R70, R82) -/
namespace Sys2Proof.Machine
open Sys2Proof

section
open Sys2Proof.Tests

/-- The trim of axis 0 ends in ARMED: on a phase-current channel with the full scale, the gain and the identity offset −157 of the spec's example
of a trim, sixteen results of the unloaded channel averaged −160. -/
def trimBelowZero : State :=
  modAx 0 (fun x => { x with trim := some ⟨0, 16, [0], [16 * -160]⟩ }) (put
    [(F.STR_PERIOD_PERIOD, 160000), (F.LE_AX_LEGS_NLEG 0, 3), (F.LE_AX_LEGS_LEG0_LEG5 0, 0x210), (F.SNS_CH_CFG_ROLE 0, 1),
      (F.SNS_CH_FS_FS 0, 0x44FA0000), (F.SNS_CH_GAIN_G 0, 1024000), (F.SNS_CH_OFS_OFS_ID 0, trunc 18 (-157)), (F.SNS_CH_LIM_TRIMLIM 0, 100)]
    (axis 0 1 2 armed))
/-- TRIM has 18 bits, and the new one is −160 − (−157) = −3. -/
theorem offsetTrimComplete_trimBelowZero :
    Completes (.offsetTrimComplete 0) trimBelowZero fun t => rd t (F.SNS_CH_TRIM_TRIM 0) = trunc 18 (-3) := ⟨_, rfl, by decide +kernel⟩
/-- The channel is one of the part's, and its new TRIM is within TRIMLIM. -/
theorem trimBelowZero_within : ∀ p ∈ [0].zip [16 * -160], p.1 < 192 ∧
    (Flt.roundAway p.2 (trimN trimBelowZero) - rdI trimBelowZero (F.SNS_CH_OFS_OFS_ID p.1)).natAbs ≤ rd trimBelowZero (F.SNS_CH_LIM_TRIMLIM p.1) := by
  decide +kernel
theorem trimBelowZero_value : Flt.roundAway (16 * -160) (trimN trimBelowZero) - rdI trimBelowZero (F.SNS_CH_OFS_OFS_ID 0) = -3 := by
  decide +kernel

/-- Refutes O11: the statement takes the new TRIM modulo 2^16, but its field has 18 bits, so that a trim of −3 reads as 2^18 − 3. -/
theorem not_senseResultsAreDelivered : ¬ Obligations.SenseResultsAreDelivered := by
  rintro ⟨-, -, -, -, -, -, -, -, trims, -⟩
  obtain ⟨t, he, -, shown⟩ := trims 0 _ trimBelowZero rfl rfl (by decide +kernel) rfl (by decide +kernel) trimBelowZero_within
  obtain ⟨t', he', hw⟩ := offsetTrimComplete_trimBelowZero
  obtain rfl : t = t' := by simpa [he] using he'
  have h16 := (shown (0, 16 * -160) (by decide)).2 (by decide)
  rw [trimBelowZero_value, hw] at h16
  exact absurd h16 (by decide)

end

end Sys2Proof.Machine
end

section
/-! ## A position interface: its record and its registers under the position block's operations (R85 to R93, R101 to R107) -/
namespace Sys2Proof.Machine
open Sys2Proof

/-! ### The record of an interface, and the registers of the block -/

theorem ifc_of_pos {s t : State} (h : t.pos = s.pos) (n : Nat) : t.ifc n = s.ifc n := by unfold State.ifc; rw [h]
@[simp] theorem modIfc_ifc (n : Nat) (f : Ifc → Ifc) (s : State) : (modIfc n f s).ifc n = f (s.ifc n) := (ifc_modIfc n n f s).trans (if_pos rfl)
@[simp] theorem modIfc_reg (n : Nat) (f : Ifc → Ifc) (s : State) (p : Nat) : (modIfc n f s).reg p = s.reg p := rfl
@[simp] theorem wr_ifc (f : Fld) (v : Nat) (s : State) (n : Nat) : (wr f v s).ifc n = s.ifc n := rfl
@[simp] theorem bumpSat_ifc (f : Fld) (s : State) (n : Nat) : (bumpSat f s).ifc n = s.ifc n := rfl
@[simp] theorem flushLog_ifc (s : State) (n : Nat) : (flushLog s).ifc n = s.ifc n := ifc_of_pos (flushLog_pos s) n
@[simp] theorem logFault_ifc (code src c data : Nat) (s : State) (n : Nat) : (logFault code src c data s).ifc n = s.ifc n :=
  ifc_of_pos (logFault_pos _ _ _ _ s) n
theorem coreEvent_pos (b : Nat) (s : State) : (coreEvent b s).pos = s.pos := by
  have h := congrArg (fun u : State => u.pos) (coreEvent_beyond b s)
  exact h
theorem pos_of_drive {s t : State} (h : beyondDrive t = beyondDrive s) : t.pos = s.pos := by
  have hp := congrArg (fun u : State => u.pos) h
  exact hp

/-- A saturating counter read after it was raised. -/
theorem rd_bumpSat (s : State) (f : Fld) (h : f.lo + f.w ≤ 32) : rd (bumpSat f s) f = satAdd (2 ^ f.w - 1) (rd s f) 1 :=
  (rd_wr_same s f _ h).trans (Nat.mod_eq_of_lt (Nat.lt_of_le_of_lt (satAdd_le _ _ _) (Nat.sub_lt (Nat.two_pow_pos _) Nat.one_pos)))
theorem rd_bumpSat_of_reg {s t : State} {f : Fld} (h : f.lo + f.w ≤ 32) (ht : t.reg f.off = (bumpSat f s).reg f.off) :
    rd t f = satAdd (2 ^ f.w - 1) (rd s f) 1 := (rd_of_reg ht).trans (rd_bumpSat s f h)

/-! ### The raw count and what follows it (R93, R107) -/

/-- What a change of the raw count leaves of an interface: all but the reported count with what goes with it, and the restored turn. -/
def beyondCount (x : Ifc) : Ifc :=
  { x with np := 0, dir := 0, still := 0, rest := false, revNow := false, revTeams := 0, first := false, resync := false, turnRest := false }
theorem beyondCount_npRule (x : Ifc) : beyondCount (npRule x) = beyondCount x := by
  unfold npRule
  split
  · rfl
  · split <;> rfl

theorem cmpFire_pos (c : Nat) (up : Bool) (ph : Nat) (s : State) : (cmpFire c up ph s).pos = s.pos := by
  unfold cmpFire
  dsimp only
  split
  · exact coreEvent_pos _ _
  · rfl
theorem cmpFire_reg {p : Nat} (h : p < 0x031000) (c : Nat) (up : Bool) (ph : Nat) (s : State) : (cmpFire c up ph s).reg p = s.reg p := by
  have stat : p ≠ A.POS_CMP_STAT c := by unfold A.POS_CMP_STAT; omega
  have stamp : p ≠ A.POS_CMP_STAMP c := by unfold A.POS_CMP_STAMP; omega
  have written : ∀ (u : State), u.regs = (wr (F.POS_CMP_STAMP_COUNT c) s.dev.count.toNat (wr (F.POS_CMP_STAMP_PHASE c) ph (wr (F.POS_CMP_STAT_PASSED c) 0
      (wrB (F.POS_CMP_STAT_FDIR c) (!up) (bumpSat (F.POS_CMP_STAT_FIRECNT c) (wr (F.POS_CMP_STAT_FIRED c) 1 s)))))).regs → u.reg p = s.reg p := fun u hu => by
    rw [reg_of_regs hu, reg_wr_other _ _ _ p stamp, reg_wr_other _ _ _ p stamp, reg_wr_other _ _ _ p stat, wrB, reg_wr_other _ _ _ p stat, bumpSat,
      reg_wr_other _ _ _ p stat, reg_wr_other _ _ _ p stat]
  unfold cmpFire
  dsimp only
  split
  · exact written _ (coreEvent_regs _ _)
  · exact written _ rfl
theorem cmpCross_keep {γ : Type} {g : State → γ} (h : ∀ c up ph u, g (cmpFire c up ph u) = g u) (n : Nat) (old new : Int) (ph : Nat) (s : State) :
    g (cmpCross n old new ph s) = g s := by
  unfold cmpCross
  split
  · rfl
  · refine upto_keep g _ (fun c u => ?_) _ _
    dsimp only
    repeat' split
    all_goals first | exact h _ _ _ _ | rfl
theorem cmpCross_ifc (n : Nat) (old new : Int) (ph : Nat) (s : State) (k : Nat) : (cmpCross n old new ph s).ifc k = s.ifc k :=
  ifc_of_pos (cmpCross_keep (g := State.pos) cmpFire_pos n old new ph s) k
theorem cmpCross_reg {p : Nat} (h : p < 0x031000) (n : Nat) (old new : Int) (ph : Nat) (s : State) : (cmpCross n old new ph s).reg p = s.reg p :=
  cmpCross_keep (g := fun u => u.reg p) (cmpFire_reg h) n old new ph s

theorem showNp_ifc (n : Nat) (s : State) (k : Nat) : (showNp n s).ifc k = s.ifc k := by
  unfold showNp
  split <;> rfl
theorem showNp_reg {n p : Nat} (h : p ≠ A.POS_IF_NP n) (s : State) : (showNp n s).reg p = s.reg p := by
  unfold showNp
  split
  · rfl
  · exact reg_wr_other _ _ _ p h

/-- A new raw count moves besides it the reported count alone. -/
theorem setNr_beyond (n : Nat) (nr : Int) (ph : Nat) (s : State) :
    beyondCount ((setNr n nr ph s).ifc n) = beyondCount { s.ifc n with nr := nr } := by
  have follows : (modIfc n npRule (modIfc n (fun x => { x with nr := nr }) s)).ifc n = npRule { s.ifc n with nr := nr } := by simp
  unfold setNr
  dsimp only
  split
  · split
    · rw [follows, beyondCount_npRule]
    · rw [cmpCross_ifc, showNp_ifc, follows, beyondCount_npRule]
  · rw [modIfc_ifc]
theorem setNr_nr (n : Nat) (nr : Int) (ph : Nat) (s : State) : ((setNr n nr ph s).ifc n).nr = nr := congrArg Ifc.nr (setNr_beyond n nr ph s)
theorem setNr_reg {n p : Nat} (hp : p < 0x031000) (hn : p ≠ A.POS_IF_NP n) (nr : Int) (ph : Nat) (s : State) : (setNr n nr ph s).reg p = s.reg p := by
  unfold setNr
  dsimp only
  split
  · split
    · rfl
    · rw [cmpCross_reg hp, showNp_reg hn]
      rfl
  · rfl

theorem takeFirst_beyond (n : Nat) (s : State) : beyondCount ((takeFirst n s).ifc n) = beyondCount (s.ifc n) := by
  unfold takeFirst
  dsimp only
  split
  · rfl
  · rw [showNp_ifc, modIfc_ifc]
    rfl
theorem takeFirst_reg {n p : Nat} (h : p ≠ A.POS_IF_NP n) (s : State) : (takeFirst n s).reg p = s.reg p := by
  unfold takeFirst
  dsimp only
  split
  · rfl
  · exact showNp_reg h _

/-- A measurement is the new raw count, and with its age the observer's next input (R95). -/
theorem measure_beyond (n : Nat) (nr age : Int) (ph : Nat) (s : State) :
    beyondCount ((measure n nr age ph s).ifc n) = beyondCount { s.ifc n with nr := nr, meas := some (nr, age) } := by
  have taken := (takeFirst_beyond n (setNr n nr ph s)).trans (setNr_beyond n nr ph s)
  unfold measure
  rw [modIfc_ifc]
  exact congrArg (fun x : Ifc => { x with meas := some (nr, age) }) taken
theorem measure_meas (n : Nat) (nr age : Int) (ph : Nat) (s : State) :
    ((measure n nr age ph s).ifc n).meas = some (((measure n nr age ph s).ifc n).nr, age) := by
  have m := congrArg Ifc.meas (measure_beyond n nr age ph s)
  have r := congrArg Ifc.nr (measure_beyond n nr age ph s)
  exact m.trans (congrArg (fun v => some (v, age)) r.symm)
theorem measure_reg {n p : Nat} (hp : p < 0x031000) (hn : p ≠ A.POS_IF_NP n) (nr age : Int) (ph : Nat) (s : State) :
    (measure n nr age ph s).reg p = s.reg p := by
  unfold measure
  rw [modIfc_reg, takeFirst_reg hn, setNr_reg hp hn]

theorem restoreTurn_beyond (n inTurn : Nat) (s : State) : beyondCount ((restoreTurn n inTurn s).2.ifc n) = beyondCount (s.ifc n) := by
  unfold restoreTurn
  split
  · rfl
  · rw [logFault_ifc, modIfc_ifc]
    rfl
theorem restoreTurn_reg {p : Nat} (hp : p < 0x0F0000) (n inTurn : Nat) (s : State) : (restoreTurn n inTurn s).2.reg p = s.reg p := by
  unfold restoreTurn
  split
  · rfl
  · exact logFault_reg_below hp _ _ _ _ _

/-! ### Sensor faults (R103, R104) -/

/-- What the failure of an interface does to an axis that uses it. -/
def axisUnsensed (a : Nat) (s : State) : State :=
  if axState s a = 2 then blockReact false a 2 s else if axActive s a then s else flagReact a F.SAF_AX_FLT_BLOCK s
theorem axisUnsensed_beyond (a : Nat) (s : State) : beyondDrive (axisUnsensed a s) = beyondDrive s := by
  unfold axisUnsensed
  split
  · exact blockReact_beyond _ _ _ _
  · split
    · rfl
    · exact flagReact_beyond _ _ _
theorem axisUnsensed_reg {p a : Nat} (hp : BesideAxes p) (ha : a < 32) (s : State) : (axisUnsensed a s).reg p = s.reg p := by
  unfold axisUnsensed
  split
  · exact blockReact_reg hp ha _ _ _
  · split
    · rfl
    · exact flagReact_reg hp ha (fun _ => rfl) _
theorem ifAxes_lt {s : State} {n a : Nat} (h : a ∈ ifAxes s n) : a < 32 := axesUsed_lt (List.mem_filter.mp h).1

/-- A fault that qualifies: its flag and FAILED, the log, and the axes. -/
theorem posFault_new {n : Nat} {flag : Nat → Fld} {s : State} (h : isSet s (flag n) = false) (code data : Nat) :
    posFault n flag code data s = each axisUnsensed (ifAxes s n)
      (logFault code n (if (ifAxes s n).isEmpty then 1 else 2) data (wr (F.POS_IF_FLT_FAILED n) 1 (wr (flag n) 1 s))) :=
  if_neg (by simp [h])
theorem posFault_held {n : Nat} {flag : Nat → Fld} {s : State} (h : isSet s (flag n) = true) (code data : Nat) : posFault n flag code data s = s :=
  if_pos h
theorem posFault_pos (n : Nat) (flag : Nat → Fld) (code data : Nat) (s : State) : (posFault n flag code data s).pos = s.pos := by
  cases h : isSet s (flag n) with
  | true => rw [posFault_held h]
  | false =>
    rw [posFault_new h, each_keep State.pos axisUnsensed fun a u => pos_of_drive (axisUnsensed_beyond a u), logFault_pos]
    rfl
theorem posFault_ifc (n : Nat) (flag : Nat → Fld) (code data : Nat) (s : State) (k : Nat) : (posFault n flag code data s).ifc k = s.ifc k :=
  ifc_of_pos (posFault_pos n flag code data s) k
/-- The registers of the block under a fault that qualifies: its flag and FAILED are written, no other. -/
theorem posFault_new_reg {n p : Nat} (hp : p < 0x040000) {flag : Nat → Fld} {s : State} (h : isSet s (flag n) = false) (code data : Nat) :
    (posFault n flag code data s).reg p = (wr (F.POS_IF_FLT_FAILED n) 1 (wr (flag n) 1 s)).reg p := by
  rw [posFault_new h, each_reg_of_mem _ _ _ fun a ha u => axisUnsensed_reg (besideAxes_low hp) (ifAxes_lt ha) u]
  exact logFault_reg_below (by omega) _ _ _ _ _
theorem posFault_reg {n p : Nat} (hp : p < 0x040000) (hn : p ≠ A.POS_IF_FLT n) {flag : Nat → Fld} (hf : (flag n).off = A.POS_IF_FLT n)
    (code data : Nat) (s : State) : (posFault n flag code data s).reg p = s.reg p := by
  cases h : isSet s (flag n) with
  | true => rw [posFault_held h]
  | false => rw [posFault_new_reg hp h, reg_wr_other _ _ _ p hn, reg_wr_other _ _ _ p (hf ▸ hn)]

/-- The event counts of an interface lie in a register of their own. -/
theorem evcnt_apart {n : Nat} (hn : n < 16) : A.POS_IF_EVCNT n < 0x031000 ∧ A.POS_IF_EVCNT n ≠ A.POS_IF_FLT n ∧ A.POS_IF_EVCNT n ≠ A.POS_IF_NP n := by
  unfold A.POS_IF_EVCNT A.POS_IF_FLT A.POS_IF_NP
  omega

/-- A sequence error counted; of an encoder it ends the reference (R85). -/
def seqCounted (n : Nat) (s : State) : State :=
  let s := bumpSat (F.POS_IF_EVCNT_SEQCNT n) s
  if ifMode s n = 1 then modIfc n (fun x => { x with refValid := false }) s else s
theorem seqCounted_reg (n : Nat) (s : State) (p : Nat) : (seqCounted n s).reg p = (bumpSat (F.POS_IF_EVCNT_SEQCNT n) s).reg p := by
  unfold seqCounted
  dsimp only
  split <;> rfl
/-- What a fault that qualifies does not touch, a sequence error changes as its count does. -/
theorem seqError_keep {γ : Type} {g : State → γ} {n : Nat} (h : ∀ data u, g (posFault n F.POS_IF_FLT_SEQ 0x0304 data u) = g u) (s : State) :
    g (seqError n s) = g (seqCounted n s) := by
  unfold seqError
  change g (if rd (seqCounted n s) (F.POS_IF_EVCNT_SEQCNT n) ≥ rd (seqCounted n s) (F.POS_IF_FLTCFG_SEQLIM n) then posFault n F.POS_IF_FLT_SEQ 0x0304
    (((seqCounted n s).ifc n).nr % (ifCpr (seqCounted n s) n : Int)).toNat (seqCounted n s) else seqCounted n s) = _
  split
  · exact h _ _
  · rfl
/-- A sequence error leaves the interface as it is but for its reference. -/
theorem seqError_ifc (n : Nat) (s : State) : ∃ v, (seqError n s).ifc n = { s.ifc n with refValid := v } := by
  rw [seqError_keep (g := fun u => u.ifc n) fun data u => posFault_ifc n _ _ data u n]
  unfold seqCounted
  dsimp only
  split
  · exact ⟨false, modIfc_ifc n _ _⟩
  · exact ⟨(s.ifc n).refValid, rfl⟩
theorem seqError_seqcnt {n : Nat} (hn : n < 16) (s : State) :
    rd (seqError n s) (F.POS_IF_EVCNT_SEQCNT n) = satAdd (2 ^ (F.POS_IF_EVCNT_SEQCNT n).w - 1) (rd s (F.POS_IF_EVCNT_SEQCNT n)) 1 := by
  obtain ⟨hp, hf, -⟩ := evcnt_apart hn
  refine rd_bumpSat_of_reg (show 8 + 8 ≤ 32 by decide) ?_
  rw [← seqCounted_reg]
  exact seqError_keep (g := fun u => u.reg (A.POS_IF_EVCNT n)) (fun data u => posFault_reg (by omega) hf rfl _ data u) s

/-- A bad word counted: its request ends and the run of bad words goes on (R89). -/
def wordCounted (n : Nat) (s : State) : State :=
  modIfc n (fun x => { x with badRun := (s.ifc n).badRun + 1, reqOut := false }) (bumpSat (F.POS_IF_EVCNT_BADCNT n) s)
theorem badWord_keep {γ : Type} {g : State → γ} {n : Nat}
    (h : ∀ flag code data u, (flag n : Fld).off = A.POS_IF_FLT n → g (posFault n flag code data u) = g u) (kind data : Nat) (s : State) :
    g (badWord n kind data s) = g (wordCounted n s) := by
  unfold badWord
  dsimp only
  split
  · split
    · exact h _ _ _ _ rfl
    · exact h _ _ _ _ rfl
    · exact h _ _ _ _ rfl
  · rfl
/-- A bad word leaves the count of its interface. -/
theorem badWord_ifc (n kind data : Nat) (s : State) :
    (badWord n kind data s).ifc n = { s.ifc n with badRun := (s.ifc n).badRun + 1, reqOut := false } :=
  (badWord_keep (g := fun u => u.ifc n) (fun _ _ _ u _ => posFault_ifc n _ _ _ u n) kind data s).trans (modIfc_ifc n _ _)
theorem badWord_badcnt {n : Nat} (hn : n < 16) (kind data : Nat) (s : State) :
    rd (badWord n kind data s) (F.POS_IF_EVCNT_BADCNT n) = satAdd (2 ^ (F.POS_IF_EVCNT_BADCNT n).w - 1) (rd s (F.POS_IF_EVCNT_BADCNT n)) 1 := by
  obtain ⟨hp, hf, -⟩ := evcnt_apart hn
  exact rd_bumpSat_of_reg (show 0 + 8 ≤ 32 by decide)
    (badWord_keep (g := fun u => u.reg (A.POS_IF_EVCNT n)) (fun _ _ _ u hflag => posFault_reg (by omega) hf hflag _ _ u) kind data s)

end Sys2Proof.Machine
end

section
/-! ## Encoder, Hall and index edges, serial words and resolver half periods (R85 to R91, R103, R104) -/
namespace Sys2Proof.Machine
open Sys2Proof

/-! ### Encoder edges (R85) -/

/-- An edge of one of A and B is the way of R85: upward after A where the levels differ, after B where they agree, turned over by INV. -/
theorem encoderEdge_counts {n : IfNo} {aLvl bLvl : Bool} {s : State} (hr : ifRuns s n = true) (hm : ifMode s n = 1)
    (h : (aLvl != (s.ifc n).aLvl) ≠ (bLvl != (s.ifc n).bLvl)) (ph : Nat) :
    Completes (.encoderEdge n aLvl bLvl ph) s fun t => (t.ifc n).aLvl = aLvl ∧ (t.ifc n).bLvl = bLvl ∧
      (t.ifc n).nr = (s.ifc n).nr +
        if (if aLvl != (s.ifc n).aLvl then aLvl != bLvl else aLvl == bLvl) != isSet s (F.POS_IF_CFG_INV n) then 1 else -1 := by
  have both : ((aLvl != (s.ifc n).aLvl) && (bLvl != (s.ifc n).bLvl)) = false := by
    rw [Bool.and_eq_false_iff]
    cases ha : aLvl != (s.ifc n).aLvl
    · exact .inl rfl
    · exact .inr (by simpa [ha] using h.symm)
  have one : ((aLvl != (s.ifc n).aLvl) || (bLvl != (s.ifc n).bLvl)) = true := by
    rw [Bool.or_eq_true]
    cases ha : aLvl != (s.ifc n).aLvl
    · exact .inr (by simpa [ha] using h.symm)
    · exact .inl rfl
  refine ⟨_, (if_pos ⟨hr, hm⟩).trans ((if_neg (by rw [both]; decide)).trans (if_pos one)), ?_⟩
  beta_reduce
  rw [flushLog_ifc]
  have moved := setNr_beyond n ((s.ifc n).nr +
    if (if aLvl != (s.ifc n).aLvl then aLvl != bLvl else aLvl == bLvl) != isSet s (F.POS_IF_CFG_INV n) then 1 else -1) ph
    (modIfc n (fun x => { x with aLvl := aLvl, bLvl := bLvl }) s)
  rw [modIfc_ifc] at moved
  exact ⟨congrArg Ifc.aLvl moved, congrArg Ifc.bLvl moved, congrArg Ifc.nr moved⟩

theorem encoderEdge_both {n : IfNo} {aLvl bLvl : Bool} {s : State} (hr : ifRuns s n = true) (hm : ifMode s n = 1)
    (ha : aLvl ≠ (s.ifc n).aLvl) (hb : bLvl ≠ (s.ifc n).bLvl) (ph : Nat) :
    Completes (.encoderEdge n aLvl bLvl ph) s fun t => (t.ifc n).nr = (s.ifc n).nr ∧
      rd t (F.POS_IF_EVCNT_SEQCNT n) = satAdd (2 ^ (F.POS_IF_EVCNT_SEQCNT n).w - 1) (rd s (F.POS_IF_EVCNT_SEQCNT n)) 1 := by
  refine ⟨_, (if_pos ⟨hr, hm⟩).trans (if_pos (by simp [ha, hb])), ?_, ?_⟩
  · obtain ⟨v, hv⟩ := seqError_ifc n (modIfc n (fun x => { x with aLvl := aLvl, bLvl := bLvl }) s)
    rw [flushLog_ifc, hv, modIfc_ifc]
  · obtain ⟨hp, -, -⟩ := evcnt_apart n.isLt
    rw [rd_of_reg (flushLog_reg_below (by simp only [F.POS_IF_EVCNT_SEQCNT]; omega) _), seqError_seqcnt n.isLt]
    rfl

/-! ### Index edges (R86) -/

/-- The count put on the reference of the turn it is in. -/
def referenced (s : State) (n : Nat) : Int := (s.ifc n).nr / (ifCpr s n) * (ifCpr s n) + rd s (F.POS_IF_ZOFS_ZOFS n)
/-- The angle offset of the configuration taken over by axis a. -/
def ofsTaken (a : Nat) (s : State) : State :=
  match (s.ax a).cfgOfs with
  | some o => wrW (F.LE_AX_COMM_OFS a) o (wr (F.LE_AX_STATE_OFSVALID a) 1 (modAx a (fun y => { y with alignRef := none }) s))
  | none => s
theorem ofsTaken_pos (a : Nat) (s : State) : (ofsTaken a s).pos = s.pos := by
  unfold ofsTaken
  split <;> rfl
/-- The record of an interface that has not failed, put on its reference. -/
def indexRecord (nr : Int) (x : Ifc) : Ifc :=
  { x with
    nr := nr, np := nr, refValid := true, refSteps := 1, fresh := true, first := true,
    still := if x.np = nr then x.still else 0, rest := x.rest && x.np == nr }
/-- What the first index edge leaves, before the axes take their offsets. -/
def indexTaken (n ph : Nat) (s : State) : State :=
  if ifFailed s n then modIfc n (fun x => { x with nr := referenced s n, refValid := true, refSteps := 1 }) s else
  let u := showNp n (modIfc n (indexRecord (referenced s n)) s)
  if (s.ifc n).np ≠ referenced s n then cmpCross n (s.ifc n).np (referenced s n) ph u else u
theorem indexEdge_first {n : IfNo} {s : State} (hr : ifRuns s n = true) (hm : ifMode s n = 1) (ha : (s.ifc n).aLvl = true) (hb : (s.ifc n).bLvl = true)
    (hz : rd s (F.POS_IF_CFG_ZMODE n) = 1 ∨ rd s (F.POS_IF_CFG_ZMODE n) = 2) (h0 : (s.ifc n).refSteps = 0) (ph : Nat) :
    exec (.indexEdge n ph) s = done (each ofsTaken (ifAxes (indexTaken n ph s) n) (indexTaken n ph s)) :=
  (if_pos ⟨hr, hm, ha, hb, hz⟩).trans (if_pos h0)
theorem indexTaken_failed {n : Nat} {s : State} (h : ifFailed s n = true) (ph : Nat) :
    (indexTaken n ph s).ifc n = { s.ifc n with nr := referenced s n, refValid := true, refSteps := 1 } := by
  unfold indexTaken
  rw [if_pos h, modIfc_ifc]
theorem indexTaken_good {n : Nat} {s : State} (h : ifFailed s n = false) (ph : Nat) :
    (indexTaken n ph s).ifc n = indexRecord (referenced s n) (s.ifc n) := by
  unfold indexTaken
  rw [if_neg (by simp [h])]
  refine Eq.trans ?_ ((showNp_ifc n _ n).trans (modIfc_ifc n (indexRecord (referenced s n)) s))
  dsimp only
  split
  · exact cmpCross_ifc _ _ _ _ _ _
  · rfl
theorem indexEdge_references {n : IfNo} {s : State} (hr : ifRuns s n = true) (hm : ifMode s n = 1) (ha : (s.ifc n).aLvl = true) (hb : (s.ifc n).bLvl = true)
    (hz : rd s (F.POS_IF_CFG_ZMODE n) = 1 ∨ rd s (F.POS_IF_CFG_ZMODE n) = 2) (h0 : (s.ifc n).refSteps = 0) (ph : Nat) :
    Completes (.indexEdge n ph) s fun t => (t.ifc n).refValid = true ∧ (t.ifc n).refSteps = 1 ∧
      (t.ifc n).nr = (s.ifc n).nr / (ifCpr s n) * (ifCpr s n) + rd s (F.POS_IF_ZOFS_ZOFS n) ∧
      (ifFailed s n = false → (t.ifc n).np = (t.ifc n).nr) ∧ (ifFailed s n = true → (t.ifc n).np = (s.ifc n).np) := by
  refine ⟨_, indexEdge_first hr hm ha hb hz h0 ph, ?_⟩
  beta_reduce
  rw [flushLog_ifc, ifc_of_pos (each_keep State.pos ofsTaken ofsTaken_pos _ _)]
  cases hf : ifFailed s n with
  | true =>
    rw [indexTaken_failed hf]
    exact ⟨rfl, rfl, rfl, nofun, fun _ => rfl⟩
  | false =>
    rw [indexTaken_good hf]
    exact ⟨rfl, rfl, rfl, fun _ => rfl, nofun⟩

/-! ### Hall codes (R87) -/

/-- A legal code taken, an illegal one before it counted where it was not held for HALLQ. -/
def sectorTaken (n h : Nat) (code : BitVec 3) (s : State) : State :=
  let u := modIfc n (fun x => { x with hall := code }) s
  modIfc n (fun x => { x with sector := h, illegal := 0 }) (if (s.ifc n).illegal = 1 then bumpSat (F.POS_IF_EVCNT_HALLCNT n) u else u)
theorem sectorTaken_ifc (n h : Nat) (code : BitVec 3) (s : State) :
    (sectorTaken n h code s).ifc n = { s.ifc n with hall := code, sector := h, illegal := 0 } := by
  unfold sectorTaken
  dsimp only
  rw [modIfc_ifc]
  split <;> simp
theorem sectorTaken_inv (n h : Nat) (code : BitVec 3) (s : State) :
    isSet (sectorTaken n h code s) (F.POS_IF_CFG_INV n) = isSet s (F.POS_IF_CFG_INV n) := by
  have apart : A.POS_IF_CFG n ≠ A.POS_IF_EVCNT n := by
    unfold A.POS_IF_CFG A.POS_IF_EVCNT
    omega
  refine isSet_of_rd (rd_of_reg ?_)
  unfold sectorTaken
  dsimp only
  rw [modIfc_reg]
  split
  · exact reg_wr_other _ _ _ _ apart
  · rfl
/-- A legal code behind a first one counts by the sectors from the last. -/
theorem hallChange_legal {n : IfNo} {code : BitVec 3} {h : Nat} {s : State} (hr : ifRuns s n = true) (hm : ifMode s n = 2)
    (hs : hallSector code = some h) (hf : (s.ifc n).first = true) (ph : Nat) :
    exec (.hallChange n code ph) s =
      let u := sectorTaken n h code s
      let inv := isSet u (F.POS_IF_CFG_INV n)
      let d := (h + 6 - (s.ifc n).sector) % 6
      if d = 0 then done u
      else if d = 1 then done (setNr n ((s.ifc n).nr + if inv then -1 else 1) ph u)
      else if d = 5 then done (setNr n ((s.ifc n).nr + if inv then 1 else -1) ph u)
      else done (seqError n u) := by
  refine (if_pos ⟨hr, hm⟩).trans ?_
  dsimp only
  rw [hs]
  exact if_neg (by simp [hf])
theorem hallChange_counts {n : IfNo} {code : BitVec 3} {h : Nat} {s : State} (hr : ifRuns s n = true) (hm : ifMode s n = 2)
    (hs : hallSector code = some h) (hf : (s.ifc n).first = true) (ph : Nat) :
    Completes (.hallChange n code ph) s fun t => (t.ifc n).hall = code ∧ (t.ifc n).sector = h ∧
      ((h + 6 - (s.ifc n).sector) % 6 = 1 → (t.ifc n).nr = (s.ifc n).nr + if isSet s (F.POS_IF_CFG_INV n) then -1 else 1) ∧
      ((h + 6 - (s.ifc n).sector) % 6 = 5 → (t.ifc n).nr = (s.ifc n).nr + if isSet s (F.POS_IF_CFG_INV n) then 1 else -1) := by
  have taken := sectorTaken_ifc n h code s
  have moved : ∀ nr : Int, beyondCount ((flushLog (setNr n nr ph (sectorTaken n h code s))).ifc n) =
      beyondCount { s.ifc n with hall := code, sector := h, illegal := 0, nr := nr } := fun nr => by
    rw [flushLog_ifc, setNr_beyond, taken]
  have eq := hallChange_legal hr hm hs hf ph
  dsimp only at eq
  rw [sectorTaken_inv] at eq
  by_cases h0 : (h + 6 - (s.ifc n).sector) % 6 = 0
  · refine ⟨_, eq.trans (if_pos h0), ?_⟩
    beta_reduce
    rw [flushLog_ifc, taken]
    exact ⟨rfl, rfl, fun h1 => absurd (h0.symm.trans h1) (by decide), fun h5 => absurd (h0.symm.trans h5) (by decide)⟩
  rw [if_neg h0] at eq
  by_cases h1 : (h + 6 - (s.ifc n).sector) % 6 = 1
  · exact ⟨_, eq.trans (if_pos h1), congrArg Ifc.hall (moved _), congrArg Ifc.sector (moved _), fun _ => congrArg Ifc.nr (moved _),
      fun h5 => absurd (h1.symm.trans h5) (by decide)⟩
  rw [if_neg h1] at eq
  by_cases h5 : (h + 6 - (s.ifc n).sector) % 6 = 5
  · exact ⟨_, eq.trans (if_pos h5), congrArg Ifc.hall (moved _), congrArg Ifc.sector (moved _), fun e => absurd e h1, fun _ => congrArg Ifc.nr (moved _)⟩
  · refine ⟨_, eq.trans (if_neg h5), ?_⟩
    obtain ⟨v, hv⟩ := seqError_ifc n (sectorTaken n h code s)
    rw [flushLog_ifc, hv, taken]
    exact ⟨rfl, rfl, fun e => absurd e h1, fun e => absurd e h5⟩

theorem hallFault_shown {n : Nat} (hn : n < 16) {s : State} (h : isSet s (F.POS_IF_FLT_HALL n) = false) (data : Nat) :
    let t := flushLog (posFault n F.POS_IF_FLT_HALL 0x0305 data s)
    isSet t (F.POS_IF_FLT_HALL n) = true ∧ isSet t (F.POS_IF_FLT_FAILED n) = true := by
  have low : A.POS_IF_FLT n < 0x040000 := by
    unfold A.POS_IF_FLT
    omega
  have flt := (flushLog_reg_below (by omega) _).trans (posFault_new_reg low h 0x0305 data)
  have hall : rd (wr (F.POS_IF_FLT_FAILED n) 1 (wr (F.POS_IF_FLT_HALL n) 1 s)) (F.POS_IF_FLT_HALL n) = 1 :=
    (rd_wr_disj _ _ _ _ (show 8 + 1 ≤ 32 by decide) (show 4 + 1 ≤ 32 by decide) (.inr (show 4 + 1 ≤ 8 by decide))).trans
      (rd_wr_same _ _ _ (show 4 + 1 ≤ 32 by decide))
  have failed : rd (wr (F.POS_IF_FLT_FAILED n) 1 (wr (F.POS_IF_FLT_HALL n) 1 s)) (F.POS_IF_FLT_FAILED n) = 1 :=
    rd_wr_same _ _ _ (show 8 + 1 ≤ 32 by decide)
  exact ⟨(isSet_of_rd (rd_of_reg (f := F.POS_IF_FLT_HALL n) flt)).trans (by rw [isSet, hall]; rfl),
    (isSet_of_rd (rd_of_reg (f := F.POS_IF_FLT_FAILED n) flt)).trans (by rw [isSet, failed]; rfl)⟩
theorem posHallIllegal_fails {n : IfNo} {s : State} (hr : ifRuns s n = true) (hm : ifMode s n = 2) (hi : hallSector (s.ifc n).hall = none)
    (hf : isSet s (F.POS_IF_FLT_HALL n) = false) :
    Completes (.posHallIllegal n) s fun t => isSet t (F.POS_IF_FLT_HALL n) = true ∧ isSet t (F.POS_IF_FLT_FAILED n) = true :=
  ⟨_, if_pos ⟨hr, hm, hi⟩, hallFault_shown n.isLt ((isSet_of_rd (rd_of_reg (modIfc_reg _ _ _ _))).trans hf) _⟩

/-! ### Serial words (R88, R89) -/

/-- The count of bad words at the end of a command that met one, of an interface changed in nothing else before. -/
theorem badcnt_badWord {n : IfNo} {u s : State} (h : u.regs = s.regs) (kind data : Nat) :
    rd (flushLog (badWord n kind data u)) (F.POS_IF_EVCNT_BADCNT n) =
      satAdd (2 ^ (F.POS_IF_EVCNT_BADCNT n).w - 1) (rd s (F.POS_IF_EVCNT_BADCNT n)) 1 := by
  obtain ⟨hp, -, -⟩ := evcnt_apart n.isLt
  rw [rd_of_reg (flushLog_reg_below (by simp only [F.POS_IF_EVCNT_BADCNT]; omega) _), badWord_badcnt n.isLt, rd_of_reg (reg_of_regs h _)]

theorem ssiRequest_lineHigh {n : IfNo} {s : State} (hr : ifRuns s n = true) (hm : ifMode s n = 3) (hd : ssiDue s n = true) :
    Completes (.ssiRequest n false) s fun t => (t.ifc n).reqOut = true ∧ (t.ifc n).lineLow = false := by
  refine ⟨_, if_pos ⟨hr, hm, hd⟩, ?_⟩
  beta_reduce
  rw [flushLog_ifc, modIfc_ifc]
  exact ⟨rfl, rfl⟩
theorem ssiRequest_lineLow {n : IfNo} {s : State} (hr : ifRuns s n = true) (hm : ifMode s n = 3) (hd : ssiDue s n = true) :
    Completes (.ssiRequest n true) s fun t => (t.ifc n).reqOut = false ∧ (t.ifc n).lineLow = true ∧
      rd t (F.POS_IF_EVCNT_BADCNT n) = satAdd (2 ^ (F.POS_IF_EVCNT_BADCNT n).w - 1) (rd s (F.POS_IF_EVCNT_BADCNT n)) 1 := by
  refine ⟨_, if_pos ⟨hr, hm, hd⟩, ?_, ?_, badcnt_badWord rfl _ _⟩
  all_goals rw [flushLog_ifc, badWord_ifc, modIfc_ifc]

/-- The request of a good word ends, and with it the run of bad words. -/
def wordTaken (n : Nat) (s : State) : State := modIfc n (fun x => { x with badRun := 0, reqOut := false }) s
/-- A good word is measured on an interface that has not failed; the turn restored at the first one lies beside the count. -/
theorem ssiWord_taken {n : IfNo} {word : BitVec 64} {s : State} (hr : ifRuns s n = true) (hm : ifMode s n = 3) (ho : (s.ifc n).reqOut = true)
    (hv : ssiVerdict s n word = none) (edge ph : Nat) :
    (ifFailed s n = true ∧ exec (.ssiWord n word edge ph) s = done (wordTaken n s)) ∨
      ∃ nr u, exec (.ssiWord n word edge ph) s = done (measure n nr (ssiAge s n edge) ph u) ∧ beyondCount (u.ifc n) = beyondCount ((wordTaken n s).ifc n) := by
  have eq : exec (.ssiWord n word edge ph) s = execSsiWord n word edge ph s := rfl
  unfold execSsiWord at eq
  rw [if_pos ⟨hr, hm, ho⟩, hv] at eq
  dsimp only at eq
  rw [← wordTaken.eq_1] at eq
  split at eq
  next hf => exact .inl ⟨hf, eq⟩
  · split at eq
    · exact .inr ⟨_, _, eq, restoreTurn_beyond _ _ _⟩
    · split at eq
      · exact .inr ⟨_, _, eq, rfl⟩
      · exact .inr ⟨_, _, eq, rfl⟩
theorem ssiWord_good {n : IfNo} {word : BitVec 64} {s : State} (hr : ifRuns s n = true) (hm : ifMode s n = 3) (ho : (s.ifc n).reqOut = true)
    (hv : ssiVerdict s n word = none) (edge ph : Nat) :
    Completes (.ssiWord n word edge ph) s fun t => (t.ifc n).badRun = 0 ∧ (t.ifc n).reqOut = false ∧
      (ifFailed s n = false → (t.ifc n).meas = some ((t.ifc n).nr, ssiAge s n edge)) := by
  rcases ssiWord_taken hr hm ho hv edge ph with ⟨hf, eq⟩ | ⟨nr, u, eq, hu⟩
  · refine ⟨_, eq, ?_⟩
    beta_reduce
    rw [flushLog_ifc, wordTaken, modIfc_ifc]
    exact ⟨rfl, rfl, fun h => absurd (hf.symm.trans h) (by decide)⟩
  · rw [wordTaken, modIfc_ifc] at hu
    have measured := (measure_beyond n nr (ssiAge s n edge) ph u).trans
      (congrArg (fun x : Ifc => { x with nr := nr, meas := some (nr, ssiAge s n edge) }) hu)
    refine ⟨_, eq, ?_⟩
    beta_reduce
    rw [flushLog_ifc]
    exact ⟨congrArg Ifc.badRun measured, congrArg Ifc.reqOut measured, fun _ => measure_meas _ _ _ _ _⟩

theorem ssiWord_bad {n : IfNo} {word : BitVec 64} {kind data : Nat} {s : State} (hr : ifRuns s n = true) (hm : ifMode s n = 3)
    (ho : (s.ifc n).reqOut = true) (hv : ssiVerdict s n word = some (kind, data)) (edge ph : Nat) :
    Completes (.ssiWord n word edge ph) s fun t => (t.ifc n).badRun = (s.ifc n).badRun + 1 ∧ (t.ifc n).nr = (s.ifc n).nr ∧
      rd t (F.POS_IF_EVCNT_BADCNT n) = satAdd (2 ^ (F.POS_IF_EVCNT_BADCNT n).w - 1) (rd s (F.POS_IF_EVCNT_BADCNT n)) 1 := by
  have eq : exec (.ssiWord n word edge ph) s = done (badWord n kind data s) := by
    refine (if_pos ⟨hr, hm, ho⟩).trans ?_
    rw [hv]
  refine ⟨_, eq, ?_, ?_, badcnt_badWord rfl _ _⟩
  all_goals rw [flushLog_ifc, badWord_ifc]
theorem posTimeout_counts {n : IfNo} {s : State} (hr : ifRuns s n = true) (hm : ifMode s n = 3) (ho : (s.ifc n).reqOut = true) :
    Completes (.posTimeout n) s fun t => (t.ifc n).reqOut = false ∧ (t.ifc n).lineLow = true ∧ (t.ifc n).nr = (s.ifc n).nr ∧
      rd t (F.POS_IF_EVCNT_BADCNT n) = satAdd (2 ^ (F.POS_IF_EVCNT_BADCNT n).w - 1) (rd s (F.POS_IF_EVCNT_BADCNT n)) 1 := by
  refine ⟨_, if_pos ⟨hr, hm, ho⟩, ?_, ?_, ?_, badcnt_badWord rfl _ _⟩
  all_goals rw [flushLog_ifc, badWord_ifc, modIfc_ifc]

/-! ### Resolver half periods (R91) -/

theorem resAngle_kept (s : State) (n : Nat) : (resAngle s n).2.pos = s.pos ∧ (resAngle s n).2.regs = s.regs := by
  unfold resAngle
  dsimp only
  split <;> exact ⟨rfl, rfl⟩
/-- The results of a half period used up and its amplitude shown. -/
def ampShown (n : Nat) (s : State) : State :=
  let u := (resAngle s n).2
  wr (F.POS_IF_AMP_AMP n) (if resAmp s n > 65535 then 65535 else resAmp s n)
    (modIfc n (fun x => { x with sinRes := resLater u n x.sinRes, cosRes := resLater u n x.cosRes, halves := x.halves + 1 }) u)
theorem ampShown_ifc (n : Nat) (s : State) : (ampShown n s).ifc n =
    { s.ifc n with sinRes := resLater s n (s.ifc n).sinRes, cosRes := resLater s n (s.ifc n).cosRes, halves := (s.ifc n).halves + 1 } := by
  obtain ⟨hp, hr⟩ := resAngle_kept s n
  have later : resLater (resAngle s n).2 n = resLater s n := by
    unfold resLater resHalf
    rw [ifc_of_pos hp, rd_of_reg (reg_of_regs hr _)]
  unfold ampShown
  dsimp only
  rw [wr_ifc, modIfc_ifc, later, ifc_of_pos hp]
theorem ampShown_reg {n p : Nat} (h : p ≠ A.POS_IF_AMP n) (s : State) : (ampShown n s).reg p = s.reg p := by
  unfold ampShown
  dsimp only
  rw [reg_wr_other _ _ _ p h, modIfc_reg]
  exact reg_of_regs (resAngle_kept s n).2 p
theorem ampShown_amp (n : Nat) (s : State) : rd (ampShown n s) (F.POS_IF_AMP_AMP n) = min (resAmp s n) 65535 := by
  unfold ampShown
  dsimp only
  rw [rd_wr_same _ _ _ (show 0 + 16 ≤ 32 by decide)]
  simp only [F.POS_IF_AMP_AMP]
  split <;> omega
/-- A half period judged by its amplitude: one outside its limits is counted, and adds to the run of them (R103). -/
def ampCounted (n : Nat) (s : State) : State :=
  let u := ampShown n s
  let out := resAmp s n < 256 * rd u (F.POS_IF_RES1_AMPLO n) ∨ resAmp s n > 256 * rd u (F.POS_IF_RES1_AMPHI n)
  modIfc n (fun x => { x with ampRun := if out then (s.ifc n).ampRun + 1 else 0 }) (if out then bumpSat (F.POS_IF_EVCNT_AMPCNT n) u else u)
/-- A run as long as AMPQ is a fault. -/
def halfJudged (n : Nat) (s : State) : State :=
  let u := ampShown n s
  let out := resAmp s n < 256 * rd u (F.POS_IF_RES1_AMPLO n) ∨ resAmp s n > 256 * rd u (F.POS_IF_RES1_AMPHI n)
  if out ∧ (if out then (s.ifc n).ampRun + 1 else 0) ≥ rd (ampCounted n s) (F.POS_IF_FLTCFG_AMPQ n) then
    posFault n F.POS_IF_FLT_AMPL 0x0306 (resAmp s n) (ampCounted n s)
  else ampCounted n s
theorem ampCounted_ifc (n : Nat) (s : State) : ∃ r, (ampCounted n s).ifc n =
    { s.ifc n with sinRes := resLater s n (s.ifc n).sinRes, cosRes := resLater s n (s.ifc n).cosRes, halves := (s.ifc n).halves + 1, ampRun := r } := by
  unfold ampCounted
  dsimp only
  rw [modIfc_ifc]
  split
  · rw [bumpSat_ifc, ampShown_ifc]
    exact ⟨_, rfl⟩
  · rw [ampShown_ifc]
    exact ⟨_, rfl⟩
theorem ampCounted_reg {n p : Nat} (h : p ≠ A.POS_IF_EVCNT n) (s : State) : (ampCounted n s).reg p = (ampShown n s).reg p := by
  unfold ampCounted
  dsimp only
  rw [modIfc_reg]
  split
  · exact reg_wr_other _ _ _ p h
  · rfl
theorem halfJudged_keep {γ : Type} {g : State → γ} {n : Nat} (h : ∀ data u, g (posFault n F.POS_IF_FLT_AMPL 0x0306 data u) = g u) (s : State) :
    g (halfJudged n s) = g (ampCounted n s) := by
  unfold halfJudged
  dsimp only
  rw [apply_ite g, h, ite_self]
theorem halfJudged_ifc (n : Nat) (s : State) : (halfJudged n s).ifc n = (ampCounted n s).ifc n :=
  halfJudged_keep (g := fun u => u.ifc n) (fun data u => posFault_ifc n _ _ data u n) s
/-- The amplitude and the faults of an interface lie beside its event counts. -/
theorem amp_apart {n : Nat} (hn : n < 16) : A.POS_IF_AMP n < 0x031000 ∧ A.POS_IF_AMP n ≠ A.POS_IF_FLT n ∧ A.POS_IF_AMP n ≠ A.POS_IF_EVCNT n ∧
    A.POS_IF_AMP n ≠ A.POS_IF_NP n := by
  unfold A.POS_IF_AMP A.POS_IF_FLT A.POS_IF_EVCNT A.POS_IF_NP
  omega
theorem halfJudged_amp {n : Nat} (hn : n < 16) (s : State) : rd (halfJudged n s) (F.POS_IF_AMP_AMP n) = min (resAmp s n) 65535 := by
  obtain ⟨hp, hf, he, -⟩ := amp_apart hn
  have kept := halfJudged_keep (g := fun u => rd u (F.POS_IF_AMP_AMP n))
    (fun data u => rd_of_reg (f := F.POS_IF_AMP_AMP n) (posFault_reg (show A.POS_IF_AMP n < 0x040000 by omega) hf rfl _ data u)) s
  exact kept.trans ((rd_of_reg (f := F.POS_IF_AMP_AMP n) (ampCounted_reg he s)).trans (ampShown_amp n s))
/-- An amplitude within its limits is no fault. -/
theorem halfJudged_within {n : Nat} {s : State} (hlo : 256 * rd s (F.POS_IF_RES1_AMPLO n) ≤ resAmp s n)
    (hhi : resAmp s n ≤ 256 * rd s (F.POS_IF_RES1_AMPHI n)) : ifFailed (halfJudged n s) n = ifFailed s n := by
  have res : A.POS_IF_RES1 n ≠ A.POS_IF_AMP n := by
    unfold A.POS_IF_RES1 A.POS_IF_AMP
    omega
  have flt : A.POS_IF_FLT n ≠ A.POS_IF_AMP n ∧ A.POS_IF_FLT n ≠ A.POS_IF_EVCNT n := by
    unfold A.POS_IF_FLT A.POS_IF_AMP A.POS_IF_EVCNT
    omega
  have inside : ¬ (resAmp s n < 256 * rd (ampShown n s) (F.POS_IF_RES1_AMPLO n) ∨ resAmp s n > 256 * rd (ampShown n s) (F.POS_IF_RES1_AMPHI n)) := by
    rw [rd_of_reg (f := F.POS_IF_RES1_AMPLO n) (ampShown_reg res s), rd_of_reg (f := F.POS_IF_RES1_AMPHI n) (ampShown_reg res s)]
    omega
  have same : halfJudged n s = ampCounted n s := if_neg fun h => inside h.1
  rw [same]
  exact isSet_of_rd (rd_of_reg ((ampCounted_reg flt.2 s).trans (ampShown_reg flt.1 s)))

/-- The age of a half period's centre at the next update. -/
def halfAge (s : State) (n end_ : Nat) : Nat := end_ + 16 * rd s (F.POS_IF_RES0_EXCDIV n)
/-- A half period is measured on an interface that has not failed; the turn restored at the first one lies beside the count. -/
theorem resolverHalfPeriod_judged {n : IfNo} {s : State} (hr : ifRuns s n = true) (hm : ifMode s n = 4) (end_ ph : Nat) :
    (ifFailed (halfJudged n s) n = true ∧ exec (.resolverHalfPeriod n end_ ph) s = done (halfJudged n s)) ∨
      ∃ nr u, exec (.resolverHalfPeriod n end_ ph) s = done (measure n nr (halfAge s n end_) ph u) ∧
        beyondCount (u.ifc n) = beyondCount ((halfJudged n s).ifc n) ∧ u.reg (A.POS_IF_AMP n) = (halfJudged n s).reg (A.POS_IF_AMP n) := by
  have eq : exec (.resolverHalfPeriod n end_ ph) s = if ifRuns s n ∧ ifMode s n = 4 then
      if ifFailed (halfJudged n s) n then done (halfJudged n s)
      else if ¬ (s.ifc n).first then
        let q := restoreTurn n (resAngle s n).1 (halfJudged n s)
        done (measure n (q.1 * ifCpr q.2 n + (resAngle s n).1) (halfAge s n end_) ph q.2)
      else done (measure n ((s.ifc n).nr + wrapDiff (2 ^ rd s (F.POS_IF_RES1_RESBITS n)) ((resAngle s n).1 - (s.ifc n).nr)) (halfAge s n end_) ph
        (halfJudged n s))
      else unmet s := rfl
  rw [if_pos ⟨hr, hm⟩] at eq
  split at eq
  next hf => exact .inl ⟨hf, eq⟩
  · split at eq
    · exact .inr ⟨_, _, eq, restoreTurn_beyond _ _ _, restoreTurn_reg (by have := (amp_apart n.isLt).1; omega) _ _ _⟩
    · exact .inr ⟨_, _, eq, rfl, rfl⟩
theorem resolverHalfPeriod_measures {n : IfNo} {s : State} (hr : ifRuns s n = true) (hm : ifMode s n = 4) (end_ ph : Nat) :
    Completes (.resolverHalfPeriod n end_ ph) s fun t =>
      (t.ifc n).sinRes = resLater s n (s.ifc n).sinRes ∧ (t.ifc n).cosRes = resLater s n (s.ifc n).cosRes ∧
      rd t (F.POS_IF_AMP_AMP n) = min (resAmp s n) 65535 ∧
      (ifFailed s n = false → 256 * rd s (F.POS_IF_RES1_AMPLO n) ≤ resAmp s n → resAmp s n ≤ 256 * rd s (F.POS_IF_RES1_AMPHI n) →
        (t.ifc n).meas = some ((t.ifc n).nr, ((end_ + 16 * rd s (F.POS_IF_RES0_EXCDIV n) : Nat) : Int))) := by
  obtain ⟨hp, -, -, hn⟩ := amp_apart n.isLt
  obtain ⟨r, judged⟩ := ampCounted_ifc n s
  rw [← halfJudged_ifc] at judged
  have amp : ∀ u : State, u.reg (A.POS_IF_AMP n) = (halfJudged n s).reg (A.POS_IF_AMP n) → rd (flushLog u) (F.POS_IF_AMP_AMP n) = min (resAmp s n) 65535 :=
    fun u hu => (rd_of_reg ((flushLog_reg_below (by simp only [F.POS_IF_AMP_AMP]; omega) u).trans hu)).trans (halfJudged_amp n.isLt s)
  rcases resolverHalfPeriod_judged hr hm end_ ph with ⟨hf, eq⟩ | ⟨nr, u, eq, hu, ha⟩
  · refine ⟨_, eq, ?_, ?_, amp _ rfl, fun h hlo hhi => ?_⟩
    · rw [flushLog_ifc, judged]
    · rw [flushLog_ifc, judged]
    · rw [halfJudged_within hlo hhi, h] at hf
      exact absurd hf (by decide)
  · rw [judged] at hu
    have measured := (measure_beyond n nr (halfAge s n end_) ph u).trans
      (congrArg (fun x : Ifc => { x with nr := nr, meas := some (nr, (halfAge s n end_ : Int)) }) hu)
    refine ⟨_, eq, ?_, ?_, amp _ ((measure_reg hp hn _ _ _ u).trans ha), fun _ _ _ => ?_⟩
    · rw [flushLog_ifc]
      exact congrArg Ifc.sinRes measured
    · rw [flushLog_ifc]
      exact congrArg Ifc.cosRes measured
    · rw [flushLog_ifc]
      exact measure_meas _ _ _ _ _

/-- Settles O12: each input by the rule for what it does to its interface, the count by `setNr_beyond` and a measurement by `measure_beyond`. -/
theorem positionInputsMoveTheCount : Obligations.PositionInputsMoveTheCount := by
  unfold Obligations.PositionInputsMoveTheCount
  exact ⟨fun _ _ _ ph _ hr hm h => encoderEdge_counts hr hm h ph, fun _ _ _ ph _ hr hm ha hb => encoderEdge_both hr hm ha hb ph,
    fun _ ph _ hr hm ha hb hz h0 => indexEdge_references hr hm ha hb hz h0 ph, fun _ _ _ ph _ hr hm hs hf => hallChange_counts hr hm hs hf ph,
    fun _ _ hr hm hi hf => posHallIllegal_fails hr hm hi hf, fun _ _ hr hm hd => ⟨ssiRequest_lineHigh hr hm hd, ssiRequest_lineLow hr hm hd⟩,
    fun _ _ edge ph _ hr hm ho hv => ssiWord_good hr hm ho hv edge ph, fun _ _ edge ph _ _ _ hr hm ho hv => ssiWord_bad hr hm ho hv edge ph,
    fun _ _ hr hm ho => posTimeout_counts hr hm ho, fun _ end_ ph _ hr hm => resolverHalfPeriod_measures hr hm end_ ph⟩

end Sys2Proof.Machine
end

section
/-! ## The observer, its latched registers, compare units and recovery (R94 to R101, R105, R108) -/
namespace Sys2Proof.Machine
open Sys2Proof

/-! ### The update of the observer (R94 to R97) -/

/-- The record of an interface at an update: the one before it, with the measurement taken from it and the last state kept for later stamps. -/
def updateRecord (x : Ifc) : Ifc :=
  { x with us := x.us + 1, meas := none, revUpd := x.revNow, revNow := false, still := x.still + 1, hist := ((x.th, x.spd, x.acc) :: x.hist).take 64 }
/-- The observer initialised at the middle of a count (R96). -/
def observerBegun (v : Int) (x : Ifc) : Ifc :=
  { x with th := cfix v + 8388608, spd := 0, acc := 0, err := 0, acq := 0, obsRun := 0, spdValid := false, posValid := true, fresh := false, hist := [] }
/-- The update count of an interface raised. -/
def usCounted (n : Nat) (s : State) : State := modIfc n (fun x => { x with us := x.us + 1 }) s
/-- The error of a measurement to the position of its stamp (R95). -/
def obsError (s : State) (n : Nat) (v age : Int) (x : Ifc) : Int := wrapDiff (ifCpr s n * 65536 * 16777216) (cfix v + 8388608 - thAt x age)
/-- The error lies beyond its limit while the speed is valid (R103). -/
def obsBad (s : State) (n : Nat) (e : Int) (x : Ifc) : Bool := x.spdValid && e.natAbs > rd s (F.POS_IF_ELIM_ELIM n) * 16777216
/-- The run of updates whose error lies beyond its limit (R103). -/
def obsRunOf (s : State) (n : Nat) (e : Int) (x : Ifc) : Nat := if obsBad s n e x then x.obsRun + 1 else 0
/-- The step of an observer by the error of a measurement, with the rest rule of R97 and the runs of R96 and R103. -/
def observerStepped (s : State) (n : Nat) (e : Int) (x : Ifc) : Ifc :=
  let y := obsStep (obsOmega s n)
    { x with rest := x.rest || (x.still > 1000 * rd s (F.POS_IF_OBS_REST n) && e.natAbs < 16777216), err := e } e
  let acq := if e.natAbs < 8388608 then x.acq + 1 else 0
  { y with acq := acq, spdValid := x.spdValid || acq ≥ 64, obsRun := obsRunOf s n e x }
/-- The observer stepped and shown. -/
def stepShown (n : Nat) (e : Int) (x : Ifc) (s : State) : State := showLive n (modIfc n (fun _ => observerStepped s n e x) s)
/-- An update with a measurement of a stamp: the observer begins, or it steps, and a run of errors beyond the limit is a fault. -/
def observerServed (n : Nat) (v age : Int) (x : Ifc) (s : State) : Host.Outcome State Fault Refusal :=
  if x.fresh then done (showLive n (modIfc n (fun _ => observerBegun v x) s))
  else
    let e := obsError s n v age x
    let u := stepShown n e x s
    if obsBad s n e x ∧ obsRunOf s n e x ≥ rd u (F.POS_IF_FLTCFG_OBSQ n) then
      done (posFault n F.POS_IF_FLT_OBS 0x0307 (trunc 32 (sat 32 (Flt.roundAway e 65536))) u)
    else done u

/-- What an update leaves of an interface for the reads of its registers (R101). -/
def beyondLive (x : Ifc) : Ifc := { x with lvTurn := 0, lvSpd := 0, lvAcc := 0, lvStat := 0, lvErr := 0 }
theorem showLive_beyond (n : Nat) (s : State) : beyondLive ((showLive n s).ifc n) = beyondLive (s.ifc n) := by
  unfold showLive
  dsimp only
  rw [modIfc_ifc]
  rfl
theorem stepShown_beyond (n : Nat) (e : Int) (x : Ifc) (s : State) : beyondLive ((stepShown n e x s).ifc n) = beyondLive (observerStepped s n e x) :=
  (showLive_beyond n _).trans (congrArg beyondLive (modIfc_ifc n (fun _ => observerStepped s n e x) s))
theorem observerServed_first {x : Ifc} (h : x.fresh = true) (n : Nat) (v age : Int) (s : State) :
    observerServed n v age x s = done (showLive n (modIfc n (fun _ => observerBegun v x) s)) := if_pos h
/-- A step with a fault ends on the same record as one without. -/
theorem observerServed_steps {x : Ifc} (h : x.fresh = false) (n : Nat) (v age : Int) (s : State) :
    ∃ u, observerServed n v age x s = done u ∧ u.ifc n = (stepShown n (obsError s n v age x) x s).ifc n := by
  unfold observerServed
  rw [if_neg (by simp [h])]
  dsimp only
  split
  · exact ⟨_, rfl, posFault_ifc _ _ _ _ _ _⟩
  · exact ⟨_, rfl, rfl⟩

/-- Of an interface not at rest the step goes by the state and the error alone. -/
theorem obsStep_moving {x y : Ifc} (hx : x.rest = false) (hy : y.rest = false) (ht : x.th = y.th) (hs : x.spd = y.spd) (ha : x.acc = y.acc) (om e : Int) :
    (obsStep om x e).th = (obsStep om y e).th ∧ (obsStep om x e).spd = (obsStep om y e).spd ∧ (obsStep om x e).acc = (obsStep om y e).acc := by
  unfold obsStep
  simp only [hx, hy, ht, hs, ha, and_self]
theorem thAt_updateRecord (x : Ifc) : thAt (updateRecord x) 0 = thAt x 0 := (if_pos (Int.le_refl 0)).trans (if_pos (Int.le_refl 0)).symm

section
variable {n : IfNo} {v age : Int} {s : State} (hr : ifRuns s n = true) (hf : ifFailed s n = false) (hm : 3 ≤ ifMode s n)
  (hv : (s.ifc n).meas = some (v, age))
include hr hf hm hv

/-- An update of a serial or resolver interface with a measurement not older than 64 µs serves it. -/
theorem observerUpdate_served (ha : age ≤ 51200) : exec (.observerUpdate n) s = observerServed n v age (updateRecord (s.ifc n)) (usCounted n s) := by
  have h1 : ¬ ifMode s n = 1 := by omega
  have h2 : ¬ ifMode s n = 2 := by omega
  change execObserverUpdate n s = _
  unfold execObserverUpdate
  rw [if_neg (by simp [hr])]
  extract_lets u m12 w x ms prev x'
  have hu : ifMode u n = ifMode s n := rfl
  have hm12 : ¬ m12 := by simp only [m12, hu, h1, h2, false_and, or_self, not_false_eq_true]
  have hw : w = usCounted n s := (if_neg h1).trans (if_neg hm12)
  have hx : x = { s.ifc n with us := (s.ifc n).us + 1 } := (congrArg (fun t : State => t.ifc n) hw).trans (modIfc_ifc n _ s)
  have hms : ms = some (v, age) := by simp only [ms, if_neg hm12, hx, hv, if_neg (show ¬ age > 51200 by omega)]
  have hx' : x' = updateRecord (s.ifc n) := by
    simp only [x', prev, hx]
    rfl
  rw [if_neg (show ¬ ifFailed u n = true from (congrArg (· = true) hf).mp.mt (by decide)), hms]
  refine Eq.trans (b := observerServed n v age x' w) rfl ?_
  rw [hx', hw]

theorem observerUpdate_begins (ha : age ≤ 51200) (hn : (s.ifc n).fresh = true) :
    Completes (.observerUpdate n) s fun t => (t.ifc n).th = cfix v + 8388608 ∧ (t.ifc n).spd = 0 ∧ (t.ifc n).acc = 0 ∧
      (t.ifc n).posValid = true ∧ (t.ifc n).spdValid = false ∧ (t.ifc n).fresh = false ∧ (t.ifc n).meas = none := by
  have shown := (showLive_beyond n (modIfc n (fun _ => observerBegun v (updateRecord (s.ifc n))) (usCounted n s))).trans
    (congrArg beyondLive (modIfc_ifc n (fun _ => observerBegun v (updateRecord (s.ifc n))) _))
  refine ⟨_, (observerUpdate_served hr hf hm hv ha).trans 
    (observerServed_first (x := updateRecord (s.ifc n)) hn n v age (usCounted n s)), ?_⟩
  beta_reduce
  rw [flushLog_ifc]
  exact ⟨congrArg Ifc.th shown, congrArg Ifc.spd shown, congrArg Ifc.acc shown, congrArg Ifc.posValid shown, congrArg Ifc.spdValid shown,
    congrArg Ifc.fresh shown, congrArg Ifc.meas shown⟩
end
theorem observerUpdate_steps {n : IfNo} {v : Int} {s : State} (hr : ifRuns s n = true) (hf : ifFailed s n = false) (hm : 3 ≤ ifMode s n)
    (hv : (s.ifc n).meas = some (v, 0)) (hn : (s.ifc n).fresh = false) (hrest : (s.ifc n).rest = false)
    (hstill : (s.ifc n).still + 1 ≤ 1000 * rd s (F.POS_IF_OBS_REST n)) :
    Completes (.observerUpdate n) s fun t =>
      (t.ifc n).err = wrapDiff (ifCpr s n * 65536 * 16777216) (cfix v + 8388608 - thAt (s.ifc n) 0) ∧
      (t.ifc n).th = (obsStep (obsOmega s n) (s.ifc n) (t.ifc n).err).th ∧ (t.ifc n).spd = (obsStep (obsOmega s n) (s.ifc n) (t.ifc n).err).spd ∧
      (t.ifc n).acc = (obsStep (obsOmega s n) (s.ifc n) (t.ifc n).err).acc ∧ (t.ifc n).meas = none := by
  obtain ⟨u, he, hu⟩ := observerServed_steps (x := updateRecord (s.ifc n)) hn n v 0 (usCounted n s)
  generalize hx : obsError (usCounted n s) n v 0 (updateRecord (s.ifc n)) = e at hu
  have shown := stepShown_beyond n e (updateRecord (s.ifc n)) (usCounted n s)
  rw [← hu] at shown
  have moving : ((s.ifc n).rest || (decide ((s.ifc n).still + 1 > 1000 * rd s (F.POS_IF_OBS_REST n)) && decide (e.natAbs < 16777216))) = false := by
    rw [hrest, Bool.false_or, decide_eq_false (by omega), Bool.false_and]
  have err : (u.ifc n).err = e := congrArg Ifc.err shown
  obtain ⟨th, spd, acc⟩ := obsStep_moving (x := { updateRecord (s.ifc n) with
    rest := (s.ifc n).rest || (decide ((s.ifc n).still + 1 > 1000 * rd s (F.POS_IF_OBS_REST n)) && decide (e.natAbs < 16777216)), err := e })
    (y := s.ifc n) moving hrest rfl rfl rfl (obsOmega s n) e
  refine ⟨_, (observerUpdate_served hr hf hm hv (by decide)).trans he, ?_⟩
  beta_reduce
  rw [flushLog_ifc, err, ← thAt_updateRecord]
  exact ⟨hx.symm, (congrArg Ifc.th shown).trans th, (congrArg Ifc.spd shown).trans spd, (congrArg Ifc.acc shown).trans acc, congrArg Ifc.meas shown⟩

end Sys2Proof.Machine
end

section
/-! ## The latched registers, the compare units and the recovery (R101, R105, R108) -/
namespace Sys2Proof.Machine
open Sys2Proof

/-! ### The reads that latch (R101) -/

theorem rd_setReg_off (s : State) (f : Fld) {p : Nat} (w : Word) (h : f.off ≠ p) : rd (s.setReg p w) f = rd s f :=
  rd_of_reg ((reg_setReg s p w f.off).trans (if_neg h))
/-- Recording the log leaves every field below the log's own registers. -/
theorem rd_flushLog_below {f : Fld} (h : f.off < 0x0F0000) (s : State) : rd (flushLog s) f = rd s f := rd_of_reg (flushLog_reg_below h s)

/-- A register of one 32-bit field reads the word written to it. -/
theorem rdW_wrW_same (s : State) {f : Fld} (hl : f.lo = 0) (hw : f.w = 32) (v : Word) : rdW (wrW f v s) f = v := by
  unfold rdW wrW
  rw [rd_wr_same _ _ _ (by omega), hw, Nat.mod_eq_of_lt v.isLt]
  exact (BitVec.ofNat_toNat 32 v).trans (BitVec.setWidth_eq v)
theorem rdW_of_rd {s t : State} {f : Fld} (h : rd t f = rd s f) : rdW t f = rdW s f := congrArg (BitVec.ofNat 32) h

theorem posAngRead_latches (n : IfNo) {s : State} (h : coresRun s = true) : Completes (.posAngRead n) s fun t =>
    rd t (F.POS_IF_TURN_TURN n) = (s.ifc n).lvTurn.toNat ∧ rdW t (F.POS_IF_SPD_SPD n) = (s.ifc n).lvSpd ∧
    rdW t (F.POS_IF_ACC_ACC n) = (s.ifc n).lvAcc ∧ rdW t (F.POS_IF_ERR_E n) = (s.ifc n).lvErr ∧
    t.reg (A.POS_IF_STAT n) = BitVec.ofNat 32 ((s.ifc n).lvStat.toNat + 128 * b2n (ifFailed s n)) := by
  have hn : n.val < 16 := n.isLt
  refine ⟨flushLog (latchAng n s), if_neg (by simp [h]), ?_⟩
  beta_reduce
  rw [rd_flushLog_below (show A.POS_IF_TURN n < 0x0F0000 by unfold A.POS_IF_TURN; omega),
    rdW_of_rd (rd_flushLog_below (show A.POS_IF_SPD n < 0x0F0000 by unfold A.POS_IF_SPD; omega) _),
    rdW_of_rd (rd_flushLog_below (show A.POS_IF_ACC n < 0x0F0000 by unfold A.POS_IF_ACC; omega) _),
    rdW_of_rd (rd_flushLog_below (show A.POS_IF_ERR n < 0x0F0000 by unfold A.POS_IF_ERR; omega) _),
    flushLog_reg_below (by unfold A.POS_IF_STAT; omega)]
  have stat (f : Fld) (hf : f.off ≠ A.POS_IF_STAT n) (u : State) (w : Word) : rd (u.setReg (A.POS_IF_STAT n) w) f = rd u f := rd_setReg_off u f w hf
  have err (f : Fld) (hf : f.off ≠ A.POS_IF_ERR n) (u : State) (w : Word) : rd (wrW (F.POS_IF_ERR_E n) w u) f = rd u f := rd_wr_off u _ f _ hf
  have acc (f : Fld) (hf : f.off ≠ A.POS_IF_ACC n) (u : State) (w : Word) : rd (wrW (F.POS_IF_ACC_ACC n) w u) f = rd u f := rd_wr_off u _ f _ hf
  have spd (f : Fld) (hf : f.off ≠ A.POS_IF_SPD n) (u : State) (w : Word) : rd (wrW (F.POS_IF_SPD_SPD n) w u) f = rd u f := rd_wr_off u _ f _ hf
  unfold latchAng
  dsimp only
  refine ⟨?_, ?_, ?_, ?_, (reg_setReg _ _ _ _).trans (if_pos rfl)⟩
  · obtain ⟨hs, he, ha, hp⟩ : A.POS_IF_TURN n ≠ A.POS_IF_STAT n ∧ A.POS_IF_TURN n ≠ A.POS_IF_ERR n ∧ A.POS_IF_TURN n ≠ A.POS_IF_ACC n ∧ A.POS_IF_TURN n ≠ A.POS_IF_SPD n := by
      unfold A.POS_IF_TURN A.POS_IF_STAT A.POS_IF_ERR A.POS_IF_ACC A.POS_IF_SPD
      omega
    rw [stat _ hs, err _ he, acc _ ha, spd _ hp, rd_wr_same _ _ _ (show 0 + 16 ≤ 32 by decide)]
    exact Nat.mod_eq_of_lt (s.ifc n).lvTurn.isLt
  · obtain ⟨hs, he, ha⟩ : A.POS_IF_SPD n ≠ A.POS_IF_STAT n ∧ A.POS_IF_SPD n ≠ A.POS_IF_ERR n ∧ A.POS_IF_SPD n ≠ A.POS_IF_ACC n := by
      unfold A.POS_IF_STAT A.POS_IF_ERR A.POS_IF_ACC A.POS_IF_SPD
      omega
    rw [rdW_of_rd ((stat _ hs _ _).trans ((err _ he _ _).trans (acc _ ha _ _)))]
    exact rdW_wrW_same _ rfl rfl _
  · obtain ⟨hs, he⟩ : A.POS_IF_ACC n ≠ A.POS_IF_STAT n ∧ A.POS_IF_ACC n ≠ A.POS_IF_ERR n := by
      unfold A.POS_IF_STAT A.POS_IF_ERR A.POS_IF_ACC
      omega
    rw [rdW_of_rd ((stat _ hs _ _).trans (err _ he _ _))]
    exact rdW_wrW_same _ rfl rfl _
  · rw [rdW_of_rd (stat _ (show A.POS_IF_ERR n ≠ A.POS_IF_STAT n by unfold A.POS_IF_ERR A.POS_IF_STAT; omega) _ _)]
    exact rdW_wrW_same _ rfl rfl _

theorem posNpRead_latches (n : IfNo) {s : State} (h : coresRun s = true) : Completes (.posNpRead n) s fun t =>
    rd t (F.POS_IF_NPT_TURN n) = ((s.ifc n).np / (ifCpr s n : Int) % 65536).toNat := by
  have hn : n.val < 16 := n.isLt
  refine ⟨flushLog (latchNp n s), if_neg (by simp [h]), ?_⟩
  beta_reduce
  rw [rd_flushLog_below (show A.POS_IF_NPT n < 0x0F0000 by unfold A.POS_IF_NPT; omega), latchNp, wrI, rd_wr_same _ _ _ (show 0 + 16 ≤ 32 by decide)]
  change ((s.ifc n).np / (ifCpr s n : Int) % 65536).toNat % 65536 = _
  omega

/-! ### A write to a compare unit (R108) -/

/-- The state with P of a compare unit committed. -/
def cmpTaken (c : Nat) (v : Word) (s : State) : State :=
  let s := wr (F.POS_CMP_POS_POS c) v.toNat s
  s.setPos { s.pos with cmps := tset (fun _ => {}) s.pos.cmps c ⟨BitVec.ofNat 16 (rd s (F.POS_CMP_TURN_TURN c)), rd s (F.POS_CMP_POS_POS c)⟩ }
/-- P lies behind the interface in its last direction. -/
def cmpPassed (x : Ifc) (p : Int) : Bool :=
  if x.dir = 1 then decide (p ≤ x.np) else if x.dir = 2 then decide (p ≥ x.np) else decide (p = x.np)
theorem commitCmp_eq (c : Nat) (v : Word) (s : State) : commitCmp c v s =
    wrB (F.POS_CMP_STAT_PASSED c) (cmpPassed ((cmpTaken c v s).ifc (rd (cmpTaken c v s) (F.POS_CMP_CFG_IF c))) (cmpP (cmpTaken c v s) c))
      (wr (F.POS_CMP_STAT_ARMED c) 1 (cmpTaken c v s)) := rfl
theorem cmpTaken_reg {c p : Nat} (h : p ≠ A.POS_CMP_POS c) (v : Word) (s : State) : (cmpTaken c v s).reg p = s.reg p := reg_wr_other _ _ _ _ h
theorem commitCmp_reg {c p : Nat} (h : p ≠ A.POS_CMP_STAT c) (v : Word) (s : State) : (commitCmp c v s).reg p = (cmpTaken c v s).reg p :=
  (reg_wr_other _ (F.POS_CMP_STAT_PASSED c) _ _ h).trans (reg_wr_other _ (F.POS_CMP_STAT_ARMED c) _ _ h)
/-- P of a unit goes by its committed value, its interface, and the counts per turn there. -/
theorem cmpP_of_same {c : Nat} {s t : State} (hp : t.pos = s.pos) (hc : t.reg (A.POS_CMP_CFG c) = s.reg (A.POS_CMP_CFG c))
    (hq : ∀ n < 16, t.reg (A.POS_IF_CPR n) = s.reg (A.POS_IF_CPR n)) : cmpP t c = cmpP s c := by
  have hi : rd t (F.POS_CMP_CFG_IF c) = rd s (F.POS_CMP_CFG_IF c) := rd_of_reg hc
  have hk : ifCpr t (rd s (F.POS_CMP_CFG_IF c)) = ifCpr s (rd s (F.POS_CMP_CFG_IF c)) := rd_of_reg (hq _ (rd_lt s (F.POS_CMP_CFG_IF c)))
  unfold cmpP
  dsimp only
  rw [hi, hk, hp, ifc_of_pos hp]
theorem cmpP_commitCmp {c : Nat} (hc : c < 32) (v : Word) (s : State) : cmpP (flushLog (commitCmp c v s)) c = cmpP (cmpTaken c v s) c := by
  have kept {p : Nat} (h : p < 0x0F0000) (hs : p ≠ A.POS_CMP_STAT c) : (flushLog (commitCmp c v s)).reg p = (cmpTaken c v s).reg p :=
    (flushLog_reg_below h _).trans (commitCmp_reg hs v s)
  refine cmpP_of_same (flushLog_pos _) (kept ?_ ?_) fun n hn => kept ?_ ?_
  · unfold A.POS_CMP_CFG; omega
  · unfold A.POS_CMP_CFG A.POS_CMP_STAT; omega
  · unfold A.POS_IF_CPR; omega
  · unfold A.POS_IF_CPR A.POS_CMP_STAT; omega
theorem isSet_wrB (s : State) (f : Fld) (b : Bool) (h : f.lo + f.w ≤ 32) (hw : f.w = 1) : isSet (wrB f b s) f = b := by
  unfold isSet wrB
  rw [rd_wr_same _ _ _ h, hw]
  cases b <;> rfl
theorem commitCmp_passed {c : Nat} (hc : c < 32) (v : Word) (s : State) : isSet (flushLog (commitCmp c v s)) (F.POS_CMP_STAT_PASSED c) =
    cmpPassed (s.ifc (rd s (F.POS_CMP_CFG_IF c))) (cmpP (flushLog (commitCmp c v s)) c) := by
  have hi : rd (cmpTaken c v s) (F.POS_CMP_CFG_IF c) = rd s (F.POS_CMP_CFG_IF c) :=
    rd_of_reg (cmpTaken_reg (show A.POS_CMP_CFG c ≠ A.POS_CMP_POS c by unfold A.POS_CMP_CFG A.POS_CMP_POS; omega) v s)
  rw [cmpP_commitCmp hc, isSet_of_rd (rd_flushLog_below (show A.POS_CMP_STAT c < 0x0F0000 by unfold A.POS_CMP_STAT; omega) _), commitCmp_eq,
    isSet_wrB _ _ _ (show 1 + 1 ≤ 32 by decide) rfl, hi]
  rfl
theorem commitCmp_armed {c : Nat} (hc : c < 32) (v : Word) (s : State) : isSet (flushLog (commitCmp c v s)) (F.POS_CMP_STAT_ARMED c) = true := by
  have beside : rd (commitCmp c v s) (F.POS_CMP_STAT_ARMED c) = rd (wr (F.POS_CMP_STAT_ARMED c) 1 (cmpTaken c v s)) (F.POS_CMP_STAT_ARMED c) :=
    rd_wr_disj _ (F.POS_CMP_STAT_PASSED c) _ _ (show 1 + 1 ≤ 32 by decide) (show 2 + 1 ≤ 32 by decide) (.inl (show 1 + 1 ≤ 2 by decide))
  rw [isSet, rd_flushLog_below (show A.POS_CMP_STAT c < 0x0F0000 by unfold A.POS_CMP_STAT; omega), beside, rd_wr_same _ _ _ (show 2 + 1 ≤ 32 by decide)]
  rfl

theorem compareWrite_commits (c : Fin 32) (v : Word) {s : State} (h : coresRun s = true) : Completes (.compareWrite c v) s fun t =>
    isSet t (F.POS_CMP_STAT_ARMED c) = true ∧ rd t (F.POS_CMP_POS_POS c) = v.toNat % 2 ^ (F.POS_CMP_POS_POS c).w ∧
    ((s.ifc (rd s (F.POS_CMP_CFG_IF c))).dir = 1 →
      isSet t (F.POS_CMP_STAT_PASSED c) = decide (cmpP t c ≤ (s.ifc (rd s (F.POS_CMP_CFG_IF c))).np)) ∧
    ((s.ifc (rd s (F.POS_CMP_CFG_IF c))).dir = 2 →
      isSet t (F.POS_CMP_STAT_PASSED c) = decide ((s.ifc (rd s (F.POS_CMP_CFG_IF c))).np ≤ cmpP t c)) ∧
    ((s.ifc (rd s (F.POS_CMP_CFG_IF c))).dir = 0 →
      isSet t (F.POS_CMP_STAT_PASSED c) = decide (cmpP t c = (s.ifc (rd s (F.POS_CMP_CFG_IF c))).np)) := by
  have hc : c.val < 32 := c.isLt
  have passed := commitCmp_passed hc v s
  have pos : rd (commitCmp c v s) (F.POS_CMP_POS_POS c) = rd (cmpTaken c v s) (F.POS_CMP_POS_POS c) :=
    rd_of_reg (commitCmp_reg (show A.POS_CMP_POS c ≠ A.POS_CMP_STAT c by unfold A.POS_CMP_POS A.POS_CMP_STAT; omega) v s)
  refine ⟨flushLog (commitCmp c v s), if_neg (by simp [h]), commitCmp_armed hc v s, ?_, fun hd => ?_, fun hd => ?_, fun hd => ?_⟩
  · rw [rd_flushLog_below (show A.POS_CMP_POS c < 0x0F0000 by unfold A.POS_CMP_POS; omega), pos]
    exact rd_wr_same s (F.POS_CMP_POS_POS c) v.toNat (show 0 + 24 ≤ 32 by decide)
  · rw [passed, cmpPassed, if_pos hd]
  · rw [passed, cmpPassed, if_neg (by simp [hd]), if_pos hd]
  · rw [passed, cmpPassed, if_neg (by simp [hd]), if_neg (by simp [hd])]

/-! ### Recovery (R105) -/

/-- An axis without an align offset. -/
def axisUnaligned (a : Nat) (s : State) : State :=
  if (s.ax a).alignRef.isSome then wr (F.LE_AX_STATE_OFSVALID a) 0 (modAx a (fun y => { y with alignRef := none }) s) else s
theorem axisUnaligned_pos (a : Nat) (s : State) : (axisUnaligned a s).pos = s.pos := by
  unfold axisUnaligned
  split <;> rfl
theorem axisUnaligned_reg {a p : Nat} (h : p ≠ A.LE_AX_STATE a) (s : State) : (axisUnaligned a s).reg p = s.reg p := by
  unfold axisUnaligned
  split
  · exact reg_wr_other _ (F.LE_AX_STATE_OFSVALID a) _ _ h
  · rfl
/-- An interface at the start of a new acquisition. -/
def ifcRestarted (x : Ifc) : Ifc :=
  { x with resync := true, fresh := true, badRun := 0, ampRun := 0, obsRun := 0, meas := none, spdValid := false }
/-- The state with the flags of an interface cleared and its acquisition begun. -/
def ifRestarted (n : Nat) (s : State) : State := modIfc n ifcRestarted (s.setReg (A.POS_IF_FLT n) 0)
theorem recoverIf_eq (n : Nat) (s : State) : recoverIf n s = each axisUnaligned (ifAxes (ifRestarted n s) n) (ifRestarted n s) := rfl

theorem posRecovery_restarts (n : IfNo) {s : State} (h : coresRun s = true) (hm : mayRecover s n = true) :
    Completes (.posRecovery n) s fun t =>
      t.reg (A.POS_IF_FLT n) = 0 ∧ (t.ifc n).fresh = true ∧ (t.ifc n).resync = true ∧ (t.ifc n).badRun = 0 := by
  have hn : n.val < 16 := n.isLt
  have cleared : (recoverIf n s).reg (A.POS_IF_FLT n) = 0 := by
    rw [recoverIf_eq, each_reg_of_mem axisUnaligned _ _ fun a _ u => axisUnaligned_reg (by unfold A.POS_IF_FLT A.LE_AX_STATE; omega) u]
    exact (reg_setReg _ _ _ _).trans (if_pos rfl)
  have restarted : (flushLog (recoverIf n s)).ifc n = ifcRestarted (s.ifc n) := by
    rw [flushLog_ifc, recoverIf_eq, ifc_of_pos (each_keep State.pos axisUnaligned axisUnaligned_pos _ _), ifRestarted, modIfc_ifc]
    rfl
  refine ⟨flushLog (recoverIf n s), (if_neg (by simp [h])).trans (if_pos hm), ?_⟩
  beta_reduce
  rw [restarted, flushLog_reg_below (by unfold A.POS_IF_FLT; omega)]
  exact ⟨cleared, rfl, rfl, rfl⟩

/-- Settles O13: an update that is served begins or steps the observer, and each access to its registers does what it latches. -/
theorem observerRegistersLatch : Obligations.ObserverRegistersLatch :=
  ⟨fun _ _ _ _ hr hf hm hv ha hn => observerUpdate_begins hr hf hm hv ha hn,
    fun _ _ _ hr hf hm hv hn hrest hstill => observerUpdate_steps hr hf hm hv hn hrest hstill,
    fun n _ h => posAngRead_latches n h, fun n _ h => posNpRead_latches n h, fun c v _ h => compareWrite_commits c v h,
    fun n _ h hm => posRecovery_restarts n h hm⟩

end Sys2Proof.Machine
end

section
/-! ## The sample phase of a team (R100, R120) -/
namespace Sys2Proof.Machine
open Sys2Proof

/-! ### The snapshots (R100) -/

/-- The bytes of a snapshot in the input area. -/
def snapBytes (p : Snap) : List Byte :=
  leBytes 4 p.ang.toNat ++ leBytes 2 p.turn.toNat ++ [p.flags, 0] ++ leBytes 4 p.spd.toNat ++ leBytes 4 p.acc.toNat
theorem snapBytes_length (p : Snap) : (snapBytes p).length = 16 := by simp [snapBytes, leBytes_length]
/-- Both copies of the snapshot of an axis. -/
def snapAxis (t delta a : Nat) (s : State) : State :=
  let p := snapOf s (rd s (F.LE_AX_CFG_POSIF a)) t delta
  modAx a (fun x => { x with dup := p }) (wrBytes (inBase a) (snapBytes p) s)
/-- The axes of a team with a position interface. -/
def snapAxes (t : Nat) (s : State) : List Nat := (teamAxes s t).filter fun a => isSet s (F.LE_AX_CFG_POSEN a)
/-- REV of an interface shown to a team. -/
def revShown (t n : Nat) (s : State) : State := modIfc n (fun x => { x with revTeams := x.revTeams &&& ~~~(1#8 <<< t) }) s
/-- REV of every interface of some axes shown to a team. -/
def revsShown (t : Nat) (l : List Nat) (s : State) : State := each (fun a => revShown t (rd s (F.LE_AX_CFG_POSIF a))) l s
theorem snapTeam_eq (t delta : Nat) (s : State) :
    snapTeam t delta s = revsShown t (snapAxes t s) (each (snapAxis t delta) (snapAxes t s) s) := rfl

theorem revsShown_mem (t : Nat) (l : List Nat) (s : State) : (revsShown t l s).mem = s.mem := 
  each_keep State.mem (fun a => revShown t (rd s (F.LE_AX_CFG_POSIF a))) (fun _ _ => rfl) l s
theorem revsShown_regs (t : Nat) (l : List Nat) (s : State) : (revsShown t l s).regs = s.regs := 
  each_keep State.regs (fun a => revShown t (rd s (F.LE_AX_CFG_POSIF a))) (fun _ _ => rfl) l s
theorem revsShown_drive (t : Nat) (l : List Nat) (s : State) : (revsShown t l s).drive = s.drive := 
  each_keep State.drive (fun a => revShown t (rd s (F.LE_AX_CFG_POSIF a))) (fun _ _ => rfl) l s

theorem rd_of_regs {s u : State} (h : u.regs = s.regs) (f : Fld) : rd u f = rd s f := rd_of_reg (reg_of_regs h _)
theorem ax_of_drive {s u : State} (h : u.drive = s.drive) (a : Nat) : u.ax a = s.ax a := by
  unfold State.ax
  rw [h]
/-- A snapshot goes by the interfaces and the registers. -/
theorem snapOf_of_same {s u : State} (hp : u.pos = s.pos) (hr : u.regs = s.regs) (n t delta : Nat) : snapOf u n t delta = snapOf s n t delta := by
  unfold snapOf ifCpr ifFailed isSet rd State.reg
  rw [ifc_of_pos hp, hr]
theorem inBase_apart {a b : Nat} (h : b ≠ a) : inBase a + 16 ≤ inBase b ∨ inBase b + 16 ≤ inBase a := by
  unfold inBase leBase
  omega
theorem actBase_apart (a b : Nat) : actBase a + 0x2C ≤ inBase b ∨ inBase b + 16 ≤ actBase a := by
  unfold inBase actBase leBase
  omega

/-- What the snapshots leave of a state: the interfaces, the registers, the records in use and the set-point copies. -/
structure SnapKeeps (s u : State) : Prop where
  pos : u.pos = s.pos
  regs : u.regs = s.regs
  sp : ∀ b, (u.ax b).sp = (s.ax b).sp
  act : ∀ a, ∀ i < 0x2C, rdB u (actBase a + i) = rdB s (actBase a + i)
/-- Both copies of the snapshot of axis a. -/
def Snapped (p : Snap) (a : Nat) (u : State) : Prop := (u.ax a).dup = p ∧ rdBytes u (inBase a) 16 = snapBytes p

theorem SnapKeeps.refl (s : State) : SnapKeeps s s := ⟨rfl, rfl, fun _ => rfl, fun _ _ _ => rfl⟩

section
variable {s : State} (t delta : Nat)
theorem snapAxis_keeps (a : Nat) {u : State} (h : SnapKeeps s u) : SnapKeeps s (snapAxis t delta a u) := by
  refine ⟨h.pos, h.regs, fun b => ?_, fun b i hi => ?_⟩
  · refine Eq.trans ?_ (h.sp b)
    rw [snapAxis, ax_modAx]
    split
    · next hb => rw [hb]; rfl
    · rfl
  · have apart := actBase_apart b a
    exact (rdB_wrBytes_other u (inBase a) _ _ (by rw [snapBytes_length]; omega)).trans (h.act b i hi)
theorem snapAxis_snaps (a : Nat) {u : State} (h : SnapKeeps s u) : Snapped (snapOf s (rd s (F.LE_AX_CFG_POSIF a)) t delta) a (snapAxis t delta a u) := by
  have hp : snapOf u (rd u (F.LE_AX_CFG_POSIF a)) t delta = snapOf s (rd s (F.LE_AX_CFG_POSIF a)) t delta := by
    rw [snapOf_of_same h.pos h.regs, rd_of_regs h.regs]
  refine ⟨?_, ?_⟩
  · rw [snapAxis, ax_modAx, if_pos rfl]
    exact hp
  · rw [snapAxis, hp, ← snapBytes_length (snapOf s (rd s (F.LE_AX_CFG_POSIF a)) t delta)]
    exact rdBytes_wrBytes_same _ _ u
/-- The snapshot of another axis lies beside that of axis a. -/
theorem snapAxis_beside {a b : Nat} (hne : b ≠ a) {p : Snap} {u : State} (h : Snapped p a u) : Snapped p a (snapAxis t delta b u) := by
  obtain ⟨hdup, hbytes⟩ := h
  refine ⟨?_, (rdBytes_wrBytes_other ?_ u).trans hbytes⟩
  · rw [snapAxis, ax_modAx, if_neg hne.symm]
    exact hdup
  · rw [snapBytes_length]
    exact inBase_apart hne
end

/-- A set-point record goes by the bytes of its copy. -/
theorem readSetP_of_bytes {s u : State} {b : Nat} (h : ∀ i < 0x2C, rdB u (b + i) = rdB s (b + i)) : readSetP u b = readSetP s b := by
  have word (k : Nat) (hk : k ≤ 0x28) : rd32 u (b + k) = rd32 s (b + k) := rd32_of_bytes fun i hi => by
    rw [Nat.add_assoc]
    exact h (k + i) (by omega)
  have first : rd32 u b = rd32 s b := word 0 (by decide)
  unfold readSetP
  simp only [first, word _ (show 4 ≤ 0x28 by decide), word _ (show 8 ≤ 0x28 by decide), word _ (show 0xC ≤ 0x28 by decide),
    word _ (show 0x10 ≤ 0x28 by decide), word _ (show 0x14 ≤ 0x28 by decide), word _ (show 0x18 ≤ 0x28 by decide),
    word _ (show 0x1C ≤ 0x28 by decide), word _ (show 0x20 ≤ 0x28 by decide), word _ (show 0x24 ≤ 0x28 by decide), word _ (Nat.le_refl 0x28)]

theorem snapTeam_regs (t delta : Nat) (s : State) : (snapTeam t delta s).regs = s.regs := by
  rw [snapTeam_eq, revsShown_regs]
  exact each_keep State.regs (snapAxis t delta) (fun _ _ => rfl) _ _
theorem snapAxes_keep (t delta : Nat) (s : State) : SnapKeeps s (each (snapAxis t delta) (snapAxes t s) s) :=
  each_of_mem_ind (snapAxis t delta) (fun a _ _ h => snapAxis_keeps t delta a h) (.refl s)
theorem snapTeam_sp (t delta : Nat) (s : State) (b : Nat) : ((snapTeam t delta s).ax b).sp = (s.ax b).sp := by
  rw [snapTeam_eq, ax_of_drive (revsShown_drive _ _ _)]
  exact (snapAxes_keep t delta s).sp b
theorem snapTeam_readSetP (t delta : Nat) (s : State) (a : Nat) : readSetP (snapTeam t delta s) (actBase a) = readSetP s (actBase a) := by
  refine readSetP_of_bytes fun i hi => ?_
  rw [snapTeam_eq, rdB_of_mem (revsShown_mem _ _ _)]
  exact (snapAxes_keep t delta s).act a i hi
/-- Each axis of the team with a position interface has both copies of its snapshot. -/
theorem snapTeam_snaps (t delta : Nat) {s : State} {a : Nat} (ha : a ∈ snapAxes t s) :
    Snapped (snapOf s (rd s (F.LE_AX_CFG_POSIF a)) t delta) a (snapTeam t delta s) := by
  have snapped : Snapped (snapOf s (rd s (F.LE_AX_CFG_POSIF a)) t delta) a (each (snapAxis t delta) (snapAxes t s) s) := by
    refine (each_of_mem (f := snapAxis t delta)
      (P := fun u => SnapKeeps s u ∧ Snapped (snapOf s (rd s (F.LE_AX_CFG_POSIF a)) t delta) a u) (Q := SnapKeeps s)
      (fun u hu => ⟨snapAxis_keeps t delta a hu, snapAxis_snaps t delta a hu⟩) (fun b _ u hu => ⟨snapAxis_keeps t delta b hu.1, ?_⟩)
      (fun b _ u hu => snapAxis_keeps t delta b hu) ha (.refl s)).2
    by_cases hne : b = a
    · rw [hne]
      exact snapAxis_snaps t delta a hu.1
    · exact snapAxis_beside t delta hne hu.2
  rw [snapTeam_eq]
  exact ⟨(congrArg Axis.dup (ax_of_drive (revsShown_drive _ _ _) a)).trans snapped.1, (rdBytes_of_mem (revsShown_mem _ _ _) _ _).trans snapped.2⟩

/-! ### The latch of the set-points (R120) -/

/-- The part of the sample phase that is an axis's own: the latch, the wait of start path P1, the ramp. -/
def axisSampled (a : Nat) (s : State) : State :=
  if axType s a = 7 then s else
  let s := p1Wait a (latchSetP a s)
  if rampRuns s a then rampAxis a s else s
theorem samplePhase_samples {t : TeamNo} {s : State} (ha : armedOn s = true) (ht : t.val < s.nTeams) : exec (.samplePhase t) s =
    done (each axisSampled (teamAxes (snapTeam t (obsDelta s t) s) t) (snapTeam t (obsDelta s t) s)) := if_pos ⟨ha, ht⟩

/-- What the part of axis a leaves of a state, the log aside: memory, the snapshots, the records in use of the other axes, and the registers that are not its own. -/
structure SampleOf (a : Nat) (s u : State) : Prop where
  mem : u.mem = s.mem
  dup : ∀ b, (u.ax b).dup = (s.ax b).dup
  sp : ∀ b ≠ a, (u.ax b).sp = (s.ax b).sp
  reg : ∀ p < 0x0F0000, p ≠ A.LE_AX_FLT a → p ≠ A.LE_AX_STATE a → p ≠ A.LE_AX_STAT a → u.reg p = s.reg p
theorem SampleOf.refl (a : Nat) (s : State) : SampleOf a s s := ⟨rfl, fun _ => rfl, fun _ _ => rfl, fun _ _ _ _ _ => rfl⟩
theorem SampleOf.trans {a : Nat} {s u v : State} (h : SampleOf a s u) (k : SampleOf a u v) : SampleOf a s v :=
  ⟨k.mem.trans h.mem, fun b => (k.dup b).trans (h.dup b), fun b hb => (k.sp b hb).trans (h.sp b hb),
    fun p hp hf hs ht => (k.reg p hp hf hs ht).trans (h.reg p hp hf hs ht)⟩
/-- A change of the record of axis a that leaves its snapshot. -/
theorem sampleOf_modAx (a : Nat) {f : Axis → Axis} (hf : ∀ x, (f x).dup = x.dup) (s : State) : SampleOf a s (modAx a f s) := by
  refine ⟨rfl, fun b => ?_, fun b hb => ?_, fun _ _ _ _ _ => rfl⟩
  · rw [ax_modAx]
    split
    · next hb => rw [hb, hf]
    · rfl
  · rw [ax_modAx, if_neg hb]
theorem sampleOf_wr (a : Nat) {f : Fld} (hf : f.off = A.LE_AX_FLT a ∨ f.off = A.LE_AX_STATE a ∨ f.off = A.LE_AX_STAT a) (v : Nat) (s : State) :
    SampleOf a s (wr f v s) :=
  ⟨rfl, fun _ => rfl, fun _ _ => rfl, fun p _ hf' hs ht => reg_wr_other s f v p (by omega)⟩
theorem sampleOf_logFault (a code src c data : Nat) (s : State) : SampleOf a s (logFault code src c data s) :=
  ⟨logFault_mem _ _ _ _ s, fun b => congrArg Axis.dup (ax_of_drive (logFault_drive _ _ _ _ s) b),
    fun b _ => congrArg Axis.sp (ax_of_drive (logFault_drive _ _ _ _ s) b), fun _ hp _ _ _ => logFault_reg_below hp _ _ _ _ s⟩

/-- The record in use of axis a and its fault register stay. -/
structure KeepsSetP (a : Nat) (s u : State) : Prop where
  sp : (u.ax a).sp = (s.ax a).sp
  flt : u.reg (A.LE_AX_FLT a) = s.reg (A.LE_AX_FLT a)
theorem KeepsSetP.trans {a : Nat} {s u v : State} (h : KeepsSetP a s u) (k : KeepsSetP a u v) : KeepsSetP a s v := ⟨k.sp.trans h.sp, k.flt.trans h.flt⟩
theorem ax_modAx_same (a : Nat) (f : Axis → Axis) (s : State) : (modAx a f s).ax a = f (s.ax a) := (ax_modAx a a f s).trans (if_pos rfl)
theorem keepsSetP_modAx (a : Nat) {f : Axis → Axis} (hf : ∀ x, (f x).sp = x.sp) (s : State) : KeepsSetP a s (modAx a f s) :=
  ⟨(congrArg Axis.sp (ax_modAx_same a f s)).trans (hf _), rfl⟩
theorem keepsSetP_wr (a : Nat) {f : Fld} (hf : A.LE_AX_FLT a ≠ f.off) (v : Nat) (s : State) : KeepsSetP a s (wr f v s) :=
  ⟨rfl, reg_wr_other s f v _ hf⟩
theorem fltState_apart (a : Nat) : A.LE_AX_FLT a ≠ A.LE_AX_STATE a := by
  unfold A.LE_AX_FLT A.LE_AX_STATE
  omega
theorem fltStat_apart (a : Nat) : A.LE_AX_FLT a ≠ A.LE_AX_STAT a := by
  unfold A.LE_AX_FLT A.LE_AX_STAT
  omega

/-- An axis whose closed loop begins. -/
def loopBegun (x : Axis) : Axis := { x with closed := true, closedRan := false }
theorem closeLoop_eq (a src : Nat) (s : State) :
    closeLoop a src s = wr (F.LE_AX_STATE_ANGSRC a) src (wr (F.LE_AX_STATE_STEP a) 0 (modAx a loopBegun s)) := rfl
theorem p1Wait_sampleOf (a : Nat) (s : State) : SampleOf a s (p1Wait a s) ∧ KeepsSetP a s (p1Wait a s) := by
  unfold p1Wait
  dsimp only
  split
  · rw [closeLoop_eq]
    exact ⟨(sampleOf_modAx a (f := loopBegun) (fun _ => rfl) s).trans ((sampleOf_wr a (f := F.LE_AX_STATE_STEP a) (.inr (.inl rfl)) 0 _).trans
        (sampleOf_wr a (f := F.LE_AX_STATE_ANGSRC a) (.inr (.inl rfl)) 0 _)),
      (keepsSetP_modAx a (f := loopBegun) (fun _ => rfl) s).trans ((keepsSetP_wr a (f := F.LE_AX_STATE_STEP a) (fltState_apart a) 0 _).trans
        (keepsSetP_wr a (f := F.LE_AX_STATE_ANGSRC a) (fltState_apart a) 0 _))⟩
  · exact ⟨.refl a s, rfl, rfl⟩

/-- An axis with another ramp. -/
def rampSet (r : RampSt) (x : Axis) : Axis := { x with ramp := r }
theorem rampAxis_eq (a : Nat) (s : State) : ∃ r dwell act, rampAxis a s =
    wrB (F.LE_AX_STAT_DWELL a) dwell (wrB (F.LE_AX_STAT_RAMPACT a) act (modAx a (rampSet r) s)) := ⟨_, _, _, rfl⟩
theorem rampAxis_sampleOf (a : Nat) (s : State) : SampleOf a s (rampAxis a s) ∧ KeepsSetP a s (rampAxis a s) := by
  obtain ⟨r, dwell, act, h⟩ := rampAxis_eq a s
  rw [h]
  exact ⟨(sampleOf_modAx a (f := rampSet r) (fun _ => rfl) s).trans ((sampleOf_wr a (f := F.LE_AX_STAT_RAMPACT a) (.inr (.inr rfl)) _ _).trans
      (sampleOf_wr a (f := F.LE_AX_STAT_DWELL a) (.inr (.inr rfl)) _ _)),
    (keepsSetP_modAx a (f := rampSet r) (fun _ => rfl) s).trans ((keepsSetP_wr a (f := F.LE_AX_STAT_RAMPACT a) (fltStat_apart a) _ _).trans
      (keepsSetP_wr a (f := F.LE_AX_STAT_DWELL a) (fltStat_apart a) _ _))⟩

/-- An axis whose active copy has been seen. -/
def setPSeen (x : Axis) : Axis := { x with spNew := false }
/-- An axis with another record in use. -/
def setPTaken (p : SetP) (x : Axis) : Axis := { x with sp := p }
/-- The state with a record refused. -/
def setPRefused (a : Nat) (new : Bool) (p : SetP) (s : State) : State :=
  let s := wr (F.LE_AX_FLT_SPINVAL a) 1 s
  if new then logFault 0x0404 a 1 p.kind s else s
theorem latchSetP_eq (a : Nat) (s : State) : latchSetP a s = if setPOk s a (readSetP s (actBase a)) then
    modAx a (setPTaken (readSetP s (actBase a))) (modAx a setPSeen s) else setPRefused a (s.ax a).spNew (readSetP s (actBase a)) (modAx a setPSeen s) := rfl
theorem setPRefused_sampleOf (a : Nat) (new : Bool) (p : SetP) (s : State) : SampleOf a s (setPRefused a new p s) := by
  have flagged := sampleOf_wr a (f := F.LE_AX_FLT_SPINVAL a) (.inl rfl) 1 s
  unfold setPRefused
  dsimp only
  split
  · exact flagged.trans (sampleOf_logFault a _ _ _ _ _)
  · exact flagged
theorem latchSetP_sampleOf (a : Nat) (s : State) : SampleOf a s (latchSetP a s) := by
  have seen := sampleOf_modAx a (f := setPSeen) (fun _ => rfl) s
  rw [latchSetP_eq]
  split
  · exact seen.trans (sampleOf_modAx a (f := setPTaken _) (fun _ => rfl) _)
  · exact seen.trans (setPRefused_sampleOf a _ _ _)
theorem setPOk_of_cfg {s u : State} {a : Nat} (h : u.reg (A.LE_AX_CFG a) = s.reg (A.LE_AX_CFG a)) (p : SetP) : setPOk u a p = setPOk s a p := by
  have ht : axType u a = axType s a := rd_of_reg (f := F.LE_AX_CFG_TYPE a) h
  have hs : isSet u (F.LE_AX_CFG_SPDEN a) = isSet s (F.LE_AX_CFG_SPDEN a) := isSet_of_rd (rd_of_reg (f := F.LE_AX_CFG_SPDEN a) h)
  have hp : isSet u (F.LE_AX_CFG_PLEN a) = isSet s (F.LE_AX_CFG_PLEN a) := isSet_of_rd (rd_of_reg (f := F.LE_AX_CFG_PLEN a) h)
  unfold setPOk kindOk
  rw [ht, hs, hp]
theorem latchSetP_accepts {a : Nat} {s : State} (h : setPOk s a (readSetP s (actBase a)) = true) : ((latchSetP a s).ax a).sp = readSetP s (actBase a) := by
  rw [latchSetP_eq, if_pos h, ax_modAx_same]
  rfl
theorem setPRefused_sp (a : Nat) (new : Bool) (p : SetP) (s : State) (b : Nat) : ((setPRefused a new p s).ax b).sp = (s.ax b).sp := by
  unfold setPRefused
  dsimp only
  split
  · exact congrArg Axis.sp (ax_of_drive (logFault_drive _ _ _ _ _) b)
  · rfl
theorem setPRefused_flagged {a : Nat} (ha : a < 32) (new : Bool) (p : SetP) (s : State) :
    isSet (setPRefused a new p s) (F.LE_AX_FLT_SPINVAL a) = true := by
  have flagged : isSet (wr (F.LE_AX_FLT_SPINVAL a) 1 s) (F.LE_AX_FLT_SPINVAL a) = true :=
    congrArg (· != 0) (rd_wr_same s (F.LE_AX_FLT_SPINVAL a) 1 (show 1 + 1 ≤ 32 by decide))
  have below : A.LE_AX_FLT a < 0x0F0000 := by
    unfold A.LE_AX_FLT
    omega
  unfold setPRefused
  dsimp only
  split
  · exact (isSet_of_rd (rd_of_reg (f := F.LE_AX_FLT_SPINVAL a) (logFault_reg_below below _ _ _ _ _))).trans flagged
  · exact flagged
theorem latchSetP_refuses {a : Nat} (ha : a < 32) {s : State} (h : setPOk s a (readSetP s (actBase a)) = false) :
    ((latchSetP a s).ax a).sp = (s.ax a).sp ∧ isSet (latchSetP a s) (F.LE_AX_FLT_SPINVAL a) = true := by
  rw [latchSetP_eq, if_neg (by simp [h])]
  exact ⟨(setPRefused_sp a _ _ _ a).trans (keepsSetP_modAx a (f := setPSeen) (fun _ => rfl) s).sp, setPRefused_flagged ha _ _ _⟩

/-! ### The axes of the team in turn -/

/-- The ramp where it runs. -/
def rampStepped (a : Nat) (s : State) : State := if rampRuns s a then rampAxis a s else s
theorem rampStepped_sampleOf (a : Nat) (s : State) : SampleOf a s (rampStepped a s) ∧ KeepsSetP a s (rampStepped a s) := by
  unfold rampStepped
  split
  · exact rampAxis_sampleOf a s
  · exact ⟨.refl a s, rfl, rfl⟩
theorem axisSampled_eq {a : Nat} {s : State} (h : axType s a ≠ 7) : axisSampled a s = rampStepped a (p1Wait a (latchSetP a s)) := if_neg h
theorem axisSampled_sampleOf (a : Nat) (s : State) : SampleOf a s (axisSampled a s) := by
  by_cases h : axType s a = 7
  · have spanned : axisSampled a s = s := if_pos h
    rw [spanned]
    exact .refl a s
  · rw [axisSampled_eq h]
    exact (latchSetP_sampleOf a s).trans ((p1Wait_sampleOf a _).1.trans (rampStepped_sampleOf a _).1)
/-- Behind the latch nothing touches the record in use of the axis or its faults. -/
theorem axisSampled_keepsSetP {a : Nat} {s : State} (h : axType s a ≠ 7) : KeepsSetP a (latchSetP a s) (axisSampled a s) := by
  rw [axisSampled_eq h]
  exact (p1Wait_sampleOf a _).2.trans (rampStepped_sampleOf a _).2

/-- What the parts of all axes leave of a state. -/
structure SampleKeeps (s u : State) : Prop where
  mem : u.mem = s.mem
  dup : ∀ b, (u.ax b).dup = (s.ax b).dup
  cfg : ∀ b < 32, u.reg (A.LE_AX_CFG b) = s.reg (A.LE_AX_CFG b)
theorem SampleKeeps.refl (s : State) : SampleKeeps s s := ⟨rfl, fun _ => rfl, fun _ _ => rfl⟩
theorem SampleKeeps.step {s u : State} (h : SampleKeeps s u) (a : Nat) : SampleKeeps s (axisSampled a u) := by
  have own := axisSampled_sampleOf a u
  refine ⟨own.mem.trans h.mem, fun b => (own.dup b).trans (h.dup b), fun b hb => (own.reg _ ?_ ?_ ?_ ?_).trans (h.cfg b hb)⟩
  · unfold A.LE_AX_CFG; omega
  · unfold A.LE_AX_CFG A.LE_AX_FLT; omega
  · unfold A.LE_AX_CFG A.LE_AX_STATE; omega
  · unfold A.LE_AX_CFG A.LE_AX_STAT; omega
theorem readSetP_of_mem {s u : State} (h : u.mem = s.mem) (b : Nat) : readSetP u b = readSetP s b := readSetP_of_bytes fun i _ => rdB_of_mem h (b + i)

section
variable {s : State} {a : Nat} (ha : a < 32) (h7 : axType s a ≠ 7)
include ha h7

/-- The part of axis a with a good record takes it, and the others leave it. -/
theorem axesSampled_accept {l : List Nat} (hm : a ∈ l) (h : setPOk s a (readSetP s (actBase a)) = true) :
    ((each axisSampled l s).ax a).sp = readSetP s (actBase a) := by
  have takes (u : State) (hu : SampleKeeps s u) : ((axisSampled a u).ax a).sp = readSetP s (actBase a) := by
    have hr := readSetP_of_mem hu.mem (actBase a)
    rw [(axisSampled_keepsSetP (by rwa [axType_of_cfg hu.cfg ha])).sp, latchSetP_accepts (by rw [setPOk_of_cfg (hu.cfg a ha), hr]; exact h), hr]
  refine (each_of_mem (f := axisSampled) (P := fun u => SampleKeeps s u ∧ (u.ax a).sp = readSetP s (actBase a)) (Q := SampleKeeps s)
    (fun u hu => ⟨hu.step a, takes u hu⟩) (fun b _ u hu => ⟨hu.1.step b, ?_⟩) (fun b _ u hu => hu.step b) hm (.refl s)).2
  by_cases hne : a = b
  · exact hne ▸ takes u hu.1
  · exact ((axisSampled_sampleOf b u).sp a hne).trans hu.2
/-- The part of axis a with a bad record keeps the one in use and sets SPINVAL, and the others leave both. -/
theorem axesSampled_refuse {l : List Nat} (hl : ∀ b ∈ l, b < 32) (hm : a ∈ l) (h : setPOk s a (readSetP s (actBase a)) = false) :
    ((each axisSampled l s).ax a).sp = (s.ax a).sp ∧ isSet (each axisSampled l s) (F.LE_AX_FLT_SPINVAL a) = true := by
  have refuses (u : State) (hu : SampleKeeps s u) (hs : (u.ax a).sp = (s.ax a).sp) :
      ((axisSampled a u).ax a).sp = (s.ax a).sp ∧ isSet (axisSampled a u) (F.LE_AX_FLT_SPINVAL a) = true := by
    obtain ⟨sp, flagged⟩ := latchSetP_refuses ha (s := u) (by rw [setPOk_of_cfg (hu.cfg a ha), readSetP_of_mem hu.mem]; exact h)
    have kept := axisSampled_keepsSetP (a := a) (s := u) (by rwa [axType_of_cfg hu.cfg ha])
    exact ⟨kept.sp.trans (sp.trans hs), (isSet_of_rd (rd_of_reg (f := F.LE_AX_FLT_SPINVAL a) kept.flt)).trans flagged⟩
  have beside (b : Nat) (hb : b < 32) (hne : a ≠ b) (u : State) : (axisSampled b u).reg (A.LE_AX_FLT a) = u.reg (A.LE_AX_FLT a) := by
    refine (axisSampled_sampleOf b u).reg _ ?_ ?_ ?_ ?_
    · unfold A.LE_AX_FLT; omega
    · unfold A.LE_AX_FLT; omega
    · unfold A.LE_AX_FLT A.LE_AX_STATE; omega
    · unfold A.LE_AX_FLT A.LE_AX_STAT; omega
  refine (each_of_mem (f := axisSampled)
    (P := fun u => SampleKeeps s u ∧ (u.ax a).sp = (s.ax a).sp ∧ isSet u (F.LE_AX_FLT_SPINVAL a) = true)
    (Q := fun u => SampleKeeps s u ∧ (u.ax a).sp = (s.ax a).sp) (fun u hu => ⟨hu.1.step a, refuses u hu.1 hu.2⟩)
    (fun b hb u hu => ⟨hu.1.step b, ?_⟩) (fun b _ u hu => ⟨hu.1.step b, ?_⟩) hm ⟨.refl s, rfl⟩).2
  · by_cases hne : a = b
    · exact hne ▸ refuses u hu.1 hu.2.1
    · exact ⟨((axisSampled_sampleOf b u).sp a hne).trans hu.2.1,
        (isSet_of_rd (rd_of_reg (f := F.LE_AX_FLT_SPINVAL a) (beside b (hl b hb) hne u))).trans hu.2.2⟩
  · by_cases hne : a = b
    · exact hne ▸ (refuses u hu.1 hu.2).1
    · exact ((axisSampled_sampleOf b u).sp a hne).trans hu.2
end

/-- Settles O14: the snapshots leave the set-point copies, and the part of each axis leaves the snapshots and what the others have latched. -/
theorem samplePhaseLatchesSetpoints : Obligations.SamplePhaseLatchesSetpoints := by
  unfold Obligations.SamplePhaseLatchesSetpoints
  intro t s ha ht
  have hm : t.val < 8 := t.isLt
  generalize hv : snapTeam t (obsDelta s t) s = v
  have regs : v.regs = s.regs := hv ▸ snapTeam_regs t (obsDelta s t) s
  have team : teamAxes v t = teamAxes s t := teamAxes_of_cfg (fun b _ => reg_of_regs regs _) hm
  have sampled := samplePhase_samples ha ht
  rw [hv, team] at sampled
  have keeps : SampleKeeps v (each axisSampled (teamAxes s t) v) :=
    each_of_mem_ind axisSampled (fun b _ u hu => hu.step b) (.refl v)
  refine ⟨_, sampled, fun a hat => ?_⟩
  have ha32 := teamAxes_lt hm hat
  have type : axType v a = axType s a := rd_of_regs regs _
  have record : setPOk v a (readSetP v (actBase a)) = setPOk s a (readSetP s (actBase a)) := by
    rw [setPOk_of_cfg (reg_of_regs regs _), ← hv, snapTeam_readSetP]
  have ax (b : Nat) : (flushLog (each axisSampled (teamAxes s t) v)).ax b = (each axisSampled (teamAxes s t) v).ax b := ax_of_drive (flushLog_drive _) b
  rw [ax, rdBytes_of_mem ((flushLog_mem _).trans keeps.mem), keeps.dup]
  refine ⟨fun hp => ?_, fun h7 hok => ?_, fun h7 hbad => ?_⟩
  · obtain ⟨dup, bytes⟩ := snapTeam_snaps t (obsDelta s t) (List.mem_filter.mpr ⟨hat, hp⟩)
    rw [hv] at dup bytes
    exact ⟨dup, dup ▸ bytes⟩
  · rw [axesSampled_accept ha32 (by rwa [type]) hat (record.trans hok), ← hv, snapTeam_readSetP]
  · obtain ⟨sp, flagged⟩ := axesSampled_refuse ha32 (by rwa [type]) (fun b hb => teamAxes_lt hm hb) hat (record.trans hbad)
    have below : A.LE_AX_FLT a < 0x0F0000 := by
      unfold A.LE_AX_FLT
      omega
    exact ⟨sp.trans (hv ▸ snapTeam_sp t (obsDelta s t) s a),
      (isSet_of_rd (rd_of_reg (f := F.LE_AX_FLT_SPINVAL a) (flushLog_reg_below below _))).trans flagged⟩

end Sys2Proof.Machine
end

section
/-! ## The frames of a spanned axis, taken or lost (R139 to R141) -/
namespace Sys2Proof.Machine
open Sys2Proof

/-! ### A reaction leaves the halves of a spanned axis -/

/-- The records of the axes stand under what changes other records of the drive alone. -/
theorem ax_of_axes {s t : State} (h : t.drive.axes = s.drive.axes) (b : Nat) : t.ax b = s.ax b := congrArg (fun axes => tget (fun _ => ({} : Axis)) axes b) h
theorem wr_ax (f : Fld) (v : Nat) (s : State) (b : Nat) : (wr f v s).ax b = s.ax b := rfl
theorem eachLeg_axes (f : Nat → Leg → Leg) (l : List Nat) (s : State) : (each (fun n => modLeg n (f n)) l s).drive.axes = s.drive.axes :=
  each_keep (fun u : State => u.drive.axes) (fun n => modLeg n (f n)) (fun _ _ => rfl) l s
theorem setBlk_ax (a : Nat) (v : Bool) (s : State) (b : Nat) : (setBlk a v s).ax b = s.ax b := ax_of_axes (eachLeg_axes _ _ s) b
theorem freezeMasks_ax (a : Nat) (s : State) (b : Nat) : (freezeMasks a s).ax b = s.ax b := by
  unfold freezeMasks
  refine ax_of_axes (each_keep (fun u : State => u.drive.axes) _ ?_ _ s) b
  exact fun _ _ => rfl
theorem legsHiz_ax (a : Nat) (s : State) (b : Nat) : (legsHiz a s).ax b = s.ax b := by
  have now : (carNow (a / 4) s).2.drive.axes = s.drive.axes := by
    unfold carNow
    split <;> rfl
  exact ax_of_axes ((eachLeg_axes _ _ (carNow (a / 4) s).2).trans now) b

/-- A change of an axis that leaves its halves. -/
theorem modAx_span (a : Nat) (f : Axis → Axis) (s : State) (b : Nat) (hf : ∀ x, (f x).span = x.span) :
    ((modAx a f s).ax b).span = (s.ax b).span := by
  rw [ax_modAx]
  split
  · next hb => rw [hb, hf]
  · rfl
theorem driveVar_span (a v : Nat) (s : State) (b : Nat) : ((driveVar a v s).ax b).span = (s.ax b).span := by
  unfold driveVar
  split
  · refine Eq.trans (modAx_span a (fun x => { x with asc := v }) _ b fun _ => rfl) (congrArg Axis.span ((ax_of_axes (eachLeg_axes _ _ _) b).trans ?_))
    split
    · exact freezeMasks_ax a s b
    · rfl
  · rw [setBlk_ax, modAx_span]
    exact fun _ => rfl
theorem enterSafe_span (a : Nat) (r : React) (s : State) (b : Nat) : ((enterSafe a r s).ax b).span = (s.ax b).span := by
  unfold enterSafe
  dsimp only
  rw [driveVar_span, modAx_span]
  · simp only [wr_ax, legsHiz_ax]
    split <;> rfl
  · exact fun _ => rfl
theorem reactOne_span (now : Bool) (a : Nat) (r : React) (c : Nat → Fld) (s : State) (b : Nat) :
    ((reactOne now a r c s).ax b).span = (s.ax b).span := by
  have flagged : ((flagReact a c s).ax b).span = (s.ax b).span := modAx_span a (fun x => { x with reacted := true }) s b fun _ => rfl
  have waiting (q : Option React) (u : State) : ((modAx a (fun x => { x with react := q }) u).ax b).span = (u.ax b).span :=
    modAx_span a _ u b fun _ => rfl
  unfold reactOne
  dsimp only
  repeat' split
  all_goals simp only [enterSafe_span, waiting, flagged]
/-- An axis that reacts with its pair keeps what it holds of its halves, and so does every other axis. -/
theorem blockReact_span (now : Bool) (a c : Nat) (s : State) (b : Nat) : ((blockReact now a c s).ax b).span = (s.ax b).span := by
  unfold blockReact axisReact
  dsimp only
  split <;> simp only [reactOne_span]

/-! ### A span lost, and SAFE received (R141) -/

/-- The halves of an axis with another SAFE in its outgoing frames. -/
def Span.sending (v : Bool) (x : Span) : Span := { x with safe := v }
/-- An axis whose outgoing frames carry SAFE. -/
def safeSent (x : Axis) : Axis := { x with span := x.span.sending true }
theorem spanLost_span (a data : Nat) (s : State) : ((spanLost a data s).ax a).span = (s.ax a).span.sending true :=
  (blockReact_span true a 4 _ a).trans ((congrArg Axis.span (ax_of_drive (logFault_drive _ _ _ _ _) a)).trans
    (congrArg Axis.span (ax_modAx_same a safeSent s)))
/-- A span lost writes the faults of the axis and what a reaction writes. -/
theorem spanLost_reg {p a : Nat} (hp : BesideAxes p) (hl : p < 0x0F0000) (hf : p ≠ A.LE_AX_FLT a) (ha : a < 32) (data : Nat) (s : State) :
    (spanLost a data s).reg p = s.reg p :=
  (blockReact_reg hp ha true 4 _).trans ((logFault_reg_below hl _ _ _ _ _).trans (reg_wr_other (modAx a safeSent s) _ 1 p hf))
theorem axFlt_below {a : Nat} (ha : a < 32) : A.LE_AX_FLT a < 0x0F0000 := by
  unfold A.LE_AX_FLT
  omega
theorem spanLost_flagged {a : Nat} (ha : a < 32) (data : Nat) (s : State) : isSet (spanLost a data s) (F.LE_AX_FLT_SPANLOST a) = true := by
  have kept : rd (spanLost a data s) (F.LE_AX_FLT_SPANLOST a) = rd (wr (F.LE_AX_FLT_SPANLOST a) 1 (modAx a safeSent s)) (F.LE_AX_FLT_SPANLOST a) :=
    rd_of_reg ((blockReact_reg (besideAxes_engineCfg ⟨a, ha, .inr rfl⟩) ha true 4 _).trans (logFault_reg_below (axFlt_below ha) _ _ _ _ _))
  rw [isSet_of_rd kept, isSet, rd_wr_same _ _ _ (show 2 + 1 ≤ 32 by decide)]
  rfl

/-- The registers that show the run of losses of an axis: SPANSTAT with the counts, STAT with SPANHOLD. -/
def LossReg (a p : Nat) : Prop := p = A.LE_AX_SPANSTAT a ∨ p = A.LE_AX_STAT a
theorem lossReg_beside {a p : Nat} (ha : a < 32) (h : LossReg a p) : BesideAxes p ∧ p < 0x0F0000 ∧ p ≠ A.LE_AX_FLT a := by
  refine ⟨fun b hb => ?_, ?_⟩ <;> rcases h with rfl | rfl
  · unfold A.LE_AX_SPANSTAT A.LE_AX_STATE A.MOD_AX_STAT A.SAF_AX_FLT; omega
  · unfold A.LE_AX_STAT A.LE_AX_STATE A.MOD_AX_STAT A.SAF_AX_FLT; omega
  · unfold A.LE_AX_SPANSTAT A.LE_AX_FLT; omega
  · unfold A.LE_AX_STAT A.LE_AX_FLT; omega
theorem spanLost_lossReg {a p : Nat} (ha : a < 32) (h : LossReg a p) (data : Nat) (s : State) : (spanLost a data s).reg p = s.reg p := by
  obtain ⟨beside, below, apart⟩ := lossReg_beside ha h
  exact spanLost_reg beside below apart ha data s
theorem flushLog_lossReg {a p : Nat} (ha : a < 32) (h : LossReg a p) (s : State) : (flushLog s).reg p = s.reg p :=
  flushLog_reg_below (lossReg_beside ha h).2.1 s
theorem spanStat_apart (a : Nat) : A.LE_AX_SPANSTAT a ≠ A.LE_AX_STAT a := by
  unfold A.LE_AX_SPANSTAT A.LE_AX_STAT
  omega

theorem spanSafe_lossReg {a p : Nat} (ha : a < 32) (h : LossReg a p) (b : Bool) (s : State) : (spanSafe a b s).reg p = s.reg p := by
  unfold spanSafe
  split
  · exact spanLost_lossReg ha h 4 s
  · rfl
/-- SAFE received changes of the halves what is sent, and nothing else. -/
theorem spanSafe_span (a : Nat) (b : Bool) (s : State) : ∃ v, ((spanSafe a b s).ax a).span = (s.ax a).span.sending v := by
  unfold spanSafe
  split
  · exact ⟨true, spanLost_span a 4 s⟩
  · exact ⟨(s.ax a).span.safe, rfl⟩
theorem spanSafe_without (a : Nat) (s : State) : spanSafe a false s = s := if_neg fun h => Bool.false_ne_true h.1

/-! ### A good frame (R141) -/

/-- The halves of an axis that has taken its frame of the stride, or counted it as lost. -/
def Span.framed (x : Span) : Span := { x with got := true }
def frameGot (x : Axis) : Axis := { x with span := x.span.framed }
theorem spanGood_span (a : Nat) (s : State) : ((spanGood a s).ax a).span = (s.ax a).span.framed := congrArg Axis.span (ax_modAx_same a frameGot s)
theorem spanGood_reg {a p : Nat} (h : ¬ LossReg a p) (s : State) : (spanGood a s).reg p = s.reg p :=
  (reg_wr_other _ _ _ p fun e => h (.inr e)).trans (reg_wr_other (modAx a frameGot s) _ 0 p fun e => h (.inl e))
/-- The run of losses has ended: CONSEC is 0 and SPANHOLD clear. -/
def LossesEnded (a : Nat) (s : State) : Prop := rd s (F.LE_AX_SPANSTAT_CONSEC a) = 0 ∧ isSet s (F.LE_AX_STAT_SPANHOLD a) = false
theorem LossesEnded.of_reg {a : Nat} {s t : State} (h : LossesEnded a s) (hr : ∀ p, LossReg a p → t.reg p = s.reg p) : LossesEnded a t :=
  ⟨(rd_of_reg (f := F.LE_AX_SPANSTAT_CONSEC a) (hr _ (.inl rfl))).trans h.1,
    (isSet_of_rd (rd_of_reg (f := F.LE_AX_STAT_SPANHOLD a) (hr _ (.inr rfl)))).trans h.2⟩
theorem spanGood_ends (a : Nat) (s : State) : LossesEnded a (spanGood a s) := by
  constructor
  · exact (rd_wr_off _ (F.LE_AX_STAT_SPANHOLD a) (F.LE_AX_SPANSTAT_CONSEC a) 0 (spanStat_apart a)).trans
      (rd_wr_same (modAx a frameGot s) (F.LE_AX_SPANSTAT_CONSEC a) 0 (show 16 + 2 ≤ 32 by decide))
  · exact congrArg (· != 0) (rd_wr_same _ (F.LE_AX_STAT_SPANHOLD a) 0 (show 9 + 1 ≤ 32 by decide))
/-- A command that takes a good frame, whose part behind `spanGood` writes no register, ends the run of losses. -/
theorem frame_ends {a : Nat} (ha : a < 32) (b : Bool) {s u : State} (h : u.regs = (spanGood a s).regs) : LossesEnded a (flushLog (spanSafe a b u)) :=
  (spanGood_ends a s).of_reg fun p hp =>
    (flushLog_lossReg ha hp _).trans ((spanSafe_lossReg ha hp b u).trans (reg_of_regs h p))
/-- Such a command leaves the halves as that part has them, but for the SAFE sent. -/
theorem frame_span (a : Nat) (b : Bool) (u : State) : ∃ v, ((flushLog (spanSafe a b u)).ax a).span = (u.ax a).span.sending v := by
  rw [ax_of_drive (flushLog_drive _) a]
  exact spanSafe_span a b u

/-! ### The up frame (R139) -/

/-- The partner's values with those an up frame marks valid. -/
def upVals (p : List Byte) (old : List Int) : List Int :=
  (List.range 13).map fun i => if bit (field p 0x34 4 % 2 ^ 13) i then sext 32 (field p (4 * i) 4) else old.getD i 0
/-- The halves of a lead with an up frame taken, where it held `old` before. -/
def upSpan (p : List Byte) (old x : Span) : Span :=
  { x with
    vals := upVals p old.vals, mask := maskOf (bitsOf old.mask 13 ++ bitsOf (field p 0x34 4 % 2 ^ 13) 13),
    flegs := field p 0x34 4 / 2 ^ 13 % 64, sides := field p 0x34 4 / 2 ^ 19 % 2 ^ 12 }
/-- The lead with an up frame taken: an active one has a leg newly faulted where the frame shows one. -/
def upAxis (p : List Byte) (old : Span) (active : Bool) (x : Axis) : Axis :=
  { x with
    span := upSpan p old x.span,
    legNew := x.legNew || (active && (bitsOf (field p 0x34 4 / 2 ^ 13 % 64) 6).any fun i => !bit old.flegs i) }
/-- The state with an up frame taken, but for its SAFE. -/
def upTaken (a : Nat) (p : List Byte) (s : State) : State :=
  modAx a (upAxis p (s.ax a).span (axActive (spanGood a s) a)) (spanGood a s)
theorem spanUpFrame_eq {a : AxisNo} {f : SpanUp} {s : State} (ha : armedOn s = true) (ht : axType s a = 6)
    (hk : spanOk s f.stamp f.crcOk f.late = true) (hl : f.payload.length = 56) (hg : (s.ax a).span.got = false) :
    exec (.spanUpFrame a f) s = done (spanSafe a (bit (field f.payload 0x34 4) 31) (upTaken a f.payload s)) :=
  if_pos ⟨ha, ht, hk, hl, by simp [hg]⟩
theorem upTaken_regs (a : Nat) (p : List Byte) (s : State) : (upTaken a p s).regs = (spanGood a s).regs := rfl
theorem upTaken_span (a : Nat) (p : List Byte) (s : State) :
    ((upTaken a p s).ax a).span = upSpan p (s.ax a).span (s.ax a).span.framed := by
  rw [upTaken, ax_modAx_same, ← spanGood_span]
  rfl
theorem bit_mod_two_pow {w i n : Nat} (h : i < n) : bit (w % 2 ^ n) i = bit w i := by
  have low := Nat.testBit_mod_two_pow w n i
  simp only [h, decide_true, Bool.true_and, Nat.testBit_eq_decide_div_mod_eq] at low
  exact low
/-- A value that the frame marks valid is taken. -/
theorem upVals_valid {p : List Byte} {i : Nat} (old : List Int) (hi : i < 13) (h : bit (field p 0x34 4) i = true) :
    (upVals p old).getD i 0 = sext 32 (field p (4 * i) 4) := by
  have valid : bit (field p 0x34 4 % 2 ^ 13) i = true := (bit_mod_two_pow hi).trans h
  rw [upVals, List.getD_eq_getElem _ _ (by simpa using hi), List.getElem_map, List.getElem_range, if_pos valid]

/-- SPAN_UP_FRAME of good quality. -/
theorem spanUpFrame_taken {a : AxisNo} {f : SpanUp} {s : State} (ha : armedOn s = true) (ht : axType s a = 6)
    (hk : spanOk s f.stamp f.crcOk f.late = true) (hl : f.payload.length = 56) (hg : (s.ax a).span.got = false) :
    Completes (.spanUpFrame a f) s fun t => LossesEnded a t ∧
      ∃ v, (t.ax a).span = (upSpan f.payload (s.ax a).span (s.ax a).span.framed).sending v := by
  refine ⟨_, spanUpFrame_eq ha ht hk hl hg, frame_ends a.isLt _ (upTaken_regs a f.payload s), ?_⟩
  rw [← upTaken_span]
  exact frame_span a _ _

/-! ### The down frame (R139, R140) -/

/-- The halves of a partner with a down frame taken, whose word at 0x18 is w. -/
def downSpan (w : Nat) (x : Span) : Span := { x with axst := w % 16, axvar := w / 16 % 4, safech := w / 64 % 4, blk := w / 256 % 64 }
def downAxis (w : Nat) (x : Axis) : Axis := { x with span := downSpan w x.span }
/-- The lead's duty number i of a down frame. -/
def downDuty (p : List Byte) (i : Nat) : F32 := BitVec.ofNat 32 (field p (4 * i) 4)
/-- The duty of one of the partner's legs, with its place among them, put into its shadow register. -/
def dutyShadowed (a : Nat) (p : List Byte) (x : Nat × Nat) (s : State) : State :=
  modLeg x.1 (fun l => { l with shadow := some (downDuty p x.2, (legVals s a).getD x.2 0) }) s
/-- The halves with a down frame taken. -/
def downNoted (a w : Nat) (s : State) : State := modAx a (downAxis w) (spanGood a s)
/-- The state with a down frame taken, but for its SAFE: both halves in START, RUN or DEGRADED, the duties stand in the shadow registers. -/
def downTaken (a : Nat) (p : List Byte) (s : State) : State :=
  let w := field p 0x18 4
  let s := downNoted a w s
  if (axState s a = 3 ∨ axState s a = 4 ∨ axState s a = 5) ∧ (w % 16 = 3 ∨ w % 16 = 4 ∨ w % 16 = 5) then
    each (dutyShadowed a p) (axLegs s a).zipIdx s
  else s
theorem spanDownFrame_eq {a : AxisNo} {f : SpanDown} {s : State} (ha : armedOn s = true) (ht : axType s a = 7)
    (hk : spanOk s f.stamp f.crcOk f.late = true) (hl : f.payload.length = 32) (hg : (s.ax a).span.got = false) :
    exec (.spanDownFrame a f) s = done (spanSafe a (bit (field f.payload 0x18 4) 14) (downTaken a f.payload s)) :=
  if_pos ⟨ha, ht, hk, hl, by simp [hg]⟩
theorem dutiesShadowed_keep {γ : Type} (g : State → γ) (hg : ∀ n f u, g (modLeg n f u) = g u) (a : Nat) (p : List Byte) (l : List (Nat × Nat)) (s : State) :
    g (each (dutyShadowed a p) l s) = g s := each_keep g _ (fun _ u => hg _ _ u) l s
theorem downTaken_regs (a : Nat) (p : List Byte) (s : State) : (downTaken a p s).regs = (spanGood a s).regs := by
  unfold downTaken
  dsimp only
  split
  · exact dutiesShadowed_keep State.regs (fun _ _ _ => rfl) a p _ _
  · rfl
theorem downTaken_span (a : Nat) (p : List Byte) (s : State) :
    ((downTaken a p s).ax a).span = downSpan (field p 0x18 4) (s.ax a).span.framed := by
  have noted : ((downNoted a (field p 0x18 4) s).ax a).span = downSpan (field p 0x18 4) (s.ax a).span.framed := by
    rw [downNoted, ax_modAx_same, ← spanGood_span]
    rfl
  rw [← noted]
  unfold downTaken
  dsimp only
  split
  · exact congrArg Axis.span (dutiesShadowed_keep (·.ax a) (fun _ _ _ => rfl) a p _ _)
  · rfl

theorem downNoted_reg {a p : Nat} (h : ¬ LossReg a p) (w : Nat) (s : State) : (downNoted a w s).reg p = s.reg p := spanGood_reg h s
theorem axState_notLoss (a : Nat) : ¬ LossReg a (A.LE_AX_STATE a) := by
  unfold LossReg A.LE_AX_STATE A.LE_AX_SPANSTAT A.LE_AX_STAT
  omega
theorem axLegs_notLoss (a : Nat) : ¬ LossReg a (A.LE_AX_LEGS a) := by
  unfold LossReg A.LE_AX_LEGS A.LE_AX_SPANSTAT A.LE_AX_STAT
  omega
/-- With both halves in START, RUN or DEGRADED the duties of the frame are put to the legs of the axis. -/
theorem downTaken_drives {a : Nat} {p : List Byte} {s : State} (hs : axState s a ∈ [3, 4, 5]) (hw : field p 0x18 4 % 16 ∈ [3, 4, 5]) :
    downTaken a p s = each (dutyShadowed a p) (axLegs s a).zipIdx (downNoted a (field p 0x18 4) s) := by
  have state : axState (downNoted a (field p 0x18 4) s) a = axState s a :=
    rd_of_reg (f := F.LE_AX_STATE_STATE a) (downNoted_reg (axState_notLoss a) _ s)
  have legs : axLegs (downNoted a (field p 0x18 4) s) a = axLegs s a := axLegs_of_reg (downNoted_reg (axLegs_notLoss a) _ s)
  unfold downTaken
  dsimp only
  rw [state, legs]
  exact if_pos ⟨by simpa using hs, by simpa using hw⟩
/-- In a list without repetition the place goes by the entry. -/
theorem zipIdx_inj {l : List Nat} (hl : l.Nodup) {x y : Nat × Nat} (hx : x ∈ l.zipIdx) (hy : y ∈ l.zipIdx) (h : x.1 = y.1) : x = y := by
  rw [List.mem_zipIdx_iff_getElem?] at hx hy
  obtain ⟨hlt, -⟩ := List.getElem?_eq_some_iff.mp hx
  exact Prod.ext h ((List.getElem?_inj hlt hl).mp (hx.trans ((congrArg some h).trans hy.symm)))
/-- Each of the legs, none listed twice, has its own duty in its shadow register at the end. -/
theorem dutiesShadowed_stand (a : Nat) (p : List Byte) {l : List Nat} (hl : l.Nodup) {x : Nat × Nat} (hx : x ∈ l.zipIdx) (s : State) :
    ((each (dutyShadowed a p) l.zipIdx s).leg x.1).shadow.map Prod.fst = some (downDuty p x.2) := by
  have own (u : State) : ((dutyShadowed a p x u).leg x.1).shadow.map Prod.fst = some (downDuty p x.2) := by
    rw [dutyShadowed, leg_modLeg, if_pos rfl]
    rfl
  refine each_of_mem (f := dutyShadowed a p) (P := fun u => (u.leg x.1).shadow.map Prod.fst = some (downDuty p x.2)) (Q := fun _ => True)
    (fun u _ => own u) (fun y hy u hu => ?_) (fun _ _ _ h => h) hx trivial
  by_cases h : x.1 = y.1
  · exact zipIdx_inj hl hx hy h ▸ own u
  · rw [dutyShadowed, leg_modLeg, if_neg h]
    exact hu

/-- SPAN_DOWN_FRAME of good quality. -/
theorem spanDownFrame_taken {a : AxisNo} {f : SpanDown} {s : State} (ha : armedOn s = true) (ht : axType s a = 7)
    (hk : spanOk s f.stamp f.crcOk f.late = true) (hl : f.payload.length = 32) (hg : (s.ax a).span.got = false) :
    Completes (.spanDownFrame a f) s fun t => LossesEnded a t ∧
      (∃ v, (t.ax a).span = (downSpan (field f.payload 0x18 4) (s.ax a).span.framed).sending v) ∧
      (bit (field f.payload 0x18 4) 14 = false → axState s a ∈ [3, 4, 5] → field f.payload 0x18 4 % 16 ∈ [3, 4, 5] → (axLegs s a).Nodup →
        ∀ x ∈ (axLegs s a).zipIdx, (t.leg x.1).shadow.map Prod.fst = some (downDuty f.payload x.2)) := by
  refine ⟨_, spanDownFrame_eq ha ht hk hl hg, frame_ends a.isLt _ (downTaken_regs a _ s), ?_, fun hb hs hw hn x hx => ?_⟩
  · rw [← downTaken_span]
    exact frame_span a _ _
  · rw [leg_of_drive (flushLog_drive _), hb, spanSafe_without, downTaken_drives hs hw]
    exact dutiesShadowed_stand a f.payload hn hx _

/-! ### A frame lost (R141) -/

/-- A loss counted, with the held data used from now on: `dir` tells an up frame (1) from a down frame (2), c is the run before it. -/
def lossCounted (a dir c : Nat) (s : State) : State :=
  wr (F.LE_AX_STAT_SPANHOLD a) 1 (logFault 0x0401 a 0 dir (modAx a frameGot
    (bumpSat (F.LE_AX_SPANSTAT_LOSTCNT a) (wr (F.LE_AX_SPANSTAT_CONSEC a) (if c < 2 then c + 1 else 2) s))))
/-- Which frame an axis waits for: the lead the up frame, the partner the down frame. -/
def frameDir (s : State) (a : Nat) : Nat := if axType s a = 6 then 1 else 2
/-- SPAN_FRAME_LOST counts the loss; a second in a row loses the span, and so may a later one. -/
theorem spanFrameLost_eq {a : AxisNo} {s : State} (ha : armedOn s = true) (ht : axType s a = 6 ∨ axType s a = 7) (hg : (s.ax a).span.got = false) :
    let c := rd s (F.LE_AX_SPANSTAT_CONSEC a)
    let u := lossCounted a (frameDir s a) c s
    exec (.spanFrameLost a) s = if c = 1 ∨ (c = 2 ∧ ¬ isSet u (F.LE_AX_FLT_SPANLOST a)) then done (spanLost a (frameDir s a) u) else done u :=
  if_pos ⟨ha, ht, by simp [hg]⟩

/-- The loss shows: SPANHOLD is set and LOSTCNT has risen by one. -/
def LossShown (a : Nat) (s t : State) : Prop := isSet t (F.LE_AX_STAT_SPANHOLD a) = true ∧
  rd t (F.LE_AX_SPANSTAT_LOSTCNT a) = satAdd (2 ^ (F.LE_AX_SPANSTAT_LOSTCNT a).w - 1) (rd s (F.LE_AX_SPANSTAT_LOSTCNT a)) 1
theorem LossShown.of_reg {a : Nat} {s t u : State} (h : LossShown a s t) (hr : ∀ p, LossReg a p → u.reg p = t.reg p) : LossShown a s u :=
  ⟨(isSet_of_rd (rd_of_reg (f := F.LE_AX_STAT_SPANHOLD a) (hr _ (.inr rfl)))).trans h.1,
    (rd_of_reg (f := F.LE_AX_SPANSTAT_LOSTCNT a) (hr _ (.inl rfl))).trans h.2⟩
theorem lossCounted_shows {a : Nat} (ha : a < 32) (dir c : Nat) (s : State) : LossShown a s (lossCounted a dir c s) := by
  constructor
  · exact congrArg (· != 0) (rd_wr_same _ (F.LE_AX_STAT_SPANHOLD a) 1 (show 9 + 1 ≤ 32 by decide))
  · have below := (lossReg_beside ha (.inl rfl)).2.1
    have before := rd_wr_disj s (F.LE_AX_SPANSTAT_CONSEC a) (F.LE_AX_SPANSTAT_LOSTCNT a) (if c < 2 then c + 1 else 2)
      (show 16 + 2 ≤ 32 by decide) (show 0 + 16 ≤ 32 by decide) (.inr (show 0 + 16 ≤ 16 by decide))
    rw [← before]
    exact rd_bumpSat_of_reg (show 0 + 16 ≤ 32 by decide)
      ((reg_wr_other _ (F.LE_AX_STAT_SPANHOLD a) 1 _ (spanStat_apart a)).trans (logFault_reg_below below _ _ _ _ _))

/-- SPAN_FRAME_LOST in a stride that has not yet had its frame. -/
theorem spanFrameLost_counted {a : AxisNo} {s : State} (ha : armedOn s = true) (ht : axType s a = 6 ∨ axType s a = 7) (hg : (s.ax a).span.got = false) :
    Completes (.spanFrameLost a) s fun t => LossShown a s t ∧
      (rd s (F.LE_AX_SPANSTAT_CONSEC a) = 1 → isSet t (F.LE_AX_FLT_SPANLOST a) = true ∧ (t.ax a).span.safe = true) := by
  have counted := lossCounted_shows a.isLt (frameDir s a) (rd s (F.LE_AX_SPANSTAT_CONSEC a)) s
  have runs := spanFrameLost_eq ha ht hg
  dsimp only at runs
  generalize lossCounted a (frameDir s a) (rd s (F.LE_AX_SPANSTAT_CONSEC a)) s = u at counted runs
  split at runs
  · refine ⟨_, runs, counted.of_reg fun p hp => (flushLog_lossReg a.isLt hp _).trans (spanLost_lossReg a.isLt hp _ u), fun _ => ⟨?_, ?_⟩⟩
    · rw [isSet_of_rd (rd_of_reg (f := F.LE_AX_FLT_SPANLOST a) (flushLog_reg_below (axFlt_below a.isLt) _))]
      exact spanLost_flagged a.isLt _ u
    · rw [ax_of_drive (flushLog_drive _), spanLost_span]
      rfl
  · next other => exact ⟨_, runs, counted.of_reg fun p hp => flushLog_lossReg a.isLt hp u, fun one => absurd (.inl one) other⟩

/-- Settles O17: each frame by what it leaves of the halves and of the run of losses, whatever the reaction to SAFE writes besides. -/
theorem spanFramesAreTaken : Obligations.SpanFramesAreTaken := by
  unfold Obligations.SpanFramesAreTaken
  refine ⟨fun a f s ha ht hk hl hg => ?_, fun a f s ha ht hk hl hg => ?_, fun a s ha ht hg => ?_⟩
  · obtain ⟨t, runs, ⟨consec, hold⟩, v, span⟩ := spanUpFrame_taken ha ht hk hl hg
    refine ⟨t, runs, ?_⟩
    beta_reduce
    rw [span]
    exact ⟨rfl, consec, hold, fun i hi valid => upVals_valid _ hi valid, rfl, rfl⟩
  · obtain ⟨t, runs, ⟨consec, hold⟩, ⟨v, span⟩, duties⟩ := spanDownFrame_taken ha ht hk hl hg
    refine ⟨t, runs, ?_⟩
    beta_reduce
    rw [span]
    exact ⟨rfl, consec, hold, rfl, rfl, rfl, rfl, duties⟩
  · obtain ⟨t, runs, ⟨hold, count⟩, second⟩ := spanFrameLost_counted ha ht hg
    exact ⟨t, runs, hold, count, second⟩

end Sys2Proof.Machine
end

section
/-! ## The fault latches of a leg: faults, blanking, and their clearing (R159, R160, R163) -/
namespace Sys2Proof.Machine
open Sys2Proof

/-! ### Fields of one bit -/

theorem isSet_wr_one (s : State) (f : Fld) (h : f.lo + f.w ≤ 32) (hw : f.w = 1) : isSet (wr f 1 s) f = true := isSet_wrB s f true h hw
theorem isSet_wr_zero (s : State) (f : Fld) (h : f.lo + f.w ≤ 32) (hw : f.w = 1) : isSet (wr f 0 s) f = false := isSet_wrB s f false h hw
/-- A field that a write leaves is set as it was. -/
theorem isSet_wr_disj (s : State) (f g : Fld) (v : Nat) (hf : f.lo + f.w ≤ 32) (hg : g.lo + g.w ≤ 32) (h : f.lo + f.w ≤ g.lo ∨ g.lo + g.w ≤ f.lo) :
    isSet (wr f v s) g = isSet s g := isSet_of_rd (rd_wr_disj s f g v hf hg h)

/-! ### The axis of a leg -/

theorem legAxis_lt {s : State} {n a : Nat} (hn : n < 96) (h : legAxis s n = some a) : a < 32 :=
  teamAxes_lt (by omega) (List.mem_of_find?_eq_some h)
/-- A leg keeps its axis where the engine keeps the types and the legs of the axes. -/
theorem legAxis_of_engine {s t : State} {n : Nat} (hn : n < 96) (hc : ∀ a < 32, t.reg (A.LE_AX_CFG a) = s.reg (A.LE_AX_CFG a))
    (hl : ∀ a < 32, t.reg (A.LE_AX_LEGS a) = s.reg (A.LE_AX_LEGS a)) : legAxis t n = legAxis s n := by
  unfold legAxis
  rw [teamAxes_of_cfg hc (by omega)]
  exact List.find?_congr fun a ha => by rw [axLegs_of_reg (hl a (teamAxes_lt (by omega) ha))]

/-! ### A leg latched (R159) -/

/-- The fault register of a leg that is latched with a cause: FAULTED and the cause, and SIDE from the first latch. -/
def legFlagged (n : Nat) (cause : Nat → Fld) (side : Nat) (s : State) : State :=
  wr (F.MOD_LEG_FLT_FAULTED n) 1 (wr (cause n) 1 (if isSet s (F.MOD_LEG_FLT_FAULTED n) then s else wr (F.MOD_LEG_FLT_SIDE n) side s))
/-- A leg whose edges are no longer placed, with the side that was on (R159). -/
def legStopped (side : Nat) (l : Leg) : Leg := { l with edges := [], lastHi := if side = 3 then l.lastHi else some (side = 1) }
theorem flagReact_modulation {p : Nat} (hp : p < 0x060000) (a : Nat) (s : State) : (flagReact a F.SAF_AX_FLT_BLOCK s).reg p = s.reg p := by
  have apart : p ≠ A.SAF_AX_FLT a := by
    unfold A.SAF_AX_FLT
    omega
  exact (reg_wr_other _ _ _ p apart).trans (reg_wr_other _ _ _ p apart)
/-- Below the safety block a leg latched changes its fault register alone. -/
theorem latchLeg_modulation {p : Nat} (hp : p < 0x060000) (n : Nat) (cause : Nat → Fld) (side : Nat) (s : State) :
    (latchLeg n cause side s).reg p = (legFlagged n cause side s).reg p := by
  have flagged : (latchLeg n cause side s).reg p = (wr (F.MOD_LEG_FLT_FAULTED n) 1 (wr (cause n) 1
      (if isSet s (F.MOD_LEG_FLT_FAULTED n) then s else wr (F.MOD_LEG_FLT_SIDE n) side (modLeg n (legStopped side) s)))).reg p := by
    unfold latchLeg
    dsimp only
    generalize hu : (if isSet s (F.MOD_LEG_FLT_FAULTED n) = true then s else _) = u
    rw [show (if isSet s (F.MOD_LEG_FLT_FAULTED n) then s else wr (F.MOD_LEG_FLT_SIDE n) side (modLeg n (legStopped side) s)) = u from hu]
    split
    · rfl
    · split
      · rfl
      · exact flagReact_modulation hp _ _
  rw [flagged]
  unfold legFlagged
  split <;> rfl
/-- The same of a driver fault, which is logged besides. -/
theorem driverFault_modulation {p : Nat} (hp : p < 0x060000) (n side : Nat) (s : State) :
    (driverFault n side s).reg p = (legFlagged n F.MOD_LEG_FLT_LFLT side s).reg p := by
  rw [← latchLeg_modulation hp]
  unfold driverFault
  dsimp only
  split <;> exact logFault_reg_below (by omega) _ _ _ _ _

theorem legFlagged_faulted (n : Nat) (cause : Nat → Fld) (side : Nat) (s : State) :
    isSet (legFlagged n cause side s) (F.MOD_LEG_FLT_FAULTED n) = true := isSet_wr_one _ _ (show 8 + 1 ≤ 32 by decide) rfl
/-- The causes stand in the low bits of the fault register: LFLT, FAST and ILK. -/
theorem legFlagged_cause {n i : Nat} {cause : Nat → Fld} (hc : cause n = ⟨A.MOD_LEG_FLT n, i, 1⟩) (hi : i < 3) (side : Nat) (s : State) :
    isSet (legFlagged n cause side s) (cause n) = true := by
  unfold legFlagged
  rw [hc, isSet_wr_disj _ (F.MOD_LEG_FLT_FAULTED n) ⟨_, i, 1⟩ _ (show 8 + 1 ≤ 32 by decide) (show i + 1 ≤ 32 by omega) (.inr (show i + 1 ≤ 8 by omega))]
  exact isSet_wr_one _ _ (show i + 1 ≤ 32 by omega) rfl
theorem legFlagged_pend (n side : Nat) (s : State) :
    isSet (legFlagged n F.MOD_LEG_FLT_LFLT side s) (F.MOD_LEG_FLT_PEND n) = isSet s (F.MOD_LEG_FLT_PEND n) := by
  unfold legFlagged
  split <;> simp [isSet, rd_wr_disj, F.MOD_LEG_FLT_FAULTED, F.MOD_LEG_FLT_LFLT, F.MOD_LEG_FLT_SIDE, F.MOD_LEG_FLT_PEND]
theorem legFlagged_live (n side : Nat) (s : State) :
    isSet (legFlagged n F.MOD_LEG_FLT_LFLT side s) (F.MOD_LEG_FLT_LIVE n) = isSet s (F.MOD_LEG_FLT_LIVE n) := by
  unfold legFlagged
  split <;> simp [isSet, rd_wr_disj, F.MOD_LEG_FLT_FAULTED, F.MOD_LEG_FLT_LFLT, F.MOD_LEG_FLT_SIDE, F.MOD_LEG_FLT_LIVE]
theorem legFlagged_side {n side : Nat} {s : State} (hf : isSet s (F.MOD_LEG_FLT_FAULTED n) = false) (hs : side < 4) :
    rd (legFlagged n F.MOD_LEG_FLT_LFLT side s) (F.MOD_LEG_FLT_SIDE n) = side := by
  unfold legFlagged
  rw [hf]
  simp [rd_wr_same, rd_wr_disj, F.MOD_LEG_FLT_FAULTED, F.MOD_LEG_FLT_LFLT, F.MOD_LEG_FLT_SIDE, Nat.mod_eq_of_lt hs]

theorem legFlt_modulation (n : LegNo) : A.MOD_LEG_FLT n < 0x060000 := by
  unfold A.MOD_LEG_FLT
  omega
theorem flushLog_legFlt (n : LegNo) (s : State) : (flushLog s).reg (A.MOD_LEG_FLT n) = s.reg (A.MOD_LEG_FLT n) :=
  flushLog_reg_below (by have := legFlt_modulation n; omega) s

/-- What a driver fault recorded leaves in the fault register of its leg. -/
theorem driverFault_shows (n : LegNo) (side : Nat) (s : State) :
    let t := flushLog (driverFault n side s)
    (isSet t (F.MOD_LEG_FLT_FAULTED n) = true ∧ isSet t (F.MOD_LEG_FLT_LFLT n) = true) ∧
      (isSet t (F.MOD_LEG_FLT_PEND n) = isSet s (F.MOD_LEG_FLT_PEND n) ∧ isSet t (F.MOD_LEG_FLT_LIVE n) = isSet s (F.MOD_LEG_FLT_LIVE n)) ∧
      (isSet s (F.MOD_LEG_FLT_FAULTED n) = false → side < 4 → rd t (F.MOD_LEG_FLT_SIDE n) = side) := by
  have flt := (flushLog_legFlt n (driverFault n side s)).trans (driverFault_modulation (legFlt_modulation n) n side s)
  have bits {f : Fld} (hf : f.off = A.MOD_LEG_FLT n) :
      isSet (flushLog (driverFault n side s)) f = isSet (legFlagged n F.MOD_LEG_FLT_LFLT side s) f := isSet_of_rd (rd_of_reg (hf ▸ flt))
  exact ⟨⟨(bits rfl).trans (legFlagged_faulted ..), (bits rfl).trans (legFlagged_cause (cause := F.MOD_LEG_FLT_LFLT) (i := 0) rfl (by decide) side s)⟩,
    ⟨(bits rfl).trans (legFlagged_pend n side s), (bits rfl).trans (legFlagged_live n side s)⟩,
    fun hf hs => (rd_of_reg (f := F.MOD_LEG_FLT_SIDE n) flt).trans (legFlagged_side hf hs)⟩

/-! ### LEG_FAULT (R159, R160) -/

theorem faultSide_lt (s : State) (n ph : Nat) : faultSide s n ph < 4 := by
  unfold faultSide
  split
  · decide
  · decide
  · split <;> decide
/-- The assertion shown as LIVE is none of what a blanking window depends on. -/
theorem blanked_live (n k ph since : Nat) (s : State) :
    blanked (wr (F.MOD_LEG_FLT_LIVE n) 1 s) n (carPos (wr (F.MOD_LEG_FLT_LIVE n) 1 s) k ph + 1280 : Nat) since =
      blanked s n (carPos s k ph + 1280 : Nat) since := by
  have blank := rd_wr_off s (F.MOD_LEG_FLT_LIVE n) (F.MOD_LEG_CFG_BLANK n) 1 (show 0x050000 + 32 * n ≠ 0x05000C + 32 * n by omega)
  have per := rd_wr_off s (F.MOD_LEG_FLT_LIVE n) F.STR_PERIOD_PERIOD 1 (show 0x010000 ≠ 0x05000C + 32 * n by omega)
  have carmul := rd_wr_off s (F.MOD_LEG_FLT_LIVE n) (F.STR_TEAM_CFG_CARMUL k) 1 (show 0x010080 + 16 * k ≠ 0x05000C + 32 * n by omega)
  unfold blanked carPos halfCar State.per
  rw [blank, per, carmul]
  rfl
theorem legLive_faulted (n v : Nat) (s : State) : isSet (wr (F.MOD_LEG_FLT_LIVE n) v s) (F.MOD_LEG_FLT_FAULTED n) = isSet s (F.MOD_LEG_FLT_FAULTED n) :=
  isSet_wr_disj s _ (F.MOD_LEG_FLT_FAULTED n) v (show 7 + 1 ≤ 32 by decide) (show 8 + 1 ≤ 32 by decide) (.inl (show 7 + 1 ≤ 8 by decide))
theorem legPend_faulted (n v : Nat) (s : State) : isSet (wr (F.MOD_LEG_FLT_PEND n) v s) (F.MOD_LEG_FLT_FAULTED n) = isSet s (F.MOD_LEG_FLT_FAULTED n) :=
  isSet_wr_disj s _ (F.MOD_LEG_FLT_FAULTED n) v (show 6 + 1 ≤ 32 by decide) (show 8 + 1 ≤ 32 by decide) (.inl (show 6 + 1 ≤ 8 by decide))
/-- LEG_FAULT shows LIVE; within a blanking window it waits, outside it is a driver fault. -/
theorem legFault_eq {n : LegNo} {s : State} (ha : armedOn s = true) (hn : n.val < 12 * s.nTeams) (ph since : Nat) :
    exec (.legFault n ⟨ph, since⟩) s =
      if blanked s n (carPos s (n.val / 12) ph + 1280 : Nat) since = true then
        done (wr (F.MOD_LEG_FLT_PEND n) 1 (modLeg n (fun l => { l with pendSide := faultSide s n ph }) (wr (F.MOD_LEG_FLT_LIVE n) 1 s)))
      else done (driverFault n (faultSide s n ph) (wr (F.MOD_LEG_FLT_LIVE n) 1 s)) := by
  rw [← blanked_live]
  exact if_pos ⟨ha, hn⟩
theorem legFault_latched {n : LegNo} {s : State} {ph since : Nat} (ha : armedOn s = true) (hn : n.val < 12 * s.nTeams)
    (hb : blanked s n (carPos s (n.val / 12) ph + 1280 : Nat) since = false) :
    Completes (.legFault n ⟨ph, since⟩) s fun t => isSet t (F.MOD_LEG_FLT_FAULTED n) = true ∧ isSet t (F.MOD_LEG_FLT_LFLT n) = true ∧
      isSet t (F.MOD_LEG_FLT_LIVE n) = true ∧ (isSet s (F.MOD_LEG_FLT_FAULTED n) = false → rd t (F.MOD_LEG_FLT_SIDE n) = faultSide s n ph) := by
  obtain ⟨⟨faulted, cause⟩, ⟨-, live⟩, side⟩ := driverFault_shows n (faultSide s n ph) (wr (F.MOD_LEG_FLT_LIVE n) 1 s)
  refine ⟨_, (legFault_eq ha hn ph since).trans (if_neg (hb ▸ Bool.false_ne_true)), faulted, cause, live.trans ?_, fun hf => side ?_ (faultSide_lt ..)⟩
  · exact isSet_wr_one _ _ (show 7 + 1 ≤ 32 by decide) rfl
  · exact (legLive_faulted n 1 s).trans hf
theorem legFault_pending {n : LegNo} {s : State} {ph since : Nat} (ha : armedOn s = true) (hn : n.val < 12 * s.nTeams)
    (hb : blanked s n (carPos s (n.val / 12) ph + 1280 : Nat) since = true) :
    Completes (.legFault n ⟨ph, since⟩) s fun t => isSet t (F.MOD_LEG_FLT_PEND n) = true ∧ isSet t (F.MOD_LEG_FLT_LIVE n) = true ∧
      isSet t (F.MOD_LEG_FLT_FAULTED n) = isSet s (F.MOD_LEG_FLT_FAULTED n) := by
  refine ⟨_, (legFault_eq ha hn ph since).trans (if_pos hb), ?_⟩
  have bits {f : Fld} (hf : f.off = A.MOD_LEG_FLT n) : isSet (flushLog (wr (F.MOD_LEG_FLT_PEND n) 1
      (modLeg n (fun l => { l with pendSide := faultSide s n ph }) (wr (F.MOD_LEG_FLT_LIVE n) 1 s)))) f =
      isSet (wr (F.MOD_LEG_FLT_PEND n) 1 (wr (F.MOD_LEG_FLT_LIVE n) 1 s)) f := isSet_of_rd (rd_of_reg (hf ▸ flushLog_legFlt n _))
  refine ⟨(bits rfl).trans ?_, (bits rfl).trans ?_, (bits rfl).trans ?_⟩
  · exact isSet_wr_one _ _ (show 6 + 1 ≤ 32 by decide) rfl
  · simp [isSet, rd_wr_same, rd_wr_disj, F.MOD_LEG_FLT_PEND, F.MOD_LEG_FLT_LIVE]
  · exact (legPend_faulted n 1 _).trans (legLive_faulted n 1 s)

/-! ### BLANK_WINDOW_END (R160) -/

/-- A pending assertion ends with its blanking window, and LIVE shows whether it still stands. -/
def pendEnded (n : Nat) (still : Bool) (s : State) : State := wrB (F.MOD_LEG_FLT_LIVE n) still (wr (F.MOD_LEG_FLT_PEND n) 0 s)
theorem pendEnded_pend (n : Nat) (still : Bool) (s : State) : isSet (pendEnded n still s) (F.MOD_LEG_FLT_PEND n) = false := by
  simp [pendEnded, wrB, isSet, rd_wr_same, rd_wr_disj, F.MOD_LEG_FLT_LIVE, F.MOD_LEG_FLT_PEND]
theorem pendEnded_faulted (n : Nat) (still : Bool) (s : State) :
    isSet (pendEnded n still s) (F.MOD_LEG_FLT_FAULTED n) = isSet s (F.MOD_LEG_FLT_FAULTED n) :=
  (legLive_faulted n _ _).trans (legPend_faulted n 0 s)
theorem pendEnded_reg {n p : Nat} (h : p ≠ A.MOD_LEG_FLT n) (still : Bool) (s : State) : (pendEnded n still s).reg p = s.reg p :=
  (reg_wr_other _ _ _ p h).trans (reg_wr_other _ _ _ p h)
/-- A released assertion counted as early. -/
def earlyCounted (n : Nat) (s : State) : State := bumpSat (F.MOD_LEG_CNT_EARLYCNT n) (pendEnded n false s)
/-- An early fault logged, with the stride noted in which it was. -/
def earlyLogged (n : Nat) (s : State) : State :=
  logFault 0x0503 n 0 (rd s (F.MOD_LEG_CNT_EARLYCNT n)) (modLeg n (fun l => { l with earlyAt := some s.dev.count }) s)
theorem earlyLogged_reg {p : Nat} (hp : p < 0x060000) (n : Nat) (s : State) : (earlyLogged n s).reg p = s.reg p :=
  (logFault_reg_below (by omega) _ _ _ _ _).trans (modLeg_reg n _ s p)
/-- BLANK_WINDOW_END of a pending assertion. -/
theorem blankWindowEnd_eq {n : LegNo} {s : State} (ha : armedOn s = true) (hp : isSet s (F.MOD_LEG_FLT_PEND n) = true) (still : Bool) :
    exec (.blankWindowEnd n still) s =
      if still = true then done (driverFault n ((pendEnded n still s).leg n).pendSide (pendEnded n still s))
      else if ((earlyCounted n s).leg n).earlyAt = some (earlyCounted n s).dev.count then done (earlyCounted n s)
      else done (earlyLogged n (earlyCounted n s)) := by
  change execBlankWindowEnd n still s = _
  unfold execBlankWindowEnd
  rw [if_neg (not_not_intro ha), if_pos hp]
  unfold earlyLogged earlyCounted pendEnded
  dsimp only
  cases still
  · rfl
  · exact (if_pos rfl).trans (if_pos rfl).symm
theorem blankWindowEnd_standing {n : LegNo} {s : State} (ha : armedOn s = true) (hp : isSet s (F.MOD_LEG_FLT_PEND n) = true) :
    Completes (.blankWindowEnd n true) s fun t => isSet t (F.MOD_LEG_FLT_PEND n) = false ∧ isSet t (F.MOD_LEG_FLT_FAULTED n) = true ∧
      isSet t (F.MOD_LEG_FLT_LFLT n) = true := by
  obtain ⟨⟨faulted, cause⟩, ⟨pend, -⟩, -⟩ := driverFault_shows n ((pendEnded n true s).leg n).pendSide (pendEnded n true s)
  exact ⟨_, (blankWindowEnd_eq ha hp true).trans (if_pos rfl), pend.trans (pendEnded_pend n true s), faulted, cause⟩
/-- A released assertion is counted; whether it is logged besides, the registers of the leg do not show. -/
theorem blankWindowEnd_early {n : LegNo} {s : State} (ha : armedOn s = true) (hp : isSet s (F.MOD_LEG_FLT_PEND n) = true) :
    ∃ t, exec (.blankWindowEnd n false) s = .next t ∧ ∀ p < 0x060000, t.reg p = (earlyCounted n s).reg p := by
  rw [blankWindowEnd_eq ha hp false, if_neg Bool.false_ne_true]
  split
  · exact ⟨_, rfl, fun p hp => flushLog_reg_below (by omega) _⟩
  · exact ⟨_, rfl, fun p hp => (flushLog_reg_below (by omega) _).trans (earlyLogged_reg hp n _)⟩
theorem legCnt_apart (n : Nat) : A.MOD_LEG_CNT n ≠ A.MOD_LEG_FLT n := by
  unfold A.MOD_LEG_CNT A.MOD_LEG_FLT
  omega
theorem legCnt_modulation (n : LegNo) : A.MOD_LEG_CNT n < 0x060000 := by
  unfold A.MOD_LEG_CNT
  omega
theorem blankWindowEnd_released {n : LegNo} {s : State} (ha : armedOn s = true) (hp : isSet s (F.MOD_LEG_FLT_PEND n) = true) :
    Completes (.blankWindowEnd n false) s fun t => isSet t (F.MOD_LEG_FLT_PEND n) = false ∧
      isSet t (F.MOD_LEG_FLT_FAULTED n) = isSet s (F.MOD_LEG_FLT_FAULTED n) ∧
      rd t (F.MOD_LEG_CNT_EARLYCNT n) = satAdd (2 ^ (F.MOD_LEG_CNT_EARLYCNT n).w - 1) (rd s (F.MOD_LEG_CNT_EARLYCNT n)) 1 := by
  obtain ⟨t, runs, regs⟩ := blankWindowEnd_early ha hp
  have flt := (regs _ (legFlt_modulation n)).trans (reg_wr_other (pendEnded n false s) (F.MOD_LEG_CNT_EARLYCNT n) _ _ (legCnt_apart n).symm)
  refine ⟨t, runs, ?_, ?_, ?_⟩
  · exact (isSet_of_rd (rd_of_reg (f := F.MOD_LEG_FLT_PEND n) flt)).trans (pendEnded_pend n false s)
  · exact (isSet_of_rd (rd_of_reg (f := F.MOD_LEG_FLT_FAULTED n) flt)).trans (pendEnded_faulted n false s)
  · rw [← rd_of_reg (f := F.MOD_LEG_CNT_EARLYCNT n) (pendEnded_reg (legCnt_apart n) false s)]
    exact rd_bumpSat_of_reg (show 8 + 8 ≤ 32 by decide) (regs _ (legCnt_modulation n))

/-! ### LEG_FAULT_CLEAR (R163) -/

/-- The latches of a leg may be cleared: its axis, if it has one, is idle. -/
def LegIdle (s : State) (n : Nat) : Prop := ∀ a, legAxis s n = some a → axIdle s a = true
theorem LegIdle.of_live {n : LegNo} {s : State} (h : LegIdle s n) (b : Bool) : LegIdle (wrB (F.MOD_LEG_FLT_LIVE n) b s) n := by
  have kept {p : Nat} (hp : p < 0x050000) : (wrB (F.MOD_LEG_FLT_LIVE n) b s).reg p = s.reg p :=
    reg_wr_other _ _ _ p (show p ≠ 0x05000C + 32 * n.val by omega)
  have axis : legAxis (wrB (F.MOD_LEG_FLT_LIVE n) b s) n = legAxis s n :=
    legAxis_of_engine n.isLt (fun a ha => kept (by unfold A.LE_AX_CFG; omega)) (fun a ha => kept (by unfold A.LE_AX_LEGS; omega))
  intro a ha
  rw [axis] at ha
  have state : axState (wrB (F.MOD_LEG_FLT_LIVE n) b s) a = axState s a :=
    rd_of_reg (f := F.LE_AX_STATE_STATE a) (kept (by have := legAxis_lt n.isLt ha; show A.LE_AX_STATE a < _; unfold A.LE_AX_STATE; omega))
  unfold axIdle axActive
  rw [state]
  exact h a ha

/-- The three latches of a leg cleared. -/
def legUnlatched (n : Nat) (s : State) : State := wr (F.MOD_LEG_FLT_ILK n) 0 (wr (F.MOD_LEG_FLT_FAST n) 0 (wr (F.MOD_LEG_FLT_LFLT n) 0 s))
theorem legUnlatched_latches (n : Nat) (s : State) :
    ¬ (isSet (legUnlatched n s) (F.MOD_LEG_FLT_LFLT n) = true ∨ isSet (legUnlatched n s) (F.MOD_LEG_FLT_FAST n) = true ∨
      isSet (legUnlatched n s) (F.MOD_LEG_FLT_ILK n) = true) := by
  simp [legUnlatched, isSet, rd_wr_same, rd_wr_disj, F.MOD_LEG_FLT_ILK, F.MOD_LEG_FLT_FAST, F.MOD_LEG_FLT_LFLT]
/-- A write to the latches of an idle leg: those named are cleared, LFLT with its input released alone, and FAULTED and SIDE with the last (R163). -/
def idleLegClear (n v : Nat) (s : State) : State :=
  let s := if bit v 0 ∧ ¬ isSet s (F.MOD_LEG_FLT_LIVE n) then wr (F.MOD_LEG_FLT_LFLT n) 0 s else s
  let s := if bit v 1 then wr (F.MOD_LEG_FLT_FAST n) 0 s else s
  let s := if bit v 2 then wr (F.MOD_LEG_FLT_ILK n) 0 s else s
  if isSet s (F.MOD_LEG_FLT_LFLT n) ∨ isSet s (F.MOD_LEG_FLT_FAST n) ∨ isSet s (F.MOD_LEG_FLT_ILK n) then s
  else wr (F.MOD_LEG_FLT_SIDE n) 0 (wr (F.MOD_LEG_FLT_FAULTED n) 0 s)
theorem legClear_idle {n : Nat} {s : State} (hi : LegIdle s n) (v : Nat) : legClear n v s = idleLegClear n v s := by
  unfold legClear
  rcases hax : legAxis s n with _ | a
  · exact if_neg (not_not_intro rfl)
  · exact if_neg (not_not_intro (hi a hax))
/-- A write of all three latches of an idle leg whose input is released clears them, and with them FAULTED and SIDE. -/
theorem idleLegClear_released {n : Nat} {s : State} (hl : isSet s (F.MOD_LEG_FLT_LIVE n) = false) :
    idleLegClear n 7 s = wr (F.MOD_LEG_FLT_SIDE n) 0 (wr (F.MOD_LEG_FLT_FAULTED n) 0 (legUnlatched n s)) := by
  have lflt : bit 7 0 = true ∧ ¬ isSet s (F.MOD_LEG_FLT_LIVE n) = true := ⟨by decide, by simp [hl]⟩
  unfold idleLegClear
  dsimp only
  rw [if_pos lflt, if_pos (show bit 7 1 = true by decide), if_pos (show bit 7 2 = true by decide)]
  exact if_neg (legUnlatched_latches n s)
/-- LFLT is the lowest bit of its register. -/
theorem legLflt_kept {f : Fld} (hl : 1 ≤ f.lo) (hf : f.lo + f.w ≤ 32) (n v : Nat) (s : State) :
    isSet (wr f v s) (F.MOD_LEG_FLT_LFLT n) = isSet s (F.MOD_LEG_FLT_LFLT n) :=
  isSet_wr_disj s f (F.MOD_LEG_FLT_LFLT n) v hf (show 0 + 1 ≤ 32 by decide) (.inr hl)
/-- With the input asserted a write leaves LFLT, whatever else it clears. -/
theorem idleLegClear_asserted {n : Nat} {s : State} (hl : isSet s (F.MOD_LEG_FLT_LIVE n) = true) (v : Nat) :
    isSet (idleLegClear n v s) (F.MOD_LEG_FLT_LFLT n) = isSet s (F.MOD_LEG_FLT_LFLT n) := by
  have fast := legLflt_kept (f := F.MOD_LEG_FLT_FAST n) (show 1 ≤ 1 by decide) (show 1 + 1 ≤ 32 by decide) n 0
  have ilk := legLflt_kept (f := F.MOD_LEG_FLT_ILK n) (show 1 ≤ 2 by decide) (show 2 + 1 ≤ 32 by decide) n 0
  have faulted := legLflt_kept (f := F.MOD_LEG_FLT_FAULTED n) (show 1 ≤ 8 by decide) (show 8 + 1 ≤ 32 by decide) n 0
  have side := legLflt_kept (f := F.MOD_LEG_FLT_SIDE n) (show 1 ≤ 4 by decide) (show 4 + 2 ≤ 32 by decide) n 0
  unfold idleLegClear
  dsimp only
  rw [if_neg (c := bit v 0 = true ∧ _) (by simp [hl])]
  repeat' split
  all_goals simp only [side, faulted, ilk, fast]
theorem legFaultClear_eq {n : LegNo} {s : State} (hc : coresRun s = true) (hn : n.val < 12 * s.nTeams) (hi : LegIdle s n) (v : Word) (released : Bool) :
    exec (.legFaultClear n v released) s = done (idleLegClear n v.toNat (wrB (F.MOD_LEG_FLT_LIVE n) (!released) s)) := by
  change execLegFaultClear n v released s = _
  unfold execLegFaultClear
  rw [if_neg (not_not_intro hc), if_pos hn, legClear_idle (hi.of_live _)]
theorem legFaultClear_released {n : LegNo} {s : State} (hc : coresRun s = true) (hn : n.val < 12 * s.nTeams) (hi : LegIdle s n) :
    Completes (.legFaultClear n 7 true) s fun t => isSet t (F.MOD_LEG_FLT_FAULTED n) = false ∧ rd t (F.MOD_LEG_FLT_SIDE n) = 0 := by
  have live := isSet_wrB s (F.MOD_LEG_FLT_LIVE n) false (show 7 + 1 ≤ 32 by decide) rfl
  have cleared := (legFaultClear_eq hc hn hi 7 true).trans (congrArg done (idleLegClear_released live))
  refine ⟨_, cleared, (isSet_of_rd (rd_of_reg (f := F.MOD_LEG_FLT_FAULTED n) (flushLog_legFlt n _))).trans ?_,
    (rd_of_reg (f := F.MOD_LEG_FLT_SIDE n) (flushLog_legFlt n _)).trans ?_⟩
  · simp [isSet, rd_wr_same, rd_wr_disj, F.MOD_LEG_FLT_SIDE, F.MOD_LEG_FLT_FAULTED]
  · exact rd_wr_same _ _ 0 (show 4 + 2 ≤ 32 by decide)
theorem legFaultClear_asserted {n : LegNo} {s : State} (hc : coresRun s = true) (hn : n.val < 12 * s.nTeams) (hi : LegIdle s n) :
    Completes (.legFaultClear n 7 false) s fun t => isSet t (F.MOD_LEG_FLT_LFLT n) = isSet s (F.MOD_LEG_FLT_LFLT n) := by
  have live := isSet_wrB s (F.MOD_LEG_FLT_LIVE n) true (show 7 + 1 ≤ 32 by decide) rfl
  refine ⟨_, legFaultClear_eq hc hn hi 7 false, (isSet_of_rd (rd_of_reg (f := F.MOD_LEG_FLT_LFLT n) (flushLog_legFlt n _))).trans ?_⟩
  exact (idleLegClear_asserted live _).trans
    (legLflt_kept (f := F.MOD_LEG_FLT_LIVE n) (show 1 ≤ 7 by decide) (show 7 + 1 ≤ 32 by decide) n 1 s)

/-- Settles O18: each event by what it leaves in the fault register of its leg, which no reaction of the leg's axis writes. -/
theorem legFaultsLatch : Obligations.LegFaultsLatch := by
  unfold Obligations.LegFaultsLatch
  refine ⟨fun n ph since s ha hn hb => legFault_latched ha hn hb, fun n ph since s ha hn hb => legFault_pending ha hn hb,
    fun n s ha hp => blankWindowEnd_standing ha hp, fun n s ha hp => blankWindowEnd_released ha hp, fun n s hc hn hi => ?_⟩
  exact ⟨legFaultClear_released hc hn hi, legFaultClear_asserted hc hn hi⟩

end Sys2Proof.Machine
end

section
/-! ## The gate-supply lock-out of a team (R164, R165) -/
namespace Sys2Proof.Machine
open Sys2Proof

/-! ### One bit of a mask -/

/-- A bit of a mask read after it was written. -/
theorem rdBit_wrBit_same {f : Fld} {i : Nat} (hf : f.lo + f.w ≤ 32) (hi : i < f.w) (b : Bool) (s : State) : rdBit (wrBit f i b s) f i = b := by
  have pos : 0 < 2 ^ i := Nat.two_pow_pos i
  unfold rdBit wrBit
  dsimp only
  rw [rd_wr_same _ _ _ hf, bit_mod_two_pow hi]
  generalize rd s f = m
  unfold bit
  cases b
  · split
    · next h =>
      have odd : m / 2 ^ i % 2 = 1 := by simpa using h
      have less : (m - 2 ^ i) / 2 ^ i = m / 2 ^ i - 1 := by simpa using Nat.sub_mul_div m (2 ^ i) 1
      rw [if_neg Bool.false_ne_true, less, decide_eq_false_iff_not]
      omega
    · next h => simpa using h
  · split
    · next h => simpa using h
    · next h =>
      have even : ¬ m / 2 ^ i % 2 = 1 := by simpa using h
      rw [if_pos rfl, Nat.add_div_right m pos, decide_eq_true_iff]
      omega
theorem reg_wrBit_other (s : State) (f : Fld) (i : Nat) (b : Bool) {p : Nat} (h : p ≠ f.off) : (wrBit f i b s).reg p = s.reg p :=
  reg_wr_other s f _ p h

/-! ### A team that reacts (R207) -/

/-- What the Halter does of a class TM reaction: the enable and its readback withdrawn, the team latched. -/
def teamDown (t : Nat) (s : State) : State := wrBit F.SAF_TEAMEN_EN t false (wrBit F.SAF_TEAMEN_RB t false (wrBit F.SAF_TEAMFLT_TMLAT t true s))
theorem teamDown_reg {p : Nat} (he : p ≠ A.SAF_TEAMEN) (hl : p ≠ A.SAF_TEAMFLT) (t : Nat) (s : State) : (teamDown t s).reg p = s.reg p :=
  (reg_wrBit_other _ _ _ _ he).trans ((reg_wrBit_other _ _ _ _ he).trans (reg_wrBit_other _ _ _ _ hl))
theorem teamDown_enable {t : Nat} (ht : t < 8) (s : State) : rdBit (teamDown t s) F.SAF_TEAMEN_EN t = false :=
  rdBit_wrBit_same (by decide) ht false _
theorem teamDown_latched {t : Nat} (ht : t < 8) (s : State) : rdBit (teamDown t s) F.SAF_TEAMFLT_TMLAT t = true := by
  have kept : rd (teamDown t s) F.SAF_TEAMFLT_TMLAT = rd (wrBit F.SAF_TEAMFLT_TMLAT t true s) F.SAF_TEAMFLT_TMLAT :=
    rd_of_reg ((reg_wrBit_other _ _ _ _ (by decide)).trans (reg_wrBit_other _ _ _ _ (by decide)))
  exact (congrArg (bit · t) kept).trans (rdBit_wrBit_same (by decide) ht true s)
/-- Beside the registers of the team's axes a class TM reaction writes what the Halter does. -/
theorem teamReact_reg {p t : Nat} (hp : BesideAxes p) (ht : t < 8) (code : Nat) (s : State) : (teamReact code t s).reg p = (teamDown t s).reg p := by
  unfold teamReact
  dsimp only
  exact each_reg_of_mem _ _ _ fun a ha u => axisReact_reg hp (teamAxes_lt ht ha) (fun _ => rfl) true _ _ _ u

/-! ### Supply lost (R164) -/

/-- An axis in a short circuit takes FREEWHEEL where the supply of its gate drivers is lost. -/
def shortReleased (a : Nat) (s : State) : State :=
  if axState s a = 6 ∧ (rd s (F.LE_AX_STATE_SAFEVAR a) = 1 ∨ rd s (F.LE_AX_STATE_SAFEVAR a) = 2) then
    driveVar a 3 (wr (F.MOD_AX_STAT_CAUSE a) 4 (wr (F.MOD_AX_STAT_SAFEVAR a) 3 (wr (F.LE_AX_STATE_SAFEVAR a) 3 s)))
  else s
theorem shortReleased_reg {p a : Nat} (hp : BesideAxes p) (ha : a < 32) (s : State) : (shortReleased a s).reg p = s.reg p := by
  obtain ⟨hs, hm, -⟩ := hp a ha
  unfold shortReleased
  split
  · rw [reg_of_regs (driveVar_regs _ _ _), reg_wr_other _ _ _ p hm, reg_wr_other _ _ _ p hm, reg_wr_other _ _ _ p hs]
  · rfl
/-- The lead of a spanned partner on the locked-out team is told SAFE. -/
def partnerSafe (a : Nat) (s : State) : State :=
  if axType s a = 7 then modAx a (fun x => { x with span := { x.span with safe := true } }) s else s
theorem partnerSafe_reg (p a : Nat) (s : State) : (partnerSafe a s).reg p = s.reg p := by
  unfold partnerSafe
  split <;> rfl
theorem supplyLost_eq (t : Nat) (s : State) : supplyLost t s = each partnerSafe (teamAxes s t)
    (each (fun a => wr (F.MOD_AX_STAT_CAUSE a) 4) ((teamAxes s t).filter (axActive s))
      (tmFault 0x0504 t 0 t (each shortReleased (teamAxes s t) s))) := rfl
/-- The state in which the Halter takes the team down when its supply is lost. -/
def supplyLogged (t : Nat) (s : State) : State := logFault 0x0504 t 3 0 (each shortReleased (teamAxes s t) s)
section
variable {p t : Nat} (hp : BesideAxes p) (ht : t < 8)
include hp ht
theorem supplyLogged_reg (hl : p < 0x0F0000) (s : State) : (supplyLogged t s).reg p = s.reg p :=
  (logFault_reg_below hl _ _ _ _ _).trans (each_reg_of_mem _ _ _ fun _ ha u => shortReleased_reg hp (teamAxes_lt ht ha) u)
theorem supplyLost_reg (s : State) : (supplyLost t s).reg p = (teamDown t (supplyLogged t s)).reg p := by
  rw [supplyLost_eq, ← teamReact_reg hp ht 0x0504]
  refine (each_reg_of_mem _ _ _ fun a _ u => partnerSafe_reg p a u).trans (each_reg_of_mem _ _ _ fun a ha u => ?_)
  exact reg_wr_other _ _ _ p (hp a (teamAxes_lt ht (List.mem_of_mem_filter ha))).2.1
end

/-! ### GSUV_LOCKOUT, GSUV_RELEASED and GSUV_CLEAR (R165) -/

/-- A lock-out shown and counted. -/
def gsuvShown (t : Nat) (s : State) : State :=
  bumpSat (F.MOD_TEAM_STAT_GSCNT t) (wr (F.MOD_TEAM_STAT_GSUV t) 1 (wr (F.MOD_TEAM_STAT_GSLIVE t) 1 (wr (F.MOD_TEAM_STAT_GSREL t) 0 s)))
theorem gsuvShown_gsuv (t : Nat) (s : State) : isSet (gsuvShown t s) (F.MOD_TEAM_STAT_GSUV t) = true := by
  simp [gsuvShown, bumpSat, isSet, rd_wr_same, rd_wr_disj, F.MOD_TEAM_STAT_GSCNT, F.MOD_TEAM_STAT_GSUV]
theorem gsuvShown_gsrel (t : Nat) (s : State) : isSet (gsuvShown t s) (F.MOD_TEAM_STAT_GSREL t) = false := by
  simp [gsuvShown, bumpSat, isSet, rd_wr_same, rd_wr_disj, F.MOD_TEAM_STAT_GSCNT, F.MOD_TEAM_STAT_GSUV, F.MOD_TEAM_STAT_GSLIVE, F.MOD_TEAM_STAT_GSREL]
theorem teamStat_beside (t : TeamNo) : BesideAxes (A.MOD_TEAM_STAT t) ∧ A.MOD_TEAM_STAT t < 0x060000 := by
  refine ⟨fun a ha => ?_, ?_⟩
  · unfold A.MOD_TEAM_STAT A.LE_AX_STATE A.MOD_AX_STAT A.SAF_AX_FLT
    omega
  · unfold A.MOD_TEAM_STAT
    omega
theorem supplyLost_teamStat (t : TeamNo) (s : State) : (flushLog (supplyLost t s)).reg (A.MOD_TEAM_STAT t) = s.reg (A.MOD_TEAM_STAT t) := by
  obtain ⟨beside, below⟩ := teamStat_beside t
  rw [flushLog_reg_below (by omega), supplyLost_reg beside t.isLt,
    teamDown_reg (by unfold A.SAF_TEAMEN; omega) (by unfold A.SAF_TEAMFLT; omega), supplyLogged_reg beside t.isLt (by omega)]
theorem supplyLost_down (t : TeamNo) (s : State) : rdBit (flushLog (supplyLost t s)) F.SAF_TEAMEN_EN t = false ∧
    rdBit (flushLog (supplyLost t s)) F.SAF_TEAMFLT_TMLAT t = true := by
  have down {f : Fld} (h6 : 0x060000 ≤ f.off) (hp : f.off ≤ 0x060280) :
      rd (flushLog (supplyLost t s)) f = rd (teamDown t (supplyLogged t s)) f :=
    rd_of_reg ((flushLog_reg_below (by omega) _).trans (supplyLost_reg (besideDischarges_safety hp h6).1 t.isLt s))
  exact ⟨(congrArg (bit · t) (down (by decide) (by decide))).trans (teamDown_enable t.isLt _),
    (congrArg (bit · t) (down (by decide) (by decide))).trans (teamDown_latched t.isLt _)⟩
theorem gsuvLockout_eq {t : TeamNo} {s : State} (ha : armedOn s = true) (ht : t.val < s.nTeams) (hg : isSet s (F.MOD_TEAM_STAT_GSUV t) = false) :
    exec (.gsuvLockout t) s = done (supplyLost t (gsuvShown t s)) := by
  have clear : isSet (wr (F.MOD_TEAM_STAT_GSLIVE t) 1 (wr (F.MOD_TEAM_STAT_GSREL t) 0 s)) (F.MOD_TEAM_STAT_GSUV t) = false := by
    rw [← hg]
    simp [isSet, rd_wr_disj, F.MOD_TEAM_STAT_GSLIVE, F.MOD_TEAM_STAT_GSREL, F.MOD_TEAM_STAT_GSUV]
  change execGsuvLockout t s = _
  unfold execGsuvLockout gsuvAssert
  dsimp only
  rw [if_pos ⟨ha, ht⟩, clear]
  rfl
theorem gsuvLockout_locks {t : TeamNo} {s : State} (ha : armedOn s = true) (ht : t.val < s.nTeams) (hg : isSet s (F.MOD_TEAM_STAT_GSUV t) = false) :
    Completes (.gsuvLockout t) s fun u => isSet u (F.MOD_TEAM_STAT_GSUV t) = true ∧ isSet u (F.MOD_TEAM_STAT_GSREL t) = false ∧
      rdBit u F.SAF_TEAMEN_EN t = false ∧ rdBit u F.SAF_TEAMFLT_TMLAT t = true := by
  have stat := supplyLost_teamStat t (gsuvShown t s)
  exact ⟨_, gsuvLockout_eq ha ht hg, (isSet_of_rd (rd_of_reg (f := F.MOD_TEAM_STAT_GSUV t) stat)).trans (gsuvShown_gsuv t s),
    (isSet_of_rd (rd_of_reg (f := F.MOD_TEAM_STAT_GSREL t) stat)).trans (gsuvShown_gsrel t s), supplyLost_down t _⟩
theorem flushLog_teamStat (t : TeamNo) (s : State) : (flushLog s).reg (A.MOD_TEAM_STAT t) = s.reg (A.MOD_TEAM_STAT t) :=
  flushLog_reg_below (by have := (teamStat_beside t).2; omega) s
theorem gsuvReleased_shows {t : TeamNo} {s : State} (ha : armedOn s = true) (ht : t.val < s.nTeams) :
    Completes (.gsuvReleased t) s fun u => isSet u (F.MOD_TEAM_STAT_GSREL t) = true ∧ isSet u (F.MOD_TEAM_STAT_GSLIVE t) = false := by
  refine ⟨_, if_pos ⟨ha, ht⟩, (isSet_of_rd (rd_of_reg (f := F.MOD_TEAM_STAT_GSREL t) (flushLog_teamStat t _))).trans ?_,
    (isSet_of_rd (rd_of_reg (f := F.MOD_TEAM_STAT_GSLIVE t) (flushLog_teamStat t _))).trans ?_⟩
  · exact isSet_wr_one _ _ (show 2 + 1 ≤ 32 by decide) rfl
  · simp [isSet, rd_wr_same, rd_wr_disj, F.MOD_TEAM_STAT_GSLIVE, F.MOD_TEAM_STAT_GSREL]
theorem gsuvClear_gsuv (t : Nat) (s : State) : isSet (gsuvClear t s) (F.MOD_TEAM_STAT_GSUV t) =
    (isSet s (F.MOD_TEAM_STAT_GSUV t) && !isSet s (F.MOD_TEAM_STAT_GSREL t)) := by
  unfold gsuvClear
  split
  · next released => rw [released, isSet_wr_zero _ _ (show 0 + 1 ≤ 32 by decide) rfl, Bool.not_true, Bool.and_false]
  · next held => rw [Bool.not_eq_true _ |>.mp held, Bool.not_false, Bool.and_true]
theorem gsuvClear_clears {t : TeamNo} {s : State} (hc : coresRun s = true) : Completes (.gsuvClear t) s fun u =>
    isSet u (F.MOD_TEAM_STAT_GSUV t) = (isSet s (F.MOD_TEAM_STAT_GSUV t) && !isSet s (F.MOD_TEAM_STAT_GSREL t)) :=
  ⟨_, if_neg (not_not_intro hc), (isSet_of_rd (rd_of_reg (f := F.MOD_TEAM_STAT_GSUV t) (flushLog_teamStat t _))).trans (gsuvClear_gsuv t s)⟩

end Sys2Proof.Machine
end

section
/-! ## Edge processing and the interlock count, and the end of a leg's precharge (R153, R156, R158) -/
namespace Sys2Proof.Machine
open Sys2Proof

/-! ### EDGE_PROCESSING (R153, R156) -/

/-- Both commands of a leg high: counted and logged, and at the limit the leg is latched with the side given. -/
def ilkCounted (n side : Nat) (s : State) : State :=
  let s := bumpSat (F.MOD_LEG_CNT_ILKCNT n) s
  let c := rd s (F.MOD_LEG_CNT_ILKCNT n)
  let s := logFault 0x0502 n 0 c s
  if c = rd s (F.MOD_TEAM_CFG_ILKLIM (n / 12)) then
    let s := latchLeg n F.MOD_LEG_FLT_ILK side s
    logFault 0x0501 n 2 (3 + 16 * rd s (F.MOD_LEG_FLT_SIDE n)) s
  else s
/-- The leg of a period about to be placed keeps the duty in force. -/
theorem freshStart_duty (dt minpw f e : Int) (l : Leg) : (freshStart dt minpw f e l).2.1.duty = l.duty := by
  unfold freshStart
  split <;> rfl
/-- What edge processing leaves before it counts an interlock: the record of the leg, and of the registers the counts of narrow and of clipped
intervals. -/
structure EdgesPlaced (n : Nat) (s t : State) : Prop where
  prev : (t.leg n).prev = (s.leg n).duty
  refRun : (t.leg n).refRun = isSet s (F.MOD_LEG_CFG_BOOT n)
  ilkcnt : rd t (F.MOD_LEG_CNT_ILKCNT n) = rd s (F.MOD_LEG_CNT_ILKCNT n)
  ilklim : rd t (F.MOD_TEAM_CFG_ILKLIM (n / 12)) = rd s (F.MOD_TEAM_CFG_ILKLIM (n / 12))
theorem EdgesPlaced.of_counts {n k : Nat} {clip : Prop} [Decidable clip] {s : State} {l : Leg} (hn : n < 96) (hp : l.prev = (s.leg n).duty)
    (hr : l.refRun = isSet s (F.MOD_LEG_CFG_BOOT n)) :
    EdgesPlaced n s (modLeg n (fun _ => l) (if clip then bumpSat (F.MOD_LEG_CNT_REFCLIP n) (wr (F.MOD_TEAM_MINP_COUNT (n / 12)) k s)
      else wr (F.MOD_TEAM_MINP_COUNT (n / 12)) k s)) := by
  have counted := rd_wr_off s (F.MOD_TEAM_MINP_COUNT (n / 12)) (F.MOD_LEG_CNT_ILKCNT n) k (show 0x050010 + 32 * n ≠ 0x051008 + 16 * (n / 12) by omega)
  have limit := rd_wr_off s (F.MOD_TEAM_MINP_COUNT (n / 12)) (F.MOD_TEAM_CFG_ILKLIM (n / 12)) k
    (show 0x051000 + 16 * (n / 12) ≠ 0x051008 + 16 * (n / 12) by omega)
  generalize wr (F.MOD_TEAM_MINP_COUNT (n / 12)) k s = v at counted limit
  refine ⟨?_, ?_, counted ▸ ?_, limit ▸ ?_⟩
  · rw [leg_modLeg, if_pos rfl, hp]
  · rw [leg_modLeg, if_pos rfl, hr]
  · refine (rd_of_reg (f := F.MOD_LEG_CNT_ILKCNT n) (modLeg_reg n _ _ _)).trans ?_
    split
    · exact rd_wr_disj v (F.MOD_LEG_CNT_REFCLIP n) (F.MOD_LEG_CNT_ILKCNT n) _ (show 16 + 16 ≤ 32 by decide) (show 0 + 8 ≤ 32 by decide)
        (.inr (show 0 + 8 ≤ 16 by decide))
    · rfl
  · refine (rd_of_reg (f := F.MOD_TEAM_CFG_ILKLIM (n / 12)) (modLeg_reg n _ _ _)).trans ?_
    split
    · exact rd_wr_off v (F.MOD_LEG_CNT_REFCLIP n) (F.MOD_TEAM_CFG_ILKLIM (n / 12)) _ (show 0x051000 + 16 * (n / 12) ≠ 0x050010 + 32 * n by omega)
    · rfl
/-- EDGE_PROCESSING of a leg that is switching places its edges, then counts an interlock where there was one. -/
theorem edgeProcessing_places {n : LegNo} {s : State} (ha : armedOn s = true) (ht : n.val / 12 < s.nTeams) (hs : switching s n = true)
    (j : Fin 4) (both : Option (Nat × Nat)) : ∃ side t,
      exec (.edgeProcessing n j both) s = done (both.elim t fun _ => ilkCounted n side t) ∧ EdgesPlaced n s t := by
  change ∃ side t, execEdgeProcessing n j both s = _ ∧ EdgesPlaced n s t
  unfold execEdgeProcessing
  dsimp only
  rw [if_pos ⟨ha, ht, hs⟩]
  cases both with
  | none => exact ⟨0, _, rfl, .of_counts n.isLt (freshStart_duty ..) rfl⟩
  | some p => exact ⟨_, _, (apply_ite done _ _ _).symm, .of_counts n.isLt (freshStart_duty ..) rfl⟩

theorem edgeProcessing_half {n : LegNo} {s : State} (ha : armedOn s = true) (ht : n.val / 12 < s.nTeams) (hs : switching s n = true) (j : Fin 4) :
    Completes (.edgeProcessing n j none) s fun u => (u.leg n).prev = (s.leg n).duty ∧ (u.leg n).refRun = isSet s (F.MOD_LEG_CFG_BOOT n) := by
  obtain ⟨_, t, runs, placed⟩ := edgeProcessing_places ha ht hs j none
  refine ⟨_, runs, ?_⟩
  beta_reduce
  rw [leg_of_drive (flushLog_drive _)]
  exact ⟨placed.prev, placed.refRun⟩

/-- The interlock counted and logged. -/
def ilkLogged (n : Nat) (s : State) : State :=
  logFault 0x0502 n 0 (rd (bumpSat (F.MOD_LEG_CNT_ILKCNT n) s) (F.MOD_LEG_CNT_ILKCNT n)) (bumpSat (F.MOD_LEG_CNT_ILKCNT n) s)
/-- The leg latched for its interlocks, and logged. -/
def ilkLatched (n side : Nat) (s : State) : State :=
  logFault 0x0501 n 2 (3 + 16 * rd (latchLeg n F.MOD_LEG_FLT_ILK side s) (F.MOD_LEG_FLT_SIDE n)) (latchLeg n F.MOD_LEG_FLT_ILK side s)
theorem ilkCounted_eq (n side : Nat) (s : State) : ilkCounted n side s =
    if rd (bumpSat (F.MOD_LEG_CNT_ILKCNT n) s) (F.MOD_LEG_CNT_ILKCNT n) = rd (ilkLogged n s) (F.MOD_TEAM_CFG_ILKLIM (n / 12)) then
      ilkLatched n side (ilkLogged n s)
    else ilkLogged n s := rfl
theorem ilkLogged_reg {p : Nat} (hp : p < 0x060000) (n : Nat) (s : State) : (ilkLogged n s).reg p = (bumpSat (F.MOD_LEG_CNT_ILKCNT n) s).reg p :=
  logFault_reg_below (by omega) _ _ _ _ _
theorem ilkLatched_reg {p : Nat} (hp : p < 0x060000) (n side : Nat) (s : State) :
    (ilkLatched n side s).reg p = (legFlagged n F.MOD_LEG_FLT_ILK side s).reg p :=
  (logFault_reg_below (by omega) _ _ _ _ _).trans (latchLeg_modulation hp n _ side s)
theorem legFlagged_other {n p : Nat} (h : p ≠ A.MOD_LEG_FLT n) (side : Nat) (s : State) : (legFlagged n F.MOD_LEG_FLT_ILK side s).reg p = s.reg p := by
  unfold legFlagged
  rw [reg_wr_other _ _ _ p h, reg_wr_other _ (F.MOD_LEG_FLT_ILK n) _ p h]
  split
  · rfl
  · exact reg_wr_other _ _ _ p h
/-- The count stands, whether the leg is latched or not. -/
theorem ilkCounted_count (n : LegNo) (side : Nat) (s : State) :
    (ilkCounted n side s).reg (A.MOD_LEG_CNT n) = (bumpSat (F.MOD_LEG_CNT_ILKCNT n) s).reg (A.MOD_LEG_CNT n) := by
  have below := legCnt_modulation n
  rw [← ilkLogged_reg below, ilkCounted_eq]
  split
  · exact (ilkLatched_reg below n side _).trans (legFlagged_other (legCnt_apart n) side _)
  · rfl
theorem ilkLogged_limit (n : LegNo) (s : State) :
    rd (ilkLogged n s) (F.MOD_TEAM_CFG_ILKLIM (n / 12)) = rd s (F.MOD_TEAM_CFG_ILKLIM (n / 12)) := by
  have below : A.MOD_TEAM_CFG (n / 12) < 0x060000 := by
    unfold A.MOD_TEAM_CFG
    omega
  have apart : A.MOD_TEAM_CFG (n / 12) ≠ A.MOD_LEG_CNT n := by
    unfold A.MOD_TEAM_CFG A.MOD_LEG_CNT
    omega
  exact rd_of_reg (f := F.MOD_TEAM_CFG_ILKLIM (n / 12)) ((ilkLogged_reg below n s).trans (reg_wr_other s (F.MOD_LEG_CNT_ILKCNT n) _ _ apart))
/-- At the limit the leg is latched for its interlocks. -/
theorem ilkCounted_latches {n : LegNo} {s : State}
    (h : rd (bumpSat (F.MOD_LEG_CNT_ILKCNT n) s) (F.MOD_LEG_CNT_ILKCNT n) = rd s (F.MOD_TEAM_CFG_ILKLIM (n / 12))) (side : Nat) :
    isSet (ilkCounted n side s) (F.MOD_LEG_FLT_FAULTED n) = true ∧ isSet (ilkCounted n side s) (F.MOD_LEG_FLT_ILK n) = true := by
  have latched : ilkCounted n side s = ilkLatched n side (ilkLogged n s) :=
    (ilkCounted_eq n side s).trans (if_pos (h.trans (ilkLogged_limit n s).symm))
  have flt := ilkLatched_reg (legFlt_modulation n) n side (ilkLogged n s)
  rw [latched]
  exact ⟨(isSet_of_rd (rd_of_reg (f := F.MOD_LEG_FLT_FAULTED n) flt)).trans (legFlagged_faulted ..),
    (isSet_of_rd (rd_of_reg (f := F.MOD_LEG_FLT_ILK n) flt)).trans (legFlagged_cause (cause := F.MOD_LEG_FLT_ILK) (i := 2) rfl (by decide) side _)⟩
theorem edgeProcessing_interlock {n : LegNo} {s : State} (ha : armedOn s = true) (ht : n.val / 12 < s.nTeams) (hs : switching s n = true)
    (j : Fin 4) (b e : Nat) : Completes (.edgeProcessing n j (some (b, e))) s fun u =>
      rd u (F.MOD_LEG_CNT_ILKCNT n) = satAdd (2 ^ (F.MOD_LEG_CNT_ILKCNT n).w - 1) (rd s (F.MOD_LEG_CNT_ILKCNT n)) 1 ∧
      (rd u (F.MOD_LEG_CNT_ILKCNT n) = rd s (F.MOD_TEAM_CFG_ILKLIM (n / 12)) →
        isSet u (F.MOD_LEG_FLT_FAULTED n) = true ∧ isSet u (F.MOD_LEG_FLT_ILK n) = true) := by
  obtain ⟨side, t, runs, placed⟩ := edgeProcessing_places ha ht hs j (some (b, e))
  have cnt : (flushLog (ilkCounted n side t)).reg (A.MOD_LEG_CNT n) = (bumpSat (F.MOD_LEG_CNT_ILKCNT n) t).reg (A.MOD_LEG_CNT n) :=
    (flushLog_reg_below (by have := legCnt_modulation n; omega) _).trans (ilkCounted_count n side t)
  have flt := flushLog_legFlt n (ilkCounted n side t)
  refine ⟨_, runs, ?_, fun limit => ?_⟩
  · rw [← placed.ilkcnt]
    exact rd_bumpSat_of_reg (show 0 + 8 ≤ 32 by decide) cnt
  · obtain ⟨faulted, ilk⟩ := ilkCounted_latches ((rd_of_reg (f := F.MOD_LEG_CNT_ILKCNT n) cnt).symm.trans (limit.trans placed.ilklim.symm)) side
    exact ⟨(isSet_of_rd (rd_of_reg (f := F.MOD_LEG_FLT_FAULTED n) flt)).trans faulted, (isSet_of_rd (rd_of_reg (f := F.MOD_LEG_FLT_ILK n) flt)).trans ilk⟩

/-! ### ILKCNT_WINDOW_CLEAR (R156) -/

theorem ilkcntWindowClear_clears {t : TeamNo} {s : State} (ha : armedOn s = true) (ht : t.val < s.nTeams) (hw : rd s (F.MOD_TEAM_CFG_ILKWIN t) ≠ 0)
    (hm : s.dev.count.toNat % rd s (F.MOD_TEAM_CFG_ILKWIN t) = 0) :
    Completes (.ilkcntWindowClear t) s fun u => ∀ i < 12, rd u (F.MOD_LEG_CNT_ILKCNT (12 * t.val + i)) = 0 := by
  refine ⟨_, if_pos ⟨ha, ht, hw, hm⟩, fun i hi => ?_⟩
  have cleared := upto_reg_at (p := A.MOD_LEG_CNT (12 * t.val + i)) (fun i => wr (F.MOD_LEG_CNT_ILKCNT (12 * t.val + i)) 0) s 12 hi fun k _ hk u =>
    reg_wr_other u (F.MOD_LEG_CNT_ILKCNT (12 * t.val + k)) 0 _ (by
      change A.MOD_LEG_CNT (12 * t.val + i) ≠ A.MOD_LEG_CNT (12 * t.val + k)
      unfold A.MOD_LEG_CNT
      omega)
  have below : A.MOD_LEG_CNT (12 * t.val + i) < 0x0F0000 := by
    unfold A.MOD_LEG_CNT
    omega
  exact (rd_of_reg (f := F.MOD_LEG_CNT_ILKCNT (12 * t.val + i)) ((flushLog_reg_below below _).trans cleared)).trans
    (rd_wr_same _ _ 0 (show 0 + 8 ≤ 32 by decide))

/-! ### PRECHARGE_LEG_END (R158) -/

/-- A low side off at the end of its precharge. -/
def prechargeEnded (l : Leg) : Leg := { l with preOn := false, lastHi := lastOn l, edges := [] }
theorem prechargeLegEnd_ends {n : LegNo} {s : State} (ha : armedOn s = true) (hp : (s.leg n).preOn = true) :
    Completes (.prechargeLegEnd n) s fun u => (u.leg n).preOn = false ∧ (u.leg n).edges = [] := by
  have runs : exec (.prechargeLegEnd n) s = done (modLeg n prechargeEnded s) := (if_neg (not_not_intro ha)).trans (if_pos hp)
  refine ⟨_, runs, ?_⟩
  beta_reduce
  rw [leg_of_drive (flushLog_drive _), leg_modLeg, if_pos rfl]
  exact ⟨rfl, rfl⟩

end Sys2Proof.Machine
end

section
/-! ## The gate-driver list of a port (R166), in the layouts whose chain positions name legs of their own team (R168, assumption 11) -/
namespace Sys2Proof.Machine
open Sys2Proof

/-! ### The list moved on -/

/-- The gate-driver section of a port. -/
def dspiSection (s : State) (t : Nat) : List Byte := tget (fun _ => []) s.cfg.gdrv t
/-- The list of a port stands behind transaction i, DONE if that was its last. -/
def DspiMoved (t i : Nat) (sec : List Byte) (u : State) : Prop :=
  (u.team t).dspiIdx = i + 1 ∧ (u.team t).dspiTry = 0 ∧ isSet u (F.MOD_DSPI_STAT_DONE t) = decide (Config.gdrvCount sec ≤ i + 1)
theorem team_of_drive {s t : State} (h : t.drive = s.drive) (n : Nat) : t.team n = s.team n := by
  unfold State.team
  rw [h]
theorem modTeam_reg (n : Nat) (f : Team → Team) (s : State) (p : Nat) : (modTeam n f s).reg p = s.reg p := rfl
theorem flushLog_dspiStat (t : TeamNo) (s : State) : (flushLog s).reg (A.MOD_DSPI_STAT t) = s.reg (A.MOD_DSPI_STAT t) :=
  flushLog_reg_below (by unfold A.MOD_DSPI_STAT; omega) s
/-- The place in the list moved on by one. -/
def dspiPlaced (t i : Nat) (s : State) : State := modTeam t (fun x => { x with dspiIdx := i + 1, dspiTry := 0 }) s
theorem dspiNext_eq (t i : Nat) (s : State) : dspiNext t i s =
    if Config.gdrvCount (dspiSection s t) ≤ i + 1 then wr (F.MOD_DSPI_STAT_DONE t) 1 (dspiPlaced t i s) else dspiPlaced t i s := rfl
theorem dspiNext_moved {t : TeamNo} {s : State} (hd : isSet s (F.MOD_DSPI_STAT_DONE t) = false) (i : Nat) :
    DspiMoved t i (dspiSection s t) (flushLog (dspiNext t i s)) := by
  have placed : (dspiPlaced t i s).team t = { s.team t with dspiIdx := i + 1, dspiTry := 0 } := (team_modTeam _ _ _ _).trans (if_pos rfl)
  have team : (flushLog (dspiNext t i s)).team t = (dspiPlaced t i s).team t := by
    rw [team_of_drive (flushLog_drive _), dspiNext_eq]
    split <;> rfl
  unfold DspiMoved
  rw [team, placed, isSet_of_rd (rd_of_reg (f := F.MOD_DSPI_STAT_DONE t) (flushLog_dspiStat t _)), dspiNext_eq]
  refine ⟨rfl, rfl, ?_⟩
  split
  · next last => rw [isSet_wr_one _ _ (show 0 + 1 ≤ 32 by decide) rfl, decide_eq_true last]
  · next more =>
    rw [decide_eq_false more, ← hd]
    exact isSet_of_rd (rd_of_reg (f := F.MOD_DSPI_STAT_DONE t) (modTeam_reg _ _ _ _))
/-- DONE is the lowest bit of its register: the list moved on leaves the other fields. -/
theorem dspiNext_kept {t : TeamNo} {f : Fld} (ho : f.off = A.MOD_DSPI_STAT t) (hl : 1 ≤ f.lo) (hw : f.lo + f.w ≤ 32) (i : Nat) (s : State) :
    rd (flushLog (dspiNext t i s)) f = rd s f := by
  rw [rd_of_reg (ho ▸ flushLog_dspiStat t _), dspiNext_eq]
  split
  · exact rd_wr_disj _ (F.MOD_DSPI_STAT_DONE t) f 1 (show 0 + 1 ≤ 32 by decide) hw (.inl hl)
  · rfl

/-! ### A third mismatch -/

/-- The axes of the chain positions that failed. -/
def dspiAxes (t : Nat) (bad : List Nat) (s : State) : List Nat :=
  nub (bad.flatMap fun i => (legAxis s (12 * t + Config.gdrvLeg (dspiSection s t) i)).toList)
/-- FAIL with the index of the transaction. -/
def dspiShown (t i : Nat) (s : State) : State := wr (F.MOD_DSPI_STAT_FAIL t) 1 (wr (F.MOD_DSPI_STAT_FIDX t) i s)
theorem dspiFail_eq (t i : Nat) (bad : List Nat) (s : State) : dspiFail t i bad s =
    each (fun a s => setLock a 3 s) (dspiAxes t bad s) (axFaultAll false 0x0507 t i 7 (dspiAxes t bad s) (dspiShown t i s)) := rfl
theorem mem_of_mem_nub {a : Nat} : ∀ {l : List Nat}, a ∈ nub l → a ∈ l
  | x :: l, h => by
    unfold nub at h
    dsimp only at h
    split at h
    · exact List.mem_cons_of_mem x (mem_of_mem_nub h)
    · exact (List.mem_cons.mp h).elim (fun e => e ▸ List.mem_cons_self) fun h => List.mem_cons_of_mem x (mem_of_mem_nub h)
/-- Chain positions that name legs of the port's own team fail axes of the part. -/
theorem dspiAxes_lt {t : TeamNo} {bad : List Nat} {s : State} (hg : ∀ i ∈ bad, Config.gdrvLeg (dspiSection s t) i < 12) {a : Nat}
    (h : a ∈ dspiAxes t bad s) : a < 32 := by
  obtain ⟨i, hi, hx⟩ := List.mem_flatMap.mp (mem_of_mem_nub h)
  have leg := hg i hi
  exact legAxis_lt (n := 12 * t + Config.gdrvLeg (dspiSection s t) i) (by omega) (Option.mem_toList.mp hx)
theorem dspiStat_beside (t : TeamNo) : BesideAxes (A.MOD_DSPI_STAT t) := fun a ha => by
  unfold A.MOD_DSPI_STAT A.LE_AX_STATE A.MOD_AX_STAT A.SAF_AX_FLT
  omega
theorem dspiFail_stat {t : TeamNo} {bad : List Nat} {s : State} (hg : ∀ i ∈ bad, Config.gdrvLeg (dspiSection s t) i < 12) (i : Nat) :
    (dspiFail t i bad s).reg (A.MOD_DSPI_STAT t) = (dspiShown t i s).reg (A.MOD_DSPI_STAT t) := by
  rw [dspiFail_eq, reg_of_regs (each_regs _ _ _ fun a u => setLock_regs a 3 u)]
  unfold axFaultAll
  refine (each_reg_of_mem _ _ _ fun a ha u => blockReact_reg (dspiStat_beside t) (dspiAxes_lt hg ha) false 7 u).trans ?_
  exact logFault_reg_below (by unfold A.MOD_DSPI_STAT; omega) _ _ _ _ _
theorem setLock_cfg (a r : Nat) (s : State) : (setLock a r s).cfg = s.cfg := by
  unfold setLock
  split <;> rfl
theorem axFaultAll_cfg (now : Bool) (code src data c : Nat) (as : List Nat) (s : State) : (axFaultAll now code src data c as s).cfg = s.cfg := by
  have h := congrArg (fun u : State => u.cfg) (axFaultAll_beyond now code src data c as s)
  exact h
theorem dspiFail_section (t i : Nat) (bad : List Nat) (s : State) : dspiSection (dspiFail t i bad s) t = dspiSection s t := by
  unfold dspiSection
  rw [dspiFail_eq, each_keep State.cfg _ fun a u => setLock_cfg a 3 u, axFaultAll_cfg]
  rfl

/-! ### DSPI_TRANSACTION (R166) -/

/-- A mismatch counted, and the transaction to be tried again. -/
def dspiRetried (t : Nat) (s : State) : State := bumpSat (F.MOD_DSPI_STAT_RETRY t) (modTeam t (fun x => { x with dspiTry := x.dspiTry + 1 }) s)
theorem dspiRetried_team (t : Nat) (s : State) : (dspiRetried t s).team t = { s.team t with dspiTry := (s.team t).dspiTry + 1 } :=
  (team_modTeam t t (fun x => { x with dspiTry := x.dspiTry + 1 }) s).trans (if_pos rfl)

section
variable {t : TeamNo} {s : State} (hs : s.dev.st = .identify) (he : isSet s (F.MOD_DSPI_CFG_EN t) = true)
  (hd : isSet s (F.MOD_DSPI_STAT_DONE t) = false)
include hs he hd

theorem dspiTransaction_unread (h : Config.gdrvRead (dspiSection s t) (s.team t).dspiIdx = none) (rb : List Word) :
    Completes (.dspiTransaction t rb) s (DspiMoved t (s.team t).dspiIdx (dspiSection s t)) := by
  have runs : exec (.dspiTransaction t rb) s = done (dspiNext t (s.team t).dspiIdx s) := by
    change execDspiTransaction t rb s = _
    unfold dspiSection at h
    unfold execDspiTransaction
    dsimp only
    rw [if_neg (by simp [hs, he, hd]), h]
  exact ⟨_, runs, dspiNext_moved hd _⟩

variable {want mask rb : List Word} (h : Config.gdrvRead (dspiSection s t) (s.team t).dspiIdx = some (want, mask))
include h
/-- A transaction that reads back is judged by the positions that fail. -/
theorem dspiTransaction_judged : exec (.dspiTransaction t rb) s =
    if (dspiBad s t want mask rb).isEmpty then done (dspiNext t (s.team t).dspiIdx s)
    else if (s.team t).dspiTry < 2 then done (dspiRetried t s)
    else done (dspiNext t (s.team t).dspiIdx (dspiFail t (s.team t).dspiIdx (dspiBad s t want mask rb) s)) := by
  change execDspiTransaction t rb s = _
  unfold dspiSection at h
  unfold execDspiTransaction
  dsimp only
  rw [if_neg (by simp [hs, he, hd]), h]
  rfl
theorem dspiTransaction_agrees (hb : dspiBad s t want mask rb = []) :
    Completes (.dspiTransaction t rb) s (DspiMoved t (s.team t).dspiIdx (dspiSection s t)) :=
  ⟨_, (dspiTransaction_judged hs he hd h).trans (if_pos (by rw [hb]; rfl)), dspiNext_moved hd _⟩
theorem dspiTransaction_retries (hb : dspiBad s t want mask rb ≠ []) (ht : (s.team t).dspiTry < 2) :
    Completes (.dspiTransaction t rb) s fun u => (u.team t).dspiTry = (s.team t).dspiTry + 1 ∧ (u.team t).dspiIdx = (s.team t).dspiIdx := by
  refine ⟨_, (dspiTransaction_judged hs he hd h).trans ((if_neg (by simpa using hb)).trans (if_pos ht)), ?_⟩
  beta_reduce
  rw [team_of_drive (flushLog_drive _), dspiRetried_team]
  exact ⟨rfl, rfl⟩
/-- A third mismatch at positions that name legs of the port's own team. -/
theorem dspiTransaction_fails (hb : dspiBad s t want mask rb ≠ []) (ht : 2 ≤ (s.team t).dspiTry)
    (hg : ∀ i ∈ dspiBad s t want mask rb, Config.gdrvLeg (dspiSection s t) i < 12) :
    Completes (.dspiTransaction t rb) s fun u => DspiMoved t (s.team t).dspiIdx (dspiSection s t) u ∧ isSet u (F.MOD_DSPI_STAT_FAIL t) = true ∧
      rd u (F.MOD_DSPI_STAT_FIDX t) = (s.team t).dspiIdx % 2 ^ (F.MOD_DSPI_STAT_FIDX t).w := by
  refine ⟨_, (dspiTransaction_judged hs he hd h).trans ((if_neg (by simpa using hb)).trans (if_neg (by omega))), ?_⟩
  have stat := dspiFail_stat hg (s.team t).dspiIdx
  have pending : isSet (dspiFail t (s.team t).dspiIdx (dspiBad s t want mask rb) s) (F.MOD_DSPI_STAT_DONE t) = false := by
    rw [isSet_of_rd (rd_of_reg (f := F.MOD_DSPI_STAT_DONE t) stat), ← hd]
    simp [dspiShown, isSet, rd_wr_disj, F.MOD_DSPI_STAT_FAIL, F.MOD_DSPI_STAT_FIDX, F.MOD_DSPI_STAT_DONE]
  refine ⟨dspiFail_section t _ _ s ▸ dspiNext_moved pending _, ?_, ?_⟩
  · rw [isSet_of_rd (dspiNext_kept (f := F.MOD_DSPI_STAT_FAIL t) rfl (show 1 ≤ 1 by decide) (show 1 + 1 ≤ 32 by decide) _ _),
      isSet_of_rd (rd_of_reg (f := F.MOD_DSPI_STAT_FAIL t) stat)]
    exact isSet_wr_one _ _ (show 1 + 1 ≤ 32 by decide) rfl
  · rw [dspiNext_kept (f := F.MOD_DSPI_STAT_FIDX t) rfl (show 1 ≤ 8 by decide) (show 8 + 8 ≤ 32 by decide),
      rd_of_reg (f := F.MOD_DSPI_STAT_FIDX t) stat]
    simp [dspiShown, rd_wr_same, rd_wr_disj, F.MOD_DSPI_STAT_FAIL, F.MOD_DSPI_STAT_FIDX]
end

/-- GateSupplyLocksOut of every layout in which a chain position names a leg of its own team, which the load checks demand (R168) and no
hypothesis of the statement does. -/
theorem gateSupplyLocksOut_of_chainLegs (hg : ∀ sec i, Config.gdrvLeg sec i < 12) : Obligations.GateSupplyLocksOut := by
  unfold Obligations.GateSupplyLocksOut
  refine ⟨fun t s ha ht hu => gsuvLockout_locks ha ht hu, fun t s ha ht => gsuvReleased_shows ha ht, fun t s hc => gsuvClear_clears hc,
    fun n j s ha ht hs => edgeProcessing_half ha ht hs j, fun n j b e s ha ht hs => edgeProcessing_interlock ha ht hs j b e,
    fun t s ha ht hw hm => ilkcntWindowClear_clears ha ht hw hm, fun n s ha hp => prechargeLegEnd_ends ha hp, fun t rb s hs he hd => ?_⟩
  rcases h : Config.gdrvRead (dspiSection s t) (s.team t).dspiIdx with _ | ⟨want, mask⟩
  · obtain ⟨u, runs, moved⟩ := dspiTransaction_unread hs he hd h rb
    refine ⟨u, runs, ?_⟩
    dsimp only
    unfold dspiSection at h
    rw [h]
    exact moved
  · have shown : Completes (.dspiTransaction t rb) s fun u =>
        (dspiBad s t want mask rb = [] → DspiMoved t (s.team t).dspiIdx (dspiSection s t) u) ∧
        (dspiBad s t want mask rb ≠ [] → (s.team t).dspiTry < 2 → (u.team t).dspiTry = (s.team t).dspiTry + 1 ∧ (u.team t).dspiIdx = (s.team t).dspiIdx) ∧
        (dspiBad s t want mask rb ≠ [] → 2 ≤ (s.team t).dspiTry → DspiMoved t (s.team t).dspiIdx (dspiSection s t) u ∧
          isSet u (F.MOD_DSPI_STAT_FAIL t) = true ∧ rd u (F.MOD_DSPI_STAT_FIDX t) = (s.team t).dspiIdx % 2 ^ (F.MOD_DSPI_STAT_FIDX t).w) := by
      by_cases hb : dspiBad s t want mask rb = []
      · obtain ⟨u, runs, moved⟩ := dspiTransaction_agrees hs he hd h hb
        exact ⟨u, runs, fun _ => moved, fun ne => absurd hb ne, fun ne => absurd hb ne⟩
      · rcases Nat.lt_or_ge (s.team t).dspiTry 2 with few | many
        · obtain ⟨u, runs, again⟩ := dspiTransaction_retries hs he hd h hb few
          exact ⟨u, runs, fun e => absurd e hb, fun _ _ => again, fun _ ge => absurd few (by omega)⟩
        · obtain ⟨u, runs, failed⟩ := dspiTransaction_fails hs he hd h hb many fun i _ => hg _ i
          exact ⟨u, runs, fun e => absurd e hb, fun _ lt => absurd lt (by omega), fun _ _ => failed⟩
    obtain ⟨u, runs, shown⟩ := shown
    refine ⟨u, runs, ?_⟩
    dsimp only
    unfold dspiSection at h
    rw [h]
    exact shown

end Sys2Proof.Machine
end

section
/-! ## A chain position that names a leg beyond the part (R166, R168, assumption 11)

The layout of a gate-driver section has no body in the model, so that no proof sees which leg a chain position names. GateSupplyLocksOut holds
of the layouts above and fails of the one below: it is settled by neither. -/
namespace Sys2Proof.Machine
open Sys2Proof

/-- A device in IDENTIFY whose port 0 has two tries behind it, with an axis 32 in the register space behind the part's last one: its
MOD_AXa_STAT is the status register of port 0. -/
def strayAxis : State :=
  let s := modDev (fun d => { d with st := .identify }) State.reset
  let s := modAx 32 (fun x => { x with taken := some ⟨200000, 3, 0⟩ }) (modTeam 0 (fun x => { x with dspiTry := 2 }) s)
  wr (F.MOD_DSPI_CFG_EN 0) 1 (wr (F.MOD_DSPI_CFG_CHAIN 0) 1 (wr (F.LE_AX_CFG_TYPE 32) 1 (wr (F.LE_AX_LEGS_NLEG 32) 1 s)))
theorem strayAxis_ports : strayAxis.dev.st = .identify ∧
    isSet strayAxis (F.MOD_DSPI_CFG_EN 0) = true ∧ isSet strayAxis (F.MOD_DSPI_STAT_DONE 0) = false ∧ (strayAxis.team 0).dspiIdx = 0 ∧ (strayAxis.team 0).dspiTry = 2 ∧ dspiSection strayAxis 0 = [] := by
  decide +kernel
/-- Zeros read back fail the one position of the chain, whatever was expected. -/
theorem strayAxis_bad (want mask : List Word) : dspiBad strayAxis 0 want mask [] = [0] := by
  have chain : rd strayAxis (F.MOD_DSPI_CFG_CHAIN 0) = 1 := by decide +kernel
  unfold dspiBad
  rw [chain]
  rfl
/-- The reaction of axis 32 clears FAIL. -/
theorem strayAxis_reacts :
    isSet (axFaultAll false 0x0507 0 0 7 (nub (legAxis strayAxis 96).toList) (dspiShown 0 0 strayAxis)) (F.MOD_DSPI_STAT_FAIL 0) = false := by
  decide +kernel
/-- Where a third mismatch ends without FAIL, GateSupplyLocksOut fails. -/
theorem not_gateSupplyLocksOut_of_lostFail {t : TeamNo} {s : State} (hs : s.dev.st = .identify) (he : isSet s (F.MOD_DSPI_CFG_EN t) = true)
    (hd : isSet s (F.MOD_DSPI_STAT_DONE t) = false) {want mask rb : List Word}
    (h : Config.gdrvRead (dspiSection s t) (s.team t).dspiIdx = some (want, mask)) (hb : dspiBad s t want mask rb ≠ []) (ht : 2 ≤ (s.team t).dspiTry)
    (lost : isSet (dspiFail t (s.team t).dspiIdx (dspiBad s t want mask rb) s) (F.MOD_DSPI_STAT_FAIL t) = false) :
    ¬ Obligations.GateSupplyLocksOut := by
  unfold Obligations.GateSupplyLocksOut
  rintro ⟨-, -, -, -, -, -, -, dspi⟩
  obtain ⟨u, runs, shown⟩ := dspi t rb s hs he hd
  rw [dspiTransaction_judged hs he hd h, if_neg (by simpa using hb), if_neg (by omega), done_eq] at runs
  unfold dspiSection at h
  dsimp only at shown
  rw [h] at shown
  obtain ⟨-, -, failed⟩ := shown
  have fail := (failed hb ht).2.1
  rw [← Host.Outcome.next.inj runs,
    isSet_of_rd (dspiNext_kept (f := F.MOD_DSPI_STAT_FAIL t) rfl (show 1 ≤ 1 by decide) (show 1 + 1 ≤ 32 by decide) _ _), lost] at fail
  exact Bool.false_ne_true fail
/-- A layout in which a chain position names leg 96, which no part has, loses FAIL in `strayAxis`. -/
theorem not_gateSupplyLocksOut_of_strayLeg {want mask : List Word} (hr : Config.gdrvRead [] 0 = some (want, mask)) (hl : Config.gdrvLeg [] 0 = 96) :
    ¬ Obligations.GateSupplyLocksOut := by
  obtain ⟨identify, enabled, pending, idx, tries, sec⟩ := strayAxis_ports
  have bad := strayAxis_bad want mask
  have reacts := strayAxis_reacts
  generalize strayAxis = s at *
  have axes : dspiAxes 0 [0] s = nub (legAxis s 96).toList := by
    simp [dspiAxes, sec, hl]
  have lost : isSet (dspiFail 0 0 [0] s) (F.MOD_DSPI_STAT_FAIL 0) = false := by
    rw [dspiFail_eq, axes, isSet_of_rd (rd_of_reg (f := F.MOD_DSPI_STAT_FAIL 0) (reg_of_regs (each_regs _ _ _ fun a u => setLock_regs a 3 u) _))]
    exact reacts
  refine not_gateSupplyLocksOut_of_lostFail (t := 0) (want := want) (mask := mask) (rb := []) identify enabled pending ?_ ?_ (Nat.le_of_eq tries.symm) ?_
  · exact (congrArg₂ Config.gdrvRead sec idx).trans hr
  · exact bad ▸ List.cons_ne_nil 0 []
  · exact (congrArg₂ (fun i b => isSet (dspiFail 0 i b s) (F.MOD_DSPI_STAT_FAIL 0)) idx bad).trans lost
end Sys2Proof.Machine
end

section
/-! ## What an axis shows of a request, of READY and of a reaction that waits (R178 to R182, R207) -/
namespace Sys2Proof.Machine
open Sys2Proof

/-! ### An axis and its state register -/

theorem flushLog_ax (s : State) (a : Nat) : (flushLog s).ax a = s.ax a := ax_of_drive (flushLog_drive s) a
theorem logFault_ax (code src c data : Nat) (s : State) (a : Nat) : (logFault code src c data s).ax a = s.ax a := ax_of_drive (logFault_drive _ _ _ _ s) a
theorem ax_modAx_other {a b : Nat} (h : b ≠ a) (f : Axis → Axis) (s : State) : (modAx a f s).ax b = s.ax b := (ax_modAx a b f s).trans (if_neg h)
theorem axState_below {a : Nat} (ha : a < 32) : A.LE_AX_STATE a < 0x0F0000 := by
  unfold A.LE_AX_STATE
  omega
/-- The log recorded leaves the state register of an axis. -/
theorem rd_flushLog_state {a : Nat} {f : Fld} (ha : a < 32) (hf : f.off = A.LE_AX_STATE a) (s : State) : rd (flushLog s) f = rd s f :=
  rd_flushLog_below (hf ▸ axState_below ha) s
theorem isSet_flushLog_state {a : Nat} {f : Fld} (ha : a < 32) (hf : f.off = A.LE_AX_STATE a) (s : State) : isSet (flushLog s) f = isSet s f :=
  isSet_of_rd (rd_flushLog_state ha hf s)
theorem axActive_of_state {s t : State} {a : Nat} (h : t.reg (A.LE_AX_STATE a) = s.reg (A.LE_AX_STATE a)) : axActive t a = axActive s a := by
  have state : axState t a = axState s a := rd_of_reg (f := F.LE_AX_STATE_STATE a) h
  unfold axActive
  rw [state]
theorem axActive_of_start {s : State} {a : Nat} (h : axState s a = 3) : axActive s a = true := by
  unfold axActive
  rw [h]
  rfl

/-! ### AXIS_MODE_REQUEST (R179) -/

/-- A request of an axis that takes one shows in REQ. -/
theorem modeWrite_shown {s : State} {a : Nat} (h : TakesRequest s a) (req : Nat) : rd (modeWrite a req s) (F.LE_AX_MODE_REQ a) = req % 8 := by
  obtain ⟨⟨h0, hn⟩, h7, hs⟩ := h
  unfold modeWrite
  dsimp only
  rw [if_neg (by omega), if_neg (by simp [h7, hs])]
  exact rd_wr_same s (F.LE_AX_MODE_REQ a) req (show 0 + 3 ≤ 32 by decide)
theorem axMode_below {a : Nat} (ha : a < 32) : A.LE_AX_MODE a < 0x0F0000 := by
  unfold A.LE_AX_MODE
  omega
/-- Any other axis keeps the request that waits and the one shown. -/
theorem modeWrite_untaken {s : State} {a : Nat} (ha : a < 32) (h : ¬ TakesRequest s a) (req : Nat) :
    ((modeWrite a req s).ax a).req = (s.ax a).req ∧ (modeWrite a req s).reg (A.LE_AX_MODE a) = s.reg (A.LE_AX_MODE a) := by
  unfold modeWrite
  dsimp only
  split
  · exact ⟨rfl, rfl⟩
  next used =>
    split
    · exact ⟨congrArg Axis.req (logFault_ax _ _ _ _ s a), logFault_reg_below (axMode_below ha) _ _ _ _ _⟩
    next own =>
      rw [not_or, Option.isSome_iff_ne_none, not_not] at own
      obtain ⟨h7, hs⟩ := own
      exact absurd ⟨⟨fun h0 => used (.inl h0), by omega⟩, h7, hs⟩ h
theorem axisModeRequest_eq {s : State} (h : coresRun s = true) (a : AxisNo) (req : Byte) :
    exec (.axisModeRequest a req) s = done (modeWrite a req.toNat s) := if_neg (not_not_intro h)
theorem axisModeRequest_taken {a : AxisNo} {s : State} (hc : coresRun s = true) (h : TakesRequest s a) (req : Byte) :
    Completes (.axisModeRequest a req) s fun t => (t.ax a).req = some (req.toNat % 8) ∧ rd t (F.LE_AX_MODE_REQ a) = req.toNat % 8 :=
  ⟨_, axisModeRequest_eq hc a req, (congrArg Axis.req (flushLog_ax _ a)).trans (modeWrite_takes h _),
    (rd_flushLog_below (f := F.LE_AX_MODE_REQ a) (axMode_below a.isLt) _).trans (modeWrite_shown h _)⟩
theorem axisModeRequest_untaken {a : AxisNo} {s : State} (h : ¬ TakesRequest s a) (req : Byte) :
    Completes (.axisModeRequest a req) s fun t => (t.ax a).req = (s.ax a).req ∧ rd t (F.LE_AX_MODE_REQ a) = rd s (F.LE_AX_MODE_REQ a) := by
  by_cases hc : coresRun s = true
  · obtain ⟨waits, shown⟩ := modeWrite_untaken a.isLt h req.toNat
    exact ⟨_, axisModeRequest_eq hc a req, (congrArg Axis.req (flushLog_ax _ a)).trans waits,
      (rd_flushLog_below (f := F.LE_AX_MODE_REQ a) (axMode_below a.isLt) _).trans (rd_of_reg (f := F.LE_AX_MODE_REQ a) shown)⟩
  · exact ⟨s, if_pos hc, rfl, rfl⟩

/-! ### CONTROLLED_STOP_COMPLETE (R182) -/

/-- The axis is in READY and stops no longer. -/
def StoppedReady (a : Nat) (s : State) : Prop := axState s a = 1 ∧ isSet s (F.LE_AX_STATE_STOPPING a) = false
theorem StoppedReady.of_reg {a : Nat} {s t : State} (h : StoppedReady a s) (hr : t.reg (A.LE_AX_STATE a) = s.reg (A.LE_AX_STATE a)) : StoppedReady a t :=
  ⟨(rd_of_reg (f := F.LE_AX_STATE_STATE a) hr).trans h.1, (isSet_of_rd (rd_of_reg (f := F.LE_AX_STATE_STOPPING a) hr)).trans h.2⟩
theorem axState_modStat {a b : Nat} (ha : a < 32) : A.LE_AX_STATE a ≠ A.MOD_AX_STAT b := by
  unfold A.LE_AX_STATE A.MOD_AX_STAT
  omega
theorem axState_inj {a b : Nat} (h : a ≠ b) : A.LE_AX_STATE a ≠ A.LE_AX_STATE b := by
  unfold A.LE_AX_STATE
  omega
/-- What READY writes of an axis, with the step that a winding discharge keeps. -/
def readyShown (a step : Nat) (s : State) : State :=
  wr (F.LE_AX_STATE_STATE a) 1 s |> wr (F.LE_AX_STATE_SAFEVAR a) 0 |> wr (F.MOD_AX_STAT_SAFEVAR a) 0 |> wr (F.LE_AX_STATE_SCAUSE a) 0
    |> wr (F.LE_AX_STATE_STEP a) step |> wr (F.LE_AX_STATE_STOPPING a) 0 |> wr (F.LE_AX_STATE_FALLBACK a) 0
    |> wr (F.LE_AX_STATE_ANGSRC a) 0 |> wr (F.MOD_AX_STAT_DEG a) 0
/-- Beside what it writes, READY changes no register. -/
theorem toReadyOne_shows (a : Nat) (s : State) : ∃ step u, u.regs = s.regs ∧ toReadyOne a s = readyShown a step u := by
  refine ⟨_, _, ?_, rfl⟩
  dsimp only
  split
  · rfl
  · rw [setBlk_regs, legsHiz_regs, modAx_regs]
theorem readyShown_ready {a : Nat} (ha : a < 32) (step : Nat) (s : State) : StoppedReady a (readyShown a step s) := by
  have stat := axState_modStat (b := a) ha
  constructor
  · unfold axState readyShown
    simp [rd_wr_same, rd_wr_disj, rd_wr_off, stat, F.LE_AX_STATE_STATE, F.LE_AX_STATE_SAFEVAR, F.LE_AX_STATE_SCAUSE, F.LE_AX_STATE_STEP,
      F.LE_AX_STATE_STOPPING, F.LE_AX_STATE_FALLBACK, F.LE_AX_STATE_ANGSRC, F.MOD_AX_STAT_SAFEVAR, F.MOD_AX_STAT_DEG]
  · unfold isSet readyShown
    simp [rd_wr_same, rd_wr_disj, F.LE_AX_STATE_STOPPING, F.LE_AX_STATE_FALLBACK, F.LE_AX_STATE_ANGSRC, F.MOD_AX_STAT_DEG]
theorem toReadyOne_ready {a : Nat} (ha : a < 32) (s : State) : StoppedReady a (toReadyOne a s) := by
  obtain ⟨step, u, -, shown⟩ := toReadyOne_shows a s
  exact shown ▸ readyShown_ready ha step u
/-- An axis that enters READY leaves the state register of every other. -/
theorem toReadyOne_other {a b : Nat} (ha : a < 32) (h : a ≠ b) (s : State) : (toReadyOne b s).reg (A.LE_AX_STATE a) = s.reg (A.LE_AX_STATE a) := by
  obtain ⟨step, u, regs, shown⟩ := toReadyOne_shows b s
  have own (f : Fld) (hf : f.off = A.LE_AX_STATE b ∨ f.off = A.MOD_AX_STAT b) (v : Nat) (t : State) :
      (wr f v t).reg (A.LE_AX_STATE a) = t.reg (A.LE_AX_STATE a) :=
    reg_wr_other t f v _ (hf.elim (fun e => e ▸ axState_inj h) fun e => e ▸ axState_modStat ha)
  rw [shown, ← reg_of_regs regs]
  unfold readyShown
  rw [own _ (.inr rfl), own _ (.inl rfl), own _ (.inl rfl), own _ (.inl rfl), own _ (.inl rfl), own _ (.inl rfl), own _ (.inr rfl), own _ (.inl rfl),
    own _ (.inl rfl)]
/-- An axis that enters READY with its exciter is in READY. -/
theorem toReady_ready {a : Nat} (ha : a < 32) (s : State) : StoppedReady a (toReady a s) := by
  unfold toReady withExciter
  rw [each, if_neg (fun h => h.1 rfl)]
  refine each_of_mem_ind _ (fun b hb u hu => ?_) (toReadyOne_ready ha s)
  split
  · exact hu
  · by_cases h : a = b
    · exact h ▸ toReadyOne_ready ha u
    · exact hu.of_reg (toReadyOne_other ha h u)
/-- The end of a controlled stop in the state asked for. -/
def stopEnded (a goal : Nat) (s : State) : State := if goal = 0 then wr (F.LE_AX_STATE_STATE a) 0 s else if goal = 3 then toLocked a 4 s else s
theorem stopEnded_shows {a : Nat} {s : State} (h : StoppedReady a s) (goal : Nat) :
    isSet (stopEnded a goal s) (F.LE_AX_STATE_STOPPING a) = false ∧ axState (stopEnded a goal s) a = if goal = 0 then 0 else if goal = 3 then 7 else 1 := by
  obtain ⟨ready, stopping⟩ := h
  have kept (f : Fld) (h : f.lo + f.w ≤ 16 ∨ 17 ≤ f.lo) (hf : f.lo + f.w ≤ 32) (v : Nat) (u : State) :
      isSet (wr f v u) (F.LE_AX_STATE_STOPPING a) = isSet u (F.LE_AX_STATE_STOPPING a) :=
    isSet_wr_disj u f _ v hf (show 16 + 1 ≤ 32 by decide) h
  have state (v : Nat) (hv : v < 16) (u : State) : axState (wr (F.LE_AX_STATE_STATE a) v u) a = v :=
    (rd_wr_same u (F.LE_AX_STATE_STATE a) v (show 0 + 4 ≤ 32 by decide)).trans (Nat.mod_eq_of_lt hv)
  have stateKeeps := kept (F.LE_AX_STATE_STATE a) (.inl (show 0 + 4 ≤ 16 by decide)) (show 0 + 4 ≤ 32 by decide)
  unfold stopEnded
  split
  · exact ⟨(stateKeeps 0 s).trans stopping, state 0 (by decide) s⟩
  · split
    · refine ⟨(stateKeeps 7 _).trans ?_, state 7 (by decide) _⟩
      exact (kept (F.LE_AX_STATE_LOCKRSN a) (.inr (show 17 ≤ 20 by decide)) (show 20 + 3 ≤ 32 by decide) 4 s).trans stopping
    · exact ⟨stopping, ready⟩
theorem controlledStopComplete_ends {a : AxisNo} {s : State} (hs : isSet s (F.LE_AX_STATE_STOPPING a) = true) (hc : 8 ≤ (s.ax a).stopCnt) :
    Completes (.controlledStopComplete a) s fun t => isSet t (F.LE_AX_STATE_STOPPING a) = false ∧
      axState t a = (if (s.ax a).stopTo = 0 then 0 else if (s.ax a).stopTo = 3 then 7 else 1) := by
  have runs : exec (.controlledStopComplete a) s = done (stopEnded a (s.ax a).stopTo (toReady a s)) := if_pos ⟨hs, hc⟩
  obtain ⟨stopping, state⟩ := stopEnded_shows (toReady_ready a.isLt s) (s.ax a).stopTo
  exact ⟨_, runs, (isSet_flushLog_state a.isLt rfl _).trans stopping, (rd_flushLog_state (f := F.LE_AX_STATE_STATE a) a.isLt rfl _).trans state⟩

/-! ### ASC_RELEASED (R177) -/

/-- An axis with the short circuit of a variant, or with none. -/
def ascDriven (v : Nat) (x : Axis) : Axis := { x with asc := if v = 1 ∨ v = 2 then v else 0 }
/-- Of the records of the axes the Halter's line writes the short circuit of its own. -/
theorem driveVar_ax (a v : Nat) (s : State) (b : Nat) : (driveVar a v s).ax b = (modAx a (ascDriven v) s).ax b := by
  unfold driveVar
  split
  next short =>
    dsimp only
    generalize hm : (if (s.ax a).asc = 0 then freezeMasks a s else s) = m
    generalize hu : each _ _ m = u
    have masked (c : Nat) : m.ax c = s.ax c := by
      rw [← hm]
      split
      · exact freezeMasks_ax a s c
      · rfl
    have legs (c : Nat) : u.ax c = s.ax c := hu ▸ (ax_of_axes (eachLeg_axes _ _ m) c).trans (masked c)
    have asc : (modAx a (fun x => { x with asc := v }) u).ax b = (modAx a (ascDriven v) s).ax b := by
      unfold ascDriven
      rw [ax_modAx, ax_modAx, legs, legs, if_pos short]
    exact asc
  next other =>
    rw [setBlk_ax, ax_modAx, ax_modAx]
    unfold ascDriven
    rw [if_neg other]
/-- FREEWHEEL shown, with the count of the strides below the release speed cleared. -/
def releaseShown (a : Nat) (s : State) : State :=
  wr (F.LE_AX_STATE_SAFEVAR a) 3 (wr (F.MOD_AX_STAT_SAFEVAR a) 3 (modAx a (fun x => { x with relCnt := 0 }) s))
theorem ascReleased_releases {a : AxisNo} {s : State} (ha : armedOn s = true) (hs : axState s a = 6)
    (hv : rd s (F.LE_AX_STATE_SAFEVAR a) = 1 ∨ rd s (F.LE_AX_STATE_SAFEVAR a) = 2) (hc : 64 ≤ (s.ax a).relCnt) :
    Completes (.ascReleased a) s fun t => rd t (F.LE_AX_STATE_SAFEVAR a) = 3 ∧ axState t a = 6 ∧ (t.ax a).asc = 0 := by
  obtain ⟨data, runs⟩ : ∃ data, exec (.ascReleased a) s = done (logFault 0x040D a 0 data (driveVar a 3 (releaseShown a s))) :=
    ⟨_, (if_neg (not_not_intro ha)).trans (if_pos ⟨hs, hv, hc⟩)⟩
  have reg : (flushLog (logFault 0x040D a 0 data (driveVar a 3 (releaseShown a s)))).reg (A.LE_AX_STATE a) = (releaseShown a s).reg (A.LE_AX_STATE a) := by
    rw [flushLog_reg_below (axState_below a.isLt), logFault_reg_below (axState_below a.isLt), reg_of_regs (driveVar_regs _ _ _)]
  refine ⟨_, runs, (rd_of_reg (f := F.LE_AX_STATE_SAFEVAR a) reg).trans ?_, (rd_of_reg (f := F.LE_AX_STATE_STATE a) reg).trans (.trans ?_ hs), ?_⟩
  · exact rd_wr_same _ (F.LE_AX_STATE_SAFEVAR a) 3 (show 4 + 2 ≤ 32 by decide)
  · exact (rd_wr_disj _ (F.LE_AX_STATE_SAFEVAR a) (F.LE_AX_STATE_STATE a) 3 (show 4 + 2 ≤ 32 by decide) (show 0 + 4 ≤ 32 by decide)
      (.inr (show 0 + 4 ≤ 4 by decide))).trans (rd_wr_off _ (F.MOD_AX_STAT_SAFEVAR a) (F.LE_AX_STATE_STATE a) 3 (axState_modStat a.isLt))
  · rw [flushLog_ax, logFault_ax, driveVar_ax, ax_modAx_same]
    rfl

/-! ### A reaction that waits for the mark (R180, R207, R426) -/

/-- An axis fault stands on the axis, and a reaction waits for the mark. -/
def ReactionWaits (a : Nat) (s : State) : Prop := isSet s (F.SAF_AX_FLT_AXF a) = true ∧ (s.ax a).react.isSome = true

/-- A register beside those that a reaction on axis b alone writes. -/
def BesideAxis (b p : Nat) : Prop := p ≠ A.LE_AX_STATE b ∧ p ≠ A.MOD_AX_STAT b ∧ p ≠ A.SAF_AX_FLT b
theorem besideAxis_state {a b : Nat} (ha : a < 32) (h : a ≠ b) : BesideAxis b (A.LE_AX_STATE a) := by
  refine ⟨axState_inj h, axState_modStat ha, ?_⟩
  unfold A.LE_AX_STATE A.SAF_AX_FLT
  omega
theorem besideAxis_fault {a b : Nat} (ha : a < 32) (h : a ≠ b) (hb : b < 32) : BesideAxis b (A.SAF_AX_FLT a) := by
  unfold BesideAxis A.SAF_AX_FLT A.LE_AX_STATE A.MOD_AX_STAT
  omega

section
variable {a b p : Nat} (hp : BesideAxis b p) (h : a ≠ b)
include hp
/-- The entry of one axis into SAFE, as `enterSafe_reg` tells it of all of them. -/
theorem enterSafe_reg_other (r : React) (s : State) : (enterSafe b r s).reg p = s.reg p := by
  obtain ⟨hs, hm, -⟩ := hp
  unfold enterSafe
  dsimp only
  rw [reg_of_regs (driveVar_regs _ _ _), modAx_reg, reg_wr_other _ _ _ p hs, reg_wr_other _ _ _ p hs, reg_wr_other _ _ _ p hs,
    reg_wr_other _ _ _ p hm, reg_wr_other _ _ _ p hs, reg_wr_other _ _ _ p hs, reg_of_regs (legsHiz_regs _ _)]
  split
  · exact reg_wr_other _ _ _ p hm
  · rfl
theorem flagReact_reg_other (s : State) : (flagReact b F.SAF_AX_FLT_BLOCK s).reg p = s.reg p :=
  (reg_wr_other _ _ _ p hp.2.2).trans (reg_wr_other _ _ _ p hp.2.2)
theorem reactOne_reg_other (now : Bool) (r : React) (s : State) : (reactOne now b r F.SAF_AX_FLT_BLOCK s).reg p = s.reg p := by
  rw [← flagReact_reg_other hp s]
  unfold reactOne
  dsimp only
  repeat' split
  all_goals simp only [enterSafe_reg_other hp, modAx_reg]
omit hp
include h
theorem enterSafe_ax_other (r : React) (s : State) : (enterSafe b r s).ax a = s.ax a := by
  unfold enterSafe
  dsimp only
  rw [driveVar_ax, ax_modAx_other h, ax_modAx_other h]
  simp only [wr_ax, legsHiz_ax]
  split <;> rfl
theorem flagReact_ax_other (s : State) : (flagReact b F.SAF_AX_FLT_BLOCK s).ax a = s.ax a := 
  ax_modAx_other h (fun x => { x with reacted := true }) s
theorem reactOne_ax_other (now : Bool) (r : React) (s : State) : (reactOne now b r F.SAF_AX_FLT_BLOCK s).ax a = s.ax a := by
  rw [← flagReact_ax_other h s]
  unfold reactOne
  dsimp only
  repeat' split
  all_goals simp only [enterSafe_ax_other h, ax_modAx_other h]
end
/-- A reaction on another axis leaves the state of an axis, its fault and the reaction that waits. -/
theorem reactOne_other {a b : Nat} (ha : a < 32) (hb : b < 32) (h : a ≠ b) (now : Bool) (r : React) (s : State) :
    (axActive (reactOne now b r F.SAF_AX_FLT_BLOCK s) a = axActive s a) ∧
      (ReactionWaits a s → ReactionWaits a (reactOne now b r F.SAF_AX_FLT_BLOCK s)) := by
  refine ⟨axActive_of_state (reactOne_reg_other (besideAxis_state ha h) now r s), fun ⟨fault, waits⟩ => ⟨?_, ?_⟩⟩
  · exact (isSet_of_rd (rd_of_reg (f := F.SAF_AX_FLT_AXF a) (reactOne_reg_other (besideAxis_fault ha h hb) now r s))).trans fault
  · rwa [reactOne_ax_other h]
theorem flagReact_active (a : Nat) (s : State) : axActive (flagReact a F.SAF_AX_FLT_BLOCK s) a = axActive s a := by
  have apart : A.LE_AX_STATE a ≠ A.SAF_AX_FLT a := by
    unfold A.LE_AX_STATE A.SAF_AX_FLT
    omega
  exact axActive_of_state ((reg_wr_other _ _ _ _ apart).trans (reg_wr_other _ _ _ _ apart))
theorem flagReact_fault (a : Nat) (s : State) : isSet (flagReact a F.SAF_AX_FLT_BLOCK s) (F.SAF_AX_FLT_AXF a) = true :=
  isSet_wr_one _ (F.SAF_AX_FLT_AXF a) (show 0 + 1 ≤ 32 by decide) rfl
/-- A reaction for the mark leaves an active axis active, with a reaction that waits: its own, or one that ranks before it. -/
theorem reactOne_waits {a : Nat} {s : State} (h : axActive s a = true) (r : React) :
    axActive (reactOne false a r F.SAF_AX_FLT_BLOCK s) a = true ∧ ReactionWaits a (reactOne false a r F.SAF_AX_FLT_BLOCK s) := by
  have fault := flagReact_fault a s
  have active := (flagReact_active a s).trans h
  have taken : ReactionWaits a (modAx a (fun x => { x with react := some r }) (flagReact a F.SAF_AX_FLT_BLOCK s)) :=
    ⟨fault, congrArg (fun x : Axis => x.react.isSome) (ax_modAx_same a _ _)⟩
  unfold reactOne
  dsimp only
  rw [if_pos active, if_neg Bool.false_ne_true]
  split
  next q waiting =>
    split
    · exact ⟨active, fault, waiting ▸ rfl⟩
    · exact ⟨active, taken⟩
  · exact ⟨active, taken⟩
/-- With its exciter, with its stator or alone: a reaction of another block on an active axis waits for the mark. -/
theorem blockReact_waits {a : Nat} (ha : a < 32) {s : State} (h : axActive s a = true) (c : Nat) : ReactionWaits a (blockReact false a c s) := by
  have before {b : Nat} (hb : b < 32) (r : React) (u : State) (hu : axActive u a = true) : axActive (reactOne false b r F.SAF_AX_FLT_BLOCK u) a = true := by
    by_cases e : a = b
    · exact e ▸ (reactOne_waits hu r).1
    · exact (reactOne_other ha hb e false r u).1.trans hu
  unfold blockReact axisReact
  dsimp only
  split
  next _ e he =>
    obtain ⟨active, waits⟩ := reactOne_waits h ⟨axRank c, speedRule s a, c⟩
    by_cases own : a = e
    · exact own ▸ (reactOne_waits active _).2
    · exact (reactOne_other ha (exciterOf_lt he) own false _ _).2 waits
  next _ st _ hst => exact (reactOne_waits (before (statorOf_lt ha hst) _ s h) _).2
  · exact (reactOne_waits h _).2

end Sys2Proof.Machine
end

section
/-! ## The steps of a start, and their faults (R184 to R191) -/
namespace Sys2Proof.Machine
open Sys2Proof

/-! ### A field of the state register -/

theorem rd_wr_angSrc (a : Nat) {v : Nat} (hv : v < 4) (s : State) : rd (wr (F.LE_AX_STATE_ANGSRC a) v s) (F.LE_AX_STATE_ANGSRC a) = v :=
  (rd_wr_same s (F.LE_AX_STATE_ANGSRC a) v (show 13 + 2 ≤ 32 by decide)).trans (Nat.mod_eq_of_lt hv)
theorem rd_wr_step (a : Nat) {v : Nat} (hv : v < 8) (s : State) : rd (wr (F.LE_AX_STATE_STEP a) v s) (F.LE_AX_STATE_STEP a) = v :=
  (rd_wr_same s (F.LE_AX_STATE_STEP a) v (show 10 + 3 ≤ 32 by decide)).trans (Nat.mod_eq_of_lt hv)
theorem rd_wr_angSrc_beside (a : Nat) (v : Nat) {g : Fld} (h : g.lo + g.w ≤ 13 ∨ 15 ≤ g.lo) (hg : g.lo + g.w ≤ 32) (s : State) :
    rd (wr (F.LE_AX_STATE_ANGSRC a) v s) g = rd s g := rd_wr_disj s (F.LE_AX_STATE_ANGSRC a) g v (show 13 + 2 ≤ 32 by decide) hg h.symm
theorem rd_wr_step_beside (a : Nat) (v : Nat) {g : Fld} (h : g.lo + g.w ≤ 10 ∨ 13 ≤ g.lo) (hg : g.lo + g.w ≤ 32) (s : State) :
    rd (wr (F.LE_AX_STATE_STEP a) v s) g = rd s g := rd_wr_disj s (F.LE_AX_STATE_STEP a) g v (show 10 + 3 ≤ 32 by decide) hg h.symm
/-- STEP reads the same past a write of ANGSRC. -/
theorem step_wr_angSrc (a v : Nat) (s : State) : rd (wr (F.LE_AX_STATE_ANGSRC a) v s) (F.LE_AX_STATE_STEP a) = rd s (F.LE_AX_STATE_STEP a) :=
  rd_wr_angSrc_beside a v (.inl (show 10 + 3 ≤ 13 by decide)) (show 10 + 3 ≤ 32 by decide) s
/-- ANGSRC reads the same past a write of STEP. -/
theorem angSrc_wr_step (a v : Nat) (s : State) : rd (wr (F.LE_AX_STATE_STEP a) v s) (F.LE_AX_STATE_ANGSRC a) = rd s (F.LE_AX_STATE_ANGSRC a) :=
  rd_wr_step_beside a v (.inr (show 13 ≤ 13 by decide)) (show 13 + 2 ≤ 32 by decide) s

/-! ### The closed loop begun -/

theorem closeLoop_closed (a src : Nat) (s : State) : ((closeLoop a src s).ax a).closed = true := by
  rw [closeLoop_eq, wr_ax, wr_ax, ax_modAx_same]
  rfl
theorem closeLoop_angSrc (a : Nat) {src : Nat} (h : src < 4) (s : State) : rd (closeLoop a src s) (F.LE_AX_STATE_ANGSRC a) = src := rd_wr_angSrc a h _
theorem closeLoop_step (a src : Nat) (s : State) : rd (closeLoop a src s) (F.LE_AX_STATE_STEP a) = 0 :=
  (step_wr_angSrc a src _).trans (rd_wr_step a (by decide) _)
/-- A field beside STEP and ANGSRC reads the same with the closed loop begun. -/
theorem closeLoop_beside (a src : Nat) {g : Fld} (h : g.lo + g.w ≤ 10 ∨ 15 ≤ g.lo) (hg : g.lo + g.w ≤ 32) (s : State) : rd (closeLoop a src s) g = rd s g := by
  rw [closeLoop_eq, rd_wr_angSrc_beside a src (h.imp_left (by omega)) hg, rd_wr_step_beside a 0 (h.imp_right (by omega)) hg]
  rfl

theorem starting_iff {s : State} {a step : Nat} :
    starting s a step = true ↔ axState s a = 3 ∧ (s.ax a).closed = false ∧ rd s (F.LE_AX_STATE_STEP a) = step := by
  simp [starting, and_assoc]
theorem starting_active {s : State} {a step : Nat} (h : starting s a step = true) : axActive s a = true := axActive_of_start (starting_iff.mp h).1

/-! ### FIELD_STEP_COMPLETE (R184) -/

/-- An axis whose start path begins. -/
def pathReset (x : Axis) : Axis := { x with stepCnt := 0, catches := [], blend := 0 }
theorem pathBegin_closes {a : Nat} {s : State} (h : (s.ax a).path = 0) : pathBegin a s = closeLoop a 0 (modAx a pathReset s) := by
  simp only [pathBegin, ax_modAx_same, h]
  rfl
theorem pathBegin_waits {a : Nat} {s : State} (h : (s.ax a).path = 1) :
    pathBegin a s = wr (F.LE_AX_STATE_STEP a) 0 (wr (F.LE_AX_STATE_ANGSRC a) 0 (modAx a pathReset s)) := by
  simp only [pathBegin, ax_modAx_same, h]
  rfl
theorem pathBegin_aligns {a : Nat} {s : State} (h : (s.ax a).path = 2) :
    pathBegin a s = wr (F.LE_AX_STATE_STEP a) 4 (wr (F.LE_AX_STATE_ANGSRC a) 2 (modAx a pathReset s)) := by
  simp only [pathBegin, ax_modAx_same, h]
  rfl
theorem pathBegin_catches {a : Nat} {s : State} (h : 3 ≤ (s.ax a).path) :
    pathBegin a s = wr (F.LE_AX_STATE_STEP a) 2 (wr (F.LE_AX_STATE_ANGSRC a) 2 (modAx a pathReset s)) := by
  obtain ⟨n, h⟩ := Nat.exists_eq_add_of_le' h
  simp only [pathBegin, ax_modAx_same, h]
  rfl
theorem fieldStepComplete_begins {a : AxisNo} {s : State} (hs : starting s a 1 = true) (hc : 16 ≤ (s.ax a).fieldCnt) :
    Completes (.fieldStepComplete a) s fun t =>
      ((s.ax a).path = 0 → (t.ax a).closed = true) ∧ ((s.ax a).path = 1 → rd t (F.LE_AX_STATE_STEP a) = 0 ∧ (t.ax a).closed = false) ∧
      ((s.ax a).path = 2 → rd t (F.LE_AX_STATE_STEP a) = 4) ∧ (3 ≤ (s.ax a).path → rd t (F.LE_AX_STATE_STEP a) = 2) := by
  obtain ⟨-, opened, -⟩ := starting_iff.mp hs
  refine ⟨_, if_pos ⟨hs, hc⟩, fun h => ?_, fun h => ⟨?_, ?_⟩, fun h => ?_, fun h => ?_⟩
  · rw [flushLog_ax, pathBegin_closes h, closeLoop_closed]
  · rw [rd_flushLog_state a.isLt rfl, pathBegin_waits h, rd_wr_step a (by decide)]
  · rw [flushLog_ax, pathBegin_waits h, wr_ax, wr_ax, ax_modAx_same]
    exact opened
  · rw [rd_flushLog_state a.isLt rfl, pathBegin_aligns h, rd_wr_step a (by decide)]
  · rw [rd_flushLog_state a.isLt rfl, pathBegin_catches h, rd_wr_step a (by decide)]

/-! ### ALIGN_COMPLETE (R185) -/

/-- The offset of a rotor aligned with its field: the electrical angle of the snapshot, negated. -/
def alignOffset (s : State) (a : Nat) : Word := BitVec.ofInt 32 (-((rd s (F.LE_AX_MOTOR_POLEP a) * (rd32 s (inBase a)).toNat : Nat) : Int))
/-- An axis whose offset stands for a reference of its interface. -/
def offsetRef (k : Nat) (x : Axis) : Axis := { x with alignRef := some k }
/-- The offset taken. -/
def offsetTaken (a : Nat) (s : State) : State :=
  wr (F.LE_AX_STATE_OFSVALID a) 1 (wrW (F.LE_AX_COMM_OFS a) (alignOffset s a)
    (modAx a (offsetRef (s.ifc (rd s (F.LE_AX_CFG_POSIF a))).refSteps) s))
/-- An axis whose open-loop ramp begins, its flux linkage given. -/
def openLooped (psi : F32) (x : Axis) : Axis :=
  { x with thol := 0, wol := 0, stepCnt := 0, eng := { x.eng with eth := 0, ew := 0, psa := psi, psb := 0, ecnt := 0 } }
/-- The open-loop ramp begun. -/
def openLoopBegun (a : Nat) (psi : F32) (s : State) : State :=
  wr (F.LE_AX_STATE_STEP a) 5 (modAx a (openLooped psi) (wr (F.LE_AX_STATE_ESTCONV a) 0 s))
theorem axComm_state (a : Nat) : A.LE_AX_COMM a ≠ A.LE_AX_STATE a := by
  unfold A.LE_AX_COMM A.LE_AX_STATE
  omega
theorem axComm_below {a : Nat} (ha : a < 32) : A.LE_AX_COMM a < 0x0F0000 := by
  unfold A.LE_AX_COMM
  omega
theorem offsetTaken_valid (a : Nat) (s : State) : isSet (offsetTaken a s) (F.LE_AX_STATE_OFSVALID a) = true :=
  isSet_wr_one _ (F.LE_AX_STATE_OFSVALID a) (show 18 + 1 ≤ 32 by decide) rfl
theorem offsetTaken_offset (a src : Nat) (s : State) : rdW (closeLoop a src (offsetTaken a s)) (F.LE_AX_COMM_OFS a) = alignOffset s a := by
  have kept (f : Fld) (hf : f.off = A.LE_AX_STATE a) (v : Nat) (u : State) : rd (wr f v u) (F.LE_AX_COMM_OFS a) = rd u (F.LE_AX_COMM_OFS a) :=
    rd_wr_off u f (F.LE_AX_COMM_OFS a) v (hf ▸ axComm_state a)
  have shown : rd (closeLoop a src (offsetTaken a s)) (F.LE_AX_COMM_OFS a) = rd (offsetTaken a s) (F.LE_AX_COMM_OFS a) :=
    (kept (F.LE_AX_STATE_ANGSRC a) rfl src _).trans (kept (F.LE_AX_STATE_STEP a) rfl 0 _)
  rw [rdW_of_rd shown, offsetTaken, rdW_of_rd (kept (F.LE_AX_STATE_OFSVALID a) rfl 1 _)]
  exact rdW_wrW_same _ (f := F.LE_AX_COMM_OFS a) rfl rfl _
theorem alignComplete_offset {a : AxisNo} {s : State} (hs : starting s a 4 = true) (ht : s.msStrides (prm s a 0x8D4).toNat ≤ (s.ax a).stepCnt)
    (hp : (s.ax a).path = 2) (hr : inRest s a = true) :
    Completes (.alignComplete a) s fun t => isSet t (F.LE_AX_STATE_OFSVALID a) = true ∧ (t.ax a).closed = true ∧ rd t (F.LE_AX_STATE_ANGSRC a) = 0 ∧
      rdW t (F.LE_AX_COMM_OFS a) = alignOffset s a := by
  have runs : exec (.alignComplete a) s = done (closeLoop a 0 (offsetTaken a s)) := (if_pos ⟨hs, ht, fun _ => hr⟩).trans (if_pos hp)
  refine ⟨_, runs, ?_, ?_, ?_, ?_⟩
  · rw [isSet_flushLog_state a.isLt rfl, isSet_of_rd (closeLoop_beside a 0 (g := F.LE_AX_STATE_OFSVALID a) (.inr (show 15 ≤ 18 by decide))
      (show 18 + 1 ≤ 32 by decide) _)]
    exact offsetTaken_valid a s
  · rw [flushLog_ax, closeLoop_closed]
  · rw [rd_flushLog_state a.isLt rfl, closeLoop_angSrc a (by decide)]
  · rw [rdW_of_rd (rd_flushLog_below (f := F.LE_AX_COMM_OFS a) (axComm_below a.isLt) _), offsetTaken_offset]
theorem alignComplete_ramp {a : AxisNo} {s : State} (hs : starting s a 4 = true) (ht : s.msStrides (prm s a 0x8D4).toNat ≤ (s.ax a).stepCnt)
    (hp : (s.ax a).path ≠ 2) :
    Completes (.alignComplete a) s fun t => rd t (F.LE_AX_STATE_STEP a) = 5 ∧ isSet t (F.LE_AX_STATE_ESTCONV a) = false ∧
      (t.ax a).thol = 0 ∧ (t.ax a).wol = 0 := by
  obtain ⟨psi, runs⟩ : ∃ psi, exec (.alignComplete a) s = done (openLoopBegun a psi s) :=
    ⟨_, (if_pos ⟨hs, ht, fun h => absurd h hp⟩).trans (if_neg hp)⟩
  have looped : (openLoopBegun a psi s).ax a = openLooped psi (s.ax a) := by rw [openLoopBegun, wr_ax, ax_modAx_same, wr_ax]
  refine ⟨_, runs, ?_, ?_, ?_, ?_⟩
  · rw [rd_flushLog_state a.isLt rfl]
    exact rd_wr_step a (by decide) _
  · rw [isSet_flushLog_state a.isLt rfl]
    refine (isSet_of_rd (rd_wr_step_beside a 5 (g := F.LE_AX_STATE_ESTCONV a) (.inr (show 13 ≤ 15 by decide)) (show 15 + 1 ≤ 32 by decide) _)).trans ?_
    exact isSet_wr_zero s (F.LE_AX_STATE_ESTCONV a) (show 15 + 1 ≤ 32 by decide) rfl
  · rw [flushLog_ax, looped]
    rfl
  · rw [flushLog_ax, looped]
    rfl

/-! ### BLEND_COMPLETE (R188) -/

theorem blendComplete_closes {a : AxisNo} {s : State} (hs : starting s a 6 = true) (hc : 16 ≤ (s.ax a).blend) :
    Completes (.blendComplete a) s fun t => (t.ax a).closed = true ∧ rd t (F.LE_AX_STATE_ANGSRC a) = 1 ∧ rd t (F.LE_AX_STATE_STEP a) = 0 := by
  refine ⟨_, if_pos ⟨hs, hc⟩, ?_, ?_, ?_⟩
  · rw [flushLog_ax, closeLoop_closed]
  · rw [rd_flushLog_state a.isLt rfl, closeLoop_angSrc a (by decide)]
  · rw [rd_flushLog_state a.isLt rfl, closeLoop_step]

/-! ### The fault of a start (R186, R187, R189, R191) -/

/-- The start faults lie in one register, which no reaction writes. -/
theorem axStartFault_beside {a : Nat} (ha : a < 32) : BesideAxes (A.LE_AX_SFLT a) := fun b hb => by
  unfold A.LE_AX_SFLT A.LE_AX_STATE A.MOD_AX_STAT A.SAF_AX_FLT
  omega
theorem axStartFault_below {a : Nat} (ha : a < 32) : A.LE_AX_SFLT a < 0x0F0000 := by
  unfold A.LE_AX_SFLT
  omega
theorem axState_startFault (a : Nat) : A.LE_AX_STATE a ≠ A.LE_AX_SFLT a := by
  unfold A.LE_AX_STATE A.LE_AX_SFLT
  omega
theorem axFault_below {a : Nat} (ha : a < 32) : A.SAF_AX_FLT a < 0x0F0000 := by
  unfold A.SAF_AX_FLT
  omega
theorem ReactionWaits.flushLog {a : Nat} (ha : a < 32) {s : State} (h : ReactionWaits a s) : ReactionWaits a (flushLog s) := by
  obtain ⟨fault, waits⟩ := h
  exact ⟨(isSet_of_rd (rd_flushLog_below (f := F.SAF_AX_FLT_AXF a) (axFault_below ha) s)).trans fault, (flushLog_ax s a).symm ▸ waits⟩
/-- A command that reports the fault of a start on an active axis sets its flag with the axis fault, and a reaction waits for the mark. -/
theorem startFault_completes {a : AxisNo} {s : State} (h : axActive s a = true) {c : Instr} {code data : Nat} {flag : Nat → Fld}
    (hf : (flag a).off = A.LE_AX_SFLT a) (hl : (flag a).lo + (flag a).w ≤ 32) (hw : (flag a).w = 1)
    (runs : exec c s = done (startFault a code data flag s)) :
    Completes c s fun t => isSet t (flag a) = true ∧ isSet t (F.SAF_AX_FLT_AXF a) = true ∧ (t.ax a).react.isSome = true := by
  have active : axActive (logFault code a 2 data (wr (flag a) 1 s)) a = true := by
    refine (axActive_of_state ((logFault_reg_below (axState_below a.isLt) _ _ _ _ _).trans (reg_wr_other _ _ _ _ ?_))).trans h
    exact hf ▸ axState_startFault a
  refine ⟨_, runs, ?_, (blockReact_waits a.isLt active 3).flushLog a.isLt⟩
  have reg : (flushLog (startFault a code data flag s)).reg (A.LE_AX_SFLT a) = (wr (flag a) 1 s).reg (A.LE_AX_SFLT a) :=
    (flushLog_reg_below (axStartFault_below a.isLt) _).trans
      ((blockReact_reg (axStartFault_beside a.isLt) a.isLt false 3 _).trans (logFault_reg_below (axStartFault_below a.isLt) _ _ _ _ _))
  exact (isSet_of_rd (rd_of_reg (hf ▸ reg))).trans (isSet_wr_one s (flag a) hl hw)
theorem brakeTimeout_faults {a : AxisNo} {s : State} (hs : starting s a 3 = true) (hb : (s.ax a).brkEnd = false)
    (ht : s.msStrides (prm s a 0x8DC).toNat ≤ (s.ax a).stepCnt) :
    Completes (.brakeTimeout a) s fun t => isSet t (F.LE_AX_SFLT_BRKFLT a) = true ∧ isSet t (F.SAF_AX_FLT_AXF a) = true ∧ (t.ax a).react.isSome = true :=
  startFault_completes (flag := F.LE_AX_SFLT_BRKFLT) (starting_active hs) rfl (show 1 + 1 ≤ 32 by decide) rfl
    (if_pos ⟨hs, Bool.eq_false_iff.mp hb, ht⟩)
theorem startTimeout_faults {a : AxisNo} {s : State} (hs : axState s a = 3) (hc : (s.ax a).closed = false) (hm : isMachine s a = true)
    (hb : rd s (F.LE_AX_STATE_STEP a) ≠ 3) (ht : s.msStrides (prm s a 0x8D8).toNat ≤ (s.ax a).startCnt) :
    Completes (.startTimeout a) s fun t => isSet t (F.LE_AX_SFLT_STARTFLT a) = true ∧ isSet t (F.SAF_AX_FLT_AXF a) = true ∧
      (t.ax a).react.isSome = true :=
  startFault_completes (flag := F.LE_AX_SFLT_STARTFLT) (axActive_of_start hs) rfl (show 0 + 1 ≤ 32 by decide) rfl
    (if_pos ⟨hs, Bool.eq_false_iff.mp hc, hm, hb, ht⟩)
theorem estimatorLost_faults {a : AxisNo} {s : State} (ha : angSrc s a = 1) (hs : axState s a = 4 ∨ axState s a = 5)
    (hc : 32 ≤ (s.ax a).estClr ∨ 16 ≤ (s.ax a).estLow) :
    Completes (.estimatorLost a) s fun t => isSet t (F.LE_AX_SFLT_ESTLOST a) = true ∧ isSet t (F.SAF_AX_FLT_AXF a) = true ∧
      (t.ax a).react.isSome = true := by
  have active : axActive s a = true := by
    unfold axActive
    rcases hs with h | h <;> simp [h]
  exact startFault_completes (flag := F.LE_AX_SFLT_ESTLOST) active rfl (show 2 + 1 ≤ 32 by decide) rfl (if_pos ⟨ha, hs, hc⟩)

/-! ### CATCH_WINDOW_END (R186, Table 7.3) -/

/-- An axis whose step begins. -/
def stepBegun (x : Axis) : Axis := { x with stepCnt := 0 }
/-- The align begun after a catch window. -/
def catchAligned (a : Nat) (s : State) : State := wr (F.LE_AX_STATE_STEP a) 4 (wr (F.LE_AX_STATE_ANGSRC a) 2 (modAx a stepBegun s))
/-- The electrical speed of the fit. -/
def catchElec (s : State) (a : Nat) : F32 := Flt.div (catchFit (s.ax a).catches).2.1 s.tSec
/-- The estimator set to the caught rotor: the angle of the fit at the end of the window, a quarter turn behind its speed. -/
def catchTaken (a : Nat) (s : State) : State :=
  let fit := catchFit (s.ax a).catches
  catchSet a (Flt.wrap (Flt.sub (Flt.add fit.1 (Flt.mul fit.2.1 (Flt.ofNat (s.ax a).catches.length)))
    (Flt.copysign (Flt.div Flt.pi 0x40000000) (catchElec s a)))) (catchElec s a) s
/-- The brake begun on a rotor caught backward. -/
def catchBraked (a : Nat) (s : State) : State :=
  wr (F.LE_AX_STATE_STEP a) 3 (wr (F.LE_AX_STATE_ANGSRC a) 1 (modAx a stepBegun (catchTaken a s)))
/-- The closed loop begun on the estimator with a rotor caught forward. -/
def catchClosed (a : Nat) (s : State) : State := wr (F.LE_AX_STATE_CAUGHT a) 1 (closeLoop a 1 (catchTaken a s))

section
variable {a : AxisNo} {s : State} (hs : starting s a 2 = true) (hn : s.strides 2000 ≤ (s.ax a).catches.length)
include hs hn
/-- CATCH_WINDOW_END of a full window decides by the fit, in the order of Table 7.3. -/
theorem catchWindowEnd_eq : exec (.catchWindowEnd a) s =
    if Flt.lt (catchFit (s.ax a).catches).2.2.2 (prm s a 0x8BC) = true then done (catchAligned a s)
    else if Flt.lt 0x3e4ccccd (catchFit (s.ax a).catches).2.2.1 = true then done (startFault a 0x0408 1 F.LE_AX_SFLT_STARTFLT s)
    else if Flt.lt (Flt.abs (catchSpd s a)) (prm s a 0x8C0) = true then done (catchAligned a s)
    else if (!Flt.sign (catchElec s a)) = (s.ax a).forward then done (catchClosed a s) else done (catchBraked a s) := if_pos ⟨hs, hn⟩
theorem catchWindowEnd_aligns (h : Flt.lt (catchFit (s.ax a).catches).2.2.2 (prm s a 0x8BC) = true ∨
      (Flt.lt 0x3e4ccccd (catchFit (s.ax a).catches).2.2.1 = false ∧ Flt.lt (Flt.abs (catchSpd s a)) (prm s a 0x8C0) = true)) :
    Completes (.catchWindowEnd a) s fun t => rd t (F.LE_AX_STATE_STEP a) = 4 ∧ rd t (F.LE_AX_STATE_ANGSRC a) = 2 := by
  have runs : exec (.catchWindowEnd a) s = done (catchAligned a s) := by
    rw [catchWindowEnd_eq hs hn]
    split
    · rfl
    next loud =>
      obtain ⟨straight, slow⟩ := h.resolve_left loud
      rw [if_neg (Bool.eq_false_iff.mp straight), if_pos slow]
  refine ⟨_, runs, ?_, ?_⟩
  · rw [rd_flushLog_state a.isLt rfl]
    exact rd_wr_step a (by decide) _
  · rw [rd_flushLog_state a.isLt rfl]
    exact (angSrc_wr_step a 4 _).trans (rd_wr_angSrc a (by decide) _)
variable (ha : Flt.lt (catchFit (s.ax a).catches).2.2.2 (prm s a 0x8BC) = false)
include ha
theorem catchWindowEnd_faults (hr : Flt.lt 0x3e4ccccd (catchFit (s.ax a).catches).2.2.1 = true) :
    Completes (.catchWindowEnd a) s fun t => isSet t (F.LE_AX_SFLT_STARTFLT a) = true ∧ isSet t (F.SAF_AX_FLT_AXF a) = true ∧
      (t.ax a).react.isSome = true :=
  startFault_completes (flag := F.LE_AX_SFLT_STARTFLT) (starting_active hs) rfl (show 0 + 1 ≤ 32 by decide) rfl
    ((catchWindowEnd_eq hs hn).trans ((if_neg (Bool.eq_false_iff.mp ha)).trans (if_pos hr)))
theorem catchWindowEnd_catches (hr : Flt.lt 0x3e4ccccd (catchFit (s.ax a).catches).2.2.1 = false)
    (hv : Flt.lt (Flt.abs (catchSpd s a)) (prm s a 0x8C0) = false) :
    Completes (.catchWindowEnd a) s fun t => rd t (F.LE_AX_STATE_ANGSRC a) = 1 ∧
      ((!Flt.sign (catchElec s a)) = (s.ax a).forward → (t.ax a).closed = true ∧ isSet t (F.LE_AX_STATE_CAUGHT a) = true) ∧
      ((!Flt.sign (catchElec s a)) ≠ (s.ax a).forward → rd t (F.LE_AX_STATE_STEP a) = 3) := by
  have runs := catchWindowEnd_eq hs hn
  rw [if_neg (Bool.eq_false_iff.mp ha), if_neg (Bool.eq_false_iff.mp hr), if_neg (Bool.eq_false_iff.mp hv)] at runs
  by_cases forward : (!Flt.sign (catchElec s a)) = (s.ax a).forward
  · refine ⟨_, runs.trans (if_pos forward), ?_, fun _ => ⟨?_, ?_⟩, fun backward => absurd forward backward⟩
    · rw [rd_flushLog_state a.isLt rfl]
      exact (rd_wr_disj _ (F.LE_AX_STATE_CAUGHT a) (F.LE_AX_STATE_ANGSRC a) 1 (show 19 + 1 ≤ 32 by decide) (show 13 + 2 ≤ 32 by decide)
        (.inr (show 13 + 2 ≤ 19 by decide))).trans (closeLoop_angSrc a (by decide) _)
    · rw [flushLog_ax, catchClosed, wr_ax, closeLoop_closed]
    · rw [isSet_flushLog_state a.isLt rfl]
      exact isSet_wr_one _ (F.LE_AX_STATE_CAUGHT a) (show 19 + 1 ≤ 32 by decide) rfl
  · refine ⟨_, runs.trans (if_neg forward), ?_, fun h => absurd h forward, fun _ => ?_⟩
    · rw [rd_flushLog_state a.isLt rfl]
      exact (angSrc_wr_step a 3 _).trans (rd_wr_angSrc a (by decide) _)
    · rw [rd_flushLog_state a.isLt rfl]
      exact rd_wr_step a (by decide) _
end

/-- Settles O20, command by command: each by the fields and the record that the state it ends in shows for its axis. -/
theorem axisRequestsAndStarts : Obligations.AxisRequestsAndStarts := by
  unfold Obligations.AxisRequestsAndStarts
  refine ⟨fun a req s hc h0 hn h7 hst => axisModeRequest_taken hc ⟨⟨h0, hn⟩, h7, hst⟩ req, fun a req s h => axisModeRequest_untaken ?_ req,
    fun a s hs hc => controlledStopComplete_ends hs hc, fun a s hs hc => fieldStepComplete_begins hs hc,
    fun a s hs ht hp hr => alignComplete_offset hs ht hp hr, fun a s hs ht hp => alignComplete_ramp hs ht hp, fun a s hs hc => blendComplete_closes hs hc,
    fun a s hs hn h => catchWindowEnd_aligns hs hn h, fun a s hs hn ha hr => catchWindowEnd_faults hs hn ha hr,
    fun a s hs hn ha hr hv => catchWindowEnd_catches hs hn ha hr hv, fun a s hs hb ht => brakeTimeout_faults hs hb ht,
    fun a s hs hc hm hb ht => startTimeout_faults hs hc hm hb ht, fun a s ha hs hc => estimatorLost_faults ha hs hc,
    fun a s ha hs hv hc => ascReleased_releases ha hs hv hc⟩
  rintro ⟨⟨h0, hn⟩, h7, hst⟩
  rcases h with h | h | h | h
  · exact h0 h
  · omega
  · exact h7 h
  · exact h hst

end Sys2Proof.Machine
end

section
/-! ## Discharges: the host command, its abort, completion and timeout (R193, R194) -/
namespace Sys2Proof.Machine
open Sys2Proof

/-! ### The status of a discharge -/

theorem dischStat_below {g : Nat} (hg : g < 4) : A.LE_DCL_DSTAT g < 0x0F0000 := by
  unfold A.LE_DCL_DSTAT
  omega
theorem dischStat_beside {g : Nat} (hg : g < 4) : BesideAxes (A.LE_DCL_DSTAT g) := fun a ha => by
  unfold A.LE_DCL_DSTAT A.LE_AX_STATE A.MOD_AX_STAT A.SAF_AX_FLT
  omega
/-- The log recorded leaves the status of a discharge. -/
theorem rd_flushLog_disch {g : Nat} {f : Fld} (hg : g < 4) (hf : f.off = A.LE_DCL_DSTAT g) (s : State) : rd (flushLog s) f = rd s f :=
  rd_flushLog_below (hf ▸ dischStat_below hg) s
theorem isSet_flushLog_disch {g : Nat} {f : Fld} (hg : g < 4) (hf : f.off = A.LE_DCL_DSTAT g) (s : State) : isSet (flushLog s) f = isSet s f :=
  isSet_of_rd (rd_flushLog_disch hg hf s)

theorem rd_modDcl (n : Nat) (k : Dcl → Dcl) (s : State) (f : Fld) : rd (modDcl n k s) f = rd s f := rd_of_reg (modDcl_reg n k s _)
theorem flushLog_dcl (s : State) (g : Nat) : (flushLog s).dcl g = s.dcl g := by
  unfold State.dcl
  rw [flushLog_drive]

/-! ### DISCHARGE_START (R193) -/

/-- A discharge of group g begun, before the reactions of its axes. -/
def dischBegun (g src : Nat) (s : State) : State :=
  let s := modDcl g (fun d => { d with strides := 0, low := 0, abort := false })
    (wr (F.LE_DCL_DSTAT_ACTIVE g) 1 s |> wr (F.LE_DCL_DSTAT_SRC g) src |> wr (F.LE_DCL_DSTAT_ELAPSED g) 0)
  if bit (rd s (F.LE_DCL_DCFG_PATH g)) 0 then wr (F.LE_DCL_DSTAT_RES g) 1 s else s
theorem dischBegun_shows (g : Nat) (s : State) :
    isSet (dischBegun g 1 s) (F.LE_DCL_DSTAT_ACTIVE g) = true ∧ rd (dischBegun g 1 s) (F.LE_DCL_DSTAT_SRC g) = 1 := by
  unfold dischBegun isSet
  dsimp only
  split <;> simp [rd_modDcl, rd_wr_same, rd_wr_disj, F.LE_DCL_DSTAT_ACTIVE, F.LE_DCL_DSTAT_SRC, F.LE_DCL_DSTAT_ELAPSED, F.LE_DCL_DSTAT_RES]
/-- A host command on a group without a discharge begins one, with the reactions of the group's axes. -/
theorem dischTrigger_begins {g : Nat} {s : State} (h : isSet s (F.LE_DCL_DSTAT_ACTIVE g) = false) : dischTrigger g 1 s =
    each (fun a s => if axActive s a then axisReact true a (axRank 8) none 8 F.SAF_AX_FLT_BLOCK s else s) (dclAxes (dischBegun g 1 s) g)
      (dischBegun g 1 s) := by
  unfold dischTrigger
  rw [if_neg (show ¬ 1 = 2 by decide)]
  exact if_neg (Bool.eq_false_iff.mp h)
/-- On a group with a discharge in course it changes nothing. -/
theorem dischTrigger_runs {g : Nat} {s : State} (h : isSet s (F.LE_DCL_DSTAT_ACTIVE g) = true) : dischTrigger g 1 s = s := by
  unfold dischTrigger
  rw [if_neg (show ¬ 1 = 2 by decide)]
  exact (if_pos h).trans (if_pos rfl)
/-- The reactions of the axes leave the status of the discharge as it was begun. -/
theorem dischTrigger_shows {g : Nat} (hg : g < 4) (s : State) : isSet (dischTrigger g 1 s) (F.LE_DCL_DSTAT_ACTIVE g) = true ∧
    (isSet s (F.LE_DCL_DSTAT_ACTIVE g) = false → rd (dischTrigger g 1 s) (F.LE_DCL_DSTAT_SRC g) = 1) := by
  cases h : isSet s (F.LE_DCL_DSTAT_ACTIVE g)
  case true => exact ⟨(dischTrigger_runs h).symm ▸ h, fun idle => absurd idle (by decide)⟩
  case false =>
    have reg : (dischTrigger g 1 s).reg (A.LE_DCL_DSTAT g) = (dischBegun g 1 s).reg (A.LE_DCL_DSTAT g) := by
      rw [dischTrigger_begins h]
      refine each_reg_of_mem _ _ _ fun a ha u => ?_
      split
      · exact axisReact_reg (dischStat_beside hg) (axesUsed_lt (List.mem_of_mem_filter ha)) (fun _ => rfl) _ _ _ _ u
      · rfl
    obtain ⟨active, src⟩ := dischBegun_shows g s
    exact ⟨(isSet_of_rd (rd_of_reg (f := F.LE_DCL_DSTAT_ACTIVE g) reg)).trans active,
      fun _ => (rd_of_reg (f := F.LE_DCL_DSTAT_SRC g) reg).trans src⟩
theorem dischargeStart_eq {s : State} (h : coresRun s = true) (g : Fin 4) : exec (.dischargeStart g) s = done (dischStart g s) := if_neg (not_not_intro h)
theorem dischargeStart_begins {g : Fin 4} {s : State} (hc : coresRun s = true) (he : isSet s (F.LE_DCL_DCFG_EN g) = true)
    (ht : isSet s (F.LE_DCL_DCFG_TRGHOST g) = true) (hi : ∀ a ∈ dclAxes s g, axActive s a = false) :
    Completes (.dischargeStart g) s fun t => isSet t (F.LE_DCL_DSTAT_ACTIVE g) = true ∧
      (isSet s (F.LE_DCL_DSTAT_ACTIVE g) = false → rd t (F.LE_DCL_DSTAT_SRC g) = 1) := by
  have idle : (dclAxes s g).filter (axActive s) = [] := List.filter_eq_nil_iff.mpr fun a ha => Bool.eq_false_iff.mp (hi a ha)
  have starts : dischStart g s = dischTrigger g 1 s := (if_pos ⟨he, ht⟩).trans (if_neg (not_not_intro idle))
  obtain ⟨active, src⟩ := dischTrigger_shows g.isLt s
  refine ⟨_, starts ▸ dischargeStart_eq hc g, (isSet_flushLog_disch g.isLt rfl _).trans active, fun h => ?_⟩
  exact (rd_flushLog_disch (f := F.LE_DCL_DSTAT_SRC g) g.isLt rfl _).trans (src h)
/-- With an active axis the command is refused: it is logged at most, and ACTIVE stays. -/
theorem dischStart_refused {g : Nat} (hg : g < 4) {s : State} (h : ∃ a ∈ dclAxes s g, axActive s a = true) :
    isSet (dischStart g s) (F.LE_DCL_DSTAT_ACTIVE g) = isSet s (F.LE_DCL_DSTAT_ACTIVE g) := by
  obtain ⟨a, ha, active⟩ := h
  have actives : (dclAxes s g).filter (axActive s) ≠ [] := List.ne_nil_of_mem (List.mem_filter.mpr ⟨ha, active⟩)
  unfold dischStart
  split
  · dsimp only
    rw [if_pos actives]
    exact isSet_of_rd (rd_of_reg (f := F.LE_DCL_DSTAT_ACTIVE g) (logFault_reg_below (dischStat_below hg) _ _ _ _ s))
  · rfl
theorem dischargeStart_refused {g : Fin 4} {s : State} (h : ∃ a ∈ dclAxes s g, axActive s a = true) :
    Completes (.dischargeStart g) s fun t => isSet t (F.LE_DCL_DSTAT_ACTIVE g) = isSet s (F.LE_DCL_DSTAT_ACTIVE g) := by
  by_cases hc : coresRun s = true
  · exact ⟨_, dischargeStart_eq hc g, (isSet_flushLog_disch g.isLt rfl _).trans (dischStart_refused g.isLt h)⟩
  · exact ⟨s, if_pos hc, rfl⟩

/-! ### DISCHARGE_ABORT (R193) -/

theorem dischargeAbort_waits {g : Fin 4} {s : State} (hc : coresRun s = true) (ha : isSet s (F.LE_DCL_DSTAT_ACTIVE g) = true)
    (hs : rd s (F.LE_DCL_DSTAT_SRC g) = 1) : Completes (.dischargeAbort g) s fun t => (t.dcl g).abort = true := by
  have aborts : dischAbort g s = modDcl g (fun d => { d with abort := true }) s := if_pos ⟨ha, hs⟩
  have runs : exec (.dischargeAbort g) s = done (dischAbort g s) := if_neg (not_not_intro hc)
  refine ⟨_, runs, ?_⟩
  beta_reduce
  rw [flushLog_dcl, aborts, dcl_modDcl, if_pos rfl]

/-! ### DISCHARGE_COMPLETE and DISCH_TIMEOUT (R194) -/

/-- The winding path stopped writes no field of the discharge's status but WIND. -/
theorem windOff_beside {g : Nat} (hg : g < 4) {f : Fld} (ho : f.off = A.LE_DCL_DSTAT g) (hf : f.lo + f.w ≤ 32) (hw : f.lo + f.w ≤ 3 ∨ 4 ≤ f.lo)
    (s : State) : rd (windOff g s) f = rd s f := by
  have step (a : Nat) (ha : a < 32) : A.LE_DCL_DSTAT g ≠ A.LE_AX_STATE a := (dischStat_beside hg a ha).1
  unfold windOff
  dsimp only
  split
  · rw [rd_wr_disj _ (F.LE_DCL_DSTAT_WIND g) f 0 (show 3 + 1 ≤ 32 by decide) hf hw.symm,
      rd_wr_off _ (F.LE_AX_STATE_STEP _) f 0 (ho ▸ step _ (rd_lt s (F.LE_DCL_DCFG_DAX g)))]
    refine rd_of_reg (reg_of_regs ?_ _)
    split
    · rw [setBlk_regs, legsHiz_regs, modAx_regs]
    · rw [legsHiz_regs, modAx_regs]
  · rfl
/-- A discharge ended is neither active nor drives its resistor. -/
theorem dischEnd_shows {g : Nat} (hg : g < 4) (s : State) :
    isSet (dischEnd g s) (F.LE_DCL_DSTAT_ACTIVE g) = false ∧ isSet (dischEnd g s) (F.LE_DCL_DSTAT_RES g) = false := by
  unfold dischEnd
  constructor
  · rw [isSet_of_rd (windOff_beside hg (f := F.LE_DCL_DSTAT_ACTIVE g) rfl (show 0 + 1 ≤ 32 by decide) (.inl (show 0 + 1 ≤ 3 by decide)) _)]
    exact isSet_wr_zero _ (F.LE_DCL_DSTAT_ACTIVE g) (show 0 + 1 ≤ 32 by decide) rfl
  · rw [isSet_of_rd (windOff_beside hg (f := F.LE_DCL_DSTAT_RES g) rfl (show 4 + 1 ≤ 32 by decide) (.inr (show 4 ≤ 4 by decide)) _),
      isSet_wr_disj _ (F.LE_DCL_DSTAT_ACTIVE g) (F.LE_DCL_DSTAT_RES g) 0 (show 0 + 1 ≤ 32 by decide) (show 4 + 1 ≤ 32 by decide)
        (.inl (show 0 + 1 ≤ 4 by decide))]
    exact isSet_wr_zero _ (F.LE_DCL_DSTAT_RES g) (show 4 + 1 ≤ 32 by decide) rfl
/-- DONE or TIMEOUT set with the end of a discharge, between ACTIVE and RES in their register. -/
theorem dischEnd_flagged {g : Nat} (hg : g < 4) {flag : Fld} (hw : flag.w = 1) (hl : 1 ≤ flag.lo) (hr : flag.lo < 4) (s : State) :
    isSet (wr flag 1 (dischEnd g s)) (F.LE_DCL_DSTAT_ACTIVE g) = false ∧ isSet (wr flag 1 (dischEnd g s)) flag = true ∧
      isSet (wr flag 1 (dischEnd g s)) (F.LE_DCL_DSTAT_RES g) = false := by
  obtain ⟨active, res⟩ := dischEnd_shows hg s
  have fits : flag.lo + flag.w ≤ 32 := by omega
  refine ⟨?_, isSet_wr_one _ flag fits hw, ?_⟩
  · exact (isSet_wr_disj _ flag (F.LE_DCL_DSTAT_ACTIVE g) 1 fits (show 0 + 1 ≤ 32 by decide) (.inr hl)).trans active
  · exact (isSet_wr_disj _ flag (F.LE_DCL_DSTAT_RES g) 1 fits (show 4 + 1 ≤ 32 by decide) (.inl (show flag.lo + flag.w ≤ 4 by omega))).trans res
theorem dischargeComplete_ends {g : Fin 4} {s : State} (ha : isSet s (F.LE_DCL_DSTAT_ACTIVE g) = true) (hl : 16 ≤ (s.dcl g).low) :
    Completes (.dischargeComplete g) s fun t => isSet t (F.LE_DCL_DSTAT_ACTIVE g) = false ∧ isSet t (F.LE_DCL_DSTAT_DONE g) = true ∧
      isSet t (F.LE_DCL_DSTAT_RES g) = false := by
  obtain ⟨active, flag, res⟩ := dischEnd_flagged g.isLt (flag := F.LE_DCL_DSTAT_DONE g) rfl (show 1 ≤ 1 by decide) (show 1 < 4 by decide) s
  exact ⟨_, if_pos ⟨ha, fun _ => hl⟩, (isSet_flushLog_disch g.isLt rfl _).trans active, (isSet_flushLog_disch g.isLt rfl _).trans flag,
    (isSet_flushLog_disch g.isLt rfl _).trans res⟩
theorem dischTimeout_ends {g : Fin 4} {s : State} (ha : isSet s (F.LE_DCL_DSTAT_ACTIVE g) = true)
    (ht : s.msStrides (rd s (F.LE_DCL_DCFG_TDCHMAX g)) ≤ (s.dcl g).strides) :
    Completes (.dischTimeout g) s fun t => isSet t (F.LE_DCL_DSTAT_ACTIVE g) = false ∧ isSet t (F.LE_DCL_DSTAT_TIMEOUT g) = true ∧
      isSet t (F.LE_DCL_DSTAT_RES g) = false := by
  have lasted : dischOver s g = true := by simp [dischOver, ht]
  obtain ⟨data, runs⟩ : ∃ data, exec (.dischTimeout g) s = done (logFault 0x040E g 1 data (wr (F.LE_DCL_DSTAT_TIMEOUT g) 1 (dischEnd g s))) :=
    ⟨_, if_pos ⟨ha, lasted⟩⟩
  have kept {f : Fld} (hf : f.off = A.LE_DCL_DSTAT g) : isSet (flushLog (logFault 0x040E g 1 data (wr (F.LE_DCL_DSTAT_TIMEOUT g) 1 (dischEnd g s)))) f =
      isSet (wr (F.LE_DCL_DSTAT_TIMEOUT g) 1 (dischEnd g s)) f :=
    (isSet_flushLog_disch g.isLt hf _).trans (isSet_of_rd (rd_of_reg (hf ▸ logFault_reg_below (dischStat_below g.isLt) _ _ _ _ _)))
  obtain ⟨active, flag, res⟩ := dischEnd_flagged g.isLt (flag := F.LE_DCL_DSTAT_TIMEOUT g) rfl (show 1 ≤ 2 by decide) (show 2 < 4 by decide) s
  exact ⟨_, runs, (kept rfl).trans active, (kept rfl).trans flag, (kept rfl).trans res⟩

/-- Settles O21: each command by the status that it leaves of its discharge, which no reaction of the group's axes writes. -/
theorem dischargesBeginAndEnd : Obligations.DischargesBeginAndEnd := by
  unfold Obligations.DischargesBeginAndEnd
  exact ⟨fun g s hc he ht hi => dischargeStart_begins hc he ht hi, fun g s h => dischargeStart_refused h,
    fun g s hc ha hs => dischargeAbort_waits hc ha hs, fun g s _ ha hl => dischargeComplete_ends ha hl, fun g s _ ha ht => dischTimeout_ends ha ht⟩

end Sys2Proof.Machine
end

section
/-! ## Flags: fields of one bit in a register that other writes reach -/
namespace Sys2Proof.Machine
open Sys2Proof

/-- The flag at a bit of the register at an offset. -/
abbrev flagAt (p i : Nat) : Fld := ⟨p, i, 1⟩
/-- A flag after a write of a flag of its register. -/
theorem isSet_wr_flag {p i j : Nat} (hi : i < 32) (hj : j < 32) (v : Nat) (s : State) :
    isSet (wr (flagAt p i) v s) (flagAt p j) = if i = j then v % 2 != 0 else isSet s (flagAt p j) := by
  by_cases h : i = j
  · rw [if_pos h, ← h]
    exact congrArg (· != 0) (rd_wr_same s (flagAt p i) v (show i + 1 ≤ 32 by omega))
  · rw [if_neg h]
    exact isSet_wr_disj s (flagAt p i) (flagAt p j) v (show i + 1 ≤ 32 by omega) (show j + 1 ≤ 32 by omega) (show i + 1 ≤ j ∨ j + 1 ≤ i by omega)
theorem isSet_wrB_flag {p i j : Nat} (hi : i < 32) (hj : j < 32) (b : Bool) (s : State) :
    isSet (wrB (flagAt p i) b s) (flagAt p j) = if i = j then b else isSet s (flagAt p j) := by
  unfold wrB
  rw [isSet_wr_flag hi hj]
  cases b <;> rfl
/-- A flag after a write of the upper half of its register. -/
theorem isSet_wr_upper {p j : Nat} (hj : j < 16) (v : Nat) (s : State) : isSet (wr ⟨p, 16, 16⟩ v s) (flagAt p j) = isSet s (flagAt p j) :=
  isSet_wr_disj s ⟨p, 16, 16⟩ (flagAt p j) v (show 16 + 16 ≤ 32 by decide) (show j + 1 ≤ 32 by omega) (.inr (show j + 1 ≤ 16 by omega))
theorem isSet_wr_off (s : State) {f g : Fld} (v : Nat) (h : g.off ≠ f.off) : isSet (wr f v s) g = isSet s g := isSet_of_rd (rd_wr_off s f g v h)
/-- What no operation on the rest of the state reaches. -/
theorem isSet_of_regs {s t : State} (h : t.regs = s.regs) (f : Fld) : isSet t f = isSet s f := isSet_of_rd (rd_of_regs h f)
theorem isSet_flushLog_below {f : Fld} (h : f.off < 0x0F0000) (s : State) : isSet (flushLog s) f = isSet s f := isSet_of_rd (rd_flushLog_below h s)
theorem isSet_logFault_below {f : Fld} (h : f.off < 0x0F0000) (code src c data : Nat) (s : State) : isSet (logFault code src c data s) f = isSet s f :=
  isSet_of_rd (rd_of_reg (logFault_reg_below h code src c data s))

end Sys2Proof.Machine
end

section
/-! ## Safe inputs: agreement, discrepancy, fault (R213, R214) -/
namespace Sys2Proof.Machine
open Sys2Proof

theorem siStat_below (n : Fin 16) : A.SAF_SI_STAT n < 0x0F0000 := by
  unfold A.SAF_SI_STAT
  omega

/-! ### The channels evaluated -/

/-- The filtered channels as the registers show them. -/
def siShown (n : Nat) (a b : Bool) (s : State) : State := wrB (F.SAF_SI_STAT_ACTA n) a (wrB (F.SAF_SI_STAT_ACTB n) b s)
theorem siShown_flags (n : Nat) (a b : Bool) (s : State) :
    isSet (siShown n a b s) (F.SAF_SI_STAT_ACTA n) = a ∧ isSet (siShown n a b s) (F.SAF_SI_STAT_ACTB n) = b ∧
      isSet (siShown n a b s) (F.SAF_SI_STAT_PERMIT n) = isSet s (F.SAF_SI_STAT_PERMIT n) := by
  simp [siShown, F.SAF_SI_STAT_ACTA, F.SAF_SI_STAT_ACTB, F.SAF_SI_STAT_PERMIT, isSet_wrB_flag]
/-- A disagreement that ends before its time is counted. -/
def discEnded (n : Nat) (s : State) : State :=
  if isSet s (F.SAF_SI_STAT_DISC n) ∧ ¬ (tget (fun _ => {}) s.saf.ins n).expired then bumpSat (F.SAF_SI_STAT_DISCCNT n) s else s
theorem discEnded_flag {j : Nat} (hj : j < 16) (n : Nat) (s : State) :
    isSet (discEnded n s) (flagAt (A.SAF_SI_STAT n) j) = isSet s (flagAt (A.SAF_SI_STAT n) j) := by
  unfold discEnded
  split
  · exact isSet_wr_upper hj _ s
  · rfl
/-- Channels that agree give their state to PERMIT and end the discrepancy. -/
theorem siEval_agrees {n : Nat} {s : State} (h : isSet s (F.SAF_SI_STAT_ACTA n) = isSet s (F.SAF_SI_STAT_ACTB n)) (first : Nat) :
    let t := siEval n first s
    isSet t (F.SAF_SI_STAT_ACTA n) = isSet s (F.SAF_SI_STAT_ACTA n) ∧ isSet t (F.SAF_SI_STAT_ACTB n) = isSet s (F.SAF_SI_STAT_ACTB n) ∧
      isSet t (F.SAF_SI_STAT_PERMIT n) = isSet s (F.SAF_SI_STAT_ACTA n) ∧ isSet t (F.SAF_SI_STAT_DISC n) = false := by
  have agreed : siEval n first s =
      let u := wrB (F.SAF_SI_STAT_PERMIT n) (isSet s (F.SAF_SI_STAT_ACTA n)) (wr (F.SAF_SI_STAT_DISC n) 0 (discEnded n s))
      if isSet s (F.SAF_SI_STAT_ACTA n) then u else wr (F.SAF_SI_STAT_DFLT n) 0 u := if_pos h
  rw [agreed]
  dsimp only
  split <;> simp [F.SAF_SI_STAT_ACTA, F.SAF_SI_STAT_ACTB, F.SAF_SI_STAT_PERMIT, F.SAF_SI_STAT_DISC, F.SAF_SI_STAT_DFLT, isSet_wr_flag, isSet_wrB_flag,
    discEnded_flag]
/-- Channels that differ leave PERMIT, and a discrepancy stands. -/
theorem siEval_differs {n : Nat} {s : State} (h : isSet s (F.SAF_SI_STAT_ACTA n) ≠ isSet s (F.SAF_SI_STAT_ACTB n)) (first : Nat) :
    let t := siEval n first s
    isSet t (F.SAF_SI_STAT_ACTA n) = isSet s (F.SAF_SI_STAT_ACTA n) ∧ isSet t (F.SAF_SI_STAT_ACTB n) = isSet s (F.SAF_SI_STAT_ACTB n) ∧
      isSet t (F.SAF_SI_STAT_PERMIT n) = isSet s (F.SAF_SI_STAT_PERMIT n) ∧ isSet t (F.SAF_SI_STAT_DISC n) = true := by
  have differed : siEval n first s = if isSet s (F.SAF_SI_STAT_DISC n) then s else
      wr (F.SAF_SI_STAT_DISC n) 1 (s.setSaf { s.saf with ins := tset (fun _ => {}) s.saf.ins n { firstCh := first } }) := if_neg h
  rw [differed]
  dsimp only
  split
  next stands => exact ⟨rfl, rfl, rfl, stands⟩
  · simp only [F.SAF_SI_STAT_ACTA, F.SAF_SI_STAT_ACTB, F.SAF_SI_STAT_PERMIT, F.SAF_SI_STAT_DISC]
    simp [isSet_wr_flag, isSet_of_regs (State.setSaf_regs s _)]

/-! ### SAFE_INPUT_CHANGE and SI_DISCREPANCY -/

theorem safeInputChange_eq {n : Fin 16} {s : State} (h : siRuns s n = true) (a b : Bool) : ∃ first,
    exec (.safeInputChange n a b) s = done (siEval n first (siShown n a (b != isSet s (F.SAF_SI_CFG_ANTI n)) s)) := by
  have turned : (if isSet s (F.SAF_SI_CFG_ANTI n) then !b else b) = (b != isSet s (F.SAF_SI_CFG_ANTI n)) := by
    cases isSet s (F.SAF_SI_CFG_ANTI n) <;> cases b <;> rfl
  rw [← turned]
  exact ⟨_, if_pos h⟩
theorem safeInputChange_shows {n : Fin 16} {s : State} (h : siRuns s n = true) (a b : Bool) : Completes (.safeInputChange n a b) s fun t =>
    isSet t (F.SAF_SI_STAT_ACTA n) = a ∧ isSet t (F.SAF_SI_STAT_ACTB n) = (b != isSet s (F.SAF_SI_CFG_ANTI n)) ∧
      (a = (b != isSet s (F.SAF_SI_CFG_ANTI n)) → isSet t (F.SAF_SI_STAT_PERMIT n) = a ∧ isSet t (F.SAF_SI_STAT_DISC n) = false) ∧
      (a ≠ (b != isSet s (F.SAF_SI_CFG_ANTI n)) → isSet t (F.SAF_SI_STAT_PERMIT n) = isSet s (F.SAF_SI_STAT_PERMIT n) ∧
        isSet t (F.SAF_SI_STAT_DISC n) = true) := by
  obtain ⟨first, runs⟩ := safeInputChange_eq h a b
  generalize (b != isSet s (F.SAF_SI_CFG_ANTI n)) = c at runs ⊢
  refine ⟨_, runs, ?_⟩
  dsimp only
  rw [isSet_flushLog_below (f := F.SAF_SI_STAT_ACTA n) (siStat_below n), isSet_flushLog_below (f := F.SAF_SI_STAT_ACTB n) (siStat_below n),
    isSet_flushLog_below (f := F.SAF_SI_STAT_PERMIT n) (siStat_below n), isSet_flushLog_below (f := F.SAF_SI_STAT_DISC n) (siStat_below n)]
  obtain ⟨acta, actb, permit⟩ := siShown_flags n a c s
  by_cases e : a = c
  · obtain ⟨showsA, showsB, agrees, ends⟩ := siEval_agrees (acta.trans (e.trans actb.symm)) first
    exact ⟨showsA.trans acta, showsB.trans actb, fun _ => ⟨agrees.trans acta, ends⟩, absurd e⟩
  · obtain ⟨showsA, showsB, keeps, stands⟩ := siEval_differs (fun d => e (acta.symm.trans (d.trans actb))) first
    exact ⟨showsA.trans acta, showsB.trans actb, fun d => absurd d e, fun _ => ⟨keeps.trans permit, stands⟩⟩
theorem siDiscrepancy_faults {n : Fin 16} {s : State} (h : siRuns s n = true) (hd : isSet s (F.SAF_SI_STAT_DISC n) = true)
    (he : (tget (fun _ => {}) s.saf.ins n).expired = false) : Completes (.siDiscrepancy n) s fun t =>
      isSet t (F.SAF_SI_STAT_DFLT n) = true ∧ isSet t (F.SAF_SI_STAT_DSEEN n) = true := by
  refine ⟨_, if_pos ⟨h, hd, Bool.eq_false_iff.mp he⟩, ?_⟩
  dsimp only
  rw [isSet_flushLog_below (f := F.SAF_SI_STAT_DFLT n) (siStat_below n), isSet_flushLog_below (f := F.SAF_SI_STAT_DSEEN n) (siStat_below n),
    isSet_logFault_below (f := F.SAF_SI_STAT_DFLT n) (siStat_below n), isSet_logFault_below (f := F.SAF_SI_STAT_DSEEN n) (siStat_below n)]
  simp [F.SAF_SI_STAT_DFLT, F.SAF_SI_STAT_DSEEN, isSet_wr_flag]

/-- Settles O24: a change of the channels by whether they then agree, a discrepancy by the flags it sets. -/
theorem safeInputsAgreeOrFault : Obligations.SafeInputsAgreeOrFault :=
  ⟨fun _ a b _ h => safeInputChange_shows h a b, fun _ _ h hd he => siDiscrepancy_faults h hd he⟩

end Sys2Proof.Machine
end

section
/-! ## Safe brake outputs: slots, read-backs, test pulses, clearing (R216 to R218) -/
namespace Sys2Proof.Machine
open Sys2Proof

/-! ### The status of an output -/

theorem sbStat_beside {n : Nat} (hn : n < 8) : BesideAxes (A.SAF_SB_STAT n) := by
  refine (besideDischarges_safety ?_ ?_).1 <;> unfold A.SAF_SB_STAT <;> omega
theorem sbStat_below {n : Nat} (hn : n < 8) : A.SAF_SB_STAT n < 0x0F0000 := by
  unfold A.SAF_SB_STAT
  omega
/-- An output de-energised, with no test under way. -/
def SbDown (n : Nat) (t : State) : Prop :=
  isSet t (F.SAF_SB_STAT_CMDH n) = false ∧ isSet t (F.SAF_SB_STAT_CMDL n) = false ∧ isSet t (F.SAF_SB_STAT_RELEASED n) = false ∧
    isSet t (F.SAF_SB_STAT_TESTING n) = false
/-- An output energised on both sides, with no test under way. -/
def SbReleased (n : Nat) (t : State) : Prop :=
  isSet t (F.SAF_SB_STAT_RELEASED n) = true ∧ isSet t (F.SAF_SB_STAT_TESTING n) = false ∧ isSet t (F.SAF_SB_STAT_CMDH n) = true ∧
    isSet t (F.SAF_SB_STAT_CMDL n) = true
theorem SbDown.of_reg {n : Nat} {s t : State} (h : SbDown n s) (hr : t.reg (A.SAF_SB_STAT n) = s.reg (A.SAF_SB_STAT n)) : SbDown n t := by
  obtain ⟨cmdh, cmdl, released, testing⟩ := h
  exact ⟨(isSet_of_rd (rd_of_reg (f := F.SAF_SB_STAT_CMDH n) hr)).trans cmdh, (isSet_of_rd (rd_of_reg (f := F.SAF_SB_STAT_CMDL n) hr)).trans cmdl,
    (isSet_of_rd (rd_of_reg (f := F.SAF_SB_STAT_RELEASED n) hr)).trans released,
    (isSet_of_rd (rd_of_reg (f := F.SAF_SB_STAT_TESTING n) hr)).trans testing⟩
theorem SbReleased.of_reg {n : Nat} {s t : State} (h : SbReleased n s) (hr : t.reg (A.SAF_SB_STAT n) = s.reg (A.SAF_SB_STAT n)) : SbReleased n t := by
  obtain ⟨released, testing, cmdh, cmdl⟩ := h
  exact ⟨(isSet_of_rd (rd_of_reg (f := F.SAF_SB_STAT_RELEASED n) hr)).trans released,
    (isSet_of_rd (rd_of_reg (f := F.SAF_SB_STAT_TESTING n) hr)).trans testing, (isSet_of_rd (rd_of_reg (f := F.SAF_SB_STAT_CMDH n) hr)).trans cmdh,
    (isSet_of_rd (rd_of_reg (f := F.SAF_SB_STAT_CMDL n) hr)).trans cmdl⟩
theorem sbOff_down (n : Nat) (s : State) : SbDown n (sbOff n s) := by
  simp [SbDown, sbOff, F.SAF_SB_STAT_CMDH, F.SAF_SB_STAT_CMDL, F.SAF_SB_STAT_RELEASED, F.SAF_SB_STAT_TESTING, isSet_wr_flag]
/-- An output that falls keeps its faults. -/
theorem sbOff_faults (n : Nat) (s : State) : isSet (sbOff n s) (F.SAF_SB_STAT_TESTFLT n) = isSet s (F.SAF_SB_STAT_TESTFLT n) ∧
    isSet (sbOff n s) (F.SAF_SB_STAT_RBFLT n) = isSet s (F.SAF_SB_STAT_RBFLT n) := by
  simp [sbOff, F.SAF_SB_STAT_CMDH, F.SAF_SB_STAT_CMDL, F.SAF_SB_STAT_RELEASED, F.SAF_SB_STAT_TESTING, F.SAF_SB_STAT_TESTFLT, F.SAF_SB_STAT_RBFLT,
    isSet_wr_flag]

/-! ### Records of the outputs -/

theorem brk_modBrk_same (n : Nat) (f : SafeBrk → SafeBrk) (s : State) : (modBrk n f s).brk n = f (s.brk n) :=
  (tget_tset _ _ _ _ _).trans (if_pos rfl)
theorem modBrk_regs (n : Nat) (f : SafeBrk → SafeBrk) (s : State) : (modBrk n f s).regs = s.regs := rfl
theorem brk_of_saf {s t : State} (h : t.saf = s.saf) (n : Nat) : t.brk n = s.brk n := by
  unfold State.brk
  rw [h]
theorem flushLog_brk (s : State) (n : Nat) : (flushLog s).brk n = s.brk n := brk_of_saf (flushLog_saf s) n

/-! ### Faults of an output (R217, R218) -/

theorem sbAxis_lt {s : State} {n a : Nat} (h : a ∈ sbAxis s n) : a < 32 := by
  unfold sbAxis at h
  dsimp only at h
  split at h
  · exact List.mem_singleton.mp h ▸ rd_lt s (F.SAF_SB_CFG_AXLINK n)
  · exact absurd h List.not_mem_nil
theorem axFault_reg {p : Nat} (hp : BesideAxes p) (hl : p < 0x0F0000) {as : List Nat} (ha : ∀ a ∈ as, a < 32) (now : Bool) (code src data c : Nat)
    (s : State) : (axFault now code src data c as s).reg p = s.reg p :=
  (each_reg_of_mem _ _ _ fun a hm u => blockReact_reg hp (ha a hm) now c u).trans (logFault_reg_below hl _ _ _ _ s)
/-- Beside its log entry and the reaction of its axis, a fault of an output turns the output off. -/
theorem sbFault_stat {n : Nat} (hn : n < 8) (code data : Nat) (s : State) :
    (flushLog (sbFault n code data s)).reg (A.SAF_SB_STAT n) = (sbOff n s).reg (A.SAF_SB_STAT n) :=
  (flushLog_reg_below (sbStat_below hn) _).trans ((axFault_reg (sbStat_beside hn) (sbStat_below hn) (fun _ h => sbAxis_lt h) _ _ _ _ _ _).trans
    (reg_of_regs (modBrk_regs n _ _) _))

/-! ### SAFE_BRAKE_SLOT (R216) -/

/-- An output off that meets its conditions energised, the high side to be tested first. -/
def sbEnergised (n : Nat) (s : State) : State :=
  modBrk n (fun b => { b with testHi := true }) (wr (F.SAF_SB_STAT_RELEASED n) 1 (wr (F.SAF_SB_STAT_CMDL n) 1 (wr (F.SAF_SB_STAT_CMDH n) 1 s)))
theorem sbEnergised_released {n : Nat} {s : State} (h : isSet s (F.SAF_SB_STAT_TESTING n) = false) : SbReleased n (sbEnergised n s) := by
  unfold SbReleased sbEnergised
  simp only [isSet_of_regs (modBrk_regs n _ _)]
  simp only [F.SAF_SB_STAT_TESTING] at h
  simp [F.SAF_SB_STAT_CMDH, F.SAF_SB_STAT_CMDL, F.SAF_SB_STAT_RELEASED, F.SAF_SB_STAT_TESTING, isSet_wr_flag, h]
theorem safeBrakeSlot_energises {n : Fin 8} {s : State} (hi : s.saf.islandClk = true) (hc : (s.brk n).cond = true) (hst : s.dev.st = .service)
    (hd : isSet s F.SAF_STAT_DVLAT = false) (ho : sbOn s n = false) : Completes (.safeBrakeSlot n) s fun t =>
      isSet t (F.SAF_SB_STAT_RELEASED n) = true ∧ isSet t (F.SAF_SB_STAT_CMDH n) = true ∧ isSet t (F.SAF_SB_STAT_CMDL n) = true ∧
        (t.brk n).testHi = true := by
  have runs : exec (.safeBrakeSlot n) s = done (sbEnergised n s) :=
    (if_neg (not_not_intro hi)).trans ((if_pos ⟨hc, by rw [hst]; rfl, Bool.eq_false_iff.mp hd⟩).trans (if_neg (Bool.eq_false_iff.mp ho)))
  have testing : isSet s (F.SAF_SB_STAT_TESTING n) = false := (Bool.or_eq_false_iff.mp ho).2
  obtain ⟨released, -, cmdh, cmdl⟩ := (sbEnergised_released testing).of_reg (flushLog_reg_below (sbStat_below n.isLt) _)
  refine ⟨_, runs, released, cmdh, cmdl, ?_⟩
  rw [flushLog_brk]
  exact congrArg SafeBrk.testHi (brk_modBrk_same n _ _)
theorem safeBrakeSlot_falls {n : Fin 8} {s : State} (hi : s.saf.islandClk = true)
    (h : (s.brk n).cond = false ∨ s.dev.st ≠ .service ∨ isSet s F.SAF_STAT_DVLAT = true) : Completes (.safeBrakeSlot n) s fun t =>
      isSet t (F.SAF_SB_STAT_RELEASED n) = false ∧ isSet t (F.SAF_SB_STAT_CMDH n) = false ∧ isSet t (F.SAF_SB_STAT_CMDL n) = false ∧
        isSet t (F.SAF_SB_STAT_TESTING n) = false := by
  have lacks : ¬ ((s.brk n).cond ∧ s.dev.st == .service ∧ ¬ isSet s F.SAF_STAT_DVLAT) := by
    rintro ⟨cond, service, latch⟩
    rcases h with h | h | h
    · exact absurd cond (by simp [h])
    · exact h (beq_iff_eq.mp service)
    · exact latch h
  have runs : exec (.safeBrakeSlot n) s = done (sbOff n s) := (if_neg (not_not_intro hi)).trans (if_neg lacks)
  obtain ⟨cmdh, cmdl, released, testing⟩ := (sbOff_down n s).of_reg (flushLog_reg_below (sbStat_below n.isLt) _)
  exact ⟨_, runs, released, cmdh, cmdl, testing⟩

/-! ### Read-backs shown (R217) -/

/-- Both read-backs of an output shown. -/
def fbShown (n : Nat) (h l : Bool) (s : State) : State := wrB (F.SAF_SB_STAT_FBH n) h (wrB (F.SAF_SB_STAT_FBL n) l s)
theorem fbShown_feedback (n : Nat) (h l : Bool) (s : State) : isSet (fbShown n h l s) (F.SAF_SB_STAT_FBH n) = h ∧
    isSet (fbShown n h l s) (F.SAF_SB_STAT_FBL n) = l := by
  simp [fbShown, F.SAF_SB_STAT_FBH, F.SAF_SB_STAT_FBL, isSet_wrB_flag]
/-- The other flags of the output stay. -/
theorem fbShown_flag {i : Nat} (hi : i < 2 ∨ 4 ≤ i ∧ i < 32) (n : Nat) (h l : Bool) (s : State) :
    isSet (fbShown n h l s) (flagAt (A.SAF_SB_STAT n) i) = isSet s (flagAt (A.SAF_SB_STAT n) i) := by
  have hi' : i < 32 := by omega
  unfold fbShown F.SAF_SB_STAT_FBH F.SAF_SB_STAT_FBL
  rw [isSet_wrB_flag (by decide) hi', isSet_wrB_flag (by decide) hi', if_neg (by omega), if_neg (by omega)]
theorem sbCfg_stat (n : Nat) : A.SAF_SB_CFG n ≠ A.SAF_SB_STAT n := by
  unfold A.SAF_SB_CFG A.SAF_SB_STAT
  omega
theorem fbShown_enabled (n : Nat) (h l : Bool) (s : State) : isSet (fbShown n h l s) (F.SAF_SB_CFG_EN n) = isSet s (F.SAF_SB_CFG_EN n) :=
  (isSet_wr_off _ (f := F.SAF_SB_STAT_FBH n) (g := F.SAF_SB_CFG_EN n) _ (sbCfg_stat n)).trans
    (isSet_wr_off s (f := F.SAF_SB_STAT_FBL n) (g := F.SAF_SB_CFG_EN n) _ (sbCfg_stat n))
/-- A read-back of an enabled output outside a pulse that differs from its command is a fault of the output. -/
theorem sbReadback_differs {n : Fin 8} {h l : Bool} {s : State} (hm : monitored s = true) (he : isSet s (F.SAF_SB_CFG_EN n) = true)
    (ht : isSet s (F.SAF_SB_STAT_TESTING n) = false) (hr : isSet s (F.SAF_SB_STAT_RBFLT n) = false)
    (hd : h ≠ isSet s (F.SAF_SB_STAT_CMDH n) ∨ l ≠ isSet s (F.SAF_SB_STAT_CMDL n)) : Completes (.sbReadback n h l) s fun t =>
      isSet t (F.SAF_SB_STAT_RBFLT n) = true ∧ isSet t (F.SAF_SB_STAT_CMDH n) = false ∧ isSet t (F.SAF_SB_STAT_CMDL n) = false ∧
        isSet t (F.SAF_SB_STAT_RELEASED n) = false := by
  have cmdh : isSet (fbShown n h l s) (F.SAF_SB_STAT_CMDH n) = isSet s (F.SAF_SB_STAT_CMDH n) := fbShown_flag (.inl (by decide)) n h l s
  have cmdl : isSet (fbShown n h l s) (F.SAF_SB_STAT_CMDL n) = isSet s (F.SAF_SB_STAT_CMDL n) := fbShown_flag (.inl (by decide)) n h l s
  have testing : isSet (fbShown n h l s) (F.SAF_SB_STAT_TESTING n) = false := (fbShown_flag (.inr (by decide)) n h l s).trans ht
  have rbflt : isSet (fbShown n h l s) (F.SAF_SB_STAT_RBFLT n) = false := (fbShown_flag (.inr (by decide)) n h l s).trans hr
  obtain ⟨data, runs⟩ : ∃ data, exec (.sbReadback n h l) s = done (sbFault n 0x0605 data (wr (F.SAF_SB_STAT_RBFLT n) 1 (fbShown n h l s))) :=
    ⟨_, (if_neg (not_not_intro hm)).trans (if_pos ⟨(fbShown_enabled n h l s).trans he, Bool.eq_false_iff.mp testing, Bool.eq_false_iff.mp rbflt,
      hd.imp (cmdh ▸ ·) (cmdl ▸ ·)⟩)⟩
  have stat := sbFault_stat n.isLt 0x0605 data (wr (F.SAF_SB_STAT_RBFLT n) 1 (fbShown n h l s))
  obtain ⟨cmdh', cmdl', released', -⟩ := (sbOff_down n (wr (F.SAF_SB_STAT_RBFLT n) 1 (fbShown n h l s))).of_reg stat
  refine ⟨_, runs, ?_, cmdh', cmdl', released'⟩
  exact (isSet_of_rd (rd_of_reg (f := F.SAF_SB_STAT_RBFLT n) stat)).trans ((sbOff_faults n _).2.trans
    (isSet_wr_one _ (F.SAF_SB_STAT_RBFLT n) (show 6 + 1 ≤ 32 by decide) rfl))

/-! ### Test pulses (R218) -/

theorem sbTestPulse_pulses {n : Fin 8} {s : State} (hs : smcStrides s = true) (hr : isSet s (F.SAF_SB_STAT_RELEASED n) = true) :
    Completes (.sbTestPulse n) s fun t => isSet t (F.SAF_SB_STAT_RELEASED n) = false ∧ isSet t (F.SAF_SB_STAT_TESTING n) = true ∧
      isSet t (F.SAF_SB_STAT_CMDH n) = (isSet s (F.SAF_SB_STAT_CMDH n) && !(s.brk n).testHi) ∧
      isSet t (F.SAF_SB_STAT_CMDL n) = (isSet s (F.SAF_SB_STAT_CMDL n) && (s.brk n).testHi) := by
  refine ⟨_, (if_neg (not_not_intro hs)).trans (if_pos hr), ?_⟩
  have kept {f : Fld} (hf : f.off = A.SAF_SB_STAT n) (u : State) : isSet (flushLog u) f = isSet u f :=
    isSet_flushLog_below (hf ▸ sbStat_below n.isLt) u
  dsimp only
  rw [kept (f := F.SAF_SB_STAT_RELEASED n) rfl, kept (f := F.SAF_SB_STAT_TESTING n) rfl, kept (f := F.SAF_SB_STAT_CMDH n) rfl,
    kept (f := F.SAF_SB_STAT_CMDL n) rfl]
  cases (s.brk n).testHi <;>
    simp [F.SAF_SB_STAT_CMDH, F.SAF_SB_STAT_CMDL, F.SAF_SB_STAT_RELEASED, F.SAF_SB_STAT_TESTING, isSet_wr_flag]

/-- The tested read-back at the end of a pulse shown, of the side under test. -/
def pulseRead (n : Nat) (fb : Bool) (s : State) : State := wrB (if (s.brk n).testHi then F.SAF_SB_STAT_FBH n else F.SAF_SB_STAT_FBL n) fb s
theorem pulseRead_testcnt (n : Nat) (fb : Bool) (s : State) : rd (pulseRead n fb s) (F.SAF_SB_STAT_TESTCNT n) = rd s (F.SAF_SB_STAT_TESTCNT n) := by
  unfold pulseRead
  split
  · exact rd_wr_disj s (F.SAF_SB_STAT_FBH n) (F.SAF_SB_STAT_TESTCNT n) _ (show 2 + 1 ≤ 32 by decide) (show 16 + 16 ≤ 32 by decide)
      (.inl (show 2 + 1 ≤ 16 by decide))
  · exact rd_wr_disj s (F.SAF_SB_STAT_FBL n) (F.SAF_SB_STAT_TESTCNT n) _ (show 3 + 1 ≤ 32 by decide) (show 16 + 16 ≤ 32 by decide)
      (.inl (show 3 + 1 ≤ 16 by decide))
/-- A test passed: both sides energised, the other side to be tested next. -/
def sbPassed (n : Nat) (s : State) : State :=
  modBrk n (fun b => { b with testHi := !(s.brk n).testHi }) (wr (F.SAF_SB_STAT_TESTING n) 0 (wr (F.SAF_SB_STAT_RELEASED n) 1
    (wr (F.SAF_SB_STAT_CMDL n) 1 (wr (F.SAF_SB_STAT_CMDH n) 1 (pulseRead n false s)))))
theorem sbPassed_released (n : Nat) (s : State) : SbReleased n (sbPassed n s) := by
  unfold SbReleased sbPassed
  simp only [isSet_of_regs (modBrk_regs n _ _)]
  simp [F.SAF_SB_STAT_CMDH, F.SAF_SB_STAT_CMDL, F.SAF_SB_STAT_RELEASED, F.SAF_SB_STAT_TESTING, isSet_wr_flag]
/-- A flag below the count of tests leaves the count. -/
theorem rd_testcnt_wr {n i : Nat} (hi : i < 16) (v : Nat) (s : State) :
    rd (wr (flagAt (A.SAF_SB_STAT n) i) v s) (F.SAF_SB_STAT_TESTCNT n) = rd s (F.SAF_SB_STAT_TESTCNT n) :=
  rd_wr_disj s (flagAt (A.SAF_SB_STAT n) i) (F.SAF_SB_STAT_TESTCNT n) v (show i + 1 ≤ 32 by omega) (show 16 + 16 ≤ 32 by decide)
    (.inl (show i + 1 ≤ 16 by omega))
theorem sbPassed_testcnt (n : Nat) (s : State) : rd (sbPassed n s) (F.SAF_SB_STAT_TESTCNT n) = rd s (F.SAF_SB_STAT_TESTCNT n) := by
  unfold sbPassed
  rw [rd_of_regs (modBrk_regs n _ _)]
  unfold F.SAF_SB_STAT_TESTING F.SAF_SB_STAT_RELEASED F.SAF_SB_STAT_CMDL F.SAF_SB_STAT_CMDH
  rw [rd_testcnt_wr (by decide), rd_testcnt_wr (by decide), rd_testcnt_wr (by decide), rd_testcnt_wr (by decide), pulseRead_testcnt]
section
variable {n : Fin 8} {s : State} (hs : smcStrides s = true) (ht : isSet s (F.SAF_SB_STAT_TESTING n) = true)
include hs ht
theorem sbTestPulseEnd_passes : Completes (.sbTestPulseEnd n false) s fun t => SbReleased n t ∧ (t.brk n).testHi = !(s.brk n).testHi ∧
    rd t (F.SAF_SB_STAT_TESTCNT n) = (rd s (F.SAF_SB_STAT_TESTCNT n) + 1) % 2 ^ (F.SAF_SB_STAT_TESTCNT n).w := by
  have runs : exec (.sbTestPulseEnd n false) s = done (bumpWrap (F.SAF_SB_STAT_TESTCNT n) (sbPassed n s)) :=
    (if_neg (not_not_intro hs)).trans ((if_pos ht).trans (if_neg Bool.false_ne_true))
  refine ⟨_, runs, ?_, ?_, ?_⟩
  · have kept {i : Nat} (hi : i < 16) : isSet (flushLog (bumpWrap (F.SAF_SB_STAT_TESTCNT n) (sbPassed n s))) (flagAt (A.SAF_SB_STAT n) i) =
        isSet (sbPassed n s) (flagAt (A.SAF_SB_STAT n) i) :=
      (isSet_flushLog_below (sbStat_below n.isLt) _).trans (isSet_wr_upper hi _ _)
    obtain ⟨released, testing, cmdh, cmdl⟩ := sbPassed_released n s
    exact ⟨(kept (by decide)).trans released, (kept (by decide)).trans testing, (kept (by decide)).trans cmdh, (kept (by decide)).trans cmdl⟩
  · rw [flushLog_brk, brk_of_saf (bumpWrap_saf _ _)]
    exact congrArg SafeBrk.testHi (brk_modBrk_same n _ _)
  · rw [rd_flushLog_below (f := F.SAF_SB_STAT_TESTCNT n) (sbStat_below n.isLt), bumpWrap,
      rd_wr_same _ (F.SAF_SB_STAT_TESTCNT n) _ (show 16 + 16 ≤ 32 by decide), sbPassed_testcnt]
theorem sbTestPulseEnd_fails : Completes (.sbTestPulseEnd n true) s fun t => isSet t (F.SAF_SB_STAT_TESTFLT n) = true ∧ SbDown n t := by
  obtain ⟨data, runs⟩ : ∃ data, exec (.sbTestPulseEnd n true) s =
      done (sbFault n 0x0604 data (wr (F.SAF_SB_STAT_TESTFLT n) 1 (pulseRead n true s))) :=
    ⟨_, (if_neg (not_not_intro hs)).trans ((if_pos ht).trans (if_pos rfl))⟩
  have stat := sbFault_stat n.isLt 0x0604 data (wr (F.SAF_SB_STAT_TESTFLT n) 1 (pulseRead n true s))
  refine ⟨_, runs, ?_, (sbOff_down n _).of_reg stat⟩
  exact (isSet_of_rd (rd_of_reg (f := F.SAF_SB_STAT_TESTFLT n) stat)).trans ((sbOff_faults n _).1.trans
    (isSet_wr_one _ (F.SAF_SB_STAT_TESTFLT n) (show 5 + 1 ≤ 32 by decide) rfl))
end

/-! ### SB_FAULT_CLEAR (R218) -/

section
variable {n : Fin 8} {s : State} (hc : coresRun s = true)
include hc
theorem sbFaultClear_eq (v : Word) (h l : Bool) : exec (.sbFaultClear n v h l) s = done (sbClear n v.toNat (fbShown n h l s)) :=
  if_neg (not_not_intro hc)
theorem sbFaultClear_clears (hh : isSet s (F.SAF_SB_STAT_CMDH n) = false) (hl : isSet s (F.SAF_SB_STAT_CMDL n) = false) :
    Completes (.sbFaultClear n 0x60 false false) s fun t =>
      isSet t (F.SAF_SB_STAT_TESTFLT n) = false ∧ isSet t (F.SAF_SB_STAT_RBFLT n) = false := by
  have cmdh : isSet (fbShown n false false s) (F.SAF_SB_STAT_CMDH n) = false := (fbShown_flag (.inl (by decide)) n false false s).trans hh
  have cmdl : isSet (fbShown n false false s) (F.SAF_SB_STAT_CMDL n) = false := (fbShown_flag (.inl (by decide)) n false false s).trans hl
  obtain ⟨fbh, fbl⟩ := fbShown_feedback n false false s
  have clears : sbClear n (0x60 : Word).toNat (fbShown n false false s) =
      wr (F.SAF_SB_STAT_RBFLT n) 0 (wr (F.SAF_SB_STAT_TESTFLT n) 0 (fbShown n false false s)) :=
    if_neg (by simp [cmdh, cmdl, fbh, fbl])
  refine ⟨_, sbFaultClear_eq hc _ _ _, ?_⟩
  rw [clears]
  dsimp only
  rw [isSet_flushLog_below (f := F.SAF_SB_STAT_TESTFLT n) (sbStat_below n.isLt),
    isSet_flushLog_below (f := F.SAF_SB_STAT_RBFLT n) (sbStat_below n.isLt)]
  simp [F.SAF_SB_STAT_TESTFLT, F.SAF_SB_STAT_RBFLT, isSet_wr_flag]
theorem sbFaultClear_refused (v : Word) : Completes (.sbFaultClear n v true false) s fun t =>
    isSet t (F.SAF_SB_STAT_TESTFLT n) = isSet s (F.SAF_SB_STAT_TESTFLT n) ∧ isSet t (F.SAF_SB_STAT_RBFLT n) = isSet s (F.SAF_SB_STAT_RBFLT n) := by
  have refused : sbClear n v.toNat (fbShown n true false s) = fbShown n true false s :=
    if_pos (.inr (.inr (.inl (fbShown_feedback n true false s).1)))
  refine ⟨_, sbFaultClear_eq hc _ _ _, ?_⟩
  rw [refused]
  dsimp only
  rw [isSet_flushLog_below (f := F.SAF_SB_STAT_TESTFLT n) (sbStat_below n.isLt),
    isSet_flushLog_below (f := F.SAF_SB_STAT_RBFLT n) (sbStat_below n.isLt)]
  exact ⟨fbShown_flag (.inr (by decide)) n true false s, fbShown_flag (.inr (by decide)) n true false s⟩
end

/-- Settles O25: each command by the status that it leaves of its output, a fault by the output turned off beneath its reaction. -/
theorem safeBrakesFollowTheirConditions : Obligations.SafeBrakesFollowTheirConditions := by
  refine ⟨fun n s hi hc hst hd ho => safeBrakeSlot_energises hi hc hst hd ho, fun n s hi h => safeBrakeSlot_falls hi h,
    fun n h l s hm he ht hr hd => sbReadback_differs hm he ht hr hd, fun n s hs hr => sbTestPulse_pulses hs hr, fun n s hs ht => ⟨?_, ?_⟩,
    fun n s hc hh hl => ⟨sbFaultClear_clears hc hh hl, sbFaultClear_refused hc 0x60⟩⟩
  · obtain ⟨t, runs, ⟨released, testing, cmdh, cmdl⟩, next, count⟩ := sbTestPulseEnd_passes hs ht
    exact ⟨t, runs, released, testing, cmdh, cmdl, next, count⟩
  · obtain ⟨t, runs, fault, cmdh, cmdl, released, -⟩ := sbTestPulseEnd_fails hs ht
    exact ⟨t, runs, fault, cmdh, cmdl, released⟩

end Sys2Proof.Machine
end

section
/-! ## The start checks of the SMC, the enables, the variant table and the heartbeat (R202, R204 to R207) -/
namespace Sys2Proof.Machine
open Sys2Proof

/-! ### Bits of a mask beside the one written -/

theorem bit_add_other {m i j : Nat} (h : bit m i = false) (hne : j ≠ i) : bit (m + 2 ^ i) j = bit m j := by
  have even : m / 2 ^ i % 2 = 0 := by simpa [bit] using h
  unfold bit
  rcases Nat.lt_or_gt_of_ne hne with hj | hj
  · obtain ⟨d, rfl⟩ := Nat.exists_eq_add_of_lt hj
    have : m + 2 ^ (j + d + 1) = m + 2 ^ j * (2 * 2 ^ d) := by ring
    rw [this, Nat.add_mul_div_left _ _ (Nat.two_pow_pos j), Nat.add_mul_mod_self_left]
  · obtain ⟨d, rfl⟩ := Nat.exists_eq_add_of_lt hj
    have split : 2 ^ (i + d + 1) = 2 ^ i * (2 * 2 ^ d) := by ring
    rw [split, ← Nat.div_div_eq_div_mul, ← Nat.div_div_eq_div_mul, ← Nat.div_div_eq_div_mul, ← Nat.div_div_eq_div_mul,
      Nat.add_div_right m (Nat.two_pow_pos i)]
    have : (m / 2 ^ i).succ / 2 = m / 2 ^ i / 2 := by omega
    rw [this]
theorem bit_sub_other {m i j : Nat} (h : bit m i = true) (hne : j ≠ i) : bit (m - 2 ^ i) j = bit m j := by
  have odd : m / 2 ^ i % 2 = 1 := by simpa [bit] using h
  have le : 2 ^ i ≤ m := by
    by_contra hlt
    rw [Nat.div_eq_of_lt (by omega)] at odd
    exact absurd odd (by decide)
  have clear : bit (m - 2 ^ i) i = false := by
    have less : (m - 2 ^ i) / 2 ^ i = m / 2 ^ i - 1 := by simpa using Nat.sub_mul_div m (2 ^ i) 1
    rw [bit, less, decide_eq_false_iff_not]
    omega
  rw [← bit_add_other clear hne, Nat.sub_add_cancel le]
/-- A bit of a mask after another was written. -/
theorem rdBit_wrBit_other {f : Fld} {i j : Nat} (hf : f.lo + f.w ≤ 32) (hj : j < f.w) (hne : j ≠ i) (b : Bool) (s : State) :
    rdBit (wrBit f i b s) f j = rdBit s f j := by
  unfold rdBit wrBit
  dsimp only
  rw [rd_wr_same _ _ _ hf, bit_mod_two_pow hj]
  split
  next set =>
    cases b
    · exact bit_sub_other set hne
    · rfl
  next clear =>
    cases b
    · rfl
    · exact bit_add_other (Bool.not_eq_true _ |>.mp clear) hne
theorem rdBit_of_rd {s t : State} {f : Fld} (h : rd t f = rd s f) (i : Nat) : rdBit t f i = rdBit s f i := congrArg (bit · i) h

/-! ### A team tripped (R207) -/

/-- The enable of a team withdrawn, and the team latched. -/
def TeamTripped (t : Nat) (s : State) : Prop := rdBit s F.SAF_TEAMEN_EN t = false ∧ rdBit s F.SAF_TEAMFLT_TMLAT t = true
theorem TeamTripped.of_rd {k : Nat} {s t : State} (h : TeamTripped k s) (he : rd t F.SAF_TEAMEN_EN = rd s F.SAF_TEAMEN_EN)
    (hl : rd t F.SAF_TEAMFLT_TMLAT = rd s F.SAF_TEAMFLT_TMLAT) : TeamTripped k t :=
  ⟨(rdBit_of_rd he k).trans h.1, (rdBit_of_rd hl k).trans h.2⟩
theorem TeamTripped.flushLog {k : Nat} {s : State} (h : TeamTripped k s) : TeamTripped k (flushLog s) :=
  h.of_rd (rd_flushLog_below (by decide) s) (rd_flushLog_below (by decide) s)
theorem teamDown_enable_other {k t : Nat} (hk : k < 8) (hne : k ≠ t) (s : State) : rdBit (teamDown t s) F.SAF_TEAMEN_EN k = rdBit s F.SAF_TEAMEN_EN k := by
  refine (rdBit_wrBit_other (by decide) hk hne false _).trans (rdBit_of_rd ?_ k)
  exact (rd_wr_disj _ F.SAF_TEAMEN_RB F.SAF_TEAMEN_EN _ (by decide) (by decide) (.inr (by decide))).trans
    (rd_of_reg (reg_wrBit_other s _ _ _ (by decide)))
theorem teamDown_latch_other {k t : Nat} (hk : k < 8) (hne : k ≠ t) (s : State) :
    rdBit (teamDown t s) F.SAF_TEAMFLT_TMLAT k = rdBit s F.SAF_TEAMFLT_TMLAT k := by
  refine (rdBit_of_rd (rd_of_reg ?_) k).trans (rdBit_wrBit_other (by decide) hk hne true s)
  exact (reg_wrBit_other _ _ _ _ (by decide)).trans (reg_wrBit_other _ _ _ _ (by decide))
/-- A fault of class TM writes, beside its log entry and the registers of the axes, what the Halter does. -/
theorem tmFault_reg {p t : Nat} (hp : BesideAxes p) (ht : t < 8) (code src data : Nat) (s : State) :
    (tmFault code src data t s).reg p = (teamDown t (logFault code src 3 data s)).reg p := teamReact_reg hp ht code _
section
variable {t : Nat} (ht : t < 8) (code src data : Nat) (s : State)
include ht
theorem tmFault_safety {p : Nat} (h6 : 0x060000 ≤ p) (hp : p ≤ 0x060280) :
    (tmFault code src data t s).reg p = (teamDown t (logFault code src 3 data s)).reg p :=
  tmFault_reg (besideDischarges_safety hp h6).1 ht code src data s
theorem tmFault_trips : TeamTripped t (tmFault code src data t s) :=
  ⟨(rdBit_of_rd (rd_of_reg (tmFault_safety ht code src data s (by decide) (by decide))) t).trans (teamDown_enable ht _),
    (rdBit_of_rd (rd_of_reg (tmFault_safety ht code src data s (by decide) (by decide))) t).trans (teamDown_latched ht _)⟩
theorem tmFault_other {k : Nat} (hk : k < 8) (hne : k ≠ t) (h : TeamTripped k s) : TeamTripped k (tmFault code src data t s) := by
  obtain ⟨enable, latch⟩ := h
  constructor
  · refine (rdBit_of_rd (rd_of_reg (tmFault_safety ht code src data s (by decide) (by decide))) k).trans ?_
    exact (teamDown_enable_other hk hne _).trans ((rdBit_of_rd (rd_of_reg (logFault_reg_below (by decide) _ _ _ _ s)) k).trans enable)
  · refine (rdBit_of_rd (rd_of_reg (tmFault_safety ht code src data s (by decide) (by decide))) k).trans ?_
    exact (teamDown_latch_other hk hne _).trans ((rdBit_of_rd (rd_of_reg (logFault_reg_below (by decide) _ _ _ _ s)) k).trans latch)
end
/-- The read-back of an enable shown leaves the enables and the latches. -/
theorem TeamTripped.readback {k : Nat} {s : State} (h : TeamTripped k s) (t : Nat) (b : Bool) : TeamTripped k (wrBit F.SAF_TEAMEN_RB t b s) :=
  h.of_rd (rd_wr_disj _ F.SAF_TEAMEN_RB F.SAF_TEAMEN_EN _ (by decide) (by decide) (.inr (by decide)))
    (rd_of_reg (reg_wrBit_other s _ _ _ (by decide)))

/-! ### Entries of the variant table (R205) -/

/-- An entry written writes its status register, with STALE clear, and no other. -/
theorem writeVar_reg_other {a p : Nat} (h : p ≠ A.SAF_AX_TMSTAT a) (s : State) : (writeVar a s).reg p = s.reg p := by
  unfold writeVar
  dsimp only
  rw [reg_wr_other _ (F.SAF_AX_TMSTAT_STALE a) _ p h, reg_wr_other _ (F.SAF_AX_TMSTAT_VAR a) _ p h]
  rfl
theorem writeVar_fresh (a : Nat) (s : State) : isSet (writeVar a s) (F.SAF_AX_TMSTAT_STALE a) = false :=
  isSet_wr_zero _ (F.SAF_AX_TMSTAT_STALE a) (show 22 + 1 ≤ 32 by decide) rfl
/-- The entry of every axis in use written. -/
def varsWritten (s : State) : State := each writeVar (axesUsed s) s
theorem varsWritten_reg {p : Nat} (h : p < 0x060404) (s : State) : (varsWritten s).reg p = s.reg p :=
  each_keep (fun u : State => u.reg p) writeVar (fun a u => writeVar_reg_other (by unfold A.SAF_AX_TMSTAT; omega) u) _ s
theorem varsWritten_dev (s : State) : (varsWritten s).dev = s.dev := each_dev writeVar_dev _ s
theorem varsWritten_fresh {s : State} {a : Nat} (ha : a ∈ axesUsed s) : isSet (varsWritten s) (F.SAF_AX_TMSTAT_STALE a) = false := by
  refine each_of_mem (P := fun u => isSet u (F.SAF_AX_TMSTAT_STALE a) = false) (Q := fun _ => True) (fun u _ => writeVar_fresh a u)
    (fun b _ u hu => ?_) (fun _ _ _ _ => trivial) ha trivial
  by_cases e : a = b
  · exact e ▸ writeVar_fresh a u
  · refine (isSet_of_rd (rd_of_reg (f := F.SAF_AX_TMSTAT_STALE a) (writeVar_reg_other ?_ u))).trans hu
    change A.SAF_AX_TMSTAT a ≠ A.SAF_AX_TMSTAT b
    unfold A.SAF_AX_TMSTAT
    omega

/-! ### SMC_START_CHECKS (R202, R204) -/

/-- The teams whose enable path fails. -/
def failingTeams (path : PathFail) (s : State) : List Nat := (List.range s.nTeams).filter fun t => path.low.getLsbD t || path.high.getLsbD t
/-- A team whose enable path fails. -/
def pathFailed (path : PathFail) (t : Nat) (s : State) : State :=
  wrBit F.SAF_TEAMEN_RB t (path.high.getLsbD t)
    (tmFault 0x060E t (if path.low.getLsbD t then 1 else 2) t (modTeam t (fun x => { x with pathFail := true }) s))
/-- The table written and the enable paths judged. -/
def pathsJudged (path : PathFail) (s : State) : State := each (pathFailed path) (failingTeams path s) (varsWritten s)
/-- The SMC found good: its teams requested, FAULT_N following SMCOK. -/
def smcPassed (s : State) : State := faultN (wr F.SAF_STAT_SMCOK 1 (wr F.SAF_TEAMEN_REQ (teamMask s) s))

/-- The start checks are made (R202, R348). -/
def StartChecked (s : State) : Prop := s.dev.st = .armed ∧ isSet s F.CFG_STAT_LOADED = true ∧ isSet s F.SAF_STAT_SMCOK = false ∧
  ∀ t < s.nTeams, (s.team t).pathFail = false
section
variable {s : State} (h : StartChecked s)
include h
theorem smcStartChecks_eq (path : PathFail) : exec (.smcStartChecks true true true path) s =
    if failingTeams path s = [] then done (smcPassed (pathsJudged path s)) else done (pathsJudged path s) := by
  obtain ⟨hst, hl, hs, hp⟩ := h
  have intact : (List.range s.nTeams).all (fun t => !(s.team t).pathFail) = true :=
    List.all_eq_true.mpr fun t ht => by rw [hp t (List.mem_range.mp ht), Bool.not_false]
  have judged : exec (.smcStartChecks true true true path) s = if true = true ∧ true = true ∧ true = true ∧ failingTeams path s = []
      then done (smcPassed (pathsJudged path s)) else done (pathsJudged path s) :=
    if_pos ⟨by rw [hst]; rfl, hl, Bool.eq_false_iff.mp hs, intact⟩
  simpa using judged

/-- With every check good SMCOK is set, and what comes with it. -/
theorem smcStartChecks_passes (hd : isSet s F.SAF_STAT_DVLAT = false) : Completes (.smcStartChecks true true true ⟨0, 0⟩) s fun u =>
    isSet u F.SAF_STAT_SMCOK = true ∧ isSet u F.SAF_STAT_FAULTN = true ∧ rd u F.SAF_TEAMEN_REQ = 2 ^ s.nTeams - 1 ∧
      ∀ a ∈ axesUsed s, isSet u (F.SAF_AX_TMSTAT_STALE a) = false := by
  have none : failingTeams ⟨0, 0⟩ s = [] := List.filter_eq_nil_iff.mpr fun t _ => by simp
  have judged : pathsJudged ⟨0, 0⟩ s = varsWritten s := by rw [pathsJudged, none, each]
  have runs : exec (.smcStartChecks true true true ⟨0, 0⟩) s = done (smcPassed (varsWritten s)) :=
    (smcStartChecks_eq h _).trans ((if_pos none).trans (judged ▸ rfl))
  have good : isSet (wr F.SAF_TEAMEN_REQ (teamMask (varsWritten s)) (varsWritten s)) F.SAF_STAT_DVLAT = false :=
    (isSet_wr_off _ _ (by decide)).trans ((isSet_of_rd (rd_of_reg (varsWritten_reg (by decide) s))).trans hd)
  have teams : teamMask (varsWritten s) = 2 ^ s.nTeams - 1 := by rw [teamMask, State.nTeams, varsWritten_dev, ← State.nTeams]
  refine ⟨_, runs, ?_, ?_, ?_, fun a ha => ?_⟩
  · rw [isSet_flushLog_below (by decide)]
    simp [smcPassed, faultN, F.SAF_STAT_SMCOK, F.SAF_STAT_FAULTN, isSet_wr_flag, isSet_wrB_flag]
  · rw [isSet_flushLog_below (by decide)]
    unfold F.SAF_STAT_DVLAT at good
    simp [smcPassed, faultN, F.SAF_STAT_SMCOK, F.SAF_STAT_FAULTN, F.SAF_STAT_DVLAT, isSet_wr_flag, isSet_wrB_flag, good]
  · have small : 2 ^ s.nTeams ≤ 2 ^ 8 := Nat.pow_le_pow_right (by decide) (nTeams_le s)
    rw [rd_flushLog_below (by decide), smcPassed, faultN, wrB, rd_wr_off _ _ _ _ (by decide), rd_wr_off _ _ _ _ (by decide),
      rd_wr_same _ _ _ (by decide), teams]
    exact Nat.mod_eq_of_lt (show 2 ^ s.nTeams - 1 < 2 ^ 8 by omega)
  · have below : A.SAF_AX_TMSTAT a < 0x0F0000 := by
      have := axesUsed_lt ha
      unfold A.SAF_AX_TMSTAT
      omega
    have apart : A.SAF_AX_TMSTAT a ≠ A.SAF_STAT ∧ A.SAF_AX_TMSTAT a ≠ A.SAF_TEAMEN := by
      unfold A.SAF_AX_TMSTAT A.SAF_STAT A.SAF_TEAMEN
      omega
    have kept : (smcPassed (varsWritten s)).reg (A.SAF_AX_TMSTAT a) = (varsWritten s).reg (A.SAF_AX_TMSTAT a) :=
      (reg_wr_other _ _ _ _ apart.1).trans ((reg_wr_other _ _ _ _ apart.1).trans (reg_wr_other _ _ _ _ apart.2))
    exact (isSet_flushLog_below (f := F.SAF_AX_TMSTAT_STALE a) below _).trans
      ((isSet_of_rd (rd_of_reg (f := F.SAF_AX_TMSTAT_STALE a) kept)).trans (varsWritten_fresh ha))
end

theorem pathFailed_trips {t : Nat} (ht : t < 8) (path : PathFail) (s : State) : TeamTripped t (pathFailed path t s) :=
  (tmFault_trips ht _ _ _ _).readback t _
theorem pathFailed_keeps {k t : Nat} (hk : k < 8) (ht : t < 8) (path : PathFail) {s : State} (h : TeamTripped k s) :
    TeamTripped k (pathFailed path t s) := by
  by_cases e : k = t
  · exact e ▸ pathFailed_trips hk path s
  · unfold pathFailed
    exact (tmFault_other ht _ _ _ _ hk e (h.of_rd (rd_of_regs (modTeam_regs t _ s) _) (rd_of_regs (modTeam_regs t _ s) _))).readback t _
theorem pathFailed_stat {t : Nat} (ht : t < 8) (path : PathFail) (s : State) : (pathFailed path t s).reg A.SAF_STAT = s.reg A.SAF_STAT := by
  unfold pathFailed
  rw [reg_wrBit_other _ _ _ _ (by decide), tmFault_safety ht _ _ _ _ (by decide) (by decide), teamDown_reg (by decide) (by decide),
    logFault_reg_below (by decide)]
  rfl
/-- With a path that fails its team is tripped, whatever other paths fail, and SMCOK stays clear. -/
theorem smcStartChecks_fails {s : State} (h : StartChecked s) {path : PathFail} {k : TeamNo} (hk : k.val < s.nTeams)
    (hf : path.low.getLsbD k = true ∨ path.high.getLsbD k = true) : Completes (.smcStartChecks true true true path) s fun u =>
      isSet u F.SAF_STAT_SMCOK = false ∧ TeamTripped k u := by
  have failing : k.val ∈ failingTeams path s := List.mem_filter.mpr ⟨List.mem_range.mpr hk, Bool.or_eq_true_iff.mpr hf⟩
  have teams (t : Nat) (ht : t ∈ failingTeams path s) : t < 8 :=
    Nat.lt_of_lt_of_le (List.mem_range.mp (List.mem_filter.mp ht).1) (nTeams_le s)
  have runs : exec (.smcStartChecks true true true path) s = done (pathsJudged path s) :=
    (smcStartChecks_eq h path).trans (if_neg (List.ne_nil_of_mem failing))
  refine ⟨_, runs, ?_, TeamTripped.flushLog ?_⟩
  · have stat : (pathsJudged path s).reg A.SAF_STAT = s.reg A.SAF_STAT :=
      (each_reg_of_mem _ _ _ fun t ht u => pathFailed_stat (teams t ht) path u).trans (varsWritten_reg (by decide) s)
    obtain ⟨-, -, hs, -⟩ := h
    exact (isSet_flushLog_below (by decide) _).trans ((isSet_of_rd (rd_of_reg (f := F.SAF_STAT_SMCOK) stat)).trans hs)
  · exact each_of_mem (P := TeamTripped k) (Q := fun _ => True) (fun u _ => pathFailed_trips k.isLt path u)
      (fun t ht u hu => pathFailed_keeps k.isLt (teams t ht) path hu) (fun _ _ _ _ => trivial) failing trivial

/-! ### ENABLE_READBACK (R204) -/

theorem enableReadback_agrees (t : TeamNo) {s : State} (hm : monitored s = true) : Completes (.enableReadback t (rdBit s F.SAF_TEAMEN_EN t)) s fun u =>
    rdBit u F.SAF_TEAMEN_RB t = rdBit s F.SAF_TEAMEN_EN t ∧ rd u F.SAF_TEAMFLT_TMLAT = rd s F.SAF_TEAMFLT_TMLAT := by
  refine ⟨_, (if_neg (not_not_intro hm)).trans (if_pos rfl), ?_, ?_⟩
  · exact (rdBit_of_rd (rd_flushLog_below (by decide) _) t).trans (rdBit_wrBit_same (by decide) t.isLt _ s)
  · exact (rd_flushLog_below (by decide) _).trans (rd_of_reg (reg_wrBit_other s _ _ _ (by decide)))
theorem enableReadback_disagrees (t : TeamNo) {s : State} (hm : monitored s = true) :
    Completes (.enableReadback t (!rdBit s F.SAF_TEAMEN_EN t)) s fun u =>
      rdBit u F.SAF_TEAMEN_RB t = !rdBit s F.SAF_TEAMEN_EN t ∧ TeamTripped t u := by
  refine ⟨_, (if_neg (not_not_intro hm)).trans (if_neg (Bool.not_ne_self _).symm), ?_, TeamTripped.flushLog ?_⟩
  · exact (rdBit_of_rd (rd_flushLog_below (by decide) _) t).trans (rdBit_wrBit_same (by decide) t.isLt _ _)
  · exact (tmFault_trips t.isLt _ _ _ s).readback t _

/-! ### VARTAB_STALE (R205) -/

theorem vartabStale_marks {a : AxisNo} {s : State} (hs : smcStrides s = true) (ht : axType s a ≠ 0) (hg : 64 ≤ (s.mon a).age)
    (hf : isSet s (F.SAF_AX_TMSTAT_STALE a) = false) : Completes (.vartabStale a) s fun u =>
      isSet u (F.SAF_AX_TMSTAT_STALE a) = true ∧ rd u (F.SAF_AX_TMSTAT_VAR a) = rd s (F.SAF_AX_TMSTAT_VAR a) := by
  have below : A.SAF_AX_TMSTAT a < 0x0F0000 := by
    unfold A.SAF_AX_TMSTAT
    omega
  obtain ⟨data, runs⟩ : ∃ data, exec (.vartabStale a) s = done (logFault 0x060D a 1 data (wr (F.SAF_AX_TMSTAT_STALE a) 1 s)) :=
    ⟨_, (if_neg (not_not_intro hs)).trans (if_pos ⟨ht, hg, Bool.eq_false_iff.mp hf⟩)⟩
  have kept {f : Fld} (hf : f.off = A.SAF_AX_TMSTAT a) : rd (flushLog (logFault 0x060D a 1 data (wr (F.SAF_AX_TMSTAT_STALE a) 1 s))) f =
      rd (wr (F.SAF_AX_TMSTAT_STALE a) 1 s) f :=
    (rd_flushLog_below (hf ▸ below) _).trans (rd_of_reg (logFault_reg_below (hf ▸ below) _ _ _ _ _))
  refine ⟨_, runs, (isSet_of_rd (kept (f := F.SAF_AX_TMSTAT_STALE a) rfl)).trans ?_, (kept (f := F.SAF_AX_TMSTAT_VAR a) rfl).trans ?_⟩
  · exact isSet_wr_one _ (F.SAF_AX_TMSTAT_STALE a) (show 22 + 1 ≤ 32 by decide) rfl
  · exact rd_wr_disj s (F.SAF_AX_TMSTAT_STALE a) (F.SAF_AX_TMSTAT_VAR a) 1 (show 22 + 1 ≤ 32 by decide) (show 20 + 2 ≤ 32 by decide)
      (.inr (show 20 + 2 ≤ 22 by decide))

/-! ### SMC_HEARTBEAT (R206, R207) -/

theorem smcRuns_st {s : State} (h : smcRuns s = true) :
    (s.dev.st = .sync ∨ s.dev.st = .armed ∨ s.dev.st = .service) ∨ s.dev.st = .recovery := by
  unfold smcRuns smcStrides armedOn at h
  cases e : s.dev.st <;> simp [e] at h ⊢
section
variable {s : State} (pick : State → Nat → Nat) (code : Nat)
/-- Outside RECOVERY a class DV reaction leaves in the safety block the outputs off and the latch. -/
theorem deviceReact_off {p : Nat} (h6 : 0x060000 ≤ p) (hp : p ≤ 0x060280) (h : s.dev.st = .sync ∨ s.dev.st = .armed ∨ s.dev.st = .service) :
    (deviceReact pick code s).reg p = (reactedOff code s).reg p := by
  rcases h with h | h
  · rw [deviceReact_sync h]
    exact dvDischarge_reg (besideDischarges_safety hp h6) _
  · exact deviceReact_armed_reg h (besideDischarges_safety hp h6) pick code
/-- It latches, in RECOVERY too. -/
theorem deviceReact_latches (h : (s.dev.st = .sync ∨ s.dev.st = .armed ∨ s.dev.st = .service) ∨ s.dev.st = .recovery) :
    (deviceReact pick code s).reg A.SAF_STAT = (latched code (bumpCounter 2 (noteDv s))).reg A.SAF_STAT := by
  rcases h with h | h
  · exact (deviceReact_off pick code (by decide) (by decide) h).trans (outputsOff_reg (by decide) (by decide) _)
  · rw [deviceReact_recovery (.inl h)]
    exact dvDischarge_reg (besideDischarges_safety (by decide) (by decide)) _
end
/-- The first reaction of class DV gives its code. -/
theorem latched_code {s : State} (h : isSet s F.SAF_STAT_DVLAT = false) {code : Nat} (hc : code < 2 ^ 16) : rd (latched code s) F.SAF_STAT_DVCODE = code := by
  unfold latched faultN wrB
  rw [if_neg (Bool.eq_false_iff.mp h), rd_wr_disj _ F.SAF_STAT_FAULTN F.SAF_STAT_DVCODE _ (by decide) (by decide) (.inl (by decide)),
    rd_wr_disj _ F.SAF_STAT_DVLAT F.SAF_STAT_DVCODE _ (by decide) (by decide) (.inl (by decide)), rd_wr_same _ _ _ (by decide)]
  exact Nat.mod_eq_of_lt hc
/-- The SMC stopped, before the loss of its heartbeat is logged. -/
def smcStopped (s : State) : State := s.setSaf { s.saf with smcDead := true }
theorem smcHeartbeat_stops {s : State} (h : smcRuns s = true) (hd : isSet s F.SAF_STAT_DVLAT = false) : Completes .smcHeartbeat s fun u =>
    u.saf.smcDead = true ∧ isSet u F.SAF_STAT_DVLAT = true ∧ rd u F.SAF_STAT_DVCODE = 0x0606 ∧ (s.dev.st ≠ .recovery → BrakesOff u) := by
  obtain ⟨data, runs⟩ : ∃ data, exec .smcHeartbeat s = done (deviceReact tableVar 0x0606 (logFault 0x0606 0 4 data (smcStopped s))) :=
    ⟨_, if_pos h⟩
  have st : (logFault 0x0606 0 4 data (smcStopped s)).dev.st = s.dev.st := congrArg Dev.st (logFault_dev _ _ _ _ _)
  have clear : isSet (logFault 0x0606 0 4 data (smcStopped s)) F.SAF_STAT_DVLAT = false := (isSet_logFault_below (by decide) _ _ _ _ _).trans hd
  have dead : (logFault 0x0606 0 4 data (smcStopped s)).saf.smcDead = true := congrArg Safety.smcDead (logFault_saf _ _ _ _ _)
  generalize logFault 0x0606 0 4 data (smcStopped s) = u at runs st clear dead
  have states := smcRuns_st h
  rw [← st] at states ⊢
  have stat {f : Fld} (hf : f.off = A.SAF_STAT) : rd (flushLog (deviceReact tableVar 0x0606 u)) f = rd (latched 0x0606 (bumpCounter 2 (noteDv u))) f :=
    (rd_flushLog_below (by rw [hf]; decide) _).trans (rd_of_reg (hf ▸ deviceReact_latches tableVar 0x0606 states))
  have noted : isSet (bumpCounter 2 (noteDv u)) F.SAF_STAT_DVLAT = false := (isSet_of_regs (s := u) rfl _).trans clear
  have code : rd (latched 0x0606 (bumpCounter 2 (noteDv u))) F.SAF_STAT_DVCODE = 0x0606 := latched_code noted (by decide)
  refine ⟨_, runs, ?_, (isSet_of_rd (stat (f := F.SAF_STAT_DVLAT) rfl)).trans (latched_dvlat _ _),
    (stat (f := F.SAF_STAT_DVCODE) rfl).trans code, fun hr n hn => ?_⟩
  · rw [flushLog_saf, deviceReact_saf, dead]
  · have off : (flushLog (deviceReact tableVar 0x0606 u)).reg (A.SAF_SB_STAT n) = (reactedOff 0x0606 u).reg (A.SAF_SB_STAT n) :=
      (flushLog_reg_below (sbStat_below hn) _).trans (deviceReact_off tableVar 0x0606 (by unfold A.SAF_SB_STAT; omega)
        (by unfold A.SAF_SB_STAT; omega) (states.resolve_right hr))
    obtain ⟨high, low⟩ := brakesOff_brakes (wr F.SAF_TEAMEN_EN 0 (wr F.SAF_TEAMEN_RB 0 (latched 0x0606 (bumpCounter 2 (noteDv u))))) n hn
    exact ⟨(rd_of_reg (f := F.SAF_SB_STAT_CMDH n) off).trans high, (rd_of_reg (f := F.SAF_SB_STAT_CMDL n) off).trans low⟩

/-- Settles O22: the checks by whether a path fails, a read-back by whether it agrees, the entry by its mark, the heartbeat by the class DV
reaction in the states in which the SMC runs. -/
theorem smcStartsAndWatches : Obligations.SmcStartsAndWatches := by
  refine ⟨fun s hst hl hs hd hp => smcStartChecks_passes ⟨hst, hl, hs, hp⟩ hd, fun low high k s hst hl hs hk hp hf => ?_,
    fun t s hm => enableReadback_agrees t hm, fun t s hm => enableReadback_disagrees t hm, fun a s hs ht hg hf => vartabStale_marks hs ht hg hf,
    fun s h hd => smcHeartbeat_stops h hd⟩
  obtain ⟨u, runs, clear, enable, latch⟩ := smcStartChecks_fails (path := ⟨low, high⟩) ⟨hst, hl, hs, hp⟩ hk hf
  exact ⟨u, runs, clear, latch, enable⟩

end Sys2Proof.Machine
end

section
/-! ## Safe-state requests of the SMC, and requests to clear (R208, R209, R212, R426) -/
namespace Sys2Proof.Machine
open Sys2Proof

/-! ### Faults and reactions of an axis under reactions that wait for the mark -/

/-- What a reaction on some axis keeps of an active axis: its activity, its fault flags, and that a reaction waits. -/
def FaultKept (a : Nat) (s t : State) : Prop := axActive s a = true → axActive t a = true ∧
  (∀ i < 32, isSet s (flagAt (A.SAF_AX_FLT a) i) = true → isSet t (flagAt (A.SAF_AX_FLT a) i) = true) ∧
  ((s.ax a).react.isSome = true → (t.ax a).react.isSome = true)
theorem FaultKept.trans {a : Nat} {s t u : State} (h : FaultKept a s t) (k : FaultKept a t u) : FaultKept a s u := fun active => by
  obtain ⟨active', flags, waits⟩ := h active
  obtain ⟨active'', flags', waits'⟩ := k active'
  exact ⟨active'', fun i hi set => flags' i hi (flags i hi set), fun some => waits' (waits some)⟩
theorem FaultKept.of_same {a : Nat} {s t : State} (hs : t.reg (A.LE_AX_STATE a) = s.reg (A.LE_AX_STATE a))
    (hf : t.reg (A.SAF_AX_FLT a) = s.reg (A.SAF_AX_FLT a)) (hr : (t.ax a).react = (s.ax a).react) : FaultKept a s t := fun active =>
  ⟨(axActive_of_state hs).trans active, fun i _ set => (isSet_of_rd (rd_of_reg (f := flagAt (A.SAF_AX_FLT a) i) hf)).trans set, fun some => hr ▸ some⟩
theorem faultKept_logFault {a : Nat} (ha : a < 32) (code src c data : Nat) (s : State) : FaultKept a s (logFault code src c data s) :=
  .of_same (logFault_reg_below (axState_below ha) _ _ _ _ _) (logFault_reg_below (axFault_below ha) _ _ _ _ _) (congrArg Axis.react (logFault_ax _ _ _ _ _ a))
theorem faultKept_flushLog {a : Nat} (ha : a < 32) (s : State) : FaultKept a s (flushLog s) :=
  .of_same (flushLog_reg_below (axState_below ha) _) (flushLog_reg_below (axFault_below ha) _) (congrArg Axis.react (flushLog_ax s a))

/-- A fault flag of an axis, AXF, and a reaction that waits for the mark. -/
def Requested (i a : Nat) (s : State) : Prop := axActive s a = true ∧ isSet s (flagAt (A.SAF_AX_FLT a) i) = true ∧ ReactionWaits a s
theorem Requested.kept {i a : Nat} (hi : i < 32) {s t : State} (h : Requested i a s) (k : FaultKept a s t) : Requested i a t := by
  obtain ⟨active, flag, axf, waits⟩ := h
  obtain ⟨active', flags, waits'⟩ := k active
  exact ⟨active', flags i hi flag, flags 0 (by decide) axf, waits' waits⟩

/-- The escalation watch of an axis sent to FREEWHEEL begun (R208). -/
def fwWatched (b : Nat) (s : State) : State := modAx b (fun x => { x with fwWatch := some 0 }) s
theorem fwWatched_kept {a : Nat} (l : List Nat) (s : State) : FaultKept a s (each fwWatched l s) := by
  have regs := each_regs fwWatched l s fun _ _ => rfl
  refine .of_same (reg_of_regs regs _) (reg_of_regs regs _) (each_keep (fun u : State => (u.ax a).react) fwWatched (fun b u => ?_) l s)
  rw [fwWatched, ax_modAx]
  split
  next e => rw [e]
  · rfl

section
variable {i : Nat} {bitf : Nat → Fld} (hi : i < 32) (hb : ∀ x, bitf x = flagAt (A.SAF_AX_FLT x) i)
include hb
theorem flagReact_axState (a b : Nat) (s : State) : (flagReact b bitf s).reg (A.LE_AX_STATE a) = s.reg (A.LE_AX_STATE a) := by
  have apart : A.LE_AX_STATE a ≠ A.SAF_AX_FLT b := by
    unfold A.LE_AX_STATE A.SAF_AX_FLT
    omega
  refine (reg_wr_other _ (F.SAF_AX_FLT_AXF b) _ _ apart).trans (reg_wr_other _ (bitf b) _ _ ?_)
  rw [hb]
  exact apart
include hi in
/-- A fault flagged sets AXF and its flag, and no flag falls. -/
theorem flagReact_flag {j : Nat} (hj : j < 32) (a : Nat) (s : State) : isSet (flagReact a bitf s) (flagAt (A.SAF_AX_FLT a) j) =
    if j = 0 ∨ j = i then true else isSet s (flagAt (A.SAF_AX_FLT a) j) := by
  unfold flagReact flagAx F.SAF_AX_FLT_AXF
  rw [hb, isSet_wr_flag (by decide) hj, isSet_wr_flag hi hj]
  by_cases h0 : j = 0
  · simp [h0]
  · by_cases h1 : j = i
    · simp [h1]
    · rw [if_neg (Ne.symm h0), if_neg (Ne.symm h1), if_neg (by simp [h0, h1])]
      rfl
/-- On an active axis a reaction for the mark flags the fault and waits, or one that ranks before it does. -/
theorem reactOne_active {a : Nat} {s : State} (h : axActive s a = true) (r : React) :
    (reactOne false a r bitf s).regs = (flagReact a bitf s).regs ∧ ((reactOne false a r bitf s).ax a).react.isSome = true := by
  have active : axActive (flagReact a bitf s) a = true := (axActive_of_state (flagReact_axState hb a a s)).trans h
  unfold reactOne
  dsimp only
  rw [if_pos active, if_neg Bool.false_ne_true]
  split
  next q waiting =>
    split
    · exact ⟨rfl, waiting ▸ rfl⟩
    · exact ⟨rfl, congrArg (fun x : Axis => x.react.isSome) (ax_modAx_same a _ _)⟩
  · exact ⟨rfl, congrArg (fun x : Axis => x.react.isSome) (ax_modAx_same a _ _)⟩
/-- A reaction on another axis reaches neither the state nor the faults of this one, nor its record. -/
theorem reactOne_apart {a b : Nat} (ha : a < 32) (hb' : b < 32) (hne : a ≠ b) (now : Bool) (r : React) (s : State) :
    FaultKept a s (reactOne now b r bitf s) := by
  have flagged {p : Nat} (hp : BesideAxis b p) : (flagReact b bitf s).reg p = s.reg p := by
    refine (reg_wr_other _ (F.SAF_AX_FLT_AXF b) _ _ hp.2.2).trans (reg_wr_other _ (bitf b) _ _ ?_)
    rw [hb]
    exact hp.2.2
  have record : (flagReact b bitf s).ax a = s.ax a := ax_modAx_other hne (fun x => { x with reacted := true }) s
  have reg {p : Nat} (hp : BesideAxis b p) : (reactOne now b r bitf s).reg p = s.reg p := by
    rw [← flagged hp]
    unfold reactOne
    dsimp only
    repeat' split
    all_goals simp only [enterSafe_reg_other hp, modAx_reg]
  have ax : (reactOne now b r bitf s).ax a = s.ax a := by
    rw [← record]
    unfold reactOne
    dsimp only
    repeat' split
    all_goals simp only [enterSafe_ax_other hne, ax_modAx_other hne]
  exact .of_same (reg (besideAxis_state ha hne)) (reg (besideAxis_fault ha hne hb')) (congrArg Axis.react ax)
include hi in
theorem reactOne_requests {a : Nat} {s : State} (h : axActive s a = true) (r : React) : Requested i a (reactOne false a r bitf s) := by
  obtain ⟨regs, waits⟩ := reactOne_active hb h r
  have flag {j : Nat} (hj : j < 32) (h : j = 0 ∨ j = i) : isSet (reactOne false a r bitf s) (flagAt (A.SAF_AX_FLT a) j) = true :=
    (isSet_of_regs regs _).trans ((flagReact_flag hi hb hj a s).trans (if_pos h))
  exact ⟨(axActive_of_state ((reg_of_regs regs _).trans (flagReact_axState hb a a s))).trans h, flag hi (.inr rfl), flag (by decide) (.inl rfl), waits⟩
include hi in
theorem reactOne_kept {a b : Nat} (ha : a < 32) (hb' : b < 32) (r : React) (s : State) : FaultKept a s (reactOne false b r bitf s) := by
  by_cases e : a = b
  · subst e
    intro active
    obtain ⟨regs, waits⟩ := reactOne_active hb active r
    refine ⟨(reactOne_requests hi hb active r).1, fun j hj set => ?_, fun _ => waits⟩
    rw [isSet_of_regs regs, flagReact_flag hi hb hj]
    split
    · rfl
    · exact set
  · exact reactOne_apart hb ha hb' e false r s
include hi in
/-- An axis with its exciter, with its stator or alone: a request on it keeps its faults. -/
theorem axisReact_kept {a : Nat} (ha : a < 32) (k : Nat) (v : Option Nat) (c : Nat) (s : State) : FaultKept a s (axisReact false a k v c bitf s) := by
  unfold axisReact
  dsimp only
  split
  next _ _ he => exact (reactOne_kept hi hb ha ha _ _).trans (reactOne_kept hi hb ha (exciterOf_lt he) _ _)
  next _ _ hst => exact (reactOne_kept hi hb ha (statorOf_lt ha hst) _ _).trans (reactOne_kept hi hb ha ha _ _)
  · exact reactOne_kept hi hb ha ha _ _
include hi in
/-- On an active axis it stands until the mark. -/
theorem axisReact_requests {a : Nat} (ha : a < 32) {s : State} (h : axActive s a = true) (k : Nat) (v : Option Nat) (c : Nat) :
    Requested i a (axisReact false a k v c bitf s) := by
  unfold axisReact
  dsimp only
  split
  next _ _ he => exact (reactOne_requests hi hb h _).kept hi (reactOne_kept hi hb ha (exciterOf_lt he) _ _)
  next _ _ hst => exact reactOne_requests hi hb (reactOne_kept hi hb ha (statorOf_lt ha hst) _ s h).1 _
  · exact reactOne_requests hi hb h _

/-! ### Requests of the SMC (R208, R212) -/

include hi in
theorem smcRequest_kept {a : Nat} (ha : a < 32) (s : State) : FaultKept a s (smcRequest false a bitf s) :=
  (axisReact_kept hi hb ha _ _ _ s).trans (fwWatched_kept _ _)
include hi in
theorem smcRequest_requests {a : Nat} (ha : a < 32) {s : State} (h : axActive s a = true) : Requested i a (smcRequest false a bitf s) :=
  (axisReact_requests hi hb ha h _ _ _).kept hi (fwWatched_kept _ _)
end

/-- The request of a torque that disagrees. -/
def torqueRequested (a : Nat) (bad : Bool) (d : F32) (s : State) : State :=
  if bad then logFault 0x0601 a 2 (trunc 32 (Flt.toSat d 10 1 32)) (smcRequest false a F.SAF_AX_FLT_TORQUE s) else s
/-- The request of an angle that disagrees. -/
def angleRequested (a : Nat) (bad : Bool) (d : Word) (s : State) : State :=
  if bad then logFault 0x0602 a 2 (trunc 32 (Flt.roundAway d.toInt 65536)) (smcRequest false a F.SAF_AX_FLT_ANGLE s) else s
theorem tmRequest_eq (a : Nat) (s : State) : tmRequest a s =
    angleRequested a (s.mon a).angleBad (s.mon a).dAngle (torqueRequested a (s.mon a).torqueBad (s.mon a).dTorque s) := rfl
section
variable {a : Nat} (ha : a < 32)
include ha
theorem torqueRequested_kept (bad : Bool) (d : F32) (s : State) : FaultKept a s (torqueRequested a bad d s) := by
  unfold torqueRequested
  split
  · exact (smcRequest_kept (i := 1) (by decide) (fun _ => rfl) ha s).trans (faultKept_logFault ha _ _ _ _ _)
  · exact .of_same rfl rfl rfl
theorem angleRequested_kept (bad : Bool) (d : Word) (s : State) : FaultKept a s (angleRequested a bad d s) := by
  unfold angleRequested
  split
  · exact (smcRequest_kept (i := 2) (by decide) (fun _ => rfl) ha s).trans (faultKept_logFault ha _ _ _ _ _)
  · exact .of_same rfl rfl rfl
theorem torqueRequested_requests {s : State} (h : axActive s a = true) (d : F32) : Requested 1 a (torqueRequested a true d s) :=
  (smcRequest_requests (i := 1) (by decide) (fun _ => rfl) ha h).kept (by decide) (faultKept_logFault ha _ _ _ _ _)
theorem angleRequested_requests {s : State} (h : axActive s a = true) (d : Word) : Requested 2 a (angleRequested a true d s) :=
  (smcRequest_requests (i := 2) (by decide) (fun _ => rfl) ha h).kept (by decide) (faultKept_logFault ha _ _ _ _ _)
/-- What disagrees is requested: the torque's request is kept by the angle's. -/
theorem tmRequest_requests {s : State} (h : axActive s a = true) :
    ((s.mon a).torqueBad = true → Requested 1 a (tmRequest a s)) ∧ ((s.mon a).angleBad = true → Requested 2 a (tmRequest a s)) := by
  rw [tmRequest_eq]
  refine ⟨fun bad => ?_, fun bad => ?_⟩
  · rw [bad]
    exact (torqueRequested_requests ha h _).kept (by decide) (angleRequested_kept ha _ _ _)
  · rw [bad]
    exact angleRequested_requests ha (torqueRequested_kept ha _ _ s h).1 _
end
theorem saf_of_drive {s t : State} (h : beyondDrive t = beyondDrive s) : t.saf = s.saf :=
  (congrArg State.saf h : (beyondDrive t).saf = (beyondDrive s).saf)
theorem axisReact_saf (now : Bool) (a k : Nat) (v : Option Nat) (c : Nat) (bitf : Nat → Fld) (s : State) : (axisReact now a k v c bitf s).saf = s.saf :=
  saf_of_drive (axisReact_beyond now a k v c bitf s)
theorem smcRequest_saf (now : Bool) (a : Nat) (bitf : Nat → Fld) (s : State) : (smcRequest now a bitf s).saf = s.saf := by
  unfold smcRequest
  exact (each_keep State.saf fwWatched (fun _ _ => rfl) _ _).trans (axisReact_saf now a _ _ _ bitf s)
theorem tmRequest_saf (a : Nat) (s : State) : (tmRequest a s).saf = s.saf := by
  have torque (bad : Bool) (d : F32) (u : State) : (torqueRequested a bad d u).saf = u.saf := by
    unfold torqueRequested
    split
    · rw [logFault_saf, smcRequest_saf]
    · rfl
  have angle (bad : Bool) (d : Word) (u : State) : (angleRequested a bad d u).saf = u.saf := by
    unfold angleRequested
    split
    · rw [logFault_saf, smcRequest_saf]
    · rfl
  rw [tmRequest_eq, angle, torque]

/-! ### TORQUE_DISCREPANCY (R212) -/

/-- The stride of an axis judged, before a request. -/
def strideJudged (a : Nat) (s : State) : State := modMon a (fun m => { m with judged := true }) (tmStride a s)
theorem strideJudged_mon (a : Nat) (s : State) : (strideJudged a s).mon a = { (tmStride a s).mon a with judged := true } :=
  (mon_modMon _ _ _ _).trans (if_pos rfl)
theorem tmDue_strideJudged (a : Nat) (s : State) : tmDue (strideJudged a s) a = tmDue (tmStride a s) a := by
  unfold tmDue
  rw [strideJudged_mon]
  rfl
theorem tmDue_active {a : Nat} {s : State} (h : tmDue s a = true) : axActive s a = true ∧ ((s.mon a).torqueBad = true ∨ (s.mon a).angleBad = true) := by
  unfold tmDue at h
  simp only [Bool.and_eq_true, Bool.or_eq_true] at h
  exact ⟨h.1.1.2, h.2⟩
theorem torqueDiscrepancy_requests {a : AxisNo} {s : State} (hr : smcRuns s = true) (hj : (s.mon a).judged = false) (hu : a.val ∈ axesUsed s)
    (hd : tmDue (tmStride a s) a = true) : Completes (.torqueDiscrepancy a) s fun t =>
      isSet t (F.SAF_AX_FLT_AXF a) = true ∧ (t.ax a).react.isSome = true ∧ (t.mon a).judged = true ∧
        (((tmStride a s).mon a).torqueBad = true → isSet t (F.SAF_AX_FLT_TORQUE a) = true) ∧
        (((tmStride a s).mon a).angleBad = true → isSet t (F.SAF_AX_FLT_ANGLE a) = true) := by
  have judges : tmJudge a s = tmRequest a (strideJudged a s) :=
    (if_neg (Bool.eq_false_iff.mp hj)).trans (if_pos ((tmDue_strideJudged a s).trans hd))
  have runs : exec (.torqueDiscrepancy a) s = done (tmRequest a (strideJudged a s)) :=
    (if_pos ⟨hr, Bool.eq_false_iff.mp hj, hu, hd⟩).trans (congrArg done judges)
  obtain ⟨active, bad⟩ := tmDue_active ((tmDue_strideJudged a s).trans hd)
  obtain ⟨torque, angle⟩ := tmRequest_requests a.isLt active
  have mon := strideJudged_mon a s
  rw [mon] at bad torque angle
  have torque' := fun h => (torque h).kept (by decide) (faultKept_flushLog a.isLt _)
  have angle' := fun h => (angle h).kept (by decide) (faultKept_flushLog a.isLt _)
  have waits : ReactionWaits a (flushLog (tmRequest a (strideJudged a s))) := bad.elim (fun h => (torque' h).2.2) (fun h => (angle' h).2.2)
  refine ⟨_, runs, waits.1, waits.2, ?_, fun h => (torque' h).2.1, fun h => (angle' h).2.1⟩
  have saf : (flushLog (tmRequest a (strideJudged a s))).saf = (strideJudged a s).saf := (flushLog_saf _).trans (tmRequest_saf a _)
  have kept : (flushLog (tmRequest a (strideJudged a s))).mon a = (strideJudged a s).mon a := by
    unfold State.mon
    rw [saf]
  rw [kept, mon]

/-! ### FREEWHEEL_ESCALATION (R208) -/

theorem freewheelEscalation_trips {n : LegNo} {a : Nat} {s : State} (hs : smcStrides s = true) (hl : legAxis s n = some a) (ha : a < 32)
    (hw : (s.ax a).fwWatch = some 2) : Completes (.freewheelEscalation n) s fun t => TeamTripped (a / 4) t := by
  have runs : exec (.freewheelEscalation n) s =
      done (tmFault 0x060F a (a / 4) (a / 4) (modAx a (fun x => { x with fwWatch := none }) s)) := by
    change execFreewheelEscalation n s = _
    unfold execFreewheelEscalation
    rw [if_neg (not_not_intro hs), hl]
    exact if_pos hw
  exact ⟨_, runs, (tmFault_trips (by omega) _ _ _ _).flushLog⟩

/-! ### Requests to clear (R209) -/

/-- A command that changes no register before the log is written moves FLT_WIDX at most. -/
theorem rd_flushLog_or {s t : State} (h : t.regs = s.regs) (f : Fld) : rd (flushLog t) f = rd s f ∨ f.off = A.FLT_WIDX := by
  by_cases hf : f.off = A.FLT_WIDX
  · exact .inr hf
  · exact .inl ((rd_flushLog hf t).trans (rd_of_regs h f))
theorem axisFaultClear_asks {a : AxisNo} {s : State} (hc : coresRun s = true) (hf : isSet s (F.SAF_AX_FLT_AXF a) = true) :
    Completes (.axisFaultClear a) s fun t => (t.ax a).clrReq = true ∧ ∀ f, rd t f = rd s f ∨ f.off = A.FLT_WIDX := by
  have runs : exec (.axisFaultClear a) s = done (modAx a (fun x => { x with clrReq := true }) s) :=
    (if_neg (not_not_intro hc)).trans (congrArg done (if_pos hf))
  refine ⟨_, runs, ?_, rd_flushLog_or rfl⟩
  rw [flushLog_ax, ax_modAx_same]

/-- The clearing of one team asked for, where it is latched. -/
def latchClearAsked (t : Nat) (s : State) : State :=
  if rdBit s F.SAF_TEAMFLT_TMLAT t then modTeam t (fun x => { x with clrReq := true }) s else s
theorem latchClearAsked_regs (t : Nat) (s : State) : (latchClearAsked t s).regs = s.regs := by
  unfold latchClearAsked
  split <;> rfl
theorem latchClearAsked_latched {t : Nat} {s : State} (h : rdBit s F.SAF_TEAMFLT_TMLAT t = true) : ((latchClearAsked t s).team t).clrReq = true := by
  unfold latchClearAsked
  rw [if_pos h, team_modTeam, if_pos rfl]
theorem latchClearAsked_other {k t : Nat} {s : State} (h : k ≠ t ∨ rdBit s F.SAF_TEAMFLT_TMLAT t = false) :
    (latchClearAsked t s).team k = s.team k := by
  unfold latchClearAsked
  split
  next latched => rw [team_modTeam, if_neg (h.resolve_right (by simp [latched]))]
  · rfl
theorem latchClearAsked_asked {k t : Nat} {s : State} (h : (s.team k).clrReq = true) : ((latchClearAsked t s).team k).clrReq = true := by
  by_cases e : k = t ∧ rdBit s F.SAF_TEAMFLT_TMLAT t = true
  · exact e.1 ▸ latchClearAsked_latched (e.1 ▸ e.2)
  · rwa [latchClearAsked_other (by simpa [or_iff_not_imp_left] using e)]
theorem teamLatchClear_eq {mask : Word} {s : State} (hc : coresRun s = true) :
    exec (.teamLatchClear mask) s = done (each latchClearAsked (bitsOf mask.toNat 8) s) := if_neg (not_not_intro hc)
/-- A team named and latched is asked for, whatever teams are named with it. -/
theorem latchClears_named {mask k : Nat} {s : State} (hl : rdBit s F.SAF_TEAMFLT_TMLAT k = true) (hm : k ∈ bitsOf mask 8) :
    ((each latchClearAsked (bitsOf mask 8) s).team k).clrReq = true :=
  each_of_mem (P := fun u => (u.team k).clrReq = true) (Q := fun u => rdBit u F.SAF_TEAMFLT_TMLAT k = true) (fun _ h => latchClearAsked_latched h)
    (fun _ _ _ h => latchClearAsked_asked h) (fun b _ u h => (rdBit_of_rd (rd_of_regs (latchClearAsked_regs b u) _) k).trans h) hm hl
/-- A team that is clear or not named is left. -/
theorem latchClears_left {mask k : Nat} {s : State} (h : ¬ (rdBit s F.SAF_TEAMFLT_TMLAT k = true ∧ k ∈ bitsOf mask 8)) :
    (each latchClearAsked (bitsOf mask 8) s).team k = s.team k := by
  refine (each_of_mem_ind (P := fun u => u.regs = s.regs ∧ u.team k = s.team k) _ (fun b hb u ⟨regs, left⟩ => ?_) ⟨rfl, rfl⟩).2
  refine ⟨(latchClearAsked_regs b u).trans regs, (latchClearAsked_other ?_).trans left⟩
  by_cases e : k = b
  · refine .inr (Bool.eq_false_iff.mpr fun latched => h ⟨?_, e ▸ hb⟩)
    rw [e]
    exact (rdBit_of_rd (rd_of_regs regs _) b).symm.trans latched
  · exact .inl e
theorem teamLatchClear_asks (mask : Word) {s : State} (hc : coresRun s = true) : Completes (.teamLatchClear mask) s fun t =>
    (∀ f, rd t f = rd s f ∨ f.off = A.FLT_WIDX) ∧
      ∀ k < 8, (rdBit s F.SAF_TEAMFLT_TMLAT k = true ∧ bit mask.toNat k = true → (t.team k).clrReq = true) ∧
        (¬ (rdBit s F.SAF_TEAMFLT_TMLAT k = true ∧ bit mask.toNat k = true) → t.team k = s.team k) := by
  refine ⟨_, teamLatchClear_eq hc, rd_flushLog_or (each_regs _ _ _ latchClearAsked_regs), fun k hk => ?_⟩
  have named : k ∈ bitsOf mask.toNat 8 ↔ bit mask.toNat k = true := mem_bitsOf.trans (and_iff_right hk)
  rw [team_of_drive (flushLog_drive _), ← named]
  exact ⟨fun ⟨latched, m⟩ => latchClears_named latched m, latchClears_left⟩

/-- Settles O23: a discrepancy by the requests of what disagrees, an escalation by its team tripped, the clearings by what they ask for. -/
theorem monitorsRequestSafeStates : Obligations.MonitorsRequestSafeStates :=
  ⟨fun _ _ hr hj hu hd => torqueDiscrepancy_requests hr hj hu hd, fun _ _ _ hs hl ha hw => freewheelEscalation_trips hs hl ha hw,
    fun _ _ hc hf => axisFaultClear_asks hc hf, fun mask _ hc => teamLatchClear_asks mask hc⟩

end Sys2Proof.Machine
end
